-- ==== Sys2Proof/Word.lean ====
section
/-!
DEFINITION. Word.lean: the byte of the supervisor link and the bit sets the link carries.
Engineering quantities are whole numbers in fixed units (00_scope.md, "Engineering units") and are held as Int or Nat.
-/
namespace Sys2Proof

/-- A byte of the supervisor link (R196). -/
abbrev Byte := BitVec 8

/-- A set of actuators, bit k for Ak (R209). -/
abbrev ActSet := BitVec 8

/-- A set of AE channels, bit k for Ek (R163, R209). -/
abbrev AeSet := BitVec 12

/-- A reading of the 32-bit hit clock, in microseconds (R147). -/
abbrev HitTime := BitVec 32

/-- A station address or station mask (R12, R14). -/
abbrev Address := BitVec 5

end Sys2Proof
end

