-- ==== Sys2Proof/Syntax.lean ====
section
/-!
DEFINITION. Syntax.lean: the commands of the station, one constructor per row of spec/opcode_table.json,
and the operands they carry.
-/
namespace Sys2Proof

/-- A command frame as it was received, less its marker, command code and CRC (R196, R211).
The command code is the constructor of `Instr` that carries the frame. -/
structure Frame where
  dst : Byte
  src : Byte
  tag : Byte
  payload : List Byte
deriving DecidableEq, Repr

/-- The six actuator conditions judged from the values of a control sample (section 3.7, R49, R57, R65 to R67). -/
inductive ActCond where
  | forceLimit | strokeLimit | following | stall | sensorRange | envelope
deriving DecidableEq, Repr

/-- A piece of the work by which a control sample raises and lowers conditions (R185): the next zone of its activity tick
(zones ascend, R168), the next of its marks (tracks ascend, R137), a condition of an actuator, or the completion of its
unload. -/
inductive SampleItem where
  | zone
  | mark
  | cond (k : ActCond) (a : Fin 8)
  | completion (a : Fin 8)
deriving DecidableEq, Repr

/-- What a control sample brings from outside: the load cell and stroke transducer of each actuator (R49),
and which of the raisings, lowerings and completions that come together at it are taken first (R85, R185). -/
structure Readings where
  force : Vector Int 8
  stroke : Vector Int 8
  first : List SampleItem
deriving DecidableEq, Repr

/-- The verdict of an answer whose poll carried an order (R107). -/
inductive Verdict where
  | accepted | rejected | resetDone
deriving DecidableEq, Repr

/-- A satellite's answer to a poll (R107); `late` says that the slot's next poll time came before it. -/
structure SatAnswer where
  set : Vector Int 16
  valid : Bool
  fresh : Bool
  verdict : Option Verdict
  late : Bool
deriving DecidableEq, Repr

/-- A threshold crossing handed over by a channel's front end (R148). -/
structure Crossing where
  time : HitTime
  amplitude : Nat
  energy : Nat
deriving DecidableEq, Repr

/-- The commands of the station: the rows of spec/opcode_table.json. -/
inductive Instr where
  /-- POWER (R12). Application of supply resets the station at once: address read from the straps, configuration to defaults, run state cleared, trip log and first-out emptied. -/
  | power (straps : Address)
  /-- LINE (R12). Assertion of the LINE reset input resets the station at once, as POWER does, with reset record {LINE}. -/
  | line (straps : Address)
  /-- DEFERRED_RESTART (R11). The reset of a pending RESTART takes place once every actuator is OFF or TRIPPED; configuration is kept or defaulted by keep-settings and the RESET notice is queued. -/
  | deferredRestart
  /-- HALT_LOOP_CHANGE (R9). A change of the HALT loop between closed and open raises or lowers the HALT_LOOP condition. -/
  | haltLoopChange (isOpen : Bool)
  /-- CONTACT_EDGE (R19). A contact input that has held a new state for 10 ms is taken as an edge, updating the slot value, AUX_LIMIT or the PENDANT hold reason. -/
  | contactEdge (slot : Fin 16) (closed : Bool)
  /-- AUXILIARY_ANALOG_SAMPLE (R17). An analog slot's converter reading is scaled into the slot value and AUX_LIMIT is judged against the limits. -/
  | auxiliaryAnalogSample (slot : Fin 16) (raw : Int)
  /-- CONTROL_SAMPLE (R48). At each control sample the sequencer forms track levels, the load-group unit forms shares, and every running servo runs the setpoint chain and PI loop and evaluates its conditions. -/
  | controlSample (r : Readings)
  /-- FOLLOWING_COUNT_REACHED (R66). The following counter reaching twice the following time raises FOLLOWING. -/
  | followingCountReached (a : Fin 8) (r : Readings)
  /-- STALL_COUNT_REACHED (R67). The stall counter reaching twice the stall time raises STALL. -/
  | stallCountReached (a : Fin 8) (r : Readings)
  /-- COUNTED_CYCLE (R36). A master-phase wrap in STEADY increments the segment and total counted cycles and hands the zone monitor an activity tick. -/
  | countedCycle (r : Readings)
  /-- STEADY_END (R36). The segment counted cycles reaching the segment's count end STEADY and begin TAPER_DOWN. -/
  | steadyEnd (r : Readings)
  /-- RAMP_END (R31). The ramp counter reaching N gives the end level and enters the next segment. -/
  | rampEnd (r : Readings)
  /-- DWELL_EXPIRY (R32). The dwell counter reaching N hands an optional DWELL_END trigger and enters the next segment. -/
  | dwellExpiry (r : Readings)
  /-- APPROACH_END (R33). Every track standing at the mean ends APPROACH and begins a fresh TAPER_UP. -/
  | approachEnd (r : Readings)
  /-- TAPER_UP_END (R35). The taper counter reaching K gives full amplitude and begins STEADY. -/
  | taperUpEnd (r : Readings)
  /-- TAPER_DOWN_END (R38). The taper-down counter reaching K brings the tracks to the mean and enters the next segment. -/
  | taperDownEnd (r : Readings)
  /-- PAUSING_END (R43). The pause counter reaching M brings the wave to its mean and makes the state HOLDING. -/
  | pausingEnd (r : Readings)
  /-- LOW_PRESSURE_TIMER_EXPIRY (R77). The STARTING pressure timer expires and the actuator goes to RAISING or LOW by its target and the test. -/
  | lowPressureTimerExpiry (a : Fin 8)
  /-- HIGH_PRESSURE_TIMER_EXPIRY (R78). The RAISING pressure timer expires and the actuator enters ACTIVE, joining its group's share. -/
  | highPressureTimerExpiry (a : Fin 8)
  /-- UNLOAD_COMPLETION (R82). The settle counter reaching twice the settle time completes the unload to LOW or OFF. -/
  | unloadCompletion (a : Fin 8) (r : Readings)
  /-- UNLOAD_TIMER_EXPIRY (R83). The unload timeout passing without completion raises UNLOAD_TIMEOUT while the unload goes on. -/
  | unloadTimerExpiry (a : Fin 8)
  /-- GAUGE_POLL (R107). At a slot's poll time the controller sends a poll, with at most one order, and updates the unanswered count. -/
  | gaugePoll (slot : Fin 4)
  /-- UNANSWERED_COUNT_REACHED (R111). The unanswered count reaching 3 in SETTLING or LIVE takes the slot to LOST and raises SAT_LOST. -/
  | unansweredCountReached (slot : Fin 4)
  /-- SATELLITE_ANSWER (R107). A satellite's answer to a poll brings a strain set, flags and any verdict, moving the slot state and feeding the strain processor. -/
  | satelliteAnswer (slot : Fin 4) (ans : SatAnswer)
  /-- SETTLE_TIMER_EXPIRY (R112). The settle timer expires and, with settle-seen set, the slot enters LIVE. -/
  | settleTimerExpiry (slot : Fin 4)
  /-- ZEROING_COMPLETION (R132). The sixteenth conversion of a zeroing channel sets the new zero, makes it LIVE and queues ZERO_DONE. -/
  | zeroingCompletion (ch : Fin 64) (ans : SatAnswer)
  /-- THRESHOLD_CROSSING (R148). A rising passage of an AE signal through the threshold begins or joins a hit, or is ignored in lockout. -/
  | thresholdCrossing (ch : Fin 12) (x : Crossing)
  /-- HDT_EXPIRY (R150). The HDT timer expiry ends the hit normally, completes its record and starts the lockout. -/
  | hdtExpiry (ch : Fin 12)
  /-- DURATION_EXPIRY (R151). The duration timer expiry ends a running hit with the LONG flag. -/
  | durationExpiry (ch : Fin 12)
  /-- LOCKOUT_EXPIRY (R151). The lockout timer expiry returns the channel to IDLE. -/
  | lockoutExpiry (ch : Fin 12)
  /-- WINDOW_TIMER_EXPIRY (R153). The open event's window timer expires and the builder works the head of the hit queue, closing the event if it is empty. -/
  | windowTimerExpiry
  /-- BIN_TIMER_EXPIRY (R167). The bin timer expires and gives a TIMER activity tick unless the sequencer is in STEADY, and restarts. -/
  | binTimerExpiry
  /-- FRAMING_FAILURE (R196). A frame with a bad CRC or a length above 240 is dropped without reply and the link error count increases. -/
  | framingFailure (bytes : List Byte)
  /-- BYTE_SPACING_TIMEOUT (R196). More than 2 ms between two bytes of a frame drops it and counts a framing failure. -/
  | byteSpacingTimeout (bytes : List Byte)
  /-- UNKNOWN_COMMAND_CODE (R200). An addressed frame whose command code is not in the catalogue is answered REFUSED_FORM. -/
  | unknownCommandCode (code : Byte) (f : Frame)
  /-- REPLY_SENT (R202). A reply has been sent whole and the next held reply begins to be sent. -/
  | replySent
  /-- STATUS (R13). Returns station address, mode, flags, settings, time, HALT loop state, notice counts and link error count. -/
  | status (f : Frame)
  /-- MODE (R4). Asks for SETUP or RUN, running the RUN-entry check or the checks for leaving RUN or SAFE. -/
  | mode (f : Frame)
  /-- STATION_SET (R14). Replaces the five station settings. -/
  | stationSet (f : Frame)
  /-- ASSIGN (R15). Gives an auxiliary slot its function in SETUP. -/
  | assign (f : Frame)
  /-- SLOT_SET (R16). Replaces a slot's scale, offset, limits and open-is-fault and re-judges AUX_LIMIT. -/
  | slotSet (f : Frame)
  /-- SLOT_READ (R20). Returns a slot's function, value, AUX_LIMIT state and record. -/
  | slotRead (f : Frame)
  /-- RESTART (R10). Resets the station at once when every actuator is at rest, or sets restart-pending and unloads them. -/
  | restart (f : Frame)
  /-- HALT (R204). Raises and lowers BROADCAST_HALT, so built-in entry P1 acts. -/
  | halt (f : Frame)
  /-- GO (R29). In WAITING_GO makes the sequencer RUNNING and enters the start segment. -/
  | go (f : Frame)
  /-- PLAN_WRITE (R23). Replaces one segment record of the plan table. -/
  | planWrite (f : Frame)
  /-- PLAN_READ (R24). Returns one segment record. -/
  | planRead (f : Frame)
  /-- PLAN_SET (R25). Replaces the taper time and approach rate. -/
  | planSet (f : Frame)
  /-- TRACK_SET (R21). Replaces one track record. -/
  | trackSet (f : Frame)
  /-- START (R29). Starts a plan after the window pre-check and state tests, zeroing counters and entering or awaiting the start segment. -/
  | start (f : Frame)
  /-- HOLD (R41). Adds the OPERATOR reason to the hold-reason set. -/
  | hold (f : Frame)
  /-- RESUME (R45). Removes OPERATOR, SEGMENT and, where allowed, PROTECTION and LOST from the hold-reason set. -/
  | resume (f : Frame)
  /-- ABORT (R46). Makes a running sequencer ABORTED with levels frozen. -/
  | abort (f : Frame)
  /-- SEQ_STATUS (R26). Returns the sequencer's state, position, counters, levels and loop counters. -/
  | seqStatus (f : Frame)
  /-- WINDOW_SET (R56). Replaces one window record in SETUP. -/
  | windowSet (f : Frame)
  /-- ACT_CONFIG (R70). Replaces the configuration fields of one actuator. -/
  | actConfig (f : Frame)
  /-- ACT_GAINS (R60). Replaces Kp, Ki, Imax and rate limit of one control quantity of an actuator. -/
  | actGains (f : Frame)
  /-- ACT_MODE (R76). Asks an actuator for LOW, ACTIVE or OFF, starting, raising, unloading or stopping it. -/
  | actMode (f : Frame)
  /-- ACT_CONTROL (R73). Sets the configured control quantity of an actuator in no group, switching bumplessly in ACTIVE. -/
  | actControl (f : Frame)
  /-- ACT_SOURCE (R71). Sets an actuator's source, SEQUENCER or MANUAL. -/
  | actSource (f : Frame)
  /-- ACT_MANUAL (R72). Sets one of the actuator's manual setpoints. -/
  | actManual (f : Frame)
  /-- ACT_STATUS (R90). Returns an actuator's chain registers, conditions, state, timers and settings. -/
  | actStatus (f : Frame)
  /-- GROUP_SET (R92). Replaces one load group record in SETUP. -/
  | groupSet (f : Frame)
  /-- GROUP_STATUS (R105). Returns a group's record, members, shares, shortfall, handover record and LRU order. -/
  | groupStatus (f : Frame)
  /-- SAT_PRESENT (R109). Sets one satellite slot's presence and settle interval in SETUP. -/
  | satPresent (f : Frame)
  /-- SAT_WRITE (R115). Appends a posted configuration entry to a slot's posted queue. -/
  | satWrite (f : Frame)
  /-- SAT_READ (R118). Returns a slot's configuration image and queue counts. -/
  | satRead (f : Frame)
  /-- SAT_RESET (R119). Sets a slot draining so that its posted entries and then a reset order are sent. -/
  | satReset (f : Frame)
  /-- SAT_STATUS (R125). Returns a slot's presence, state, counts, settle, drain, order in flight and SAT_LOST. -/
  | satStatus (f : Frame)
  /-- CH_CONFIG (R127). Replaces one strain channel record. -/
  | chConfig (f : Frame)
  /-- CH_ZERO (R131). Starts a zeroing of one channel or of every enabled channel of a slot. -/
  | chZero (f : Frame)
  /-- CH_READ (R134). Returns status, value, flags and last raw reading of a range of channels. -/
  | chRead (f : Frame)
  /-- SNAP_LIST (R136). Replaces the snapshot list. -/
  | snapList (f : Frame)
  /-- SNAP_NOW (R139). Takes one MANUAL snapshot of a track into the snapshot queue. -/
  | snapNow (f : Frame)
  /-- SNAP_FETCH (R140). Removes and returns the oldest snapshot record with the skipped count. -/
  | snapFetch (f : Frame)
  /-- STIFF_REF (R143). Returns stiffness records and optionally clears them. -/
  | stiffRef (f : Frame)
  /-- AE_CHANNEL (R145). The channel form replaces one AE channel record. -/
  | aeChannel (f : Frame)
  /-- AE_CHANNEL_WINDOW (R146). The window form sets the event builder's event window. -/
  | aeChannelWindow (f : Frame)
  /-- AE_FETCH (R160). Removes and returns up to eight event records with the overwritten flag and unit status. -/
  | aeFetch (f : Frame)
  /-- ZONE_SET (R163). Replaces one zone definition in SETUP and resets the zone's run state. -/
  | zoneSet (f : Frame)
  /-- ZONE_STATUS (R175). Returns a zone's definition, levels, conditions, sums, bins and tick data. -/
  | zoneStatus (f : Frame)
  /-- ZONE_ACK (R173). Acknowledges a zone, optionally emptying its window, and sets its latched level to QUIET. -/
  | zoneAck (f : Frame)
  /-- PROT_ENTRY (R178). Replaces one protection entry in SETUP and judges it against the standing conditions. -/
  | protEntry (f : Frame)
  /-- PROT_LIST (R194). Returns a range of entries with states and reaches, and the per-actuator summaries. -/
  | protList (f : Frame)
  /-- PROT_CLEAR (R184). Takes one or all LATCHED entries to QUIET. -/
  | protClear (f : Frame)
  /-- PROT_FIRST_CLEAR (R193). Returns and empties the first-out record. -/
  | protFirstClear (f : Frame)
  /-- TRIP_LOG (R210). Returns one page of the trip log and, on page 1, the first-out record. -/
  | tripLog (f : Frame)
  /-- FETCH (R207). Removes and returns the oldest notice with the count left. -/
  | fetch (f : Frame)
deriving DecidableEq, Repr

end Sys2Proof
end

