-- ==== Sys2Proof/Decode.lean ====
section
/-!
DEFINITION. Decode.lean: the table's words, of which there are none, and the frames that spell the supervisor's commands
(R196, R209, R211), with an encoder.
-/
namespace Sys2Proof

/-- The command a table word spells. No row of spec/opcode_table.json has bits, so no word spells one (log entry 1). -/
def decodeTableWord (_nbits _w : Nat) : Option Instr := none

/-- The command a whole frame spells, by its command code (R209). Code 50h is AE_CHANNEL's window form when its first
payload byte is FFh; a code outside the catalogue is UNKNOWN_COMMAND_CODE (R200). -/
def decodeCommand (code : Byte) (f : Frame) : Instr :=
  match code.toNat with
  | 0x01 => .status f
  | 0x02 => .mode f
  | 0x03 => .stationSet f
  | 0x04 => .assign f
  | 0x05 => .slotSet f
  | 0x06 => .slotRead f
  | 0x07 => .restart f
  | 0x08 => .halt f
  | 0x09 => .go f
  | 0x10 => .planWrite f
  | 0x11 => .planRead f
  | 0x12 => .planSet f
  | 0x13 => .trackSet f
  | 0x14 => .start f
  | 0x15 => .hold f
  | 0x16 => .resume f
  | 0x17 => .abort f
  | 0x18 => .seqStatus f
  | 0x20 => .windowSet f
  | 0x21 => .actConfig f
  | 0x22 => .actGains f
  | 0x23 => .actMode f
  | 0x24 => .actControl f
  | 0x25 => .actSource f
  | 0x26 => .actManual f
  | 0x27 => .actStatus f
  | 0x30 => .groupSet f
  | 0x31 => .groupStatus f
  | 0x38 => .satPresent f
  | 0x39 => .satWrite f
  | 0x3A => .satRead f
  | 0x3B => .satReset f
  | 0x3C => .satStatus f
  | 0x40 => .chConfig f
  | 0x41 => .chZero f
  | 0x42 => .chRead f
  | 0x43 => .snapList f
  | 0x44 => .snapNow f
  | 0x45 => .snapFetch f
  | 0x46 => .stiffRef f
  | 0x50 => if f.payload.head? = some 0xFF#8 then .aeChannelWindow f else .aeChannel f
  | 0x51 => .aeFetch f
  | 0x52 => .zoneSet f
  | 0x53 => .zoneStatus f
  | 0x54 => .zoneAck f
  | 0x60 => .protEntry f
  | 0x61 => .protList f
  | 0x62 => .protClear f
  | 0x63 => .protFirstClear f
  | 0x64 => .tripLog f
  | 0x70 => .fetch f
  | _ => .unknownCommandCode code f

/-- The command code and frame of a command that arrives as a frame; none for an event (R209). -/
def frameOf : Instr → Option (Byte × Frame)
  | .unknownCommandCode code f => some (code, f)
  | .status f => some (0x01#8, f)
  | .mode f => some (0x02#8, f)
  | .stationSet f => some (0x03#8, f)
  | .assign f => some (0x04#8, f)
  | .slotSet f => some (0x05#8, f)
  | .slotRead f => some (0x06#8, f)
  | .restart f => some (0x07#8, f)
  | .halt f => some (0x08#8, f)
  | .go f => some (0x09#8, f)
  | .planWrite f => some (0x10#8, f)
  | .planRead f => some (0x11#8, f)
  | .planSet f => some (0x12#8, f)
  | .trackSet f => some (0x13#8, f)
  | .start f => some (0x14#8, f)
  | .hold f => some (0x15#8, f)
  | .resume f => some (0x16#8, f)
  | .abort f => some (0x17#8, f)
  | .seqStatus f => some (0x18#8, f)
  | .windowSet f => some (0x20#8, f)
  | .actConfig f => some (0x21#8, f)
  | .actGains f => some (0x22#8, f)
  | .actMode f => some (0x23#8, f)
  | .actControl f => some (0x24#8, f)
  | .actSource f => some (0x25#8, f)
  | .actManual f => some (0x26#8, f)
  | .actStatus f => some (0x27#8, f)
  | .groupSet f => some (0x30#8, f)
  | .groupStatus f => some (0x31#8, f)
  | .satPresent f => some (0x38#8, f)
  | .satWrite f => some (0x39#8, f)
  | .satRead f => some (0x3A#8, f)
  | .satReset f => some (0x3B#8, f)
  | .satStatus f => some (0x3C#8, f)
  | .chConfig f => some (0x40#8, f)
  | .chZero f => some (0x41#8, f)
  | .chRead f => some (0x42#8, f)
  | .snapList f => some (0x43#8, f)
  | .snapNow f => some (0x44#8, f)
  | .snapFetch f => some (0x45#8, f)
  | .stiffRef f => some (0x46#8, f)
  | .aeChannel f => some (0x50#8, f)
  | .aeChannelWindow f => some (0x50#8, f)
  | .aeFetch f => some (0x51#8, f)
  | .zoneSet f => some (0x52#8, f)
  | .zoneStatus f => some (0x53#8, f)
  | .zoneAck f => some (0x54#8, f)
  | .protEntry f => some (0x60#8, f)
  | .protList f => some (0x61#8, f)
  | .protClear f => some (0x62#8, f)
  | .protFirstClear f => some (0x63#8, f)
  | .tripLog f => some (0x64#8, f)
  | .fetch f => some (0x70#8, f)
  | .power ..
  | .line ..
  | .deferredRestart
  | .haltLoopChange ..
  | .contactEdge ..
  | .auxiliaryAnalogSample ..
  | .controlSample ..
  | .followingCountReached ..
  | .stallCountReached ..
  | .countedCycle ..
  | .steadyEnd ..
  | .rampEnd ..
  | .dwellExpiry ..
  | .approachEnd ..
  | .taperUpEnd ..
  | .taperDownEnd ..
  | .pausingEnd ..
  | .lowPressureTimerExpiry ..
  | .highPressureTimerExpiry ..
  | .unloadCompletion ..
  | .unloadTimerExpiry ..
  | .gaugePoll ..
  | .unansweredCountReached ..
  | .satelliteAnswer ..
  | .settleTimerExpiry ..
  | .zeroingCompletion ..
  | .thresholdCrossing ..
  | .hdtExpiry ..
  | .durationExpiry ..
  | .lockoutExpiry ..
  | .windowTimerExpiry
  | .binTimerExpiry
  | .framingFailure ..
  | .byteSpacingTimeout ..
  | .replySent => none

/-- The CRC of the link over one more byte: polynomial 1021h, no reflection (R196). -/
def crcByte (crc : BitVec 16) (b : Byte) : BitVec 16 :=
  (List.range 8).foldl (fun c _ => if c.msb then (c <<< 1) ^^^ 0x1021#16 else c <<< 1) (crc ^^^ (b.setWidth 16 <<< 8))

/-- The CRC of a list of bytes, from FFFFh (R196). -/
def crc16 (l : List Byte) : BitVec 16 := l.foldl crcByte 0xFFFF#16

/-- How a frame ends: it fails by its length, it fails by its CRC, or it is whole and sound (R196). -/
inductive FrameEnd where
  | badLength
  | badCrc
  | whole (code : Byte) (f : Frame)
deriving DecidableEq, Repr

/-- Frames that fail framing (R196). -/
def FrameEnd.failed : FrameEnd → Bool
  | .badLength | .badCrc => true
  | .whole .. => false

/-- How the frame of the bytes after a marker ends: five bytes, the payload of the length they give, and the CRC over
everything from destination to the last payload byte, high byte first; none while it is not whole (R196, R211). A length
above 240 fails when it arrives. -/
def readFrame (l : List Byte) : Option FrameEnd :=
  match l with
  | dst :: src :: code :: tag :: length :: rest =>
    if 240 < length.toNat then some .badLength
    else if rest.length < length.toNat + 2 then none
    else
      let payload := rest.take length.toNat
      if rest.getD length.toNat 0 ++ rest.getD (length.toNat + 1) 0 = crc16 (dst :: src :: code :: tag :: length :: payload)
      then some (.whole code { dst := dst, src := src, tag := tag, payload := payload })
      else some .badCrc
  | _ => none

/-- The receiver takes one byte: what it holds then, and how the frame ends where it does (R196). Hunting, it holds nothing,
or a C5h that may begin a marker; a byte that begins none is discarded. From a marker on it holds the frame's bytes, and
after the frame's end it hunts from the next byte. -/
def takeByte (held : List Byte) (b : Byte) : List Byte × Option FrameEnd :=
  match held with
  | [] => (if b = 0xC5#8 then [b] else [], none)
  | [c] => (if b = 0x3A#8 then [c, b] else if b = 0xC5#8 then [b] else [], none)
  | _ :: _ :: body =>
    match readFrame (body ++ [b]) with
    | none => (held ++ [b], none)
    | some x => ([], some x)

/-- The receiver takes bytes one by one: what it holds after the last, and the ends of frames among them (R196). -/
def takeBytes (held : List Byte) : List Byte → List Byte × List FrameEnd
  | [] => (held, [])
  | b :: l =>
    let x := takeByte held b
    let y := takeBytes x.1 l
    (y.1, x.2.toList ++ y.2)

/-- The bytes of a frame from destination to the last payload byte (R211). -/
def frameBody (code : Byte) (f : Frame) : List Byte :=
  f.dst :: f.src :: code :: f.tag :: BitVec.ofNat 8 f.payload.length :: f.payload

/-- A frame on the line: marker, body, CRC high byte first (R196, R211). -/
def encodeFrame (code : Byte) (f : Frame) : List Byte :=
  0xC5#8 :: 0x3A#8 :: (frameBody code f ++
    [(crc16 (frameBody code f)).extractLsb' 8 8, (crc16 (frameBody code f)).extractLsb' 0 8])

/-- The command that bytes spell to a receiver that hunts, where they make one sound frame (R196, R200). -/
def decodeFrame (l : List Byte) : Option Instr :=
  match (takeBytes [] l).2 with
  | [.whole code f] => some (decodeCommand code f)
  | _ => none

/-- The bytes of a command on the line; none for an event, which does not arrive as a frame. -/
def encodeCommand (i : Instr) : Option (List Byte) := (frameOf i).map fun x => encodeFrame x.1 x.2

end Sys2Proof
end

