-- ==== Sys2Proof/Config.lean ====
section
/-!
DEFINITION. Config.lean: the constants the manual fixes for every VG-840, and the one free value, on which two of its rules
differ.
-/
namespace Sys2Proof.Config

/-- One cycle of the master phase, C (R34). -/
def cycle : Nat := 20000000
/-- Microseconds between control samples, 2000 per second (00_scope.md, time bases). -/
def samplePeriod : Nat := 500
/-- Microseconds between polls of a slot (R107). -/
def pollPeriod : Nat := 2000
/-- Capacity of the notice queue (R205). -/
def noticeCap : Nat := 32
/-- Replies held at a time (R202). -/
def replyCap : Nat := 4
/-- Capacity of a posted queue (R115). -/
def postedCap : Nat := 8
/-- Capacity of the snapshot queue (R140). -/
def snapCap : Nat := 24
/-- Capacity of the snapshot list (R136). -/
def snapListCap : Nat := 32
/-- Capacity of the hit queue (R152). -/
def hitCap : Nat := 64
/-- Capacity of the event log (R159). -/
def eventCap : Nat := 32
/-- Capacity of the trip log (R192). -/
def tripCap : Nat := 8
/-- The longest payload of a frame (R196, R211). -/
def maxPayload : Nat := 240
/-- Full valve drive (R59). -/
def fullDrive : Int := 10000
/-- The detail FFFFh of a reply (R200). -/
def noDetail : Nat := 65535

/-- Free value: whether a bin timer that restarts without a tick takes the bin time standing then, as R14 has it ("from the
next restart"), or keeps its period, as R167 has it ("first used at the next tick") (log entry 27). -/
opaque newBinTimeWithoutTick : Bool

end Sys2Proof.Config
end

