-- ==== Sys2Proof/Machine/State.lean ====
section
/-!
DEFINITION. Machine/State.lean: every piece of state the manual gives the station, as plain data, and the state after
reset. One structure per block of 00_scope.md ("Blocks"). Engineering quantities are Int, counts and times Nat.
-/
namespace Sys2Proof.Machine

/-! ### Enumerations (codes: the positions listed in R212) -/

/-- Station mode (R3). -/
inductive StationMode where
  | setup | run | safe
deriving DecidableEq, Repr

/-- Actuator state (R74). -/
inductive ActState where
  | off | starting | low | raising | active | unloading | tripped
deriving DecidableEq, Repr

/-- Cause of an ACT_STATE notice (R74). -/
inductive ActCause where
  | command | timer | unloadDone | protection | frame | restart
deriving DecidableEq, Repr

/-- Control quantity, track quantity and window quantity (R21, R48, R56). -/
inductive Quantity where
  | force | stroke
deriving DecidableEq, Repr

/-- Source of an actuator (R71). -/
inductive Source where
  | sequencer | manual
deriving DecidableEq, Repr

/-- Sequencer state (section 2.3). -/
inductive SeqState where
  | idle | waitingGo | running | pausing | holding | done | aborted
deriving DecidableEq, Repr

/-- Sequencer activity (section 2.3). -/
inductive Activity where
  | none | ramp | dwell | approach | taperUp | steady | taperDown
deriving DecidableEq, Repr

/-- Wave shape of a CYCLE segment (R34). -/
inductive Shape where
  | sine | triangle
deriving DecidableEq, Repr

/-- Satellite slot state (R110). -/
inductive SatState where
  | absent | seeking | settling | live | lost
deriving DecidableEq, Repr

/-- Cause of a SAT_STATE notice (R110). -/
inductive SatCause where
  | present | removed | answer | settled | noAnswer | config | invalid | resetDone | fresh
deriving DecidableEq, Repr

/-- Origin of a configuration entry (section 6.5). -/
inductive Origin where
  | posted | restore
deriving DecidableEq, Repr

/-- Bridge type of a strain channel (R127). -/
inductive Bridge where
  | quarter | half | full
deriving DecidableEq, Repr

/-- Function of an auxiliary slot (R15). -/
inductive SlotFn where
  | none | deflection | crackGauge | temperature | supplyPressure | digitalIn | pendantHold | pendantResume | dumpOut
  | beaconOut
deriving DecidableEq, Repr

/-- Kind of a snapshot record (R137). -/
inductive SnapKind where
  | peak | valley | dwellEnd | manual
deriving DecidableEq, Repr

/-- Role of an AE channel (R145). -/
inductive AeRole where
  | sensor | guard | off
deriving DecidableEq, Repr

/-- State of an AE channel (R148). -/
inductive AeState where
  | idle | inHit | lockout
deriving DecidableEq, Repr

/-- Disposition of a closed event (R157). -/
inductive Disposition where
  | counted | gated | guarded | unzoned
deriving DecidableEq, Repr

/-- Zone level, in ascending order (R162). -/
inductive Level where
  | quiet | watch | alert | alarm
deriving DecidableEq, Repr

/-- Cause of a ZONE_LEVEL notice (R171). -/
inductive ZoneCause where
  | event | tick | ack | clear | set
deriving DecidableEq, Repr

/-- Kind of the last activity tick (R168). -/
inductive TickKind where
  | none | cycle | timer
deriving DecidableEq, Repr

/-- Condition kind (R177). -/
inductive CondKind where
  | forceLimit | strokeLimit | following | stall | sensorRange | envelope | unloadTimeout | strainLimit | stiffness
  | satLost | zoneAlert | zoneAlarm | auxLimit | haltLoop | broadcastHalt
deriving DecidableEq, Repr

/-- A condition instance of the station (R177). -/
inductive Cond where
  | act (k : ActCond) (a : Fin 8)
  | unloadTimeout (a : Fin 8)
  | strainLimit (c : Fin 64)
  | stiffness (t : Fin 8)
  | satLost (s : Fin 4)
  | zoneAlert (z : Fin 16)
  | zoneAlarm (z : Fin 16)
  | auxLimit (x : Fin 16)
  | haltLoop
  | broadcastHalt
deriving DecidableEq, Repr

/-- Action of a protection entry (R178). -/
inductive Action where
  | note | derate | hold | unload | trip
deriving DecidableEq, Repr

/-- Scope of a protection entry (R178). -/
inductive Scope where
  | actuator | frame | group | zone | station
deriving DecidableEq, Repr

/-- State of a protection entry (R180). -/
inductive EntryState where
  | quiet | active | latched
deriving DecidableEq, Repr

/-- Tie policy of a load group (R92). -/
inductive Tie where
  | lru | first
deriving DecidableEq, Repr

/-- Frame manifold output (R88). -/
inductive Manifold where
  | closed | low | high | dump
deriving DecidableEq, Repr

/-- Notice kind (R212). -/
inductive NoticeKind where
  | none | reset | actState | seqState | handover | handoverNone | satState | satReject | zeroDone | zeroFailed
  | zoneLevel | entry | trip
deriving DecidableEq, Repr

/-! ### Station control and the supervisor link -/

/-- The reset record (R11, R12). -/
structure ResetRecord where
  power : Bool := false
  line : Bool := false
  restart : Bool := false
  keep : Bool := false
deriving DecidableEq, Repr

/-- The station settings with their defaults (R14). -/
structure Settings where
  mask : Address := 0
  acceptGroupRestart : Bool := false
  keepSettings : Bool := false
  attentionEnable : Bool := true
  binTime : Nat := 60
deriving DecidableEq, Repr

/-- Station control (STC) with the HALT loop input's level. -/
structure StationControl where
  mode : StationMode := .setup
  resetRecord : ResetRecord := { power := true }
  restartPending : Bool := false
  settings : Settings := {}
  address : Address := 1
  haltOpen : Bool := false
deriving DecidableEq, Repr

/-- A notice record (R205). The four values and the subject index are held as they were formed; the layout of R212
writes each in two bytes. -/
structure Notice where
  kind : NoticeKind
  time : Nat
  cycles : Nat
  subject : Nat
  v1 : Int := 0
  v2 : Int := 0
  v3 : Int := 0
  v4 : Int := 0
deriving DecidableEq, Repr

/-- A reply held for sending: the command code and tag it answers, and its payload from the reply head on (R202). -/
structure Reply where
  code : Byte
  tag : Byte
  payload : List Byte
deriving DecidableEq, Repr

/-- Supervisor link interface (SLI). -/
structure Link where
  notices : List Notice := []
  noticesLost : Bool := false
  linkErrors : Nat := 0
  replies : List Reply := []
  sendDue : Nat := 0
  /-- The receiver: the bytes of the frame being received, from its marker on; a lone C5h may begin one, and with nothing
  held it hunts (R196). -/
  rx : List Byte := []
deriving DecidableEq, Repr

/-! ### Auxiliary slots -/

/-- An auxiliary slot (R15 to R20). `closed` is the level of its contact terminal. -/
structure Slot where
  fn : SlotFn := .none
  scale : Int := 1000
  offset : Int := 0
  low : Int := -2000000
  high : Int := 2000000
  openFault : Bool := false
  value : Int := 0
  closed : Bool := false
deriving DecidableEq, Repr

/-! ### Plan sequencer -/

/-- A segment record of the plan table (R23). -/
inductive Segment where
  | ramp (hold : Bool) (endLevel : Int) (duration : Nat)
  | dwell (hold : Bool) (duration : Nat) (snapAtEnd : Bool)
  | cycle (hold : Bool) (mean : Int) (amplitude : Nat) (freq : Nat) (shape : Shape) (count : Nat) (interval : Nat)
  | loop (target : Fin 48) (times : Nat)
  | finish
deriving DecidableEq, Repr

/-- A track record (R21). -/
structure Track where
  quantity : Quantity := .force
  reference : Int := 0
  offset : Nat := 0
  deflection : Option (Fin 16) := none
  threshold : Nat := 800
deriving DecidableEq, Repr

/-- The hold-reason set (R41). -/
structure HoldSet where
  operator : Bool := false
  pendant : Bool := false
  protection : Bool := false
  segment : Bool := false
  lost : Bool := false
deriving DecidableEq, Repr

/-- The plan sequencer (PSQ): plan table, plan settings and tracks (configuration), then its run state. -/
structure Sequencer where
  plan : Vector Segment 48 := Vector.replicate 48 .finish
  taperMs : Nat := 2000
  approachRate : Nat := 500
  tracks : Vector Track 8 := Vector.replicate 8 {}
  state : SeqState := .idle
  activity : Activity := .none
  segment : Fin 48 := 0
  /-- n, k or j of the activity, and its end value (R26). -/
  ctr : Nat := 0
  ctrEnd : Nat := 0
  segCycles : Nat := 0
  /-- The segment's count as it stood at the latest entry to DONE or ABORTED (R26). -/
  heldCount : Nat := 0
  totalCycles : Nat := 0
  phase : Nat := 0
  amp : Nat := 0
  pauseAmp : Nat := 0
  hold : HoldSet := {}
  levels : Vector Int 8 := Vector.replicate 8 0
  l0 : Vector Int 8 := Vector.replicate 8 0
  loops : Vector Nat 48 := Vector.replicate 48 0
  /-- Pending-peak memories (R37). -/
  peaks : Vector (Option Nat) 8 := Vector.replicate 8 none
deriving DecidableEq, Repr

/-! ### Servo channels -/

/-- The actuator record of R70. -/
structure ActConfig where
  enabled : Bool := false
  frame : Fin 4 := 0
  capacity : Int := 1000
  forceHigh : Int := 32767
  forceLow : Int := -32768
  forceHyst : Int := 100
  strokeHigh : Int := 32767
  strokeLow : Int := -32768
  strokeHyst : Int := 50
  followLimit : Int := 1000
  followMs : Nat := 500
  stallMs : Nat := 1000
  unloadTarget : Int := 0
  unloadRate : Int := 2000
  unloadTol : Int := 50
  unloadSettleMs : Nat := 500
  unloadTimeoutS : Nat := 60
  lowMs : Nat := 2000
  highMs : Nat := 3000
  quantity : Quantity := .force
deriving DecidableEq, Repr

/-- Gains of one control quantity (R60). -/
structure Gains where
  kp : Int := 256
  ki : Int := 0
  imax : Int := 2000
  rate : Int := 20
deriving DecidableEq, Repr

/-- The chain registers of R69, in its order. -/
structure Regs where
  l : Int := 0
  b : Int := 0
  s : Int := 0
  d : Int := 0
  h : Int := 0
  e : Int := 0
  c : Int := 0
  err : Int := 0
  p : Int := 0
  ut : Int := 0
  u : Int := 0
  a : Int := 0
deriving DecidableEq, Repr

/-- The unload parameters, ramp, settle counter and unload timer of UNLOADING (R74, R80 to R83). -/
structure Unload where
  target : Int := 0
  rate : Int := 0
  tol : Int := 0
  settleMs : Nat := 0
  timeoutS : Nat := 0
  c0 : Int := 0
  n : Nat := 0
  ramp : Int := 0
  settle : Nat := 0
  start : Nat := 0
  timerOn : Bool := false
deriving DecidableEq, Repr

/-- One actuator's servo channel. -/
structure Actuator where
  cfg : ActConfig := {}
  source : Source := .sequencer
  manualForce : Int := 0
  manualStroke : Int := 0
  gainsForce : Gains := {}
  gainsStroke : Gains := {}
  state : ActState := .off
  /-- Target state while STARTING: ACTIVE when true, else LOW (R74). -/
  toActive : Bool := false
  /-- Destination while UNLOADING: OFF when true, else LOW (R74). -/
  destOff : Bool := false
  timerStart : Nat := 0
  timerMs : Nat := 0
  unload : Unload := {}
  regs : Regs := {}
  strokeHold : Int := 0
  derate : Int := 1000
  present : Quantity := .force
  follow : Nat := 0
  stall : Nat := 0
  force : Int := 0
  stroke : Int := 0
  forceSat : Bool := false
  strokeSat : Bool := false
  clampWindow : Option (Fin 6) := none
deriving DecidableEq, Repr

/-- A window record (R56). -/
structure Window where
  enabled : Bool := false
  quantity : Quantity := .force
  lower : Int := 0
  upper : Int := 0
  acts : ActSet := 0
deriving DecidableEq, Repr

/-- The actuators in their default frames: actuator k in frame trunc(k / 2) (R70). -/
def defaultActs : Vector Actuator 8 :=
  Vector.ofFn fun k => { cfg := { frame := ⟨k.val / 2, by omega⟩ } }

/-- Servo channels (SVC). -/
structure Servo where
  acts : Vector Actuator 8 := defaultActs
  windows : Vector Window 6 := Vector.replicate 6 {}
deriving DecidableEq, Repr

/-! ### Load groups -/

/-- The handover reason set (R98). -/
structure HandReasons where
  derate : Bool := false
  recipientOut : Bool := false
  recipientDerated : Bool := false
  join : Bool := false
deriving DecidableEq, Repr

/-- A load group: its record (R92), handover record (R98), LRU order (R101) and the latest sample's values (R105). -/
structure Group where
  members : List (Fin 8 × Nat) := []
  carry : Bool := true
  tie : Tie := .lru
  recipient : Option (Fin 8) := none
  selTime : Option (Nat × Nat) := none
  reasons : HandReasons := {}
  due : Bool := false
  lru : List (Fin 8) := []
  /-- The members that were IN_SHARE at the latest sample (R95, R105). -/
  shared : List (Fin 8) := []
  base : Int := 0
  total : Int := 0
  wIn : Nat := 0
  sf : Int := 0
  h : Int := 0
  uncarried : Int := 0
deriving DecidableEq, Repr

/-! ### Gauge link -/

/-- A value of one of the four satellite fields, by its code (section 6.5, R212). -/
inductive SatSetting where
  | excitation (v : Fin 2)
  | gain (v : Fin 4)
  | filter (v : Fin 3)
  | shunt (v : Fin 2)
deriving DecidableEq, Repr

/-- The four settings of one satellite channel, with the satellite defaults (R108, R118). -/
structure ImageCh where
  excitation : Fin 2 := 0
  gain : Fin 4 := 0
  filter : Fin 3 := 1
  shunt : Fin 2 := 0
deriving DecidableEq, Repr

/-- A configuration entry (section 6.5). -/
structure Entry where
  ch : Fin 16
  setting : SatSetting
  origin : Origin
deriving DecidableEq, Repr

/-- An order of a poll (R107). -/
inductive Order where
  | config (e : Entry)
  | reset
deriving DecidableEq, Repr

/-- A satellite slot's record (R109 to R126). -/
structure Sat where
  present : Bool := false
  settleMs : Nat := 500
  state : SatState := .absent
  posted : List Entry := []
  restore : List Entry := []
  image : Vector ImageCh 16 := Vector.replicate 16 {}
  inFlight : Option Order := none
  /-- Whether the latest poll carried the order in flight (R111, R116). -/
  carried : Bool := false
  draining : Bool := false
  unanswered : Nat := 0
  /-- Whether the latest poll still waits for its answer (R107). -/
  awaiting : Bool := false
  pollAt : Nat := 0
  settleStart : Nat := 0
  settlePeriod : Nat := 0
  settleRunning : Bool := false
  seen : Bool := false
  lastFresh : Bool := false
  lastValid : Bool := false
deriving DecidableEq, Repr

/-! ### Strain processor -/

/-- A strain channel's record (R127). -/
structure ChanConfig where
  enabled : Bool := false
  bridge : Bridge := .quarter
  gauge : Int := 2000
  zero : Int := 0
  tempSlot : Option (Fin 16) := none
  t0 : Int := 200
  coeff : Int := 0
  high : Int := 300000
  low : Int := -300000
  hyst : Int := 100
deriving DecidableEq, Repr

/-- A strain channel (R127 to R135). `zeroing` holds the set count and raw sum of a zeroing in progress. -/
structure Chan where
  cfg : ChanConfig := {}
  value : Int := 0
  lastRaw : Int := 0
  overrange : Bool := false
  zeroing : Option (Nat × Int) := none
deriving DecidableEq, Repr

/-- One strain entry of a snapshot (R138). -/
structure SnapStrain where
  ch : Fin 64
  stale : Bool
  value : Int
deriving DecidableEq, Repr

/-- A snapshot record (R138). -/
structure Snapshot where
  kind : SnapKind
  track : Fin 8
  cycles : Nat
  time : Nat
  level : Int
  forces : List Int
  deflection : Option Int
  stiffness : Option Nat
  strains : List SnapStrain
deriving DecidableEq, Repr

/-- A track's peak store (R141) and stiffness record (R143). -/
structure Stiff where
  peak : Option (Nat × Int × Int) := none
  kRef : Option Nat := none
  k : Option Nat := none
  ratio : Option Nat := none
deriving DecidableEq, Repr

/-- Strain processor (STP). -/
structure Strain where
  chans : Vector Chan 64 := Vector.replicate 64 {}
  snapList : List (Fin 64) := []
  snaps : List Snapshot := []
  skipped : Nat := 0
  stiff : Vector Stiff 8 := Vector.replicate 8 {}
deriving DecidableEq, Repr

/-! ### Emission unit -/

/-- An AE channel's record (R145). -/
structure AeConfig where
  role : AeRole := .off
  threshold : Nat := 45
  hdt : Nat := 200
  hlt : Nat := 1000
  maxDur : Nat := 20000
deriving DecidableEq, Repr

/-- The hit running on a channel: the record values it began with and its running values (R149, R150). -/
structure RunningHit where
  cfg : AeConfig := {}
  arrival : HitTime := 0
  peak : Nat := 0
  energy : Nat := 0
  lastCrossing : HitTime := 0
  hdtAt : HitTime := 0
  durAt : HitTime := 0
  hasRecord : Bool := false
deriving DecidableEq, Repr

/-- An AE channel (R145, R148 to R151). -/
structure AeChan where
  cfg : AeConfig := {}
  state : AeState := .idle
  hit : RunningHit := {}
  lockoutAt : HitTime := 0
deriving DecidableEq, Repr

/-- An arrival stamp (R147). -/
structure Stamp where
  time : Nat
  cycles : Nat
  levels : Vector Int 8
  role : AeRole
deriving DecidableEq, Repr

/-- A hit record of the hit queue (R152) with its arrival stamp (R147). -/
structure HitRec where
  ch : Fin 12
  arrival : HitTime
  peak : Nat
  energy : Nat
  long : Bool
  complete : Bool
  stamp : Stamp
deriving DecidableEq, Repr

/-- The event builder's open event (R154). -/
structure OpenEvent where
  f : Fin 12
  s : Option (Fin 12)
  dt : Nat
  tFirst : HitTime
  windowEnd : HitTime
  hits : Nat
  maxAmp : Nat
  energy : Nat
  long : Bool
  stamp : Stamp
deriving DecidableEq, Repr

/-- A closed event's record (R156). -/
structure EventRec where
  f : Fin 12
  s : Option (Fin 12)
  dt : Option Nat
  hits : Nat
  maxAmp : Nat
  energy : Nat
  zone : Option (Fin 16)
  disposition : Disposition
  cycles : Nat
  time : Nat
  hitsLost : Bool
  long : Bool
deriving DecidableEq, Repr

/-- Emission unit (AEU). -/
structure Emission where
  chans : Vector AeChan 12 := Vector.replicate 12 {}
  window : Nat := 500
  hits : List HitRec := []
  hitsLost : Bool := false
  event : Option OpenEvent := none
  log : List EventRec := []
  overwritten : Bool := false
deriving DecidableEq, Repr

/-! ### Zone monitor -/

/-- The three thresholds of one kind, 0 for unused (R163). -/
structure Thresholds where
  watch : Nat := 0
  alert : Nat := 0
  alarm : Nat := 0
deriving DecidableEq, Repr

/-- A zone definition (R163). -/
structure ZoneConfig where
  enabled : Bool := false
  first : AeSet := 0
  second : AeSet := 0
  dtLow : Nat := 0
  dtHigh : Nat := 2000
  track : Option (Fin 8) := none
  gate : Option Int := none
  mask : ActSet := 0
  bins : Nat := 8
  counts : Thresholds := {}
  energies : Thresholds := {}
deriving DecidableEq, Repr

/-- A bin of a zone's ring (R165). -/
structure Bin where
  count : Nat := 0
  energy : Nat := 0
deriving DecidableEq, Repr

/-- A zone: its definition, its bin ring with the current bin first and the oldest last (R165), and its levels
(R169 to R171). -/
structure Zone where
  cfg : ZoneConfig := {}
  bins : List Bin := List.replicate 8 {}
  presentLevel : Level := .quiet
  latched : Level := .quiet
  displayed : Level := .quiet
  lastHits : Nat := 0
deriving DecidableEq, Repr

/-- Zone monitor (ZMN). -/
structure Zones where
  zones : Vector Zone 16 := Vector.replicate 16 {}
  tickCount : Nat := 0
  lastTick : TickKind := .none
  timerStart : Nat := 0
  timerSec : Nat := 60
deriving DecidableEq, Repr

/-! ### Protection matrix -/

/-- A protection entry as it is written (R178). `inst` is none for ANY, `kind` none for an empty entry. -/
structure ProtConfig where
  kind : Option CondKind := none
  inst : Option Nat := none
  action : Action := .note
  value : Int := 0
  scope : Scope := .station
  enabled : Bool := false
deriving DecidableEq, Repr

/-- A protection entry with its state, raised set (instance indexes, ascending) and reach (R180, R181). -/
structure ProtEntry where
  cfg : ProtConfig := {}
  st : EntryState := .quiet
  raised : List Nat := []
  reach : ActSet := 0
deriving DecidableEq, Repr

/-- A trip record (R192). -/
structure TripRec where
  entry : Fin 40
  kind : CondKind
  inst : Nat
  act : Option (Fin 8)
  time : Nat
  cycles : Nat
  segment : Nat
  seqState : SeqState
  forces : Vector Int 8
deriving DecidableEq, Repr

/-- The defaults of the built-in entries P0 and P1; P2 to P39 are empty (R179). -/
def defaultEntries : Vector ProtEntry 40 :=
  ((Vector.replicate 40 ({} : ProtEntry)).set 0
    { cfg := { kind := some .haltLoop, action := .trip, scope := .station, enabled := true } }).set 1
    { cfg := { kind := some .broadcastHalt, action := .unload, scope := .station, enabled := true } }

/-- Protection matrix (PMX): the condition table in the order of R177, the entries, the trip log, the first-out record. -/
structure Protection where
  cond : Vector Bool 182 := Vector.replicate 182 false
  entries : Vector ProtEntry 40 := defaultEntries
  tripLog : List TripRec := []
  firstOut : Option TripRec := none
deriving DecidableEq, Repr

/-! ### The whole state -/

/-- Microseconds since the last reset, and the earliest time of the next control sample. -/
structure Clock where
  now : Nat := 0
  nextSample : Nat := 500
deriving DecidableEq, Repr

/-- What one step has formed and not yet handed on: ACT_STATE notices with their actuators, SEQ_STATE notices, and
lowerings that wait for the raising in progress (R74, R183, R191). Empty between steps. -/
structure EventBuffer where
  acts : List (Fin 8 × Notice) := []
  seqs : List Notice := []
  lowers : List Cond := []
deriving DecidableEq, Repr

/-- The station. -/
structure State where
  clock : Clock := {}
  stc : StationControl := {}
  sli : Link := {}
  axs : Vector Slot 16 := Vector.replicate 16 {}
  psq : Sequencer := {}
  svc : Servo := {}
  lgu : Vector Group 4 := Vector.replicate 4 {}
  glc : Vector Sat 4 := Vector.replicate 4 {}
  stp : Strain := {}
  aeu : Emission := {}
  zmn : Zones := {}
  pmx : Protection := {}
  ev : EventBuffer := {}
  pending : List Instr := []
deriving DecidableEq, Repr

/-- No row of the table makes the station stop: a refused command is answered and changes nothing (R200), and trips and
SAFE are states of the station. So no fault is raised, and the type has no constructor (safe: nothing is cut short). -/
inductive Fault where
deriving DecidableEq, Repr

/-- Why a step may be refused. -/
inductive Refusal where
  /-- Raised by `exec` alone, for a row without a meaning yet (safe: the run ends). No row is left so. -/
  | notModelled (mnemonic : String)
deriving DecidableEq, Repr

/-- The RESET notice queued at the completion of every reset: subject the address, value 1 the reset record as bits,
station time and total counted cycles 0 (R13, R212). -/
def resetNotice (address : Address) (record : Int) : Notice :=
  { kind := .reset, time := 0, cycles := 0, subject := address.toNat, v1 := record }

/-- The station right after POWER with the HALT loop closed, every contact open and the straps reading 1: all
configuration at its defaults, all run state cleared, the RESET notice queued (R12, R13).
The straps' reading and the input levels are DESIGN CHOICE values (log entry 3). -/
def State.reset : State :=
  { sli := { notices := [resetNotice 1 1] } }

end Sys2Proof.Machine
end

