-- ==== Sys2Proof/Machine/Codes.lean ====
section
/-!
DEFINITION. Machine/Codes.lean: the codes of the enumerations and the bits of the sets, by the lists of R212.
-/
namespace Sys2Proof.Machine

/-- Code of a station mode (R212). -/
def StationMode.code : StationMode → Nat
  | .setup => 0
  | .run => 1
  | .safe => 2

/-- The station mode a code names, none for an unknown code (R201, R212). -/
def StationMode.ofCode : Nat → Option StationMode
  | 0 => some .setup
  | 1 => some .run
  | 2 => some .safe
  | _ => Option.none

/-- Code of a actuator state (R212). -/
def ActState.code : ActState → Nat
  | .off => 0
  | .starting => 1
  | .low => 2
  | .raising => 3
  | .active => 4
  | .unloading => 5
  | .tripped => 6

/-- Code of a ACT_STATE cause (R212). -/
def ActCause.code : ActCause → Nat
  | .command => 0
  | .timer => 1
  | .unloadDone => 2
  | .protection => 3
  | .frame => 4
  | .restart => 5

/-- Code of a quantity (R212). -/
def Quantity.code : Quantity → Nat
  | .force => 0
  | .stroke => 1

/-- The quantity a code names, none for an unknown code (R201, R212). -/
def Quantity.ofCode : Nat → Option Quantity
  | 0 => some .force
  | 1 => some .stroke
  | _ => Option.none

/-- Code of a source (R212). -/
def Source.code : Source → Nat
  | .sequencer => 0
  | .manual => 1

/-- The source a code names, none for an unknown code (R201, R212). -/
def Source.ofCode : Nat → Option Source
  | 0 => some .sequencer
  | 1 => some .manual
  | _ => Option.none

/-- Code of a sequencer state (R212). -/
def SeqState.code : SeqState → Nat
  | .idle => 0
  | .waitingGo => 1
  | .running => 2
  | .pausing => 3
  | .holding => 4
  | .done => 5
  | .aborted => 6

/-- Code of a activity (R212). -/
def Activity.code : Activity → Nat
  | .none => 0
  | .ramp => 1
  | .dwell => 2
  | .approach => 3
  | .taperUp => 4
  | .steady => 5
  | .taperDown => 6

/-- Code of a wave shape (R212). -/
def Shape.code : Shape → Nat
  | .sine => 0
  | .triangle => 1

/-- The wave shape a code names, none for an unknown code (R201, R212). -/
def Shape.ofCode : Nat → Option Shape
  | 0 => some .sine
  | 1 => some .triangle
  | _ => Option.none

/-- Code of a satellite state (R212). -/
def SatState.code : SatState → Nat
  | .absent => 0
  | .seeking => 1
  | .settling => 2
  | .live => 3
  | .lost => 4

/-- Code of a SAT_STATE cause (R212). -/
def SatCause.code : SatCause → Nat
  | .present => 0
  | .removed => 1
  | .answer => 2
  | .settled => 3
  | .noAnswer => 4
  | .config => 5
  | .invalid => 6
  | .resetDone => 7
  | .fresh => 8

/-- Code of a entry origin (R212). -/
def Origin.code : Origin → Nat
  | .posted => 0
  | .restore => 1

/-- Code of a bridge type (R212). -/
def Bridge.code : Bridge → Nat
  | .quarter => 0
  | .half => 1
  | .full => 2

/-- The bridge type a code names, none for an unknown code (R201, R212). -/
def Bridge.ofCode : Nat → Option Bridge
  | 0 => some .quarter
  | 1 => some .half
  | 2 => some .full
  | _ => Option.none

/-- Code of a slot function (R212). -/
def SlotFn.code : SlotFn → Nat
  | .none => 0
  | .deflection => 1
  | .crackGauge => 2
  | .temperature => 3
  | .supplyPressure => 4
  | .digitalIn => 5
  | .pendantHold => 6
  | .pendantResume => 7
  | .dumpOut => 8
  | .beaconOut => 9

/-- The slot function a code names, none for an unknown code (R201, R212). -/
def SlotFn.ofCode : Nat → Option SlotFn
  | 0 => some .none
  | 1 => some .deflection
  | 2 => some .crackGauge
  | 3 => some .temperature
  | 4 => some .supplyPressure
  | 5 => some .digitalIn
  | 6 => some .pendantHold
  | 7 => some .pendantResume
  | 8 => some .dumpOut
  | 9 => some .beaconOut
  | _ => Option.none

/-- Code of a snapshot kind (R212). -/
def SnapKind.code : SnapKind → Nat
  | .peak => 0
  | .valley => 1
  | .dwellEnd => 2
  | .manual => 3

/-- Code of a AE role (R212). -/
def AeRole.code : AeRole → Nat
  | .sensor => 0
  | .guard => 1
  | .off => 2

/-- The AE role a code names, none for an unknown code (R201, R212). -/
def AeRole.ofCode : Nat → Option AeRole
  | 0 => some .sensor
  | 1 => some .guard
  | 2 => some .off
  | _ => Option.none

/-- Code of a AE channel state (R212). -/
def AeState.code : AeState → Nat
  | .idle => 0
  | .inHit => 1
  | .lockout => 2

/-- Code of a disposition (R212). -/
def Disposition.code : Disposition → Nat
  | .counted => 0
  | .gated => 1
  | .guarded => 2
  | .unzoned => 3

/-- Code of a zone level (R212). -/
def Level.code : Level → Nat
  | .quiet => 0
  | .watch => 1
  | .alert => 2
  | .alarm => 3

/-- Code of a ZONE_LEVEL cause (R212). -/
def ZoneCause.code : ZoneCause → Nat
  | .event => 0
  | .tick => 1
  | .ack => 2
  | .clear => 3
  | .set => 4

/-- Code of a tick kind (R212). -/
def TickKind.code : TickKind → Nat
  | .none => 0
  | .cycle => 1
  | .timer => 2

/-- Code of a condition kind (R212). -/
def CondKind.code : CondKind → Nat
  | .forceLimit => 0
  | .strokeLimit => 1
  | .following => 2
  | .stall => 3
  | .sensorRange => 4
  | .envelope => 5
  | .unloadTimeout => 6
  | .strainLimit => 7
  | .stiffness => 8
  | .satLost => 9
  | .zoneAlert => 10
  | .zoneAlarm => 11
  | .auxLimit => 12
  | .haltLoop => 13
  | .broadcastHalt => 14

/-- The condition kind a code names, none for an unknown code (R201, R212). -/
def CondKind.ofCode : Nat → Option CondKind
  | 0 => some .forceLimit
  | 1 => some .strokeLimit
  | 2 => some .following
  | 3 => some .stall
  | 4 => some .sensorRange
  | 5 => some .envelope
  | 6 => some .unloadTimeout
  | 7 => some .strainLimit
  | 8 => some .stiffness
  | 9 => some .satLost
  | 10 => some .zoneAlert
  | 11 => some .zoneAlarm
  | 12 => some .auxLimit
  | 13 => some .haltLoop
  | 14 => some .broadcastHalt
  | _ => Option.none

/-- Code of a action (R212). -/
def Action.code : Action → Nat
  | .note => 0
  | .derate => 1
  | .hold => 2
  | .unload => 3
  | .trip => 4

/-- The action a code names, none for an unknown code (R201, R212). -/
def Action.ofCode : Nat → Option Action
  | 0 => some .note
  | 1 => some .derate
  | 2 => some .hold
  | 3 => some .unload
  | 4 => some .trip
  | _ => Option.none

/-- Code of a scope (R212). -/
def Scope.code : Scope → Nat
  | .actuator => 0
  | .frame => 1
  | .group => 2
  | .zone => 3
  | .station => 4

/-- The scope a code names, none for an unknown code (R201, R212). -/
def Scope.ofCode : Nat → Option Scope
  | 0 => some .actuator
  | 1 => some .frame
  | 2 => some .group
  | 3 => some .zone
  | 4 => some .station
  | _ => Option.none

/-- Code of a entry state (R212). -/
def EntryState.code : EntryState → Nat
  | .quiet => 0
  | .active => 1
  | .latched => 2

/-- Code of a tie policy (R212). -/
def Tie.code : Tie → Nat
  | .lru => 0
  | .first => 1

/-- The tie policy a code names, none for an unknown code (R201, R212). -/
def Tie.ofCode : Nat → Option Tie
  | 0 => some .lru
  | 1 => some .first
  | _ => Option.none

/-- Code of a frame manifold output (R212). -/
def Manifold.code : Manifold → Nat
  | .closed => 0
  | .low => 1
  | .high => 2
  | .dump => 3

/-- Code of a notice kind (R212). -/
def NoticeKind.code : NoticeKind → Nat
  | .none => 0
  | .reset => 1
  | .actState => 2
  | .seqState => 3
  | .handover => 4
  | .handoverNone => 5
  | .satState => 6
  | .satReject => 7
  | .zeroDone => 8
  | .zeroFailed => 9
  | .zoneLevel => 10
  | .entry => 11
  | .trip => 12

/-- One bit of a set. -/
def bit (b : Bool) (k : Nat) : Nat := if b then 2 ^ k else 0

/-- The hold-reason set as bits (R212). -/
def HoldSet.code (h : HoldSet) : Nat :=
  bit h.operator 0 + bit h.pendant 1 + bit h.protection 2 + bit h.segment 3 + bit h.lost 4

/-- The handover reason set as bits (R212). -/
def HandReasons.code (h : HandReasons) : Nat :=
  bit h.derate 0 + bit h.recipientOut 1 + bit h.recipientDerated 2 + bit h.join 3

/-- The reset record as bits (R212). -/
def ResetRecord.code (r : ResetRecord) : Nat :=
  bit r.power 0 + bit r.line 1 + bit r.restart 2 + bit r.keep 3

/-- The six sample conditions as condition kinds (R177). -/
def actCondKind : ActCond → CondKind
  | .forceLimit => .forceLimit
  | .strokeLimit => .strokeLimit
  | .following => .following
  | .stall => .stall
  | .sensorRange => .sensorRange
  | .envelope => .envelope

/-- The kind of a condition instance (R177). -/
def Cond.kind : Cond → CondKind
  | .act k _ => actCondKind k
  | .unloadTimeout _ => .unloadTimeout
  | .strainLimit _ => .strainLimit
  | .stiffness _ => .stiffness
  | .satLost _ => .satLost
  | .zoneAlert _ => .zoneAlert
  | .zoneAlarm _ => .zoneAlarm
  | .auxLimit _ => .auxLimit
  | .haltLoop => .haltLoop
  | .broadcastHalt => .broadcastHalt

/-- The index of a condition instance within its kind (R177). -/
def Cond.inst : Cond → Nat
  | .act _ a => a.val
  | .unloadTimeout a => a.val
  | .strainLimit c => c.val
  | .stiffness t => t.val
  | .satLost x => x.val
  | .zoneAlert z => z.val
  | .zoneAlarm z => z.val
  | .auxLimit x => x.val
  | .haltLoop => 0
  | .broadcastHalt => 0

/-- Number of instances of a kind (R177). -/
def CondKind.count : CondKind → Nat
  | .strainLimit => 64
  | .satLost => 4
  | .zoneAlert | .zoneAlarm | .auxLimit => 16
  | .haltLoop | .broadcastHalt => 1
  | .forceLimit | .strokeLimit | .following | .stall | .sensorRange | .envelope | .unloadTimeout | .stiffness => 8

/-- The actuator kinds: the seven conditions of the first six rows of R177. -/
def CondKind.isActuator : CondKind → Bool
  | .forceLimit | .strokeLimit | .following | .stall | .sensorRange | .envelope | .unloadTimeout => true
  | _ => false

/-- The zone kinds (R177). -/
def CondKind.isZone : CondKind → Bool
  | .zoneAlert | .zoneAlarm => true
  | _ => false

/-- All instances of a kind, ascending (R177). -/
def CondKind.conds : CondKind → List Cond
  | .forceLimit => (List.finRange 8).map (.act .forceLimit)
  | .strokeLimit => (List.finRange 8).map (.act .strokeLimit)
  | .following => (List.finRange 8).map (.act .following)
  | .stall => (List.finRange 8).map (.act .stall)
  | .sensorRange => (List.finRange 8).map (.act .sensorRange)
  | .envelope => (List.finRange 8).map (.act .envelope)
  | .unloadTimeout => (List.finRange 8).map .unloadTimeout
  | .strainLimit => (List.finRange 64).map .strainLimit
  | .stiffness => (List.finRange 8).map .stiffness
  | .satLost => (List.finRange 4).map .satLost
  | .zoneAlert => (List.finRange 16).map .zoneAlert
  | .zoneAlarm => (List.finRange 16).map .zoneAlarm
  | .auxLimit => (List.finRange 16).map .auxLimit
  | .haltLoop => [.haltLoop]
  | .broadcastHalt => [.broadcastHalt]

/-- Where an actuator kind begins in the condition table. -/
def actCondBase : ActCond → Fin 6
  | .forceLimit => 0
  | .strokeLimit => 1
  | .following => 2
  | .stall => 3
  | .sensorRange => 4
  | .envelope => 5

/-- The place of an instance in the condition table, in the order of R177 with SENSOR_RANGE, ENVELOPE and
UNLOAD_TIMEOUT at the codes R212 gives them. -/
def Cond.slot : Cond → Fin 182
  | .act k a => ⟨8 * (actCondBase k).val + a.val, by have := (actCondBase k).isLt; have := a.isLt; omega⟩
  | .unloadTimeout a => ⟨48 + a.val, by omega⟩
  | .strainLimit c => ⟨56 + c.val, by omega⟩
  | .stiffness t => ⟨120 + t.val, by omega⟩
  | .satLost x => ⟨128 + x.val, by omega⟩
  | .zoneAlert z => ⟨132 + z.val, by omega⟩
  | .zoneAlarm z => ⟨148 + z.val, by omega⟩
  | .auxLimit x => ⟨164 + x.val, by omega⟩
  | .haltLoop => 180
  | .broadcastHalt => 181

end Sys2Proof.Machine
end

