-- ==== Sys2Proof/Machine/Ops.lean ====
section
/-!
DEFINITION. Machine/Ops.lean: the operations every block uses: arithmetic (R2), time, the notice queue (R205, R206), and
reads and writes of the objects of State.
-/
namespace Sys2Proof.Machine

/-! ### Arithmetic (R2) -/

/-- `round(a / b)`: the quotient rounded half away from zero (R2). -/
def roundDiv (a b : Int) : Int :=
  let q : Int := ((2 * a.natAbs + b.natAbs) / (2 * b.natAbs) : Nat)
  if (decide (a < 0)) = (decide (b < 0)) then q else -q

/-- `trunc(a / b)`: the quotient truncated toward zero (R2). -/
def truncDiv (a b : Int) : Int := Int.tdiv a b

/-- `clamp(x, a, b)`: x held inside [a, b] (R2). -/
def clamp (x a b : Int) : Int := if x < a then a else if b < x then b else x

/-- `clamp(x, ±m)` (R2). -/
def clampSym (x m : Int) : Int := clamp x (-m) m

/-- A counter that stops at its upper end (R2). -/
def satAdd (a b top : Nat) : Nat := if a + b ≤ top then a + b else top

/-- The two's complement reading of x in a field of `bytes` bytes, as an unsigned number (R209). -/
def fieldOf (bytes : Nat) (x : Int) : Nat := (x % (256 ^ bytes : Nat)).toNat

/-! ### Sets and lists -/

/-- Whether actuator a is in the set (R209: bit k for Ak). -/
def ActSet.has (m : ActSet) (a : Fin 8) : Bool := m.getLsbD a.val

/-- The set of the actuators with a property. -/
def actSetOf (p : Fin 8 → Bool) : ActSet :=
  (List.finRange 8).foldl (fun m a => if p a then m ||| BitVec.ofNat 8 (2 ^ a.val) else m) 0

/-- Inserts into an ascending list without repeats. -/
def insertAsc (n : Nat) : List Nat → List Nat
  | [] => [n]
  | x :: l => if n < x then n :: x :: l else if n = x then x :: l else x :: insertAsc n l

/-- A list with its newest element that satisfies `p` removed. -/
def eraseLastP {α : Type} (p : α → Bool) (l : List α) : List α := (l.reverse.eraseP p).reverse

/-- Changes one element of a vector. -/
def vmod {α : Type} {n : Nat} (v : Vector α n) (i : Fin n) (f : α → α) : Vector α n := v.set i (f v[i])

/-- Folds a state change over the indexes 0, 1, …, n − 1 in ascending order. -/
def forAsc (n : Nat) (f : Fin n → State → State) (s : State) : State :=
  (List.finRange n).foldl (fun s i => f i s) s

/-! ### Time -/

/-- Station time, ms since the last reset, 32 bits (00_scope.md, "Engineering units"). -/
def State.time (s : State) : Nat := (s.clock.now / 1000) % 4294967296

/-- The hit clock, µs, 32 bits (R147). -/
def State.hitClock (s : State) : HitTime := BitVec.ofNat 32 s.clock.now

/-- Time has come to `t` µs after the last reset, or stands where it is if that has passed. -/
def State.advanceTo (t : Nat) (s : State) : State :=
  { s with clock := { s.clock with now := max s.clock.now t } }

/-- One microsecond passes with nothing arriving (log entry 2). -/
def State.tick (s : State) : State := s.advanceTo (s.clock.now + 1)

/-! ### Objects -/

/-- Actuator a. -/
def State.act (s : State) (a : Fin 8) : Actuator := s.svc.acts[a]

/-- Changes actuator a. -/
def State.modAct (a : Fin 8) (f : Actuator → Actuator) (s : State) : State :=
  { s with svc := { s.svc with acts := vmod s.svc.acts a f } }

/-- Group g. -/
def State.group (s : State) (g : Fin 4) : Group := s.lgu[g]

/-- Changes group g. -/
def State.modGroup (g : Fin 4) (f : Group → Group) (s : State) : State := { s with lgu := vmod s.lgu g f }

/-- Changes the sequencer. -/
def State.modSeq (f : Sequencer → Sequencer) (s : State) : State := { s with psq := f s.psq }

/-- Changes station control. -/
def State.modStc (f : StationControl → StationControl) (s : State) : State := { s with stc := f s.stc }

/-- Changes the link interface. -/
def State.modLink (f : Link → Link) (s : State) : State := { s with sli := f s.sli }

/-- Changes auxiliary slot x. -/
def State.modSlot (x : Fin 16) (f : Slot → Slot) (s : State) : State := { s with axs := vmod s.axs x f }

/-- Changes satellite slot x. -/
def State.modSat (x : Fin 4) (f : Sat → Sat) (s : State) : State := { s with glc := vmod s.glc x f }

/-- Changes the strain processor. -/
def State.modStp (f : Strain → Strain) (s : State) : State := { s with stp := f s.stp }

/-- Changes strain channel c. -/
def State.modChan (c : Fin 64) (f : Chan → Chan) (s : State) : State :=
  s.modStp fun t => { t with chans := vmod t.chans c f }

/-- Changes the emission unit. -/
def State.modAeu (f : Emission → Emission) (s : State) : State := { s with aeu := f s.aeu }

/-- Changes AE channel c. -/
def State.modAe (c : Fin 12) (f : AeChan → AeChan) (s : State) : State :=
  s.modAeu fun u => { u with chans := vmod u.chans c f }

/-- Changes the zone monitor. -/
def State.modZmn (f : Zones → Zones) (s : State) : State := { s with zmn := f s.zmn }

/-- Changes zone z. -/
def State.modZone (z : Fin 16) (f : Zone → Zone) (s : State) : State :=
  s.modZmn fun m => { m with zones := vmod m.zones z f }

/-- Changes the protection matrix. -/
def State.modPmx (f : Protection → Protection) (s : State) : State := { s with pmx := f s.pmx }

/-- Changes protection entry e. -/
def State.modEntry (e : Fin 40) (f : ProtEntry → ProtEntry) (s : State) : State :=
  s.modPmx fun p => { p with entries := vmod p.entries e f }

/-- Whether a condition instance stands raised in the condition table (R177). -/
def State.raised (s : State) (c : Cond) : Bool := s.pmx.cond[c.slot]

/-! ### Notices -/

/-- A notice formed at this event (R205). -/
def State.notice (s : State) (k : NoticeKind) (subject : Nat) (v1 v2 v3 v4 : Int) : Notice :=
  { kind := k, time := s.time, cycles := s.psq.totalCycles, subject := subject, v1 := v1, v2 := v2, v3 := v3, v4 := v4 }

/-- What becomes of the queue when a notice is offered to it (R205, R206). -/
def queueOffer (q : List Notice) (n : Notice) : List Notice :=
  if q.length < Config.noticeCap then q ++ [n]
  else if n.kind = .trip ∧ q.any (fun m => m.kind ≠ .trip) = true then
    eraseLastP (fun m => m.kind ≠ .trip) q ++ [n]
  else q

/-- Offers a notice to the notice queue; at a full queue notices-lost is set (R205, R206). -/
def offer (n : Notice) (s : State) : State :=
  s.modLink fun l =>
    { l with notices := queueOffer l.notices n
             noticesLost := l.noticesLost || decide (Config.noticeCap ≤ l.notices.length) }

/-! ### Groups, tracks and frames -/

/-- The configured group an actuator is a member of (R92). -/
def State.groupOf (s : State) (a : Fin 8) : Option (Fin 4) :=
  (List.finRange 4).find? fun g => (s.group g).members.any fun m => m.1 = a

/-- The configured lead: the lowest-numbered member (R22, R93). Members are stored in ascending order (R92). -/
def Group.lead (g : Group) : Option (Fin 8) := (g.members.head?).map Prod.fst

/-- A member is IN_SHARE while it is ACTIVE (R94). -/
def State.inShare (s : State) (a : Fin 8) : Bool := decide ((s.act a).state = .active)

/-- The IN_SHARE members of a group with their weights, ascending (R94). -/
def State.sharing (s : State) (g : Fin 4) : List (Fin 8 × Nat) :=
  (s.group g).members.filter fun m => s.inShare m.1

/-- The acting lead: the lowest-numbered IN_SHARE member (R94). -/
def State.actingLead (s : State) (g : Fin 4) : Option (Fin 8) := ((s.sharing g).head?).map Prod.fst

/-- A group is short while carry-over is ON and an IN_SHARE member has a derate below 1000 (R97). -/
def State.short (s : State) (g : Fin 4) : Bool :=
  (s.group g).carry && (s.sharing g).any fun m => decide ((s.act m.1).derate < 1000)

/-- A track is in use: its actuator is enabled, has source SEQUENCER, and is in no group or leads its group (R22). -/
def State.inUse (s : State) (k : Fin 8) : Bool :=
  (s.act k).cfg.enabled && decide ((s.act k).source = .sequencer) &&
    match s.groupOf k with
    | none => true
    | some g => decide ((s.group g).lead = some k)

/-- The lost cause: an in-use actuator in no group is not ACTIVE, or a driven group has no IN_SHARE member (R41). -/
def State.lostCause (s : State) : Bool :=
  (List.finRange 8).any fun k => s.inUse k &&
    match s.groupOf k with
    | none => !s.inShare k
    | some g => (s.sharing g).isEmpty

/-- A pressurized state (chapter 4). -/
def ActState.pressurized : ActState → Bool
  | .off | .tripped => false
  | .starting | .low | .raising | .active | .unloading => true

/-- The servo runs in LOW, RAISING, ACTIVE and UNLOADING (R48). -/
def ActState.servoRuns : ActState → Bool
  | .low | .raising | .active | .unloading => true
  | .off | .starting | .tripped => false

/-- At rest for a RESTART: OFF or TRIPPED (R10, R11). -/
def ActState.atRest : ActState → Bool
  | .off | .tripped => true
  | .starting | .low | .raising | .active | .unloading => false

/-- Whether some actuator configured in a frame has a property of its state. -/
def State.frameHas (s : State) (f : Fin 4) (p : ActState → Bool) : Bool :=
  (List.finRange 8).any fun a => decide ((s.act a).cfg.frame = f) && p (s.act a).state

/-- A frame's manifold output, formed from the states of its actuators (R88). -/
def State.manifold (s : State) (f : Fin 4) : Manifold :=
  if s.frameHas f (fun x => x = .tripped) then .dump
  else if s.frameHas f (fun x => x = .raising ∨ x = .active ∨ x = .unloading) then .high
  else if s.frameHas f (fun x => x = .starting ∨ x = .low) then .low
  else .closed

/-- The supply and high-stage solenoids of a manifold output (R88). -/
def Manifold.solenoids : Manifold → Bool × Bool
  | .closed => (false, false)
  | .low => (true, false)
  | .high => (true, true)
  | .dump => (false, true)

/-- The gains of one control quantity (R60). -/
def Actuator.gains (x : Actuator) : Quantity → Gains
  | .force => x.gainsForce
  | .stroke => x.gainsStroke

/-- The measured value of a control quantity (R49, R59). -/
def Actuator.measured (x : Actuator) : Quantity → Int
  | .force => x.force
  | .stroke => x.stroke

/-- The level of an output slot: DUMP_OUT and BEACON_OUT (R18). -/
def State.outputLevel (s : State) : SlotFn → Bool
  | .dumpOut => (List.finRange 4).any fun f => decide (s.manifold f = .dump)
  | .beaconOut => (List.finRange 8).any fun a => decide ((s.act a).state ≠ .off)
  | .none | .deflection | .crackGauge | .temperature | .supplyPressure | .digitalIn | .pendantHold | .pendantResume =>
    false

/-- The value of an auxiliary slot: for an output slot the driven level, else the value held (R18, R20). -/
def State.slotValue (s : State) (x : Fin 16) : Int :=
  match s.axs[x].fn with
  | .dumpOut => if s.outputLevel .dumpOut then 1 else 0
  | .beaconOut => if s.outputLevel .beaconOut then 1 else 0
  | _ => s.axs[x].value

end Sys2Proof.Machine
end

