-- ==== Sys2Proof/Machine/Operands.lean ====
section
/-!
DEFINITION. Machine/Operands.lean: the fields of request and reply payloads, high byte first (R209), and the record layouts
of section 11.7.
-/
namespace Sys2Proof.Machine

/-! ### Reading a request payload -/

/-- The one-byte field at an offset, unsigned (R209). -/
def u8 (p : List Byte) (i : Nat) : Nat := (p.getD i 0).toNat

/-- The two-byte field at an offset, unsigned. -/
def u16 (p : List Byte) (i : Nat) : Nat := u8 p i * 256 + u8 p (i + 1)

/-- The four-byte field at an offset, unsigned. -/
def u32 (p : List Byte) (i : Nat) : Nat := u16 p i * 65536 + u16 p (i + 2)

/-- The two-byte field at an offset, two's complement. -/
def s16 (p : List Byte) (i : Nat) : Int := if u16 p i < 32768 then (u16 p i : Int) else (u16 p i : Int) - 65536

/-- The four-byte field at an offset, two's complement. -/
def s32 (p : List Byte) (i : Nat) : Int :=
  if u32 p i < 2147483648 then (u32 p i : Int) else (u32 p i : Int) - 4294967296

/-- A flag: 0 off, 1 on, any other value unknown (R201). -/
def flagOf : Nat → Option Bool
  | 0 => some false
  | 1 => some true
  | _ => none

/-- An index within a count (R200). -/
def indexOf (n k : Nat) : Option (Fin n) := if h : k < n then some ⟨k, h⟩ else none

/-- An optional one-byte index: FFh absent, otherwise within a count; none where it is neither (R209). -/
def optIndexOf (n k : Nat) : Option (Option (Fin n)) :=
  if k = 255 then some none else (indexOf n k).map some

/-- A value lies in a range. -/
def inRange (lo hi x : Int) : Bool := decide (lo ≤ x) && decide (x ≤ hi)

/-! ### Writing a payload -/

/-- A one-byte field (R209). -/
def put1 (x : Int) : List Byte := [BitVec.ofInt 8 x]

/-- A two-byte field, high byte first, two's complement where negative (R209). -/
def put2 (x : Int) : List Byte := [BitVec.ofInt 8 (x / 256), BitVec.ofInt 8 x]

/-- A four-byte field, high byte first (R209). -/
def put4 (x : Int) : List Byte := put2 (x / 65536) ++ put2 x

/-- A flag (R209). -/
def putFlag (b : Bool) : List Byte := put1 (if b then 1 else 0)

/-- An optional one-byte index, FFh when absent (R209). -/
def putOpt {n : Nat} (x : Option (Fin n)) : List Byte :=
  match x with
  | none => put1 255
  | some i => put1 i.val

/-- An optional two-byte unsigned value, FFFFh when absent (R209). -/
def putOpt2 (x : Option Nat) : List Byte := put2 ((x.getD 65535 : Nat) : Int)

/-- A set of actuators (R209). -/
def putSet (m : ActSet) : List Byte := [m]

/-- A set of AE channels in two bytes (R209). -/
def putAeSet (m : AeSet) : List Byte := put2 m.toNat

/-! ### Records (R212) -/

/-- The notice record, 19 bytes (R212). -/
def Notice.bytes (n : Notice) : List Byte :=
  put1 n.kind.code ++ put2 n.subject ++ put4 n.time ++ put4 n.cycles ++ put2 n.v1 ++ put2 n.v2 ++ put2 n.v3 ++ put2 n.v4

/-- The snapshot record (R212). -/
def Snapshot.bytes (r : Snapshot) : List Byte :=
  put1 r.kind.code ++ put1 r.track.val ++ put1 (bit r.deflection.isSome 0 + bit r.stiffness.isSome 1 : Nat) ++
  put1 r.forces.length ++ put4 r.cycles ++ put4 r.time ++ put2 r.level ++ put4 (r.deflection.getD 0) ++
  put2 ((r.stiffness.getD 0 : Nat) : Int) ++ r.forces.flatMap put2 ++ put1 r.strains.length ++
  r.strains.flatMap fun e => put1 e.ch.val ++ putFlag e.stale ++ put4 e.value

/-- The event record, 19 bytes (R212). -/
def EventRec.bytes (r : EventRec) : List Byte :=
  put1 r.f.val ++ putOpt r.s ++ putOpt2 r.dt ++ put1 r.hits ++ put1 r.maxAmp ++ put2 r.energy ++
  putOpt r.zone ++ put1 r.disposition.code ++ put1 (bit r.hitsLost 0 + bit r.long 1 : Nat) ++ put4 r.cycles ++ put4 r.time

/-- The trip record, 30 bytes (R212). -/
def TripRec.bytes (r : TripRec) : List Byte :=
  put1 r.entry.val ++ put1 r.kind.code ++ put1 r.inst ++ putOpt r.act ++ put4 r.time ++ put4 r.cycles ++
  put1 r.segment ++ put1 r.seqState.code ++ r.forces.toList.flatMap put2

/-- A flag for whether a record stands, and the record (R193, R210). -/
def putTrip : Option TripRec → List Byte
  | none => putFlag false
  | some r => putFlag true ++ r.bytes

end Sys2Proof.Machine
end

