-- ==== Sys2Proof/Machine/Sequencing.lean ====
section
/-!
DEFINITION. Machine/Sequencing.lean: the plan sequencer's own operations (chapter 2): levels and wave, segment entry,
the hold-reason set, pausing, going on and aborting. Every change of state forms its SEQ_STATE notice (R26).
-/
namespace Sys2Proof.Machine

/-! ### The wave (R34) -/

/-- 2π in units of 2^-160, rounded. -/
def twoPi : Nat := 9182885614096437842769610399486622256908310048836

/-- The terms of the sine series from x^n / n! on, in units of 2^-160, for x² in the same units. -/
def sineSeries (x2 : Nat) : Nat → Nat → Nat → Int
  | 0, _, _ => 0
  | fuel + 1, n, term =>
    (term : Int) - sineSeries x2 fuel (n + 2) (term * x2 / 2 ^ 160 / ((n + 1) * (n + 2)))

/-- sin(2π q / C) for a phase q of the first quarter, in units of 2^-160: exact at 0 and at C/4, elsewhere within
2^-150 (log entry 10). -/
def sineQuarter (q : Nat) : Int :=
  if q = 0 then 0
  else if 5000000 ≤ q then 2 ^ 160
  else
    let x := twoPi * q / Config.cycle
    sineSeries (x * x / 2 ^ 160) 26 1 x

/-- sin(2π p / C) in units of 2^-160 by the symmetry of the quarters (R34). -/
def sineAt (p : Nat) : Int :=
  if p < 5000000 then sineQuarter p
  else if p < 10000000 then sineQuarter (10000000 - p)
  else if p < 15000000 then -sineQuarter (p - 10000000)
  else -sineQuarter (20000000 - p)

/-- The wave value w at a phase, as a numerator and a denominator (R34). -/
def waveAt (shape : Shape) (p : Nat) : Int × Int :=
  match shape with
  | .sine => (sineAt p, 2 ^ 160)
  | .triangle =>
    (if p < 5000000 then 4 * (p : Int)
     else if p < 15000000 then 2 * 20000000 - 4 * (p : Int)
     else 4 * (p : Int) - 4 * 20000000, 20000000)

/-- `round(mean + a × w)`, the level of a track at a phase (R34). -/
def waveLevel (mean : Int) (amp : Nat) (shape : Shape) (p : Nat) : Int :=
  let w := waveAt shape p
  roundDiv (mean * w.2 + (amp : Int) * w.1) w.2

/-- A track's phase: the master phase shifted by the track's offset (R34). -/
def trackPhase (master offset : Nat) : Nat := (master + offset * 20000) % Config.cycle

/-- The master phase after a sample's advance, and whether the sample is a wrap (R34). -/
def advancePhase (master freq : Nat) : Nat × Bool :=
  let sum := master + freq * 100
  if Config.cycle ≤ sum then (sum - Config.cycle, true) else (sum, false)

/-! ### Levels of ramps and approaches (R31, R33) -/

/-- The level of a RAMP at sample n of N (R31). -/
def rampLevel (l0 l1 : Int) (n total : Nat) : Int :=
  if total ≤ n then l1 else roundDiv (l0 * total + (l1 - l0) * n) total

/-- The level of an APPROACH at sample n: at the approach rate toward the mean, and no further (R33). The rule's formula is
followed where its worked example differs (log entry 25). -/
def approachLevel (l0 mean : Int) (rate n : Nat) : Int :=
  if l0 = mean then mean
  else if l0 < mean then
    let x := roundDiv (l0 * 2000 + (rate * n : Nat)) 2000
    if mean ≤ x then mean else x
  else
    let x := roundDiv (l0 * 2000 - (rate * n : Nat)) 2000
    if x ≤ mean then mean else x

/-- The sample at which an APPROACH from `l0` stands at the mean: the least n whose level is the mean (R26, R33).
For a positive mean half a unit below it rounds up to it, for any other it does not (R2; log entry 25). -/
def approachSteps (l0 mean : Int) (rate : Nat) : Nat :=
  if l0 = mean then 0
  else
    let m := if l0 < mean then mean else -mean
    let l := if l0 < mean then l0 else -l0
    let d := (2000 * (m - l) - 1000).toNat
    if 1 ≤ m then (d + rate - 1) / rate else d / rate + 1

/-! ### The present segment -/

/-- The record of the present segment (R26). -/
def Sequencer.here (q : Sequencer) : Segment := q.plan[q.segment]

/-- Mean, amplitude, frequency, shape, count and snapshot interval of the present segment; all zero when it is no CYCLE. -/
def Sequencer.wave (q : Sequencer) : Int × Nat × Nat × Shape × Nat × Nat :=
  match q.here with
  | .cycle _ mean amplitude freq shape count interval => (mean, amplitude, freq, shape, count, interval)
  | .ramp .. | .dwell .. | .loop .. | .finish => (0, 0, 0, .sine, 0, 0)

/-- The amplitude A of the present segment. -/
def Sequencer.amplitude (q : Sequencer) : Nat := q.wave.2.1

/-- A segment's count; 0 when it is no CYCLE (R26; log entry 8). -/
def Segment.count : Segment → Nat
  | .cycle _ _ _ _ _ count _ => count
  | .ramp .. | .dwell .. | .loop .. | .finish => 0

/-- The present segment's count (R26). -/
def Sequencer.count (q : Sequencer) : Nat := q.here.count

/-- The segment's count as it reads: in DONE and ABORTED the one held at the entry to that state (R26). -/
def Sequencer.shownCount (q : Sequencer) : Nat :=
  match q.state with
  | .done | .aborted => q.heldCount
  | .idle | .waitingGo | .running | .pausing | .holding => q.count

/-- K, the number of samples of a full taper (R25). -/
def Sequencer.taper (q : Sequencer) : Nat := 2 * q.taperMs

/-- Whether the activity is one of the three that R42 sends to PAUSING. -/
def Activity.isWave : Activity → Bool
  | .taperUp | .steady | .taperDown => true
  | .none | .ramp | .dwell | .approach => false

/-- The hold-reason set is not empty. -/
def HoldSet.any (h : HoldSet) : Bool := h.operator || h.pendant || h.protection || h.segment || h.lost

/-- A reason of the hold-reason set (R41). -/
inductive HoldReason where
  | operator | pendant | protection | segment | lost
deriving DecidableEq, Repr

/-- The set with a reason put in or taken out (R41). -/
def HoldSet.put (h : HoldSet) (b : Bool) : HoldReason → HoldSet
  | .operator => { h with operator := b }
  | .pendant => { h with pendant := b }
  | .protection => { h with protection := b }
  | .segment => { h with segment := b }
  | .lost => { h with lost := b }

/-- A state in which LOST is added and which SAFE and ABORT end (R41, R46). -/
def SeqState.going : SeqState → Bool
  | .waitingGo | .running | .pausing | .holding => true
  | .idle | .done | .aborted => false

/-! ### Changes of state -/

/-- The SEQ_STATE notice of a change from `prev`, all values taken after the change (R26). -/
def seqNotice (prev : SeqState) (s : State) : State :=
  let n := s.notice .seqState s.psq.segment.val s.psq.state.code prev.code s.psq.hold.code s.psq.activity.code
  { s with ev := { s.ev with seqs := s.ev.seqs ++ [n] } }

/-- A change of sequencer state: the change, then its SEQ_STATE notice (R26). -/
def seqChange (f : Sequencer → Sequencer) (s : State) : State :=
  seqNotice s.psq.state (s.modSeq f)

/-- STEADY is left: every pending-peak memory is emptied (R37). -/
def leaveSteady (q : Sequencer) : Sequencer := { q with peaks := Vector.replicate 8 none }

/-- The sequencer stops according to its activity: HOLDING, or PAUSING with M of R43, which with M = 0 passes at once
into HOLDING at the mean (R42, R43), with the effective amplitude at 0 from that event (log entry 11). -/
def seqStop (s : State) : State :=
  if s.psq.activity.isWave then
    let q := s.psq
    let m := if q.amplitude = 0 then 0 else (roundDiv ((q.taper * q.amp : Nat) : Int) (q.amplitude : Nat)).toNat
    let s := seqChange (fun q => leaveSteady { q with state := .pausing, pauseAmp := q.amp, ctr := 0, ctrEnd := m }) s
    if m = 0 then seqChange (fun q => { q with state := .holding, amp := 0 }) s else s
  else seqChange (fun q => { q with state := .holding }) s

/-- The stop of R42, when the sequencer is RUNNING with a hold-reason set that is not empty. -/
def seqStopIfHeld (s : State) : State :=
  if s.psq.state = .running ∧ s.psq.hold.any = true then seqStop s else s

/-- A reason is added to the hold-reason set (R41), and the sequencer stops if that is due (R42). -/
def addReason (r : HoldReason) (s : State) : State :=
  seqStopIfHeld (s.modSeq fun q => { q with hold := q.hold.put true r })

/-- STEADY begins, with the amplitude at A (R35). -/
def beginSteady (q : Sequencer) : Sequencer :=
  { q with activity := .steady, amp := q.amplitude, ctr := 0, ctrEnd := 0 }

/-- A fresh TAPER_UP: phase, counter and amplitude 0; with K = 0 it ends at its own beginning (R35). -/
def beginTaperUp (q : Sequencer) : Sequencer :=
  let q := { q with activity := .taperUp, phase := 0, ctr := 0, ctrEnd := q.taper, amp := 0 }
  if q.taper = 0 then beginSteady q else q

/-- A CYCLE segment is entered: its counted cycles become 0, and APPROACH or TAPER_UP begins (R30, R33). -/
def enterCycle (mean : Int) (q : Sequencer) : Sequencer :=
  let q := { q with segCycles := 0 }
  if q.levels.all (fun l => l = mean) then beginTaperUp q
  else
    { q with activity := .approach, l0 := q.levels, ctr := 0
             ctrEnd := (q.levels.toList.map fun l => approachSteps l mean q.approachRate).foldl max 0 }

/-- The plan ends: DONE, levels held, SEGMENT and LOST removed (R40). -/
def planEnd (i : Fin 48) (q : Sequencer) : Sequencer :=
  { q with state := .done, activity := .none, segment := i, heldCount := q.plan[i].count
           hold := { q.hold with segment := false, lost := false } }

/-- Enters segment i, following LOOPs at the same event (R30, R39, R40). The state afterwards is DONE, or what it was. -/
def enterFrom : Nat → Nat → Sequencer → Sequencer
  | 0, _, q => q
  | fuel + 1, i, q =>
    if h : i < 48 then
      match q.plan[i] with
      | .ramp hold _ ms =>
        { q with segment := ⟨i, h⟩, activity := .ramp, ctr := 0, ctrEnd := 2 * ms, l0 := q.levels
                 hold := { q.hold with segment := q.hold.segment || hold } }
      | .dwell hold ms _ =>
        { q with segment := ⟨i, h⟩, activity := .dwell, ctr := 0, ctrEnd := 2 * ms
                 hold := { q.hold with segment := q.hold.segment || hold } }
      | .cycle hold mean _ _ _ _ _ =>
        enterCycle mean { q with segment := ⟨i, h⟩, hold := { q.hold with segment := q.hold.segment || hold } }
      | .loop target times =>
        if q.loops[i] < times then enterFrom fuel target.val { q with loops := q.loops.set i (q.loops[i] + 1) }
        else enterFrom fuel (i + 1) { q with loops := q.loops.set i 0 }
      | .finish => planEnd ⟨i, h⟩ q
    else planEnd 47 q

/-- More LOOP entries than any chain of them at one event can have: a chain over 48 segments has fewer than 3^48. -/
def loopFuel : Nat := 10 ^ 30

/-- The state becomes RUNNING and segment i is entered at the same event, with one SEQ_STATE notice for RUNNING formed
after the entry; the plan's end and the stop of a hold follow with notices of their own (R26, R29, R30, R40, R42). -/
def runFrom (i : Nat) (s : State) : State :=
  let q := enterFrom loopFuel i { s.psq with state := .running }
  if q.state = .done then
    let s := seqChange (fun q => { q with state := .running }) s
    seqChange (fun _ => q) s
  else seqStopIfHeld (seqChange (fun _ => q) s)

/-- The present segment has ended while RUNNING: the next is entered (R30). -/
def enterNext (s : State) : State :=
  if s.psq.state = .running then
    let q := enterFrom loopFuel (s.psq.segment.val + 1) s.psq
    if q.state = .done then seqChange (fun _ => q) s
    else seqStopIfHeld (s.modSeq fun _ => q)
  else s

/-- TAPER_UP goes on from k after a pause is reversed; with k at K it ends at once (R44). -/
def reverseUp (k : Nat) (q : Sequencer) : Sequencer :=
  let q := { q with state := .running, activity := .taperUp, ctr := k, ctrEnd := q.taper }
  if q.taper ≤ k then beginSteady q else q

/-- What follows when the hold-reason set has become empty (R44). -/
def seqGoOn (s : State) : State :=
  let q := s.psq
  let a : Int := q.amplitude
  match q.state with
  | .holding =>
    if q.activity.isWave then
      if q.count ≤ q.segCycles then runFrom (q.segment.val + 1) s
      else seqChange (fun q => beginTaperUp { q with state := .running }) s
    else seqChange (fun q => { q with state := .running }) s
  | .pausing =>
    if q.activity = .taperDown then
      let k := if q.amplitude = 0 then q.taper else (roundDiv (q.taper * (a - q.amp)) a).toNat
      if q.taper ≤ k then runFrom (q.segment.val + 1) s
      else seqChange (fun q => { q with state := .running, ctr := k, ctrEnd := q.taper }) s
    else
      let k := if q.amplitude = 0 then q.taper else (roundDiv (q.taper * q.amp : Nat) a).toNat
      seqChange (reverseUp k) s
  | .idle | .waitingGo | .running | .done | .aborted => s

/-- Reasons are removed from the hold-reason set; when it becomes empty the sequencer goes on (R44, R45). -/
def removeReasons (f : HoldSet → HoldSet) (s : State) : State :=
  let held := s.psq.hold.any
  let s := s.modSeq fun q => { q with hold := f q.hold }
  if held = true ∧ s.psq.hold.any = false then seqGoOn s else s

/-- ABORTED from a state that is going: levels frozen, SEGMENT and LOST removed (R46). -/
def seqAbort (s : State) : State :=
  if s.psq.state.going then
    seqChange (fun q => leaveSteady { q with state := .aborted, activity := .none, heldCount := q.count
                                             hold := { q.hold with segment := false, lost := false } }) s
  else s

/-- IDLE at the station's entry to SETUP: levels, phase, amplitude and position 0; counts kept (R46). -/
def seqIdle (s : State) : State :=
  let f (q : Sequencer) : Sequencer :=
    leaveSteady { q with state := .idle, activity := .none, segment := 0, phase := 0, amp := 0
                         levels := Vector.replicate 8 0
                         hold := { q.hold with segment := false, lost := false } }
  if s.psq.state = .idle then s.modSeq f else seqChange f s

/-! ### A control sample (R31 to R38, R43) -/

/-- A mark of a track: PEAK or VALLEY, the cycle it belongs to, and whether it is a snapshot mark (R37). -/
structure Mark where
  track : Fin 8
  peak : Bool
  cycle : Nat
  snap : Bool
deriving DecidableEq, Repr

/-- What the sequencer hands on at a sample. -/
structure SeqOut where
  tick : Bool := false
  marks : List Mark := []
  dwellEnd : Bool := false
  next : Bool := false
  held : Bool := false
deriving DecidableEq, Repr

/-- A track crosses point x at a sample: x lies in the half-open interval from its phase before the advance, exclusive,
to its phase after, inclusive, counted forward around the cycle (R37). -/
def crosses (before step x : Nat) : Bool :=
  let d := (x + Config.cycle - before) % Config.cycle
  decide (0 < d) && decide (d ≤ step)

/-- The mark test of one track at a STEADY sample, with the pending-peak memories before and after (R37). -/
def markTrack (tracks : Vector Track 8) (master step cycles interval : Nat) (k : Fin 8)
    (acc : List Mark × Vector (Option Nat) 8) : List Mark × Vector (Option Nat) 8 :=
  let before := trackPhase master tracks[k].offset
  let snapAt (c : Nat) : Bool := decide (interval ≠ 0) && decide (c % interval = 0)
  let acc :=
    if crosses before step 5000000 then
      let c := cycles + 1
      (acc.1 ++ [{ track := k, peak := true, cycle := c, snap := snapAt c }], acc.2.set k (some c))
    else acc
  if crosses before step 15000000 then
    match acc.2[k] with
    | some c => (acc.1 ++ [{ track := k, peak := false, cycle := c, snap := snapAt c }], acc.2.set k none)
    | none => acc
  else acc

/-- All tracks take the level of the present wave (R34). -/
def waveLevels (q : Sequencer) : Sequencer :=
  let (mean, _, _, shape, _, _) := q.wave
  { q with levels := Vector.ofFn fun k => waveLevel mean q.amp shape (trackPhase q.phase q.tracks[k].offset) }

/-- A STEADY sample: phase, levels, counted cycle, and either the end of STEADY or the mark tests (R36, R37). At the wrap that
completes the count TAPER_DOWN stands when the tick acts (log entry 6). -/
def steadySample (q : Sequencer) : Sequencer × SeqOut :=
  let (_, amplitude, freq, _, count, interval) := q.wave
  let (phase, wrap) := advancePhase q.phase freq
  let before := q.phase
  let q := { q with phase := phase, amp := amplitude }
  let q := if wrap then
      { q with segCycles := q.segCycles + 1, totalCycles := satAdd q.totalCycles 1 4294967295 } else q
  let q := waveLevels q
  if wrap = true ∧ count ≤ q.segCycles then
    (leaveSteady { q with activity := .taperDown, ctr := 0, ctrEnd := q.taper },
      { tick := true, next := decide (q.taper = 0) })
  else
    let (marks, peaks) :=
      (List.finRange 8).foldl (fun acc k => markTrack q.tracks before (freq * 100) q.segCycles interval k acc) ([], q.peaks)
    ({ q with peaks := peaks }, { tick := wrap, marks := marks })

/-- A TAPER_UP sample (R35). -/
def taperUpSample (q : Sequencer) : Sequencer :=
  let q := { q with ctr := q.ctr + 1, phase := (advancePhase q.phase q.wave.2.2.1).1 }
  let q := { q with amp := (roundDiv ((q.amplitude * q.ctr : Nat) : Int) (q.taper : Nat)).toNat }
  let q := waveLevels q
  if q.taper ≤ q.ctr then beginSteady q else q

/-- A TAPER_DOWN sample (R38). -/
def taperDownSample (q : Sequencer) : Sequencer × SeqOut :=
  let q := { q with ctr := q.ctr + 1, phase := (advancePhase q.phase q.wave.2.2.1).1 }
  let q := { q with amp := (roundDiv ((q.amplitude * (q.taper - q.ctr) : Nat) : Int) (q.taper : Nat)).toNat }
  (waveLevels q, { next := decide (q.taper ≤ q.ctr) })

/-- A PAUSING sample; at j = M the amplitude is 0 and the state is to become HOLDING (R43). -/
def pausingSample (q : Sequencer) : Sequencer × SeqOut :=
  let q := { q with ctr := q.ctr + 1, phase := (advancePhase q.phase q.wave.2.2.1).1 }
  let q := { q with amp := (roundDiv ((q.pauseAmp * (q.ctrEnd - q.ctr) : Nat) : Int) (q.ctrEnd : Nat)).toNat }
  (waveLevels q, { held := decide (q.ctrEnd ≤ q.ctr) })

/-- The sequencer's part of a control sample: the levels of the sample, and what it hands on (R22, R31 to R38, R43).
In HOLDING after a pause every track stands at the mean (R42, R43). -/
def seqSample (q : Sequencer) : Sequencer × SeqOut :=
  match q.state with
  | .running =>
    match q.activity with
    | .none => (q, {})
    | .ramp =>
      match q.here with
      | .ramp _ l1 _ =>
        let q := { q with ctr := q.ctr + 1 }
        ({ q with levels := q.l0.map fun l0 => rampLevel l0 l1 q.ctr q.ctrEnd }, { next := decide (q.ctrEnd ≤ q.ctr) })
      | .dwell .. | .cycle .. | .loop .. | .finish => (q, {})
    | .dwell =>
      match q.here with
      | .dwell _ _ snapAtEnd =>
        let q := { q with ctr := q.ctr + 1 }
        let ended := decide (q.ctrEnd ≤ q.ctr)
        (q, { dwellEnd := ended && snapAtEnd, next := ended })
      | .ramp .. | .cycle .. | .loop .. | .finish => (q, {})
    | .approach =>
      let mean := q.wave.1
      let q := { q with ctr := q.ctr + 1 }
      let q := { q with levels := q.l0.map fun l0 => approachLevel l0 mean q.approachRate q.ctr }
      (if q.levels.all (fun l => l = mean) then beginTaperUp q else q, {})
    | .taperUp => (taperUpSample q, {})
    | .steady => steadySample q
    | .taperDown => taperDownSample q
  | .pausing => pausingSample q
  | .holding =>
    (if q.activity.isWave then { q with levels := Vector.replicate 8 q.wave.1 } else q, {})
  | .idle => ({ q with levels := Vector.replicate 8 0 }, {})
  | .waitingGo | .done | .aborted => (q, {})

/-- The pause has run its length: HOLDING at the mean (R43). -/
def seqHeld (s : State) : State :=
  if s.psq.state = .pausing then seqChange (fun q => { q with state := .holding }) s else s

end Sys2Proof.Machine
end

