-- ==== Sys2Proof/Machine/Actuation.lean ====
section
/-!
DEFINITION. Machine/Actuation.lean: what a change of an actuator's state, source or derate does at its event (chapters 3, 4
and 5): the handover record (R98, R99), the lost cause (R41), and the entries to each actuator state.
-/
namespace Sys2Proof.Machine

/-! ### The handover record (R98, R99) -/

/-- The handover record is cleared (R98). -/
def Group.clearRecord (g : Group) : Group :=
  { g with recipient := none, selTime := none, reasons := {}, due := false }

/-- The union of two reason sets. -/
def HandReasons.union (a b : HandReasons) : HandReasons :=
  { derate := a.derate || b.derate, recipientOut := a.recipientOut || b.recipientOut
    recipientDerated := a.recipientDerated || b.recipientDerated, join := a.join || b.join }

/-- A selection is made due: its causes join those of a selection already due, and replace those of an earlier one (R99). -/
def Group.makeDue (r : HandReasons) (g : Group) : Group :=
  { g with reasons := if g.due then g.reasons.union r else r, due := true }

/-- What a member's entry to or departure from IN_SHARE does to the handover record of its group (R98, R99). -/
def groupMembership (a : Fin 8) (s : State) : State :=
  match s.groupOf a with
  | none => s
  | some g =>
    if s.short g then
      if s.inShare a then
        if (s.group g).recipient = none then s.modGroup g (Group.makeDue { join := true }) else s
      else if (s.group g).recipient = some a then
        s.modGroup g fun x => Group.makeDue { recipientOut := true } { x with recipient := none }
      else s
    else s.modGroup g Group.clearRecord

/-- The matrix writes an actuator's derate, and the load-group unit takes it as a derate event (R53, R98, R99, R187). -/
def writeDerate (a : Fin 8) (d : Int) (s : State) : State :=
  let old := (s.act a).derate
  let s := s.modAct a fun x => { x with derate := d }
  match s.groupOf a with
  | none => s
  | some g =>
    if s.inShare a then
      if s.short g then
        if d < old then
          if (s.group g).recipient = some a then
            s.modGroup g fun x =>
              Group.makeDue { recipientDerated := true, derate := true } { x with recipient := none }
          else s.modGroup g (Group.makeDue { derate := true })
        else s
      else s.modGroup g Group.clearRecord
    else s

/-! ### The lost cause (R41) -/

/-- The lost cause has come to hold at this event if it did not hold before: LOST is added in the states R41 gives. -/
def lostEdge (before : Bool) (s : State) : State :=
  if before = false ∧ s.lostCause = true ∧ s.psq.state.going = true then addReason .lost s else s

/-! ### Changes of actuator state -/

/-- A lowering that this event brings about, taken by the matrix once the raising in progress is whole (R183). -/
def lowerLater (c : Cond) (s : State) : State :=
  if s.raised c then { s with ev := { s.ev with lowers := s.ev.lowers ++ [c] } } else s

/-- What entry to OFF or TRIPPED clears: C, A, u and the counters; FOLLOWING, STALL and ENVELOPE are lowered (R50). -/
def clearRegs (a : Fin 8) (s : State) : State :=
  let s := s.modAct a fun x => { x with regs := { x.regs with c := 0, a := 0, u := 0 }, follow := 0, stall := 0 }
  lowerLater (.act .envelope a) (lowerLater (.act .stall a) (lowerLater (.act .following a) s))

/-- UNLOADING is left: the unload timer is cancelled and UNLOAD_TIMEOUT lowered (R82, R83, R86). -/
def leaveUnloading (a : Fin 8) (s : State) : State :=
  lowerLater (.unloadTimeout a) (s.modAct a fun x => { x with unload := { x.unload with timerOn := false } })

/-- The new states that queue an ACT_STATE notice (R74). -/
def ActState.notified : ActState → Bool
  | .low | .active | .off | .tripped => true
  | .starting | .raising | .unloading => false

/-- A change of an actuator's state and everything R74 hands on at it. The pressure timer is cancelled (R79) and the valve
drive becomes 0 in OFF, STARTING and TRIPPED (R50). The present control quantity stays (log entry 13). -/
def setActState (a : Fin 8) (new : ActState) (cause : ActCause) (s : State) : State :=
  let old := (s.act a).state
  let before := s.lostCause
  let s := if new = .off ∨ new = .tripped then clearRegs a s else s
  let s := if old = .unloading then leaveUnloading a s else s
  let s := s.modAct a fun x =>
    { x with state := new, timerStart := 0, timerMs := 0
             regs := if new = .starting then { x.regs with u := 0 } else x.regs }
  let s := if old = .active ∨ new = .active then groupMembership a s else s
  let s := lostEdge before s
  if new.notified then
    let n := s.notice .actState a.val new.code old.code cause.code (s.act a).force
    { s with ev := { s.ev with acts := s.ev.acts ++ [(a, n)] } }
  else s

/-- The bumpless switch: C becomes the measured value of the new quantity, the integrator the standing drive (R63). -/
def bumpless (q : Quantity) (x : Actuator) : Actuator :=
  { x with present := q
           regs := { x.regs with c := x.measured q, a := clampSym (x.regs.u * 65536) ((x.gains q).imax * 65536) } }

/-- The stroke hold taken afresh: hold value and C the measured stroke, integrator 0, quantity STROKE (R62, R77). -/
def freshHold (x : Actuator) : Actuator :=
  { x with strokeHold := x.stroke, present := .stroke, regs := { x.regs with c := x.stroke, a := 0 } }

/-- Entry to STARTING with its target state; the pressure timer runs with the low-pressure time (R77). -/
def enterStarting (a : Fin 8) (toActive : Bool) (s : State) : State :=
  let s := setActState a .starting .command s
  s.modAct a fun x => { x with toActive := toActive, timerStart := s.clock.now, timerMs := x.cfg.lowMs }

/-- Entry to RAISING; the pressure timer runs with the high-pressure time (R78). -/
def enterRaising (a : Fin 8) (cause : ActCause) (s : State) : State :=
  let s := setActState a .raising cause s
  s.modAct a fun x => { x with timerStart := s.clock.now, timerMs := x.cfg.highMs }

/-- Entry to ACTIVE from RAISING: FORCE for a group member, else the configured quantity, by a bumpless switch when that
is FORCE (R63, R64, R78). -/
def enterActive (a : Fin 8) (s : State) : State :=
  let q := if (s.groupOf a).isSome then Quantity.force else (s.act a).cfg.quantity
  let s := s.modAct a fun x => if q = .force then bumpless .force x else x
  setActState a .active .timer s

/-- Entry to UNLOADING from ACTIVE, with its destination (R80). Until its first sample the ramp value reads C0 (log entry 13). -/
def enterUnloading (a : Fin 8) (toOff : Bool) (cause : ActCause) (s : State) : State :=
  let s := setActState a .unloading cause s
  s.modAct a fun x =>
    let x := if x.present = .stroke then bumpless .force x else x
    { x with destOff := toOff
             unload := { target := x.cfg.unloadTarget, rate := x.cfg.unloadRate, tol := x.cfg.unloadTol
                         settleMs := x.cfg.unloadSettleMs, timeoutS := x.cfg.unloadTimeoutS
                         c0 := x.regs.c, n := 0, ramp := x.regs.c, settle := 0
                         start := s.clock.now, timerOn := true } }

/-- The completion of an unload: LOW by the switch of R63, or OFF (R82). -/
def completeUnload (a : Fin 8) (s : State) : State :=
  if (s.act a).destOff then setActState a .off .unloadDone s
  else
    let s := s.modAct a fun x => bumpless .stroke { x with strokeHold := x.stroke }
    setActState a .low .unloadDone s

/-- ACT_MODE with target OFF, as the supervisor's command or as the internal unload of a RESTART does it in a state other
than TRIPPED (R10, R76). -/
def actOff (a : Fin 8) (cause : ActCause) (s : State) : State :=
  match (s.act a).state with
  | .starting | .low | .raising => setActState a .off cause s
  | .active => enterUnloading a true cause s
  | .unloading => s.modAct a fun x => { x with destOff := true }
  | .off | .tripped => s

/-- A protection UNLOAD reaches an actuator (R84). -/
def unloadAction (a : Fin 8) (s : State) : State :=
  match (s.act a).state with
  | .active => enterUnloading a false .protection s
  | .raising => setActState a .low .protection s
  | .unloading | .off | .starting | .low | .tripped => s

/-- A protection TRIP reaches an actuator, and the dump of its frame every other pressurized actuator of the frame
(R86, R89). -/
def tripAction (a : Fin 8) (s : State) : State :=
  if (s.act a).state.pressurized then
    let frame := (s.act a).cfg.frame
    forAsc 8 (fun b s =>
      if decide ((s.act b).cfg.frame = frame) && (s.act b).state.pressurized then setActState b .tripped .frame s else s)
      (setActState a .tripped .protection s)
  else s

/-- The actuators a TRIP on a reach takes to TRIPPED, frame consequences included (R190, R191). -/
def trippedBy (reach : ActSet) (s : State) : List (Fin 8) :=
  (List.finRange 8).filter fun a => (s.act a).state.pressurized &&
    (List.finRange 8).any fun b => ActSet.has reach b && (s.act b).state.pressurized &&
      decide ((s.act b).cfg.frame = (s.act a).cfg.frame)

/-- The station enters SAFE: a running plan is aborted, STARTING actuators get target state LOW (R7). -/
def enterSafe (s : State) : State :=
  if s.stc.mode = .safe then s
  else
    let s := seqAbort (s.modStc fun c => { c with mode := .safe })
    forAsc 8 (fun a s => s.modAct a fun x => if x.state = .starting then { x with toActive := false } else x) s

end Sys2Proof.Machine
end

