-- ==== Sys2Proof/Machine/Protection.lean ====
section
/-!
DEFINITION. Machine/Protection.lean: the protection matrix (chapter 10): reach, raising, lowering, merge, trip records, and
the handing on of what an event has formed.
-/
namespace Sys2Proof.Machine

/-! ### Matching, reach and restraints -/

/-- An instance matches an entry (R180). -/
def ProtConfig.matches (p : ProtConfig) (c : Cond) : Bool :=
  decide (p.kind = some c.kind) && (decide (p.inst = none) || decide (p.inst = some c.inst))

/-- The actuator an instance names: its own for the actuator kinds, the track's for STIFFNESS (R178). -/
def Cond.actuator : Cond → Option (Fin 8)
  | .act _ a | .unloadTimeout a | .stiffness a => some a
  | .strainLimit _ | .satLost _ | .zoneAlert _ | .zoneAlarm _ | .auxLimit _ | .haltLoop | .broadcastHalt => none

/-- The zone of a zone kind's instance (R178). -/
def Cond.zone : Cond → Option (Fin 16)
  | .zoneAlert z | .zoneAlarm z => some z
  | .act _ _ | .unloadTimeout _ | .stiffness _ | .strainLimit _ | .satLost _ | .auxLimit _ | .haltLoop
  | .broadcastHalt => none

/-- The reach of a raised instance under a scope, from the configuration standing at the event (R178, R181). A scope that
is not valid for the kind cannot be stored and reaches nothing. -/
def instReach (scope : Scope) (c : Cond) (s : State) : ActSet :=
  match scope, c.actuator with
  | .station, _ => actSetOf fun _ => true
  | .zone, _ => match c.zone with
    | some z => s.zmn.zones[z].cfg.mask
    | none => 0
  | .actuator, some a => actSetOf fun b => decide (b = a)
  | .frame, some a => actSetOf fun b => decide ((s.act b).cfg.frame = (s.act a).cfg.frame)
  | .group, some a => match s.groupOf a with
    | some g => actSetOf fun b => (s.group g).members.any fun m => m.1 = b
    | none => actSetOf fun b => decide (b = a)
  | .actuator, none | .frame, none | .group, none => 0

/-- The action an entry applies: a disabled entry acts as NOTE (R182). -/
def ProtConfig.acting (p : ProtConfig) : Action := if p.enabled then p.action else .note

/-- The entries that are ACTIVE or LATCHED, whose reach holds an actuator and whose action satisfies a test, ascending. -/
def State.entriesOn (s : State) (a : Fin 8) (p : Action → Bool) : List (Fin 40) :=
  (List.finRange 40).filter fun e =>
    let x := s.pmx.entries[e]
    decide (x.st ≠ .quiet) && ActSet.has x.reach a && p x.cfg.acting

/-- The unload restraint of an actuator: the lowest-numbered such entry with action UNLOAD or TRIP (R186). -/
def State.unloadRestraint (s : State) (a : Fin 8) : Option (Fin 40) :=
  (s.entriesOn a fun x => x = .unload ∨ x = .trip).head?

/-- The trip restraint of an actuator (R186). -/
def State.tripRestraint (s : State) (a : Fin 8) : Option (Fin 40) :=
  (s.entriesOn a fun x => x = .trip).head?

/-- The highest action on an actuator, none when no entry holds it (R186). -/
def State.highestAction (s : State) (a : Fin 8) : Option Action :=
  (s.entriesOn a fun _ => true).foldl (fun m e =>
    let x := s.pmx.entries[e].cfg.acting
    match m with
    | none => some x
    | some y => if y.code < x.code then some x else some y) none

/-- The merged derate of an actuator: the lowest DERATE value on it, 1000 when there is none (R186). -/
def State.mergedDerate (s : State) (a : Fin 8) : Int :=
  (s.entriesOn a fun x => x = .derate).foldl (fun m e => min m s.pmx.entries[e].cfg.value) 1000

/-- An enabled HOLD entry is ACTIVE or LATCHED (R45, R188, R194). -/
def State.holdStands (s : State) : Bool :=
  (List.finRange 40).any fun e =>
    let x := s.pmx.entries[e]
    decide (x.st ≠ .quiet) && decide (x.cfg.acting = .hold)

/-- Some entry is ACTIVE or LATCHED (R194). -/
def State.anyEntry (s : State) : Bool := (List.finRange 40).any fun e => decide (s.pmx.entries[e].st ≠ .quiet)

/-- The merge: changed derates are written, ascending (R186, R187). -/
def merge (s : State) : State :=
  forAsc 8 (fun a s =>
    let d := s.mergedDerate a
    if d = (s.act a).derate then s else writeDerate a d s) s

/-! ### Raising -/

/-- The trip record of an application (R192). -/
def tripRecord (e : Fin 40) (c : Cond) (s : State) : TripRec :=
  { entry := e, kind := c.kind, inst := c.inst
    act := if c.kind.isActuator then c.actuator else none
    time := s.time, cycles := s.psq.totalCycles, segment := s.psq.segment.val, seqState := s.psq.state
    forces := s.svc.acts.map Actuator.force }

/-- A trip record is taken into the trip log, whose oldest gives way at eight, and into an empty first-out record
(R192, R193). -/
def Protection.addTrip (r : TripRec) (p : Protection) : Protection :=
  { p with tripLog := (if p.tripLog.length < Config.tripCap then p.tripLog else p.tripLog.drop 1) ++ [r]
           firstOut := match p.firstOut with
             | none => some r
             | some x => some x }

/-- The notice of an entry's entry to ACTIVE: TRIP for an enabled TRIP entry, ENTRY otherwise (R191). -/
def entryNotice (e : Fin 40) (x : ProtConfig) (c : Cond) (reach : ActSet) (s : State) : Notice :=
  if x.acting = .trip then
    s.notice .trip e.val c.kind.code c.inst
      (match c.kind.isActuator, c.actuator with
        | true, some a => a.val
        | _, _ => 65535)
      (trippedBy reach s).length
  else
    s.notice .entry e.val c.kind.code c.inst x.acting.code (if x.acting = .derate then x.value else 0)

/-- The application of an entry's action to the reach of an instance (R187 to R190). -/
def applyAction (x : ProtConfig) (reach : ActSet) (s : State) : State :=
  match x.acting with
  | .note | .derate => s
  | .hold => addReason .protection s
  | .unload =>
    let s := forAsc 8 (fun a s => if ActSet.has reach a then unloadAction a s else s) s
    if x.scope = .station then enterSafe s else s
  | .trip =>
    let s := forAsc 8 (fun a s => if ActSet.has reach a then tripAction a s else s) s
    if x.scope = .station then enterSafe s else s

/-- One entry takes a raising it matches: ACTIVE, raised set, reach, record, notice and application (R182). -/
def takeRaising (e : Fin 40) (c : Cond) (s : State) : State :=
  let x := s.pmx.entries[e]
  if x.cfg.matches c then
    let reach := instReach x.cfg.scope c s
    let entering := decide (x.st ≠ .active)
    let s := s.modEntry e fun x =>
      { x with st := .active, raised := insertAsc c.inst x.raised, reach := x.reach ||| reach }
    let s := if x.cfg.acting = .trip then s.modPmx (Protection.addTrip (tripRecord e c s)) else s
    let s := if entering then offer (entryNotice e x.cfg c reach s) s else s
    applyAction x.cfg reach s
  else s

/-- Sets an instance's state in the condition table (R177). -/
def setCond (c : Cond) (b : Bool) (s : State) : State := s.modPmx fun p => { p with cond := p.cond.set c.slot b }

/-! ### Lowering -/

/-- One entry takes a lowering (R183). -/
def ProtEntry.lower (c : Cond) (x : ProtEntry) : ProtEntry :=
  if x.cfg.matches c && x.raised.contains c.inst then
    let r := x.raised.filter fun i => i ≠ c.inst
    if r.isEmpty then
      if x.cfg.action = .note then { x with st := .quiet, raised := [], reach := 0 }
      else { x with st := .latched, raised := [] }
    else { x with raised := r }
  else x

/-- A lowering handed to the matrix: the table, the entries ascending, the merge (R183). A lowering of an instance that
stands lowered changes nothing (R177). -/
def lower (c : Cond) (s : State) : State :=
  if s.raised c then
    let s := setCond c false s
    merge (s.modPmx fun p => { p with entries := p.entries.map (ProtEntry.lower c) })
  else s

/-! ### The end of an event -/

/-- The ACT_STATE notices an event has formed, in ascending actuator order, then its SEQ_STATE notices (R74, R191). -/
def flushNotices (s : State) : State :=
  let acts := (List.finRange 8).flatMap fun a => (s.ev.acts.filter fun x => x.1 = a).map Prod.snd
  let notices := acts ++ s.ev.seqs
  notices.foldl (fun s n => offer n s) { s with ev := { s.ev with acts := [], seqs := [] } }

/-- The event is whole: its notices are queued, and the lowerings it brought about are taken (R183). -/
def flush (s : State) : State :=
  let s := flushNotices s
  s.ev.lowers.foldl (fun s c => lower c s) { s with ev := { s.ev with lowers := [] } }

/-- A raising handed to the matrix, taken whole: the table, every matching entry ascending, the merge, and then what it
brought about (R182, R183). A raising of an instance that stands raised changes nothing (R177). -/
def raise (c : Cond) (s : State) : State :=
  if s.raised c then s
  else flush (merge (forAsc 40 (fun e s => takeRaising e c s) (setCond c true s)))

/-- A condition is put to a state: raised, or lowered (R68, R177). -/
def setTo (c : Cond) (b : Bool) (s : State) : State := if b then raise c s else lower c s

/-- An entry just written is judged against the condition table: each matching instance that stands raised is taken by it
as a raising, ascending (R180). -/
def judgeEntry (e : Fin 40) (s : State) : State :=
  match s.pmx.entries[e].cfg.kind with
  | none => s
  | some k =>
    k.conds.foldl (fun s c =>
      if s.raised c && s.pmx.entries[e].cfg.matches c then flush (merge (takeRaising e c s)) else s) s

end Sys2Proof.Machine
end

