-- ==== Sys2Proof/Machine/Flags.lean ====
section
/-!
DEFINITION. Machine/Flags.lean: reply statuses, station flags, the reply head (R202, R211) and ATTENTION (R208).
-/
namespace Sys2Proof.Machine

/-- Reply status (00_scope.md; R211). -/
inductive Status where
  | done | clamped | refusedForm | refusedMode | refusedRange | refusedAbsent | refusedState | refusedFull
deriving DecidableEq, Repr

/-- Code of a status (R211). -/
def Status.code : Status → Nat
  | .done => 0
  | .clamped => 1
  | .refusedForm => 128
  | .refusedMode => 129
  | .refusedRange => 130
  | .refusedAbsent => 131
  | .refusedState => 132
  | .refusedFull => 133

/-- The station flags (R202, R211). -/
def State.stationFlags (s : State) : Nat :=
  s.stc.mode.code + bit (!s.sli.notices.isEmpty) 2 + bit s.sli.noticesLost 3 + bit s.stc.haltOpen 4 + bit s.anyEntry 5 +
    bit s.stc.restartPending 6

/-- The four-byte reply head (R211). -/
def replyHead (status : Status) (flags detail : Nat) : List Byte :=
  put1 status.code ++ put1 flags ++ put2 detail

/-- The station drives the shared ATTENTION line while its notice queue is not empty and attention enable is on (R208). -/
def State.attention (s : State) : Bool := !s.sli.notices.isEmpty && s.stc.settings.attentionEnable

end Sys2Proof.Machine
end

