-- ==== Sys2Proof/Machine/Zones.lean ====
section
/-!
DEFINITION. Machine/Zones.lean: the zone monitor's bins, levels, conditions and activity ticks (chapter 9).
-/
namespace Sys2Proof.Machine

/-- The count sum of a zone's window (R165). -/
def Zone.countSum (z : Zone) : Nat := (z.bins.map Bin.count).sum

/-- The energy sum of a zone's window (R165). -/
def Zone.energySum (z : Zone) : Nat := (z.bins.map Bin.energy).sum

/-- The threshold of a level; none where it is unused or the level has none (R163). -/
def Thresholds.at (t : Thresholds) : Level → Option Nat
  | .quiet => none
  | .watch => if t.watch = 0 then none else some t.watch
  | .alert => if t.alert = 0 then none else some t.alert
  | .alarm => if t.alarm = 0 then none else some t.alarm

/-- A sum meets a threshold that is used (R169). -/
def meets (sum : Nat) : Option Nat → Bool
  | none => false
  | some t => decide (t ≤ sum)

/-- A level is met by the count sum or by the energy sum (R169). -/
def Zone.met (z : Zone) (l : Level) : Bool :=
  meets z.countSum (z.cfg.counts.at l) || meets z.energySum (z.cfg.energies.at l)

/-- The present level the window sums give; QUIET for a disabled zone (R169). -/
def Zone.formLevel (z : Zone) : Level :=
  if z.cfg.enabled = false then .quiet
  else if z.met .alarm then .alarm
  else if z.met .alert then .alert
  else if z.met .watch then .watch
  else .quiet

/-- The higher of two levels (R162). -/
def Level.higher (a b : Level) : Level := if a.code < b.code then b else a

/-- The latched level after an evaluation: it follows rises of the present level to ALERT or ALARM (R170). -/
def formLatched (before present latched : Level) : Level :=
  if (present = .alert ∨ present = .alarm) ∧ before.code < present.code ∧ latched.code < present.code then present
  else latched

/-- The levels of a zone after an evaluation (R169 to R171). -/
def Zone.evaluate (z : Zone) : Zone :=
  let present := z.formLevel
  let latched := if z.cfg.enabled then formLatched z.presentLevel present z.latched else .quiet
  { z with presentLevel := present, latched := latched, displayed := present.higher latched }

/-- ZONE_ALERT stands at ALERT and ALARM (R172). -/
def Level.isAlert (l : Level) : Bool := decide (2 ≤ l.code)

/-- The conditions of a zone follow a change of its displayed level: raised ALERT first, lowered ALARM first (R172). -/
def zoneConditions (z : Fin 16) (old new : Level) (s : State) : State :=
  if old.code < new.code then
    let s := if new.isAlert then raise (.zoneAlert z) s else s
    if new = .alarm then raise (.zoneAlarm z) s else s
  else
    let s := if new = .alarm then s else lower (.zoneAlarm z) s
    if new.isAlert then s else lower (.zoneAlert z) s

/-- A zone is evaluated: levels, the ZONE_LEVEL notice of a changed displayed level, and then its conditions
(R169 to R172). -/
def evaluateZone (cause : ZoneCause) (z : Fin 16) (s : State) : State :=
  let old := s.zmn.zones[z].displayed
  let s := s.modZone z Zone.evaluate
  let x := s.zmn.zones[z]
  if x.displayed = old then s
  else
    let s := offer (s.notice .zoneLevel z.val x.displayed.code old.code x.latched.code cause.code) s
    zoneConditions z old x.displayed s

/-- Evaluates a zone that is enabled (R168, R174). -/
def evaluateEnabled (cause : ZoneCause) (z : Fin 16) (s : State) : State :=
  if s.zmn.zones[z].cfg.enabled then evaluateZone cause z s else s

/-- A ring of bins advances: the oldest bin is emptied and becomes the current one (R168). -/
def advanceBins (bins : List Bin) : List Bin := if bins = [] then [] else ({} : Bin) :: bins.dropLast

/-- Every bin emptied, the ring keeping its length and position (R164, R173, R174). -/
def Zone.emptyBins (z : Zone) : Zone := { z with bins := List.replicate z.bins.length {} }

/-- The bin timer is started with a period (R167). -/
def startBinTimer (sec : Nat) (s : State) : State := s.modZmn fun m => { m with timerStart := s.clock.now, timerSec := sec }

/-- An activity tick up to the evaluations: every ring advances, the tick is counted, and the bin timer restarts with the bin time
standing (R167, R168). -/
def startTick (kind : TickKind) (s : State) : State :=
  startBinTimer s.stc.settings.binTime (s.modZmn fun m =>
    { m with zones := m.zones.map fun z => { z with bins := advanceBins z.bins }
             tickCount := (m.tickCount + 1) % 4294967296, lastTick := kind })

/-- An activity tick: the rings advance, and the enabled zones are evaluated ascending (R168). -/
def activityTick (kind : TickKind) (s : State) : State := forAsc 16 (evaluateEnabled .tick) (startTick kind s)

/-- The current bin takes a COUNTED event (R165). -/
def Bin.add (b : Bin) (energy : Nat) : Bin :=
  { count := satAdd b.count 1 65535, energy := satAdd b.energy energy 65535 }

/-- A COUNTED event is handed to its zone (R165). -/
def zoneEvent (z : Fin 16) (hits energy : Nat) (s : State) : State :=
  let s := s.modZone z fun x =>
    { x with lastHits := hits
             bins := match x.bins with
               | [] => []
               | b :: l => b.add energy :: l }
  evaluateZone .event z s

/-- A taken START empties every zone's bins and evaluates the enabled zones (R174). -/
def clearZoneBins (s : State) : State :=
  forAsc 16 (evaluateEnabled .clear) (s.modZmn fun m => { m with zones := m.zones.map Zone.emptyBins })

/-- The period of a bin timer that restarts without a tick: the bin time standing, or the period it has. Which of the two is
a free value, since R14 and R167 differ (log entry 27). -/
def ticklessBinTime (s : State) : Nat := if Config.newBinTimeWithoutTick then s.stc.settings.binTime else s.zmn.timerSec

/-- BIN_TIMER_EXPIRY: no tick in STEADY, else a TIMER tick; the timer restarts either way (R167). -/
def binExpiry (s : State) : State :=
  let s := s.advanceTo (s.zmn.timerStart + s.zmn.timerSec * 1000000)
  if s.psq.state = .running ∧ s.psq.activity = .steady then startBinTimer (ticklessBinTime s) s
  else activityTick .timer s

end Sys2Proof.Machine
end

