-- ==== Sys2Proof/Machine/Strain.lean ====
section
/-!
DEFINITION. Machine/Strain.lean: the strain processor: conversion, limits, zeroing, snapshots and stiffness (chapter 7).
-/
namespace Sys2Proof.Machine

/-! ### Channels -/

/-- The satellite slot of a strain channel (chapter 7). -/
def chanSlot (c : Fin 64) : Fin 4 := ⟨c.val / 16, by omega⟩

/-- The bridge input of a strain channel on its satellite (chapter 7). -/
def chanInput (c : Fin 64) : Fin 16 := ⟨c.val % 16, by omega⟩

/-- The channels of a slot, ascending (chapter 7). -/
def slotChans (x : Fin 4) : List (Fin 64) := (List.finRange 16).map fun i => ⟨x.val * 16 + i.val, by omega⟩

/-- Channel status (R128). -/
inductive ChanStatus where
  | disabled | stale | zeroing | live
deriving DecidableEq, Repr

/-- Code of a channel status (R212). -/
def ChanStatus.code : ChanStatus → Nat
  | .disabled => 0
  | .stale => 1
  | .zeroing => 2
  | .live => 3

/-- The status of a channel, from its enabled setting, its satellite's state and its zeroing (R128). -/
def State.chanStatus (s : State) (c : Fin 64) : ChanStatus :=
  let x := s.stp.chans[c]
  if x.cfg.enabled = false then .disabled
  else if s.glc[chanSlot c].state ≠ .live then .stale
  else if x.zeroing.isSome then .zeroing
  else .live

/-- Judges a value with limits and hysteresis: raised outside the limits, lowered inside the band, else as it stands
(R65, R130). -/
def judgeBand (v low high hyst : Int) (standing : Bool) : Bool :=
  if high < v ∨ v < low then true
  else if low + hyst ≤ v ∧ v ≤ high - hyst then false
  else standing

/-- N of a bridge type (R127). -/
def Bridge.factor : Bridge → Int
  | .quarter => 4
  | .half => 2
  | .full => 1

/-- Steps 1 and 2 of a conversion: bridge strain less the thermal output (R129). -/
def rawStrain (f : ChanConfig) (raw : Int) (temp : Option Int) : Int :=
  let e := roundDiv (f.bridge.factor * (raw - f.zero) * 100) f.gauge
  match temp with
  | none => e
  | some t => e - roundDiv (f.coeff * (t - f.t0)) 100

/-- The temperature a conversion uses: the value of the channel's slot where that is assigned TEMPERATURE (R129). -/
def State.chanTemp (s : State) (f : ChanConfig) : Option Int :=
  match f.tempSlot with
  | none => none
  | some x => if s.axs[x].fn = .temperature then some s.axs[x].value else none

/-- A 32-bit number as its high and low halves (R132, R133). -/
def halves (x : Int) : Int × Int := (((fieldOf 4 x) / 65536 : Nat), ((fieldOf 4 x) % 65536 : Nat))

/-- A conversion counted by a zeroing; the sixteenth sets the new zero (R132). -/
def zeroingStep (c : Fin 64) (raw : Int) (s : State) : State :=
  match s.stp.chans[c].zeroing with
  | none => s
  | some (n, sum) =>
    if n + 1 < 16 then s.modChan c fun x => { x with zeroing := some (n + 1, sum + raw) }
    else
      let new := roundDiv (sum + raw) 16
      let old := s.stp.chans[c].cfg.zero
      let s := s.modChan c fun x => { x with zeroing := none, cfg := { x.cfg with zero := new } }
      offer (s.notice .zeroDone c.val (halves new).1 (halves new).2 (halves old).1 (halves old).2) s

/-- The conversion of one channel: value, OVERRANGE, STRAIN_LIMIT, then its zeroing (R129, R130, R132). That the limit comes
before the end of a zeroing, with its notices, is the model's order (log entry 22). -/
def convert (c : Fin 64) (raw : Int) (s : State) : State :=
  let f := s.stp.chans[c].cfg
  let e := rawStrain f raw (s.chanTemp f)
  let v := clamp e (-300000) 300000
  let s := s.modChan c fun x => { x with value := v, lastRaw := raw, overrange := decide (v ≠ e) }
  let s := setTo (.strainLimit c) (judgeBand v f.low f.high f.hyst (s.raised (.strainLimit c))) s
  zeroingStep c raw s

/-- A strain set of a LIVE satellite: every enabled channel is converted, ascending (R129). -/
def convertSet (x : Fin 4) (set : Vector Int 16) (s : State) : State :=
  (slotChans x).foldl (fun s c => if s.stp.chans[c].cfg.enabled then convert c set[chanInput c] s else s) s

/-- A zeroing in progress fails; the cause is 0 for SATELLITE, 1 for DISABLED (R133). -/
def failZeroing (c : Fin 64) (cause : Int) (s : State) : State :=
  match s.stp.chans[c].zeroing with
  | none => s
  | some (n, _) =>
    let zero := s.stp.chans[c].cfg.zero
    let s := s.modChan c fun x => { x with zeroing := none }
    offer (s.notice .zeroFailed c.val n cause (halves zero).1 (halves zero).2) s

/-- A zeroing of a channel starts, or starts again (R131). -/
def startZeroing (c : Fin 64) (s : State) : State := s.modChan c fun x => { x with zeroing := some (0, 0) }

/-! ### Snapshots -/

/-- The forces of a track's actuators, ascending (R138). -/
def State.trackForces (s : State) (t : Fin 8) : List Int :=
  match s.groupOf t with
  | some g => if (s.group g).lead = some t then (s.group g).members.map fun m => (s.act m.1).force else [(s.act t).force]
  | none => [(s.act t).force]

/-- The value of the track's deflection slot, where one is named and assigned DEFLECTION (R138, R141). -/
def State.trackDeflection (s : State) (t : Fin 8) : Option Int :=
  match s.psq.tracks[t].deflection with
  | none => none
  | some x => if s.axs[x].fn = .deflection then some s.axs[x].value else none

/-- A snapshot record with the values standing at its trigger (R138). -/
def State.snapshot (s : State) (kind : SnapKind) (t : Fin 8) (k : Option Nat) : Snapshot :=
  { kind := kind, track := t, cycles := s.psq.totalCycles, time := s.time, level := s.psq.levels[t]
    forces := s.trackForces t, deflection := s.trackDeflection t, stiffness := k
    strains := s.stp.snapList.map fun c =>
      { ch := c, value := s.stp.chans[c].value
        stale := decide (s.chanStatus c = .stale) || decide (s.chanStatus c = .disabled) } }

/-- A record is offered to the snapshot queue; at 24 records it is discarded and counted (R140). -/
def offerSnap (r : Snapshot) (s : State) : State :=
  s.modStp fun t =>
    if t.snaps.length < Config.snapCap then { t with snaps := t.snaps ++ [r] }
    else { t with skipped := satAdd t.skipped 1 255 }

/-- A DWELL_END trigger: one record for each track in use, ascending (R137). -/
def dwellEndTrigger (s : State) : State :=
  forAsc 8 (fun t s => if s.inUse t then offerSnap (s.snapshot .dwellEnd t none) s else s) s

/-! ### Stiffness -/

/-- Changes the stiffness record and peak store of a track. -/
def State.modStiff (t : Fin 8) (f : Stiff → Stiff) (s : State) : State :=
  s.modStp fun x => { x with stiff := vmod x.stiff t f }

/-- The secant stiffness of a force range over a deflection range, none below 5 units of deflection (R142). -/
def secant (df dd : Int) : Option Nat :=
  if dd.natAbs < 5 then none else some (clamp (roundDiv (100 * df) dd) 0 65535).toNat

/-- A new k of a track: reference, ratio and STIFFNESS (R143). -/
def newStiffness (t : Fin 8) (k : Nat) (s : State) : State :=
  let kref := (s.stp.stiff[t].kRef).getD k
  let ratio := if kref = 0 then none else some (min (1000 * k / kref) 65535)
  let s := s.modStiff t fun x => { x with kRef := some kref, k := some k, ratio := ratio }
  match ratio with
  | none => lower (.stiffness t) s
  | some r => setTo (.stiffness t) (decide (r < s.psq.tracks[t].threshold)) s

/-- The reference of a track is cleared, and a raised STIFFNESS lowered (R143). -/
def clearStiffness (t : Fin 8) (s : State) : State :=
  lower (.stiffness t) (s.modStiff t fun x => { x with kRef := none, k := none, ratio := none })

/-- A PEAK snapshot mark fills the peak store of an in-use track with a deflection slot, and empties that of a track
without one (R141). -/
def fillPeak (m : Mark) (s : State) : State :=
  match s.trackDeflection m.track with
  | none => s.modStiff m.track fun x => { x with peak := none }
  | some d =>
    if s.inUse m.track then
      s.modStiff m.track fun x => { x with peak := some (m.cycle, (s.trackForces m.track).sum, d) }
    else s

/-- The stiffness a VALLEY snapshot mark forms, and whether its conditions held (R142). -/
def valleyStiffness (m : Mark) (s : State) : Bool × Option Nat :=
  match s.trackDeflection m.track, s.stp.stiff[m.track].peak with
  | some d, some (cycle, force, peak) =>
    if cycle = m.cycle then (true, secant (force - (s.trackForces m.track).sum) (peak - d)) else (false, none)
  | _, _ => (false, none)

/-- The strain processor takes a mark: a snapshot mark of an in-use track gives a record, a PEAK fills the peak store, and
a VALLEY first works out the stiffness (R137, R141, R142). -/
def takeMark (m : Mark) (s : State) : State :=
  if m.snap = false then s
  else if m.peak then
    let s := if s.inUse m.track then offerSnap (s.snapshot .peak m.track none) s else s
    fillPeak m s
  else if s.inUse m.track then
    let (held, k) := valleyStiffness m s
    let s := if held then s.modStiff m.track fun x => { x with peak := none } else s
    let s := match k with
      | none => s
      | some k => newStiffness m.track k s
    offerSnap (s.snapshot .valley m.track k) s
  else s

/-- START's request: every track's reference cleared and peak store emptied (R29, R141, R143). -/
def clearAllStiffness (s : State) : State :=
  forAsc 8 (fun t s => clearStiffness t (s.modStiff t fun x => { x with peak := none })) s

end Sys2Proof.Machine
end

