-- ==== Sys2Proof/Machine/Groups.lean ====
section
/-!
DEFINITION. Machine/Groups.lean: the load-group unit's work of one control sample (chapter 5).
-/
namespace Sys2Proof.Machine

/-- The base B of a track at its present level: round(R × L / 10000) (R52). -/
def trackBase (s : State) (t : Fin 8) : Int := roundDiv (s.psq.tracks[t].reference * s.psq.levels[t]) 10000

/-- The sum of the weights of a member list (R95). -/
def weightSum (l : List (Fin 8 × Nat)) : Nat := (l.map Prod.snd).sum

/-- The group total: B with carry-over ON, else its part by the weights (R95). -/
def groupTotal (carry : Bool) (base : Int) (wIn wAll : Nat) : Int :=
  if carry then base else truncDiv (base * wIn) wAll

/-- The shares of the IN_SHARE members, the first of which is the acting lead: each other member its weight's part, the
acting lead the remainder (R95). -/
def shares (total : Int) (sharing : List (Fin 8 × Nat)) : List (Fin 8 × Int) :=
  let wIn := weightSum sharing
  let others := (sharing.drop 1).map fun m => (m.1, truncDiv (total * m.2) wIn)
  match sharing with
  | [] => []
  | m :: _ => (m.1, total - (others.map Prod.snd).sum) :: others

/-- Stage 4 under FORCE control: D = round(S × d / 1000) (R53). -/
def derated (share derate : Int) : Int := roundDiv (share * derate) 1000

/-- The headroom of an actuator at a value D, not below 0 (R100, R103). -/
def headroom (capacity d : Int) : Int := max 0 (capacity - d.natAbs)

/-- The utilization of an actuator at a value D (R100). -/
def utilization (capacity d : Int) : Int := truncDiv ((d.natAbs : Int) * 1000) capacity

/-- The member of lowest utilization, the earliest of the list among equals (R100). -/
def lowest (l : List (Fin 8 × Int)) : Option (Fin 8 × Int) :=
  l.foldl (fun m x =>
    match m with
    | none => some x
    | some y => if x.2 < y.2 then some x else some y) none

/-- The candidates of a selection in tie order, with their utilizations: the IN_SHARE members with derate 1000 and
headroom (R100). The order is the LRU order or the member order, by the tie policy (R100, R101). -/
def candidates (g : Fin 4) (s : State) : List (Fin 8 × Int) :=
  let x := s.group g
  let order := match x.tie with
    | .lru => x.lru
    | .first => x.members.map Prod.fst
  (order.filter fun a =>
      s.inShare a && decide ((s.act a).derate = 1000) && decide (0 < headroom (s.act a).cfg.capacity (s.act a).regs.d)).map
    fun a => (a, utilization (s.act a).cfg.capacity (s.act a).regs.d)

/-- A due selection is made, with its notice (R100 to R102). -/
def selectRecipient (g : Fin 4) (s : State) : State :=
  let x := s.group g
  if x.due then
    let time := some (s.time, s.psq.totalCycles)
    match lowest (candidates g s) with
    | some (a, u) =>
      let s := s.modGroup g fun y =>
        { y with due := false, recipient := some a, selTime := time, lru := y.lru.filter (fun b => b ≠ a) ++ [a] }
      offer (s.notice .handover g.val a.val x.reasons.code u x.sf) s
    | none =>
      let s := s.modGroup g fun y => { y with due := false, recipient := none, selTime := time }
      offer (s.notice .handoverNone g.val 65535 x.reasons.code (s.sharing g).length x.sf) s
  else s

/-- The handover amount of a shortfall over a headroom (R103). -/
def handover (sf room : Int) : Int := if sf < 0 then -(min (-sf) room) else min sf room

/-- Steps 1 and 2 of R104: the shares and the stage 4 values go to the members' registers, the totals to the group. -/
def formShares (g : Fin 4) (lead : Fin 8) (s : State) : State :=
  let x := s.group g
  let sharing := s.sharing g
  let level := s.psq.levels[lead]
  let base := trackBase s lead
  let total := groupTotal x.carry base (weightSum sharing) (weightSum x.members)
  let s := (shares total sharing).foldl (fun s m =>
    s.modAct m.1 fun y =>
      { y with regs := { y.regs with l := level, b := base, s := m.2, d := derated m.2 y.derate } }) s
  s.modGroup g fun y =>
    { y with shared := sharing.map Prod.fst, base := base, total := total, wIn := weightSum sharing }

/-- The shortfall of a group: what the derates of its IN_SHARE members remove, 0 when it is not short (R97). -/
def shortfall (g : Fin 4) (s : State) : Int :=
  if s.short g then
    (((s.sharing g).filter fun m => decide ((s.act m.1).derate < 1000)).map fun m =>
      (s.act m.1).regs.s - (s.act m.1).regs.d).sum
  else 0

/-- The handover amount and the uncarried amount of a sample (R103). -/
def formHandover (g : Fin 4) (s : State) : State :=
  s.modGroup g fun y =>
    match y.recipient with
    | none => { y with h := 0, uncarried := y.sf }
    | some a =>
      let h := handover y.sf (headroom (s.act a).cfg.capacity (s.act a).regs.d)
      { y with h := h, uncarried := y.sf - h }

/-- The work of one control sample for one group, up to stage 5 (R104). A group with no IN_SHARE member forms nothing
(R95); its B then reads 0 with its total (log entry 23). -/
def groupSample (g : Fin 4) (s : State) : State :=
  match (s.group g).lead, s.sharing g with
  | some lead, _ :: _ =>
    let s := formShares g lead s
    let s := s.modGroup g fun y => { y with sf := shortfall g s }
    formHandover g (selectRecipient g s)
  | _, _ =>
    s.modGroup g fun y => { y with shared := [], base := 0, total := 0, wIn := 0, sf := 0, h := 0, uncarried := 0 }

end Sys2Proof.Machine
end

