-- ==== Sys2Proof/Machine/Servo.lean ====
section
/-!
DEFINITION. Machine/Servo.lean: sensors, the setpoint chain and the PI loop of one control sample, and the judging of the
actuator conditions (chapter 3), with the unload ramp and its settle counter (R81, R82).
-/
namespace Sys2Proof.Machine

/-! ### Sensors (R49) -/

/-- A reading is saturated when it reaches or passes an end of its range (R49). -/
def saturated (x : Int) : Bool := decide (x ≤ -32768) || decide (32767 ≤ x)

/-- The readings of every actuator are taken (R49). -/
def readSensors (r : Readings) (s : State) : State :=
  { s with svc := { s.svc with acts := Vector.ofFn fun a =>
      { s.svc.acts[a] with force := clamp r.force[a] (-32768) 32767, stroke := clamp r.stroke[a] (-32768) 32767
                           forceSat := saturated r.force[a], strokeSat := saturated r.stroke[a] } } }

/-! ### Stages 1 to 5 -/

/-- The unload ramp value at sample n: toward the target, and no further (R81). -/
def unloadRamp (c0 target rate : Int) (n : Nat) : Int :=
  if c0 = target then target
  else if c0 < target then
    let x := roundDiv (c0 * 2000 + rate * n) 2000
    if target ≤ x then target else x
  else
    let x := roundDiv (c0 * 2000 - rate * n) 2000
    if x ≤ target then target else x

/-- Stages 2 to 4 of an actuator in no group, from its base (R52, R53). L stays what it was; with source MANUAL, which has no
level (R51), it is the last one (log entry 13). -/
def soloStages (base : Int) (x : Actuator) : Regs :=
  { x.regs with b := base, s := base, d := if x.present = .force then derated base x.derate else base }

/-- Stages 1 to 5: the registers they form, and the value that enters stage 6 (R48, R51 to R54). -/
def demand (s : State) (a : Fin 8) (x : Actuator) : Regs × Int :=
  match x.state with
  | .active =>
    match s.groupOf a with
    | some g => (x.regs, x.regs.d + if (s.group g).recipient = some a then (s.group g).h else 0)
    | none =>
      match x.source with
      | .manual =>
        let r := soloStages (match x.present with
          | .force => x.manualForce
          | .stroke => x.manualStroke) x
        (r, r.d)
      | .sequencer =>
        if s.psq.tracks[a].quantity = x.present then
          let r := soloStages (trackBase s a) { x with regs := { x.regs with l := s.psq.levels[a] } }
          (r, r.d)
        else (x.regs, x.regs.c)
  | .unloading => (x.regs, x.unload.ramp)
  | .low | .raising => (x.regs, x.strokeHold)
  | .off | .starting | .tripped => (x.regs, x.regs.h)

/-! ### Stages 6 to 9 -/

/-- Stage 6: capacity or stroke limits (R55). -/
def capacityClamp (x : Actuator) (h : Int) : Int :=
  match x.present with
  | .force => clampSym h x.cfg.capacity
  | .stroke => clamp h x.cfg.strokeLow x.cfg.strokeHigh

/-- The enabled windows of a quantity that cover an actuator, ascending (R56, R57). -/
def coveringWindows (w : Vector Window 6) (q : Quantity) (a : Fin 8) : List (Fin 6) :=
  (List.finRange 6).filter fun i => w[i].enabled && decide (w[i].quantity = q) && ActSet.has w[i].acts a

/-- A value lies in a window (R56). -/
def Window.holds (w : Window) (v : Int) : Bool := decide (w.lower ≤ v) && decide (v ≤ w.upper)

/-- The distance of a value outside a window from it (R57). -/
def Window.distance (w : Window) (v : Int) : Int := if v < w.lower then w.lower - v else v - w.upper

/-- The nearest window, the lowest index among equals (R57). -/
def nearest (w : Vector Window 6) (v : Int) (l : List (Fin 6)) : Option (Fin 6) :=
  l.foldl (fun m i =>
    match m with
    | none => some i
    | some j => if w[i].distance v < w[j].distance v then some i else some j) none

/-- Stage 7: E, and the window clamped to where a clamp happens (R57). With no covering window there is no boundary to
clamp to, and E is H (log entry 16). -/
def windowClamp (w : Vector Window 6) (q : Quantity) (a : Fin 8) (h : Int) : Int × Option (Fin 6) :=
  let l := coveringWindows w q a
  if l.any fun i => w[i].holds h then (h, none)
  else
    match nearest w h l with
    | none => (h, none)
    | some i => (if h < w[i].lower then w[i].lower else w[i].upper, some i)

/-- Stage 9: error, proportional term, trial output, integrator and drive (R59). -/
def piLoop (g : Gains) (measured c a : Int) : Int × Int × Int × Int × Int :=
  let e := c - measured
  let p := roundDiv (g.kp * e) 256
  let ut := p + roundDiv a 65536
  let hold := decide (10000 ≤ ut.natAbs) && decide (e ≠ 0) && decide ((e < 0) ↔ (ut < 0))
  let anew := if hold then a else clampSym (a + g.ki * e) (g.imax * 65536)
  (e, p, ut, anew, clampSym (p + roundDiv anew 65536) 10000)

/-- Stages 6 to 9 on a value of H, with the counters of FOLLOWING and STALL (R55 to R59, R66, R67). -/
def loopStages (w : Vector Window 6) (a : Fin 8) (r : Regs) (h : Int) (x : Actuator) : Actuator :=
  let h := capacityClamp x h
  let (e, clampedTo) := windowClamp w x.present a h
  let g := x.gains x.present
  let c := r.c + clampSym (e - r.c) g.rate
  let (err, p, ut, anew, u) := piLoop g (x.measured x.present) c r.a
  { x with regs := { r with h := h, e := e, c := c, err := err, p := p, ut := ut, a := anew, u := u }
           clampWindow := clampedTo
           follow := if x.cfg.followLimit < err.natAbs then x.follow + 1 else 0
           stall := if u.natAbs = 10000 then x.stall + 1 else 0 }

/-- The unload's ramp counter, ramp value and settle counter at a sample (R81, R82). -/
def unloadSample (x : Actuator) : Actuator :=
  if x.state = .unloading then
    let n := x.unload.n + 1
    { x with unload :=
        { x.unload with n := n, ramp := unloadRamp x.unload.c0 x.unload.target x.unload.rate n
                        settle := if (x.force - x.unload.target).natAbs ≤ x.unload.tol then x.unload.settle + 1 else 0 } }
  else x

/-- The servo's part of a control sample for one actuator (R48). -/
def servoSample (s : State) (a : Fin 8) : Actuator :=
  let x := unloadSample (s.act a)
  if x.state.servoRuns then
    let d := demand s a x
    loopStages s.svc.windows a d.1 d.2 x
  else { x with clampWindow := none }

/-- Every actuator's servo at a sample. Each reads the values of the sample, and none what another servo writes (R48). -/
def runServos (s : State) : State :=
  { s with svc := { s.svc with acts := Vector.ofFn fun a => servoSample s a } }

/-! ### Conditions (R49, R57, R65 to R68) -/

/-- What a counter asks of its condition: raised once the counter has reached its value, lowered at 0 (R66, R67). A value
lowered to or below the counter that runs has been reached at the next sample (log entry 26). -/
def counterCond (count : Nat) (ms : Nat) : Option Bool :=
  if count = 0 then some false else if 2 * ms ≤ count then some true else none

/-- What the values of a sample ask of one condition of an actuator, where the servo runs for those of the loop
(section 3.7). -/
def askedCond (k : ActCond) (a : Fin 8) (v : State) : Option Bool :=
  let x := v.act a
  let standing := v.raised (.act k a)
  let loop (b : Option Bool) : Option Bool := if x.state.servoRuns then b else none
  match k with
  | .forceLimit => some (judgeBand x.force x.cfg.forceLow x.cfg.forceHigh x.cfg.forceHyst standing)
  | .strokeLimit => some (judgeBand x.stroke x.cfg.strokeLow x.cfg.strokeHigh x.cfg.strokeHyst standing)
  | .sensorRange => some (x.forceSat || x.strokeSat)
  | .following => loop (counterCond x.follow x.cfg.followMs)
  | .stall => loop (counterCond x.stall x.cfg.stallMs)
  | .envelope => loop (some x.clampWindow.isSome)

/-- The raising (true) or lowering (false) of a condition that the values of a sample bring, if any: of an enabled actuator,
and only where the condition does not stand so already (R68). -/
def dueChange (k : ActCond) (a : Fin 8) (v : State) : Option Bool :=
  if (v.act a).cfg.enabled then (askedCond k a v).filter fun b => b != v.raised (.act k a) else none

/-- The conditions of the loop, which entry to OFF or TRIPPED lowers (R50). -/
def loopCond : ActCond → Bool
  | .following | .stall | .envelope => true
  | .forceLimit | .strokeLimit | .sensorRange => false

/-- A change that the values `v` of a sample bring is handed to the matrix, whatever the same sample has brought before
(R68, R185). Where that has left the actuator TRIPPED or OFF, the entry to that state lowers a condition of the loop as soon
as its raising is whole (R50, R183; log entry 6). -/
def judgeCond (k : ActCond) (a : Fin 8) (v s : State) : State :=
  match dueChange k a v with
  | none => s
  | some false => lower (.act k a) s
  | some true =>
    let s := raise (.act k a) s
    if loopCond k && !(s.act a).state.servoRuns then lower (.act k a) s else s

/-- The settle counter of an unload has reached its value (R82). -/
def unloadDue (x : Actuator) : Bool := decide (x.state = .unloading) && decide (2 * x.unload.settleMs ≤ x.unload.settle)

/-- A piece of the work of a sample, with the zone or the mark it is about. -/
inductive SampleWork where
  | zone (z : Fin 16)
  | mark (m : Mark)
  | cond (k : ActCond) (a : Fin 8)
  | completion (a : Fin 8)
deriving DecidableEq, Repr

/-- A piece of work is done, each whole: a zone is evaluated, a mark is taken, a condition is judged from the values `v` of
the sample, or an unload that is due by them completes if it still goes on (R68, R82, R137, R168, R185). -/
def doWork (v : State) (s : State) (w : SampleWork) : State :=
  match w with
  | .zone z => evaluateEnabled .tick z s
  | .mark m => takeMark m s
  | .cond k a => judgeCond k a v s
  | .completion a =>
    if unloadDue (v.act a) && decide ((s.act a).state = .unloading) then flush (completeUnload a s) else s

/-- The conditions of the actuators and the completions of their unloads in the order taken when nothing is put first:
actuators ascending, the conditions in the order of their codes, then the completion (log entry 6). -/
def sampleItems : List SampleItem :=
  (List.finRange 8).flatMap fun a =>
    [.cond .forceLimit a, .cond .strokeLimit a, .cond .following a, .cond .stall a, .cond .sensorRange a,
     .cond .envelope a, .completion a]

/-- The work of a list of items on the zones of a tick and the marks of a sample, each taken in its own order: an item that
finds no zone or mark left is none. What is left of both follows (R185; log entry 6). -/
def workOf : List SampleItem → List (Fin 16) → List Mark → List SampleWork
  | [], zones, marks => zones.map .zone ++ marks.map .mark
  | .zone :: l, z :: zones, marks => .zone z :: workOf l zones marks
  | .zone :: l, [], marks => workOf l [] marks
  | .mark :: l, zones, m :: marks => .mark m :: workOf l zones marks
  | .mark :: l, zones, [] => workOf l zones []
  | .cond k a :: l, zones, marks => .cond k a :: workOf l zones marks
  | .completion a :: l, zones, marks => .completion a :: workOf l zones marks

/-- The items put first, with a condition or a completion that stands there more than once taken once (log entry 20). -/
def onceEach : List SampleItem → List SampleItem → List SampleItem
  | _, [] => []
  | seen, .zone :: l => .zone :: onceEach seen l
  | seen, .mark :: l => .mark :: onceEach seen l
  | seen, i :: l => if seen.contains i then onceEach seen l else i :: onceEach (i :: seen) l

/-- All the work of a sample: the items put first, then what is left of zones and marks, then the other items
(R185; log entry 6). -/
def sampleWork (first : List SampleItem) (zones : List (Fin 16)) (marks : List Mark) : List SampleWork :=
  workOf (onceEach [] first) zones marks ++ workOf (sampleItems.filter fun i => !first.contains i) [] []

/-- Work on what the sequencer hands on, which may come before the end of the present segment (log entry 6). -/
def SampleWork.ofSequencer : SampleWork → Bool
  | .zone _ | .mark _ => true
  | .cond .. | .completion _ => false

end Sys2Proof.Machine
end

