-- ==== Sys2Proof/Machine/Sample.lean ====
section
/-!
DEFINITION. Machine/Sample.lean: the control sample as a whole (R48, R104), and what each of its named events is.
-/
namespace Sys2Proof.Machine

/-- The time of a control sample, 500 µs after the one before or later (00_scope.md, "Time bases"; log entry 2). -/
def sampleTime (s : State) : State :=
  let s := s.advanceTo s.clock.nextSample
  { s with clock := { s.clock with nextSample := s.clock.now + Config.samplePeriod } }

/-- The values of a control sample: sensors, track levels, shares, servos; and what the sequencer hands on
(R22, R48, R49, R104). -/
def sampleValues (r : Readings) (s : State) : State × SeqOut :=
  let s := readSensors r (sampleTime s)
  let q := seqSample s.psq
  let s := forAsc 4 groupSample (s.modSeq fun _ => q.1)
  (runServos s, q.2)

/-- What a sample that ends something brings: the dwell-end trigger, the end of the pause, the entry of the next segment
(R30, R32, R43). -/
def endSegment (o : SeqOut) (s : State) : State :=
  let s := if o.dwellEnd then dwellEndTrigger s else s
  let s := if o.held then seqHeld s else s
  flush (if o.next then enterNext s else s)

/-- What a sample brings besides its values: the tick, and the work on its zones, its marks and its conditions in the order
that is put first; the present segment ends before the first condition of an actuator is judged, after the zones and the
marks that come before it. What is due is read from the values of the sample, `s`, in which TAPER_DOWN stands already where
the tick is that of the last counted cycle (R30, R36, R37, R68, R166, R168, R185; log entry 6). -/
def sampleEvents (first : List SampleItem) (o : SeqOut) (s : State) : State :=
  let v := s
  let s := if o.tick then startTick .cycle s else s
  let work := sampleWork first (if o.tick then List.finRange 16 else []) o.marks
  let s := (work.takeWhile SampleWork.ofSequencer).foldl (doWork v) s
  (work.dropWhile SampleWork.ofSequencer).foldl (doWork v) (endSegment o s)

/-- A control sample (R48). -/
def controlSample (r : Readings) (s : State) : State :=
  let v := sampleValues r s
  sampleEvents r.first v.2 v.1

/-- A control sample taken only if it brings what its row names; otherwise nothing has arrived (log entry 2). -/
def sampleIf (b : Bool) (r : Readings) (s : State) : State := if b then controlSample r s else s

/-- The sample brings FOLLOWING of an actuator by its counter (R66). -/
def followingReached (a : Fin 8) (r : Readings) (s : State) : Bool :=
  decide (dueChange .following a (sampleValues r s).1 = some true)

/-- The sample brings STALL of an actuator by its counter (R67). -/
def stallReached (a : Fin 8) (r : Readings) (s : State) : Bool :=
  decide (dueChange .stall a (sampleValues r s).1 = some true)

/-- The sample completes an unload (R82). -/
def completionReached (a : Fin 8) (r : Readings) (s : State) : Bool := unloadDue ((sampleValues r s).1.act a)

/-- The next sample ends an activity of a running plan (R31 to R38). -/
def endsActivity (x : Activity) (s : State) : Bool :=
  let q := seqSample s.psq
  decide (s.psq.state = .running) && decide (s.psq.activity = x) && (decide (q.1.activity ≠ x) || q.2.next)

/-- The next sample is a counted cycle (R36). -/
def countsCycle (s : State) : Bool := (seqSample s.psq).2.tick

/-- The next sample ends the pause (R43). -/
def endsPause (s : State) : Bool := (seqSample s.psq).2.held

end Sys2Proof.Machine
end

