-- ==== Sys2Proof/Machine/Auxiliary.lean ====
section
/-!
DEFINITION. Machine/Auxiliary.lean: the auxiliary slots' values, edges and AUX_LIMIT (section 1.7).
-/
namespace Sys2Proof.Machine

/-- An analog function (R17). -/
def SlotFn.isAnalog : SlotFn → Bool
  | .deflection | .crackGauge | .temperature | .supplyPressure => true
  | .none | .digitalIn | .pendantHold | .pendantResume | .dumpOut | .beaconOut => false

/-- A contact function (R19). -/
def SlotFn.isContact : SlotFn → Bool
  | .digitalIn | .pendantHold | .pendantResume => true
  | .none | .deflection | .crackGauge | .temperature | .supplyPressure | .dumpOut | .beaconOut => false

/-- The functions a slot can take (R15). -/
def SlotFn.takenBy (f : SlotFn) (x : Fin 16) : Bool :=
  match f with
  | .none | .digitalIn | .pendantHold | .pendantResume => true
  | .dumpOut | .beaconOut => decide (x.val ≤ 13)
  | .deflection | .crackGauge | .temperature | .supplyPressure => decide (x.val ≤ 9)

/-- The value of an analog sample (R17). -/
def analogValue (x : Slot) (raw : Int) : Int :=
  let v := roundDiv (raw * x.scale) 1000 + x.offset
  if x.fn = .supplyPressure then clamp v 0 65535 else v

/-- The value of a contact level: 1 closed, 0 open (R19). -/
def contactValue (closed : Bool) : Int := if closed then 1 else 0

/-- AUX_LIMIT of a slot as its value or contact state and its record give it (R16, R17, R19). -/
def auxStands (x : Slot) : Bool :=
  if x.fn.isAnalog then decide (x.value < x.low) || decide (x.high < x.value)
  else decide (x.fn = .digitalIn) && x.openFault && decide (x.value = 0)

/-- AUX_LIMIT is raised or lowered against the slot's present value or contact state (R16, R17, R19). -/
def judgeAux (x : Fin 16) (s : State) : State := setTo (.auxLimit x) (auxStands s.axs[x]) s

/-- An auxiliary analog sample; a slot of another function takes none (R17). -/
def analogSample (x : Fin 16) (raw : Int) (s : State) : State :=
  if s.axs[x].fn.isAnalog then judgeAux x (s.modSlot x fun y => { y with value := analogValue y raw }) else s

/-- A contact function senses the contact's present state, without an edge (R15, R20). -/
def senseContact (x : Fin 16) (s : State) : State :=
  if s.axs[x].fn.isContact then judgeAux x (s.modSlot x fun y => { y with value := contactValue y.closed }) else s

/-- What an edge at a contact slot does (R19). -/
def edgeEffect (x : Fin 16) (closed : Bool) (s : State) : State :=
  match s.axs[x].fn with
  | .digitalIn => if s.axs[x].openFault then setTo (.auxLimit x) (!closed) s else s
  | .pendantHold => if closed then flush (addReason .pendant s) else s
  | .pendantResume => if closed then flush (removeReasons (fun h => h.put false .pendant) s) else s
  | .none | .deflection | .crackGauge | .temperature | .supplyPressure | .dumpOut | .beaconOut => s

/-- A contact input has held a new state for 10 ms: the terminal's level, and the edge at a contact slot (R19). -/
def contactEdge (x : Fin 16) (closed : Bool) (s : State) : State :=
  let old := s.axs[x]
  let s := s.modSlot x fun y => { y with closed := closed }
  if old.fn.isContact = true ∧ old.value ≠ contactValue closed then
    edgeEffect x closed (s.modSlot x fun y => { y with value := contactValue closed })
  else s

end Sys2Proof.Machine
end

