-- ==== Sys2Proof/Machine/Emission.lean ====
section
/-!
DEFINITION. Machine/Emission.lean: hits, the hit queue, the event builder and the event log (chapter 8).
-/
namespace Sys2Proof.Machine

/-- A reading of the hit clock is later than another: their difference modulo 2^32, read signed, is above 0 (R147). -/
def later (a b : HitTime) : Bool := decide (0 < (a - b).toInt)

/-- Time has come to a reading of the hit clock, or stands where it is if that is not later (R147). -/
def State.advanceToHit (t : HitTime) (s : State) : State :=
  s.advanceTo (s.clock.now + ((t - s.hitClock).toInt).toNat)

/-- A channel is in a set of AE channels (R209: bit k for Ek). -/
def AeSet.has (m : AeSet) (c : Fin 12) : Bool := m.getLsbD c.val

/-! ### The event builder -/

/-- The zone an event is placed in: the first enabled one that matches (R157). -/
def zoneLookup (e : OpenEvent) (s : State) : Option (Fin 16) :=
  (List.finRange 16).find? fun z =>
    let f := s.zmn.zones[z].cfg
    f.enabled && AeSet.has f.first e.f &&
      match e.s with
      | none => decide (f.second = 0)
      | some c => AeSet.has f.second c && decide (f.dtLow ≤ e.dt) && decide (e.dt ≤ f.dtHigh)

/-- The load gate of a zone passes an event (R158). -/
def gatePasses (f : ZoneConfig) (e : OpenEvent) : Bool :=
  match f.track, f.gate with
  | some t, some g => decide (g ≤ e.stamp.levels[t])
  | _, _ => true

/-- The disposition of an event at its closure, with its zone (R157, R158). -/
def dispose (e : OpenEvent) (s : State) : Disposition × Option (Fin 16) :=
  if e.stamp.role = .guard then (.guarded, none)
  else
    match zoneLookup e s with
    | none => (.unzoned, none)
    | some z => if gatePasses s.zmn.zones[z].cfg e then (.counted, some z) else (.gated, some z)

/-- An event record is appended to the event log; at 32 records the oldest gives way (R159). -/
def logEvent (r : EventRec) (u : Emission) : Emission :=
  if u.log.length < Config.eventCap then { u with log := u.log ++ [r] }
  else { u with log := u.log.drop 1 ++ [r], overwritten := true }

/-- The open event closes: hits-lost, disposition, log, and a COUNTED event to its zone (R155 to R159). -/
def closeEvent (e : OpenEvent) (s : State) : State :=
  let d := dispose e s
  let r : EventRec :=
    { f := e.f, s := e.s, dt := e.s.map fun _ => e.dt, hits := e.hits, maxAmp := e.maxAmp, energy := e.energy
      zone := d.2, disposition := d.1, cycles := e.stamp.cycles, time := e.stamp.time
      hitsLost := s.aeu.hitsLost, long := e.long }
  let s := s.modAeu fun u => logEvent r { u with event := none, hitsLost := false }
  match d with
  | (.counted, some z) => zoneEvent z e.hits e.energy s
  | _ => s

/-- The event a COMPLETE record opens (R154). -/
def openEvent (r : HitRec) (window : Nat) : OpenEvent :=
  { f := r.ch, s := none, dt := 0, tFirst := r.arrival, windowEnd := r.arrival + BitVec.ofNat 32 window, hits := 1
    maxAmp := r.peak, energy := r.energy, long := r.long, stamp := r.stamp }

/-- A COMPLETE record joins the open event (R154). -/
def OpenEvent.join (r : HitRec) (e : OpenEvent) : OpenEvent :=
  let e := { e with hits := satAdd e.hits 1 255, maxAmp := max e.maxAmp r.peak
                    energy := satAdd e.energy r.energy 65535, long := e.long || r.long }
  if e.s = none ∧ r.ch ≠ e.f then { e with s := some r.ch, dt := (r.arrival - e.tFirst).toNat } else e

/-- One step of the event builder; none where it stands at a wait (R153). -/
def buildStep (s : State) : Option State :=
  match s.aeu.event, s.aeu.hits with
  | none, [] => none
  | none, r :: rest =>
    if r.complete then some (s.modAeu fun u => { u with hits := rest, event := some (openEvent r u.window) }) else none
  | some e, [] => if later s.hitClock e.windowEnd then some (closeEvent e s) else none
  | some e, r :: rest =>
    if later r.arrival e.windowEnd then some (closeEvent e s)
    else if r.complete then some (s.modAeu fun u => { u with hits := rest, event := some (e.join r) })
    else none

/-- The builder works the head of the queue until it stands at a wait. Every second step takes a record, so twice their
number of steps and one are enough (R153). -/
def build : Nat → State → State
  | 0, s => s
  | fuel + 1, s =>
    match buildStep s with
    | none => s
    | some s' => build fuel s'

/-- The builder is offered a change (R153). -/
def buildAll (s : State) : State := build (2 * s.aeu.hits.length + 2) s

/-! ### Hits -/

/-- A hit's record in the queue takes new values: the one OPEN record of its channel (R150, R152). -/
def updateRecord (c : Fin 12) (f : HitRec → HitRec) (u : Emission) : Emission :=
  { u with hits := u.hits.map fun r => if r.ch = c ∧ r.complete = false then f r else r }

/-- A crossing in IDLE begins a hit: running values, timers, record and arrival stamp; a full queue loses the record and
sets hits-lost (R147, R149, R152). -/
def beginHit (c : Fin 12) (x : Crossing) (s : State) : State :=
  let cfg := s.aeu.chans[c].cfg
  let room := decide (s.aeu.hits.length < Config.hitCap)
  let stamp : Stamp := { time := s.time, cycles := s.psq.totalCycles, levels := s.psq.levels, role := cfg.role }
  let rec0 : HitRec :=
    { ch := c, arrival := x.time, peak := x.amplitude, energy := x.energy, long := false, complete := false
      stamp := stamp }
  let s := s.modAe c fun y =>
    { y with state := .inHit
             hit := { cfg := cfg, arrival := x.time, peak := x.amplitude, energy := x.energy, lastCrossing := x.time
                      hdtAt := x.time + BitVec.ofNat 32 cfg.hdt, durAt := x.time + BitVec.ofNat 32 cfg.maxDur
                      hasRecord := room } }
  let s := s.modAeu fun u =>
    if room then { u with hits := u.hits ++ [rec0] } else { u with hitsLost := true }
  buildAll s

/-- A crossing joins the running hit (R150). -/
def joinHit (c : Fin 12) (x : Crossing) (s : State) : State :=
  let s := s.modAe c fun y =>
    { y with hit := { y.hit with peak := max y.hit.peak x.amplitude, energy := satAdd y.hit.energy x.energy 65535
                                 lastCrossing := x.time, hdtAt := x.time + BitVec.ofNat 32 y.hit.cfg.hdt } }
  let h := s.aeu.chans[c].hit
  if h.hasRecord then s.modAeu (updateRecord c fun r => { r with peak := h.peak, energy := h.energy }) else s

/-- A crossing handed over by a channel's front end (R148). -/
def takeCrossing (c : Fin 12) (x : Crossing) (s : State) : State :=
  let s := s.advanceToHit x.time
  match s.aeu.chans[c].state with
  | .idle => if s.aeu.chans[c].cfg.role = .off then s else beginHit c x s
  | .inHit => joinHit c x s
  | .lockout => s

/-- A running hit ends: LOCKOUT with the HLT it began with, its record COMPLETE, and the builder offered the change
(R150, R151). With HLT 0 the lockout ends at once. -/
def endHit (c : Fin 12) (long : Bool) (s : State) : State :=
  let h := s.aeu.chans[c].hit
  let s := s.modAe c fun y =>
    { y with state := if h.cfg.hlt = 0 then .idle else .lockout
             lockoutAt := if h.cfg.hlt = 0 then 0 else s.hitClock + BitVec.ofNat 32 h.cfg.hlt, hit := {} }
  let s := if h.hasRecord then s.modAeu (updateRecord c fun r =>
      { r with peak := h.peak, energy := h.energy, long := long, complete := true }) else s
  buildAll s

/-- HDT expiry (R150). -/
def hdtExpiry (c : Fin 12) (s : State) : State :=
  if s.aeu.chans[c].state = .inHit then endHit c false (s.advanceToHit s.aeu.chans[c].hit.hdtAt) else s

/-- Duration expiry (R151). -/
def durationExpiry (c : Fin 12) (s : State) : State :=
  if s.aeu.chans[c].state = .inHit then endHit c true (s.advanceToHit s.aeu.chans[c].hit.durAt) else s

/-- Lockout expiry: the channel enters IDLE (R151). -/
def lockoutExpiry (c : Fin 12) (s : State) : State :=
  if s.aeu.chans[c].state = .lockout then
    (s.advanceToHit s.aeu.chans[c].lockoutAt).modAe c fun y => { y with state := .idle, lockoutAt := 0 }
  else s

/-- The window timer of the open event expires when the hit clock passes the window end (R153, R154). -/
def windowExpiry (s : State) : State :=
  match s.aeu.event with
  | none => s
  | some e => buildAll (s.advanceToHit (e.windowEnd + 1))

end Sys2Proof.Machine
end

