-- ==== Sys2Proof/Machine/Gauge.lean ====
section
/-!
DEFINITION. Machine/Gauge.lean: the gauge link controller: polls, answers, settles, orders, drains and restorations
(chapter 6).
-/
namespace Sys2Proof.Machine

/-! ### Entries and images -/

/-- Code of a satellite field (R212). -/
def SatSetting.field : SatSetting → Nat
  | .excitation _ => 0
  | .gain _ => 1
  | .filter _ => 2
  | .shunt _ => 3

/-- Code of the value within its field (R212). -/
def SatSetting.value : SatSetting → Nat
  | .excitation v => v.val
  | .gain v => v.val
  | .filter v => v.val
  | .shunt v => v.val

/-- The setting a field code and a value code name (R115, R212). -/
def SatSetting.ofCodes (field value : Nat) : Option SatSetting :=
  match field with
  | 0 => if h : value < 2 then some (.excitation ⟨value, h⟩) else none
  | 1 => if h : value < 4 then some (.gain ⟨value, h⟩) else none
  | 2 => if h : value < 3 then some (.filter ⟨value, h⟩) else none
  | 3 => if h : value < 2 then some (.shunt ⟨value, h⟩) else none
  | _ => none

/-- A channel of the image takes a setting (R117). -/
def ImageCh.put (c : ImageCh) : SatSetting → ImageCh
  | .excitation v => { c with excitation := v }
  | .gain v => { c with gain := v }
  | .filter v => { c with filter := v }
  | .shunt v => { c with shunt := v }

/-- The settings of an image channel that differ from the satellite defaults, in the order of R120. -/
def ImageCh.diffs (c : ImageCh) : List SatSetting :=
  (if c.excitation = 0 then [] else [.excitation c.excitation]) ++
  (if c.gain = 0 then [] else [.gain c.gain]) ++
  (if c.filter = 1 then [] else [.filter c.filter]) ++
  (if c.shunt = 0 then [] else [.shunt c.shunt])

/-- The restoration list an image gives (R120). -/
def restoration (image : Vector ImageCh 16) : List Entry :=
  (List.finRange 16).flatMap fun i => image[i].diffs.map fun x => { ch := i, setting := x, origin := .restore }

/-! ### The slot's state -/

/-- SETTLING or LIVE: orders are sent (R110). -/
def SatState.answering : SatState → Bool
  | .settling | .live => true
  | .absent | .seeking | .lost => false

/-- The slot has nothing pending (R112). -/
def Sat.idle (x : Sat) : Bool := x.posted.isEmpty && x.restore.isEmpty && x.inFlight.isNone && !x.draining

/-- A settle starts; with interval 0 its timer expires at once (R112). -/
def Sat.startSettle (now : Nat) (x : Sat) : Sat :=
  { x with settleStart := now, settlePeriod := x.settleMs, settleRunning := decide (x.settleMs ≠ 0), seen := false }

/-- The running settle is dropped (R111, R112). -/
def Sat.dropSettle (x : Sat) : Sat :=
  { x with settleStart := 0, settlePeriod := 0, settleRunning := false, seen := false }

/-- The SAT_STATE notice of a slot (R114). -/
def satNotice (x : Fin 4) (prev : SatState) (cause : SatCause) (s : State) : State :=
  let y := s.glc[x]
  offer (s.notice .satState x.val y.state.code prev.code cause.code ((y.posted.length + y.restore.length : Nat))) s

/-- A change of a slot's state, or of what R114 reports like one: the change, its SAT_STATE notice, the zeroings that fail
when LIVE is left, and SAT_LOST (R110, R114, R124, R133). -/
def satChange (x : Fin 4) (cause : SatCause) (f : Sat → Sat) (s : State) : State :=
  let prev := s.glc[x].state
  let s := satNotice x prev cause (s.modSat x f)
  let new := s.glc[x].state
  let s := if prev = .live ∧ new ≠ .live then (slotChans x).foldl (fun s c => failZeroing c 0 s) s else s
  if new = .lost then raise (.satLost x) s
  else if prev = .lost then lower (.satLost x) s
  else s

/-- Entry to SETTLING, or a settle started again there, with its notice (R112, R114). -/
def toSettling (x : Fin 4) (cause : SatCause) (f : Sat → Sat) (s : State) : State :=
  satChange x cause (fun y => ({ f y with state := .settling } : Sat).startSettle s.clock.now) s

/-- Entry to SEEKING: the first poll is sent and the poll timer runs (R107, R109, R111). -/
def Sat.seek (now : Nat) (x : Sat) : Sat :=
  { x with present := true, state := .seeking, unanswered := 0, awaiting := true, carried := false
           pollAt := now + Config.pollPeriod }

/-- Entry to ABSENT: queues emptied, the order in flight dropped, drain and settle ended, the poll timer stopped
(R111, R123). -/
def Sat.remove (x : Sat) : Sat :=
  { x.dropSettle with present := false, state := .absent, posted := [], restore := [], inFlight := none
                      carried := false, draining := false, unanswered := 0, awaiting := false, pollAt := 0 }

/-- Entry to LIVE at the completion of a settle (R112). -/
def toLive (x : Fin 4) (s : State) : State :=
  satChange x .settled (fun y => { y.dropSettle with state := .live }) s

/-! ### Polls -/

/-- The order chosen at a poll when none is in flight (R116). -/
def Sat.choose (x : Sat) : Option Order :=
  match x.restore, x.posted with
  | e :: _, _ => some (.config e)
  | [], e :: _ => some (.config e)
  | [], [] => if x.draining then some .reset else none

/-- The poll sent at a poll time, with the order in flight while SETTLING or LIVE (R107, R111, R116). -/
def Sat.poll (now : Nat) (x : Sat) : Sat :=
  let order := if x.state.answering then (match x.inFlight with
    | some o => some o
    | none => x.choose) else x.inFlight
  { x with inFlight := order, carried := x.state.answering && order.isSome, awaiting := true
           pollAt := now + Config.pollPeriod }

/-- A slot's poll time: the unanswered count, the loss at the third, and the poll (R107, R111). -/
def pollTime (x : Fin 4) (s : State) : State :=
  if s.glc[x].state = .absent then s
  else
    let s := s.advanceTo s.glc[x].pollAt
    let s := s.modSat x fun y => if y.awaiting then { y with unanswered := min 3 (y.unanswered + 1) } else y
    let s := if s.glc[x].unanswered = 3 ∧ s.glc[x].state.answering = true then
        satChange x .noAnswer (fun y => { y.dropSettle with state := .lost }) s
      else s
    s.modSat x (Sat.poll s.clock.now)

/-! ### Answers -/

/-- The steps of R120 on a slot: restoration list from the image, image to the defaults, drain ended; `resetOrder` says that
the reset order leaves flight (R120, R122). -/
def Sat.restoreFromImage (resetOrder : Bool) (x : Sat) : Sat :=
  { x with restore := restoration x.image, image := Vector.replicate 16 {}, draining := false
           inFlight := if resetOrder then none else x.inFlight }

/-- An entry whose verdict has come leaves flight and its list (R117). -/
def Sat.removeEntry (e : Entry) (x : Sat) : Sat :=
  match e.origin with
  | .posted => { x with inFlight := none, posted := x.posted.drop 1 }
  | .restore => { x with inFlight := none, restore := x.restore.drop 1 }

/-- An accepted entry: removed, and the image takes its value (R117). -/
def Sat.accept (e : Entry) (x : Sat) : Sat :=
  let x := x.removeEntry e
  { x with image := vmod x.image e.ch fun c => c.put e.setting }

/-- An answer with the fresh flag is a fresh restart (R122). -/
def Sat.freshRestart (fresh : Bool) (x : Sat) : Bool :=
  fresh && !(restoration x.image).isEmpty && x.restore.isEmpty && decide (x.inFlight ≠ some .reset)

/-- A rejected entry: removed, with a SAT_REJECT notice (R117). -/
def rejectEntry (x : Fin 4) (e : Entry) (s : State) : State :=
  let s := s.modSat x (Sat.removeEntry e)
  offer (s.notice .satReject x.val e.ch.val e.setting.field e.setting.value e.origin.code) s

/-- A strain set taken into the settle; with the timer expired it completes the settle, and is handed on as the first set
of LIVE (R112, R113). -/
def settleSet (x : Fin 4) (ans : SatAnswer) (s : State) : State :=
  if ans.valid = true ∧ s.glc[x].idle = true then
    let s := s.modSat x fun y => { y with seen := true }
    if s.glc[x].settleRunning then s else convertSet x ans.set (toLive x s)
  else s

/-- What the verdict and the fresh flag of an answer bring (R113, R117, R120, R122). -/
inductive AnswerEffect where
  | accepted (e : Entry)
  | rejected (e : Entry)
  | resetDone
  | none
deriving DecidableEq, Repr

/-- The effective verdict: only for the order the poll carried, and a fresh answer to a reset order is its completion
(R117, R120, R122). -/
def Sat.effect (x : Sat) (carried : Bool) (ans : SatAnswer) : AnswerEffect :=
  match carried, x.inFlight, ans.verdict with
  | true, some (.config e), some .accepted => .accepted e
  | true, some (.config e), some .rejected => .rejected e
  | true, some .reset, some .resetDone => .resetDone
  | true, some .reset, _ => if ans.fresh then .resetDone else .none
  | _, _, _ => .none

/-- What follows an answer that is not accepted and no reset's completion: a fresh restart, or INVALID in LIVE (R113, R122). -/
def freshOrInvalid (x : Fin 4) (ans : SatAnswer) (s : State) : State :=
  if s.glc[x].freshRestart ans.fresh then toSettling x .fresh (Sat.restoreFromImage false) s
  else if s.glc[x].state = .live ∧ ans.valid = false then toSettling x .invalid id s
  else s

/-- An answer taken in SETTLING or LIVE (R112, R113, R117, R120, R122). In LIVE the set is converted before the verdict is
taken, the set of an answer with a REJECTED verdict does not count for a settle, and a REJECTED verdict is taken before the
change to SETTLING that a clear valid flag brings (log entry 14). -/
def answerAnswering (x : Fin 4) (carried : Bool) (ans : SatAnswer) (s : State) : State :=
  let live := decide (s.glc[x].state = .live)
  let effect := s.glc[x].effect carried ans
  let s := if live && ans.valid then convertSet x ans.set s else s
  match effect with
  | .accepted e =>
    if live then toSettling x .config (Sat.accept e) s
    else s.modSat x fun y => (y.accept e).startSettle s.clock.now
  | .resetDone => toSettling x .resetDone (Sat.restoreFromImage true) s
  | .rejected e => freshOrInvalid x ans (rejectEntry x e s)
  | .none =>
    if s.glc[x].freshRestart ans.fresh then freshOrInvalid x ans s
    else if live then freshOrInvalid x ans s
    else settleSet x ans s

/-- An answer taken in SEEKING or LOST: SETTLING with cause ANSWER, then the completion of a reset in flight at the loss, a
fresh restart, or the set taken into the settle (R111, R121, R122). -/
def answerReturning (x : Fin 4) (ans : SatAnswer) (s : State) : State :=
  let reset := decide (s.glc[x].state = .lost) && decide (s.glc[x].inFlight = some .reset)
  let s := toSettling x .answer id s
  if reset then toSettling x .resetDone (Sat.restoreFromImage true) s
  else if s.glc[x].freshRestart ans.fresh then toSettling x .fresh (Sat.restoreFromImage false) s
  else settleSet x ans s

/-- Whether an answer is taken: the slot is present, the latest poll waits for it, and it is not late (R107). -/
def answerTaken (x : Fin 4) (ans : SatAnswer) (s : State) : Bool :=
  decide (s.glc[x].state ≠ .absent) && s.glc[x].awaiting && !ans.late

/-- A satellite's answer; a late one is discarded (R107, R111). -/
def takeAnswer (x : Fin 4) (ans : SatAnswer) (s : State) : State :=
  if answerTaken x ans s then
    let carried := s.glc[x].carried
    let s := s.modSat x fun y =>
      { y with awaiting := false, carried := false, unanswered := 0, lastFresh := ans.fresh, lastValid := ans.valid }
    if s.glc[x].state.answering then answerAnswering x carried ans s else answerReturning x ans s
  else s

/-- The settle timer's expiry (R112). -/
def settleExpiry (x : Fin 4) (s : State) : State :=
  if s.glc[x].state = .settling ∧ s.glc[x].settleRunning = true then
    let s := s.advanceTo (s.glc[x].settleStart + s.glc[x].settlePeriod * 1000)
    let s := s.modSat x fun y => { y with settleRunning := false }
    if s.glc[x].seen then toLive x s else s
  else s

end Sys2Proof.Machine
end

