-- ==== Sys2Proof/Machine/Reset.lean ====
section
/-!
DEFINITION. Machine/Reset.lean: the three resets (section 1.5): what each clears, defaults and keeps, block by block.
-/
namespace Sys2Proof.Machine

/-- A slot after a reset that keeps its record: value restarted (R20). -/
def Slot.restart (x : Slot) : Slot := { x with value := 0 }

/-- A slot after a reset to defaults: only the terminal's level is what it was (R16, R20). -/
def Slot.default (x : Slot) : Slot := { closed := x.closed }

/-- The sequencer after a reset that keeps configuration (R47). -/
def Sequencer.restart (q : Sequencer) : Sequencer :=
  { plan := q.plan, taperMs := q.taperMs, approachRate := q.approachRate, tracks := q.tracks }

/-- An actuator after a reset that keeps configuration (R69, R91). -/
def Actuator.restart (x : Actuator) : Actuator :=
  { cfg := x.cfg, source := x.source, manualForce := x.manualForce, manualStroke := x.manualStroke
    gainsForce := x.gainsForce, gainsStroke := x.gainsStroke, present := x.cfg.quantity }

/-- A group after a reset that keeps configuration: record kept, LRU order ascending, the rest clear (R106). -/
def Group.restart (g : Group) : Group :=
  { members := g.members, carry := g.carry, tie := g.tie, lru := g.members.map Prod.fst }

/-- A satellite slot after a reset that keeps configuration: ABSENT, or SEEKING with the first poll sent (R126). -/
def Sat.restart (x : Sat) : Sat :=
  let y : Sat := { present := x.present, settleMs := x.settleMs, image := x.image }
  if x.present then y.seek 0 else y

/-- A strain channel after a reset that keeps configuration (R135). -/
def Chan.restart (x : Chan) : Chan := { cfg := x.cfg }

/-- An AE channel after a reset that keeps configuration (R161). -/
def AeChan.restart (x : AeChan) : AeChan := { cfg := x.cfg }

/-- A zone after a reset that keeps configuration (R176). -/
def Zone.restart (z : Zone) : Zone := { cfg := z.cfg, bins := List.replicate z.cfg.bins {} }

/-- An entry after a reset that keeps configuration (R179, R195). -/
def ProtEntry.restart (x : ProtEntry) : ProtEntry := { cfg := x.cfg }

/-- What follows the completion of a reset: the RESET notice, the HALT loop's present state as the first event, and the
start of contact sensing, whose raisings of AUX_LIMIT come together and are taken X0 to X15 (R9, R13, R19, R20; the order:
log entry 6). -/
def afterReset (s : State) : State :=
  let s := offer (resetNotice s.stc.address s.stc.resetRecord.code) s
  let s := if s.stc.haltOpen then raise .haltLoop s else s
  forAsc 16 senseContact s

/-- The state POWER and LINE leave before the first event: configuration at its defaults, run state cleared, trip log,
first-out, replies and error count emptied, a frame partly received abandoned, the address read from the straps
(R12, R196, R202). The levels of the inputs are what
they were. -/
def coldState (straps : Address) (record : ResetRecord) (s : State) : State :=
  { stc := { resetRecord := record, address := straps, haltOpen := s.stc.haltOpen }
    axs := s.axs.map Slot.default
    pending := s.pending }

/-- POWER and LINE (R12). -/
def coldReset (straps : Address) (record : ResetRecord) (s : State) : State := afterReset (coldState straps record s)

/-- The state a RESTART leaves before the first event: run state cleared; trip log, first-out, address, error count, held
replies and receiver kept; configuration kept with keep-settings on, else at its defaults; keep-settings off
(R11, R196, R202). -/
def restartState (s : State) : State :=
  let keep := s.stc.settings.keepSettings
  let base : State :=
    { stc := { resetRecord := { power := false, restart := true, keep := keep }, address := s.stc.address
               haltOpen := s.stc.haltOpen }
      sli := { linkErrors := s.sli.linkErrors, replies := s.sli.replies, sendDue := s.sli.sendDue - s.clock.now
               rx := s.sli.rx }
      axs := s.axs.map Slot.default
      pmx := { tripLog := s.pmx.tripLog, firstOut := s.pmx.firstOut }
      pending := s.pending }
  if keep then
    { base with
      stc := { base.stc with settings := { s.stc.settings with keepSettings := false } }
      axs := s.axs.map Slot.restart
      psq := s.psq.restart
      svc := { acts := s.svc.acts.map Actuator.restart, windows := s.svc.windows }
      lgu := s.lgu.map Group.restart
      glc := s.glc.map Sat.restart
      stp := { chans := s.stp.chans.map Chan.restart, snapList := s.stp.snapList }
      aeu := { chans := s.aeu.chans.map AeChan.restart, window := s.aeu.window }
      zmn := { zones := s.zmn.zones.map Zone.restart, timerSec := s.stc.settings.binTime }
      pmx := { base.pmx with entries := s.pmx.entries.map ProtEntry.restart } }
  else base

/-- The reset of a RESTART (R11). -/
def restartReset (s : State) : State := afterReset (restartState s)

/-- Every actuator is OFF or TRIPPED (R10, R11). -/
def State.allAtRest (s : State) : Bool := (List.finRange 8).all fun a => (s.act a).state.atRest

/-- At the end of every event: the reset of a pending RESTART once every actuator is at rest (R11). -/
def finish (s : State) : State :=
  if s.stc.restartPending = true ∧ s.allAtRest = true then restartReset s else s

/-- A RESTART that finds actuators loaded: restart-pending, and what ACT_MODE OFF does to each (R10). -/
def restartWait (s : State) : State :=
  flush (forAsc 8 (fun a s => actOff a .restart s) (s.modStc fun c => { c with restartPending := true }))

end Sys2Proof.Machine
end

