-- ==== Sys2Proof/Machine/Link.lean ====
section
/-!
DEFINITION. Machine/Link.lean: delivery, command acceptance and the holding of replies (sections 11.2 to 11.4).
-/
namespace Sys2Proof.Machine

/-! ### Delivery (R198, R199) -/

/-- How a frame reaches the station; a broadcast is a group delivery (R198, R199). -/
inductive Delivery where
  | ignored | group | addressed
deriving DecidableEq, Repr

/-- The delivery of a frame by its source and destination, the station address and the station mask (R198). -/
def State.delivery (s : State) (f : Frame) : Delivery :=
  if f.src ≠ 0 ∨ 32 ≤ f.dst.toNat then .ignored
  else if f.dst = 0 then .group
  else if s.stc.address = 0 then .ignored
  else
    let d : Address := f.dst.setWidth 5
    if d = s.stc.address then .addressed
    else if d &&& ~~~s.stc.settings.mask = s.stc.address &&& ~~~s.stc.settings.mask then .group
    else .ignored

/-! ### The receiver (R196, R197) -/

/-- The link error count increases, saturating (R197). -/
def countLinkError (s : State) : State := s.modLink fun l => { l with linkErrors := satAdd l.linkErrors 1 65535 }

/-- Bytes are received, and each frame among them that fails framing is counted (R196, R197). -/
def receiveBytes (bytes : List Byte) (s : State) : State :=
  let x := takeBytes s.sli.rx bytes
  (x.2.filter FrameEnd.failed).foldl (fun s _ => countLinkError s) (s.modLink fun l => { l with rx := x.1 })

/-- More than 2 ms have passed since the last byte received: a frame after its marker is dropped and counted
(R196, R197). -/
def spacingTimeout (s : State) : State :=
  if 2 ≤ s.sli.rx.length then countLinkError (s.modLink fun l => { l with rx := [] }) else s

/-- A sound frame has been received whole: the receiver hunts again (R196). -/
def State.received (s : State) : State := s.modLink fun l => { l with rx := [] }

/-! ### Replies (R202) -/

/-- The reply frame on the line: destination 0, source the station address, command and tag echoed (R202, R211). -/
def State.replyFrame (s : State) (r : Reply) : List Byte :=
  encodeFrame r.code { dst := 0, src := s.stc.address.setWidth 8, tag := r.tag, payload := r.payload }

/-- The time a reply with n payload bytes takes to send, 9 + n byte times of ten bits at 115,200 bit/s, in µs rounded up
(R196, R202). -/
def sendTime (n : Nat) : Nat := ((9 + n) * 3125 + 35) / 36

/-- A reply is held; it begins to be sent at once when no other is held (R202). -/
def holdReply (r : Reply) (s : State) : State :=
  s.modLink fun l =>
    { l with replies := l.replies ++ [r]
             sendDue := if l.replies.isEmpty then s.clock.now + sendTime r.payload.length else l.sendDue }

/-- A reply has been sent whole, and the next begins to be sent (R202). -/
def replyDone (s : State) : State :=
  match s.sli.replies with
  | [] => s
  | _ :: rest =>
    let s := s.advanceTo s.sli.sendDue
    s.modLink fun l =>
      { l with replies := rest
               sendDue := match rest with
                 | [] => 0
                 | r :: _ => s.clock.now + sendTime r.payload.length }

/-! ### Acceptance (R200, R201) -/

/-- What a command's own tests and effect give: a refusal with its detail, or the state after it with status, detail and
the payload that follows the reply head (R200 to R202). -/
inductive Answer where
  | refuse (status : Status) (detail : Nat)
  | take (status : Status) (detail : Nat) (payload : List Byte) (s : State)
deriving DecidableEq, Repr

/-- Executed with DONE, detail FFFFh (R200). -/
def Answer.ok (payload : List Byte) (s : State) : Answer := .take .done Config.noDetail payload s

/-- Executed with no payload. -/
def Answer.done (s : State) : Answer := .ok [] s

/-- Executed, CLAMPED with the offset of the first clamped field where there is one (R201). -/
def Answer.clamped (first : Option Nat) (payload : List Byte) (s : State) : Answer :=
  match first with
  | none => .ok payload s
  | some offset => .take .clamped offset payload s

/-- REFUSED_RANGE, detail FFFFh. -/
def Answer.range : Answer := .refuse .refusedRange Config.noDetail

/-- REFUSED_MODE. -/
def Answer.mode : Answer := .refuse .refusedMode Config.noDetail

/-- REFUSED_STATE with a detail. -/
def Answer.state (detail : Nat) : Answer := .refuse .refusedState detail

/-- A test of command acceptance: the answer goes on where it holds, and is the refusal where it fails (R200). -/
def Answer.test (b : Bool) (fail : Answer) (rest : Answer) : Answer := if b then rest else fail

/-- A field that is refused with REFUSED_RANGE where it names nothing (R200, R201). -/
def Answer.get {α : Type} (x : Option α) (rest : α → Answer) : Answer :=
  match x with
  | none => .range
  | some a => rest a

/-- A command taken in SETUP alone (R3). -/
def Answer.inSetup (s : State) (rest : Answer) : Answer := .test (s.stc.mode = .setup) .mode rest

/-- The offset of the first clamped field of a list of fields: whether each was clamped, and its offset (R201). -/
def firstClamped (l : List (Bool × Nat)) : Option Nat := (l.find? Prod.fst).map Prod.snd

/-- The reply to an answer, formed with the flags standing after the command has acted, or at the arrival of a refused one
(R200, R202). -/
def answerReply (code : Byte) (f : Frame) (s : State) : Answer → Reply
  | .refuse status detail => { code := code, tag := f.tag, payload := replyHead status s.stationFlags detail }
  | .take status detail payload s' =>
    { code := code, tag := f.tag, payload := replyHead status s'.stationFlags detail ++ payload }

/-- The state an answer leaves, before its reply is held. -/
def Answer.after (s : State) : Answer → State
  | .refuse _ _ => s
  | .take _ _ _ s' => s'

/-- The Form and Pending groups and then the command's own tests (R200): a payload of the catalogue's length, and while a
restart is pending only STATUS and FETCH. -/
def accept (length : List Byte → Nat) (whilePending : Bool) (body : List Byte → State → Answer) (f : Frame) (s : State) : Answer :=
  if f.payload.length ≠ length f.payload then .refuse .refusedForm Config.noDetail
  else if s.stc.restartPending = true ∧ whilePending = false then .refuse .refusedState Config.noDetail
  else body f.payload s

/-- An addressed frame: dropped and counted at four held replies, else answered (R202). -/
def addressed (code : Byte) (answer : State → Answer) (f : Frame) (s : State) : State :=
  if Config.replyCap ≤ s.sli.replies.length then countLinkError s
  else
    let a := answer s
    holdReply (answerReply code f s a) (a.after s)

/-- A command frame, whose arrival leaves the receiver hunting, taken through the Address group: ignored, dropped, or
answered. A group or broadcast delivery does nothing for a command outside the five of R199 (R196, R198). -/
def command (code : Byte) (length : List Byte → Nat) (body : List Byte → State → Answer) (f : Frame) (s : State) : State :=
  match s.delivery f with
  | .ignored | .group => s.received
  | .addressed => addressed code (accept length false body f) f s.received

/-- A command of the five that group and broadcast deliveries execute, without a reply; one with a payload, or one that
arrives while restart-pending is set, is dropped (R199). -/
def groupCommand (code : Byte) (body : State → Answer) (f : Frame) (s : State) : State :=
  match s.delivery f with
  | .ignored => s.received
  | .group =>
    if f.payload = [] ∧ s.stc.restartPending = false then (body s.received).after s.received else s.received
  | .addressed => addressed code (accept (fun _ => 0) false (fun _ s => body s) f) f s.received

/-- STATUS and FETCH: taken while a restart is pending as well (R200). -/
def readCommand (code : Byte) (body : State → Answer) (f : Frame) (s : State) : State :=
  match s.delivery f with
  | .ignored | .group => s.received
  | .addressed => addressed code (accept (fun _ => 0) true (fun _ s => body s) f) f s.received

/-- The command codes of the catalogue (R209). -/
def catalogue : List Nat :=
  [0x01, 0x02, 0x03, 0x04, 0x05, 0x06, 0x07, 0x08, 0x09,
   0x10, 0x11, 0x12, 0x13, 0x14, 0x15, 0x16, 0x17, 0x18,
   0x20, 0x21, 0x22, 0x23, 0x24, 0x25, 0x26, 0x27, 0x30, 0x31,
   0x38, 0x39, 0x3A, 0x3B, 0x3C, 0x40, 0x41, 0x42, 0x43, 0x44, 0x45, 0x46,
   0x50, 0x51, 0x52, 0x53, 0x54, 0x60, 0x61, 0x62, 0x63, 0x64, 0x70]

/-- An addressed frame whose command code is not in the catalogue is answered REFUSED_FORM (R200). This row cannot carry a
code of the catalogue, and does nothing with one (log entry 20). -/
def unknownCode (code : Byte) (f : Frame) (s : State) : State :=
  if catalogue.contains code.toNat then s.received
  else
    match s.delivery f with
    | .ignored | .group => s.received
    | .addressed => addressed code (fun _ => .refuse .refusedForm Config.noDetail) f s.received

/-! ### The end of a step -/

/-- A step is whole: the state it leaves, after the reset of a pending RESTART where that is due (R11). No row of the table
stops the station. -/
def stepDone (s : State) : Host.Outcome State Fault Refusal := .next (finish s)

end Sys2Proof.Machine
end

