-- ==== Sys2Proof/Machine/Acoustics.lean ====
section
/-!
DEFINITION. Machine/Acoustics.lean: the meanings of the emission unit's events and of AE_CHANNEL and AE_FETCH (chapter 8).
-/
namespace Sys2Proof.Machine

/-! ### Events -/

/-- THRESHOLD_CROSSING (R148). -/
def execThresholdCrossing (ch : Fin 12) (x : Crossing) (s : State) : Host.Outcome State Fault Refusal :=
  stepDone (takeCrossing ch x s)

/-- HDT_EXPIRY (R150). -/
def execHdtExpiry (ch : Fin 12) (s : State) : Host.Outcome State Fault Refusal := stepDone (hdtExpiry ch s)

/-- DURATION_EXPIRY (R151). -/
def execDurationExpiry (ch : Fin 12) (s : State) : Host.Outcome State Fault Refusal := stepDone (durationExpiry ch s)

/-- LOCKOUT_EXPIRY (R151). -/
def execLockoutExpiry (ch : Fin 12) (s : State) : Host.Outcome State Fault Refusal := stepDone (lockoutExpiry ch s)

/-- WINDOW_TIMER_EXPIRY (R153). -/
def execWindowTimerExpiry (s : State) : Host.Outcome State Fault Refusal := stepDone (windowExpiry s)

/-! ### AE_CHANNEL -/

/-- An AE channel record as stored (R145). -/
def AeConfig.bytes (c : AeConfig) : List Byte :=
  put1 c.role.code ++ put1 c.threshold ++ put2 c.hdt ++ put2 c.hlt ++ put2 c.maxDur

/-- The channel form (R145). -/
def aeChannelForm (p : List Byte) (s : State) : Answer :=
  .get (indexOf 12 (u8 p 0)) fun c =>
  .get (AeRole.ofCode (u8 p 1)) fun role =>
  .test (inRange 20 99 (u8 p 2) && inRange 50 1000 (u16 p 3) && inRange 0 5000 (u16 p 5) && inRange 1000 65535 (u16 p 7))
    .range <|
  let cfg : AeConfig := { role := role, threshold := u8 p 2, hdt := u16 p 3, hlt := u16 p 5, maxDur := u16 p 7 }
  .ok cfg.bytes (s.modAe c fun y => { y with cfg := cfg })

/-- The window form (R146). -/
def aeWindowForm (p : List Byte) (s : State) : Answer :=
  .test (u16 p 1 ≤ 2000) .range <|
  .ok (put2 (u16 p 1)) (s.modAeu fun u => { u with window := u16 p 1 })

/-- AE_CHANNEL's form by its first byte (R209). -/
def aeChannelBody (p : List Byte) (s : State) : Answer := if u8 p 0 = 255 then aeWindowForm p s else aeChannelForm p s

/-- AE_CHANNEL's length by its first byte (R209). -/
def aeChannelLength (p : List Byte) : Nat := if u8 p 0 = 255 then 3 else 9

/-- AE_CHANNEL, the row of the channel form (R145). A frame of the other form is taken as that form. -/
def execAeChannel (f : Frame) (s : State) : Host.Outcome State Fault Refusal :=
  stepDone (command 0x50 aeChannelLength aeChannelBody f s)

/-- AE_CHANNEL, the row of the window form (R146). A frame of the other form is taken as that form. -/
def execAeChannelWindow (f : Frame) (s : State) : Host.Outcome State Fault Refusal :=
  stepDone (command 0x50 aeChannelLength aeChannelBody f s)

/-! ### AE_FETCH -/

/-- AE_FETCH's test, effect and reply (R160, R212). -/
def aeFetchBody (p : List Byte) (s : State) : Answer :=
  .test (u8 p 0 ≤ 8) .range <|
  let out := s.aeu.log.take (u8 p 0)
  let rest := s.aeu.log.drop (u8 p 0)
  .ok (putFlag s.aeu.overwritten ++ put1 rest.length ++ put1 s.aeu.hits.length ++ putFlag s.aeu.event.isSome ++
      s.aeu.chans.toList.flatMap (fun c => put1 c.state.code) ++ out.flatMap EventRec.bytes)
    (s.modAeu fun u => { u with log := rest, overwritten := false })

/-- AE_FETCH (R160). -/
def execAeFetch (f : Frame) (s : State) : Host.Outcome State Fault Refusal :=
  stepDone (command 0x51 (fun _ => 1) aeFetchBody f s)

end Sys2Proof.Machine
end

