-- ==== Sys2Proof/Machine/Actuators.lean ====
section
/-!
DEFINITION. Machine/Actuators.lean: the meanings of CONTROL_SAMPLE, of the actuators' events, and of WINDOW_SET, ACT_CONFIG
to ACT_STATUS (chapters 3 and 4).
-/
namespace Sys2Proof.Machine

/-! ### Events -/

/-- CONTROL_SAMPLE (R48). -/
def execControlSample (r : Readings) (s : State) : Host.Outcome State Fault Refusal :=
  stepDone (controlSample r s)

/-- FOLLOWING_COUNT_REACHED: the control sample at which the counter reaches twice the following time (R66). -/
def execFollowingCountReached (a : Fin 8) (r : Readings) (s : State) : Host.Outcome State Fault Refusal :=
  stepDone (sampleIf (followingReached a r s) r s)

/-- STALL_COUNT_REACHED: the control sample at which the counter reaches twice the stall time (R67). -/
def execStallCountReached (a : Fin 8) (r : Readings) (s : State) : Host.Outcome State Fault Refusal :=
  stepDone (sampleIf (stallReached a r s) r s)

/-- UNLOAD_COMPLETION: the control sample at which the settle counter reaches twice the settle time (R82). -/
def execUnloadCompletion (a : Fin 8) (r : Readings) (s : State) : Host.Outcome State Fault Refusal :=
  stepDone (sampleIf (completionReached a r s) r s)

/-- The time of the pressure timer's expiry (R74). -/
def Actuator.timerDue (x : Actuator) : Nat := x.timerStart + x.timerMs * 1000

/-- The test of R77: RUN, no unload restraint, and no other actuator of the frame TRIPPED. -/
def mayRaise (a : Fin 8) (s : State) : Bool :=
  decide (s.stc.mode = .run) && (s.unloadRestraint a).isNone &&
    (List.finRange 8).all fun b =>
      decide (b = a) || decide ((s.act b).cfg.frame ≠ (s.act a).cfg.frame) || decide ((s.act b).state ≠ .tripped)

/-- The STARTING timer's expiry: RAISING for target ACTIVE where the test passes, else LOW (R62, R77). -/
def lowPressureExpiry (a : Fin 8) (s : State) : State :=
  if (s.act a).state = .starting then
    let s := s.advanceTo (s.act a).timerDue
    let up := (s.act a).toActive && mayRaise a s
    let s := s.modAct a freshHold
    flush (if up then enterRaising a .timer s else setActState a .low .timer s)
  else s

/-- LOW_PRESSURE_TIMER_EXPIRY (R77). -/
def execLowPressureTimerExpiry (a : Fin 8) (s : State) : Host.Outcome State Fault Refusal :=
  stepDone (lowPressureExpiry a s)

/-- The RAISING timer's expiry: ACTIVE (R78). -/
def highPressureExpiry (a : Fin 8) (s : State) : State :=
  if (s.act a).state = .raising then flush (enterActive a (s.advanceTo (s.act a).timerDue)) else s

/-- HIGH_PRESSURE_TIMER_EXPIRY (R78). -/
def execHighPressureTimerExpiry (a : Fin 8) (s : State) : Host.Outcome State Fault Refusal :=
  stepDone (highPressureExpiry a s)

/-- The unload timer's expiry: UNLOAD_TIMEOUT is raised, and the unload goes on (R83). -/
def unloadExpiry (a : Fin 8) (s : State) : State :=
  let x := s.act a
  if x.state = .unloading ∧ x.unload.timerOn = true then
    let s := s.advanceTo (x.unload.start + x.unload.timeoutS * 1000000)
    raise (.unloadTimeout a) (s.modAct a fun x => { x with unload := { x.unload with timerOn := false } })
  else s

/-- UNLOAD_TIMER_EXPIRY (R83). -/
def execUnloadTimerExpiry (a : Fin 8) (s : State) : Host.Outcome State Fault Refusal :=
  stepDone (unloadExpiry a s)

/-! ### WINDOW_SET -/

/-- A window record as stored (R56). -/
def Window.bytes (w : Window) : List Byte :=
  putFlag w.enabled ++ put1 w.quantity.code ++ put2 w.lower ++ put2 w.upper ++ putSet w.acts

/-- WINDOW_SET's tests and effect (R56). -/
def windowSetBody (p : List Byte) (s : State) : Answer :=
  .inSetup s <|
  .get (indexOf 6 (u8 p 0)) fun i =>
  .get (flagOf (u8 p 1)) fun enabled =>
  .get (Quantity.ofCode (u8 p 2)) fun q =>
  .test (s16 p 3 ≤ s16 p 5) .range <|
  let w : Window := { enabled := enabled, quantity := q, lower := s16 p 3, upper := s16 p 5, acts := p.getD 7 0 }
  .ok w.bytes { s with svc := { s.svc with windows := s.svc.windows.set i w } }

/-- WINDOW_SET (R56). -/
def execWindowSet (f : Frame) (s : State) : Host.Outcome State Fault Refusal :=
  stepDone (command 0x20 (fun _ => 8) windowSetBody f s)

/-! ### ACT_CONFIG -/

/-- An actuator record as stored, in the order of R70. -/
def ActConfig.bytes (c : ActConfig) : List Byte :=
  putFlag c.enabled ++ put1 c.frame.val ++ put2 c.capacity ++ put2 c.forceHigh ++ put2 c.forceLow ++ put2 c.forceHyst ++
  put2 c.strokeHigh ++ put2 c.strokeLow ++ put2 c.strokeHyst ++ put2 c.followLimit ++ put2 c.followMs ++
  put2 c.stallMs ++ put2 c.unloadTarget ++ put2 c.unloadRate ++ put2 c.unloadTol ++ put2 c.unloadSettleMs ++
  put2 c.unloadTimeoutS ++ put2 c.lowMs ++ put2 c.highMs ++ put1 c.quantity.code

/-- The actuator record of ACT_CONFIG's fields with the unload rate clamped, none where a refuse-class field fails
(R70, R201). -/
def actConfigOf (p : List Byte) : Option ActConfig :=
  match flagOf (u8 p 1), indexOf 4 (u8 p 2), Quantity.ofCode (u8 p 37) with
  | some enabled, some frame, some q =>
    let c : ActConfig :=
      { enabled := enabled, frame := frame, capacity := u16 p 3
        forceHigh := s16 p 5, forceLow := s16 p 7, forceHyst := u16 p 9
        strokeHigh := s16 p 11, strokeLow := s16 p 13, strokeHyst := u16 p 15
        followLimit := u16 p 17, followMs := u16 p 19, stallMs := u16 p 21
        unloadTarget := s16 p 23, unloadRate := clamp (u16 p 25) 1 65535, unloadTol := u16 p 27
        unloadSettleMs := u16 p 29, unloadTimeoutS := u16 p 31, lowMs := u16 p 33, highMs := u16 p 35, quantity := q }
    if inRange 1 32767 c.capacity && decide (c.forceLow ≤ c.forceHigh) && inRange 0 32767 c.forceHyst &&
        decide (c.strokeLow ≤ c.strokeHigh) && inRange 0 32767 c.strokeHyst && inRange 1 32767 c.followLimit &&
        inRange 1 10000 c.followMs && inRange 1 10000 c.stallMs && inRange 0 32767 c.unloadTol &&
        inRange 1 10000 c.unloadSettleMs && inRange 1 600 c.unloadTimeoutS && inRange 100 10000 c.lowMs &&
        inRange 100 10000 c.highMs then some c
    else none
  | _, _, _ => none

/-- An ACT_CONFIG changes a field that is fixed outside SETUP (R3, R70). -/
def actStructural (p : List Byte) (s : State) : Bool :=
  match indexOf 8 (u8 p 0) with
  | none => false
  | some a =>
    let c := (s.act a).cfg
    decide (u8 p 1 ≠ if c.enabled then 1 else 0) || decide (u8 p 2 ≠ c.frame.val) || decide (s16 p 23 ≠ c.unloadTarget)

/-- The seven conditions of an actuator, in the order of their codes (R68). -/
def actConds (a : Fin 8) : List Cond :=
  [.act .forceLimit a, .act .strokeLimit a, .act .following a, .act .stall a, .act .sensorRange a, .act .envelope a,
   .unloadTimeout a]

/-- An actuator takes a new record: at disabling its raised conditions are lowered, and its track's use is judged afresh
(R22, R41, R68, R70). The present control quantity stays what it was (log entry 13). -/
def storeActConfig (a : Fin 8) (c : ActConfig) (s : State) : State :=
  let before := s.lostCause
  let disabled := (s.act a).cfg.enabled && !c.enabled
  let s := lostEdge before (s.modAct a fun x => { x with cfg := c })
  flush (if disabled then (actConds a).foldl (fun s k => lower k s) s else s)

/-- ACT_CONFIG's tests and effect (R70, R201). -/
def actConfigBody (p : List Byte) (s : State) : Answer :=
  .test (decide (s.stc.mode = .setup) || !actStructural p s) .mode <|
  .get (indexOf 8 (u8 p 0)) fun a =>
  .get (actConfigOf p) fun c =>
  let x := s.act a
  .test (decide (c.quantity = x.cfg.quantity) || !(decide (x.state = .active) || decide (x.state = .unloading)))
    (.state a.val) <|
  .clamped (firstClamped [(c.unloadRate ≠ u16 p 25, 25)]) c.bytes (storeActConfig a c s)

/-- ACT_CONFIG (R70). -/
def execActConfig (f : Frame) (s : State) : Host.Outcome State Fault Refusal :=
  stepDone (command 0x21 (fun _ => 38) actConfigBody f s)

/-! ### ACT_GAINS, ACT_MODE, ACT_CONTROL, ACT_SOURCE, ACT_MANUAL -/

/-- New gains of a quantity; an integrator outside the bound of the present quantity is clamped into it (R60). -/
def storeGains (q : Quantity) (g : Gains) (x : Actuator) : Actuator :=
  let x := match q with
    | .force => { x with gainsForce := g }
    | .stroke => { x with gainsStroke := g }
  if x.present = q then { x with regs := { x.regs with a := clampSym x.regs.a (g.imax * 65536) } } else x

/-- ACT_GAINS's tests and effect (R60, R201). -/
def actGainsBody (p : List Byte) (s : State) : Answer :=
  .get (indexOf 8 (u8 p 0)) fun a =>
  .get (Quantity.ofCode (u8 p 1)) fun q =>
  let imax := clamp (u16 p 6) 0 10000
  let rate := clamp (u16 p 8) 1 32767
  .clamped (firstClamped [(imax ≠ u16 p 6, 6), (rate ≠ u16 p 8, 8)]) []
    (s.modAct a (storeGains q { kp := u16 p 2, ki := u16 p 4, imax := imax, rate := rate }))

/-- ACT_GAINS (R60). -/
def execActGains (f : Frame) (s : State) : Host.Outcome State Fault Refusal :=
  stepDone (command 0x22 (fun _ => 10) actGainsBody f s)

/-- Target of ACT_MODE (R212). -/
inductive ModeTarget where
  | low | active | off
deriving DecidableEq, Repr

/-- The target a code names (R212). -/
def ModeTarget.ofCode : Nat → Option ModeTarget
  | 0 => some .low
  | 1 => some .active
  | 2 => some .off
  | _ => none

/-- The lowest-numbered other TRIPPED actuator of the same frame (R75). -/
def trippedNeighbour (a : Fin 8) (s : State) : Option (Fin 8) :=
  (List.finRange 8).find? fun b =>
    decide (b ≠ a) && decide ((s.act b).cfg.frame = (s.act a).cfg.frame) && decide ((s.act b).state = .tripped)

/-- The transition of R76 for target LOW, none where it is refused. -/
def toLow (a : Fin 8) (s : State) : Option State :=
  match (s.act a).state with
  | .off => some (enterStarting a false s)
  | .starting => some (s.modAct a fun x => { x with toActive := false })
  | .low => some s
  | .raising => some (setActState a .low .command s)
  | .active => some (enterUnloading a false .command s)
  | .unloading => some (s.modAct a fun x => { x with destOff := false })
  | .tripped => none

/-- The transition of R76 for target ACTIVE, none where it is refused. -/
def toActiveState (a : Fin 8) (s : State) : Option State :=
  match (s.act a).state with
  | .off => some (enterStarting a true s)
  | .starting => some (s.modAct a fun x => { x with toActive := true })
  | .low => some (enterRaising a .command s)
  | .raising | .active => some s
  | .unloading | .tripped => none

/-- The transition of R76 for target OFF; from TRIPPED as R87 permits. -/
def toOff (a : Fin 8) (s : State) : Answer :=
  if (s.act a).state = .tripped then
    match s.tripRestraint a with
    | some e => .state e.val
    | none => .done (flush (setActState a .off .command s))
  else .done (flush (actOff a .command s))

/-- The answer to a transition of R76. -/
def transitionAnswer : Option State → Answer
  | none => .state Config.noDetail
  | some s => .done (flush s)

/-- ACT_MODE's tests and effect, in the order of R75. -/
def actModeBody (p : List Byte) (s : State) : Answer :=
  .test (!(decide (u8 p 1 = 0) || decide (u8 p 1 = 1)) || decide (s.stc.mode = .run)) .mode <|
  .get (indexOf 8 (u8 p 0)) fun a =>
  .get (ModeTarget.ofCode (u8 p 1)) fun target =>
  match target with
  | .off => toOff a s
  | .low | .active =>
    .test (s.act a).cfg.enabled (.state a.val) <|
    match trippedNeighbour a s, s.unloadRestraint a with
    | some b, _ => .state b.val
    | none, some e => .state e.val
    | none, none => transitionAnswer (if target = .low then toLow a s else toActiveState a s)

/-- ACT_MODE (R75, R76). -/
def execActMode (f : Frame) (s : State) : Host.Outcome State Fault Refusal :=
  stepDone (command 0x23 (fun _ => 2) actModeBody f s)

/-- ACT_CONTROL's tests and effect (R73). -/
def actControlBody (p : List Byte) (s : State) : Answer :=
  .get (indexOf 8 (u8 p 0)) fun a =>
  .get (Quantity.ofCode (u8 p 1)) fun q =>
  .test (s.groupOf a).isNone (.state a.val) <|
  match (s.act a).state with
  | .low => .done (s.modAct a fun x => { x with cfg := { x.cfg with quantity := q } })
  | .active => .done (s.modAct a fun x =>
      let x := { x with cfg := { x.cfg with quantity := q } }
      if x.present = q then x else bumpless q x)
  | .off | .starting | .raising | .unloading | .tripped => .state Config.noDetail

/-- ACT_CONTROL (R73). -/
def execActControl (f : Frame) (s : State) : Host.Outcome State Fault Refusal :=
  stepDone (command 0x24 (fun _ => 2) actControlBody f s)

/-- ACT_SOURCE's tests and effect (R71). -/
def actSourceBody (p : List Byte) (s : State) : Answer :=
  .get (indexOf 8 (u8 p 0)) fun a =>
  .get (Source.ofCode (u8 p 1)) fun src =>
  .test ((s.groupOf a).isNone || decide (src = .sequencer)) (.state a.val) <|
  .done (flush (lostEdge s.lostCause (s.modAct a fun x => { x with source := src })))

/-- ACT_SOURCE (R71). -/
def execActSource (f : Frame) (s : State) : Host.Outcome State Fault Refusal :=
  stepDone (command 0x25 (fun _ => 2) actSourceBody f s)

/-- ACT_MANUAL's tests and effect (R72, R201). -/
def actManualBody (p : List Byte) (s : State) : Answer :=
  .get (indexOf 8 (u8 p 0)) fun a =>
  .get (Quantity.ofCode (u8 p 1)) fun q =>
  let c := (s.act a).cfg
  let v := match q with
    | .force => clampSym (s16 p 2) c.capacity
    | .stroke => clamp (s16 p 2) c.strokeLow c.strokeHigh
  .clamped (firstClamped [(v ≠ s16 p 2, 2)]) []
    (s.modAct a fun x => match q with
      | .force => { x with manualForce := v }
      | .stroke => { x with manualStroke := v })

/-- ACT_MANUAL (R72). -/
def execActManual (f : Frame) (s : State) : Host.Outcome State Fault Refusal :=
  stepDone (command 0x26 (fun _ => 4) actManualBody f s)

/-! ### ACT_STATUS -/

/-- The chain registers in the order of R90. -/
def Regs.bytes (r : Regs) : List Byte :=
  put2 r.l ++ put2 r.b ++ put2 r.s ++ put2 r.d ++ put2 r.h ++ put2 r.e ++ put2 r.c ++ put4 r.err ++ put4 r.p ++
  put4 r.ut ++ put2 r.u ++ put4 r.a

/-- A value in one state, 0 in the others (R90). -/
def only (b : Bool) (x : Nat) : Nat := if b then x else 0

/-- The target state while STARTING or the destination while UNLOADING, coded as ACT_MODE targets, FFh else (R90). -/
def Actuator.goal (x : Actuator) : Nat :=
  match x.state with
  | .starting => if x.toActive then 1 else 0
  | .unloading => if x.destOff then 2 else 0
  | .off | .low | .raising | .active | .tripped => 255

/-- The pressure timer, ramp, settle counter, unload timer and unload parameters as ACT_STATUS reports them (R90). Elapsed
times read in whole ms, the fraction dropped, and the unload timer's in four bytes (log entry 24). -/
def Actuator.timerBytes (now : Nat) (x : Actuator) : List Byte :=
  let timed := decide (x.state = .starting) || decide (x.state = .raising)
  let unl := decide (x.state = .unloading)
  let v := x.unload
  put2 (only timed ((now - x.timerStart) / 1000)) ++ put2 (only timed x.timerMs) ++ put4 (only unl v.n) ++
  put2 (if unl then v.ramp else 0) ++ put2 (only unl v.settle) ++
  put4 (only unl (if v.timerOn then (now - v.start) / 1000 else v.timeoutS * 1000)) ++
  put2 (if unl then v.target else 0) ++ put2 (if unl then v.rate else 0) ++ put2 (if unl then v.tol else 0) ++
  put2 (only unl v.settleMs) ++ put2 (only unl v.timeoutS)

/-- ACT_STATUS's test and reply (R69, R90). The six conditions of a sample stand in R69's list and UNLOAD_TIMEOUT in its own
place alone; each measured value is followed by its saturation; the present control quantity stands in both its places
(layout: log entry 8). -/
def actStatusBody (p : List Byte) (s : State) : Answer :=
  .get (indexOf 8 (u8 p 0)) fun a =>
  let x := s.act a
  .ok (x.regs.bytes ++ put2 x.strokeHold ++ put2 x.derate ++ put1 x.present.code ++ put2 x.force ++ putFlag x.forceSat ++
    put2 x.stroke ++ putFlag x.strokeSat ++ ((actConds a).take 6).flatMap (fun c => putFlag (s.raised c)) ++
    put1 x.state.code ++ put1 x.goal ++ x.timerBytes s.clock.now ++
    putFlag x.cfg.enabled ++ put1 x.cfg.frame.val ++ put1 (s.manifold x.cfg.frame).code ++
    put1 x.source.code ++ put1 x.cfg.quantity.code ++ put1 x.present.code ++ put2 x.manualForce ++ put2 x.manualStroke ++
    putFlag (s.raised (.unloadTimeout a)) ++ putFlag x.clampWindow.isSome ++ putOpt x.clampWindow) s

/-- ACT_STATUS (R90). -/
def execActStatus (f : Frame) (s : State) : Host.Outcome State Fault Refusal :=
  stepDone (command 0x27 (fun _ => 1) actStatusBody f s)

end Sys2Proof.Machine
end

