-- ==== Sys2Proof/Machine/Entries.lean ====
section
/-!
DEFINITION. Machine/Entries.lean: the meanings of PROT_ENTRY to TRIP_LOG (chapter 10).
-/
namespace Sys2Proof.Machine

/-- A scope is valid for a kind (R178). -/
def Scope.validFor (k : CondKind) : Scope → Bool
  | .actuator | .frame => k.isActuator
  | .group => k.isActuator || decide (k = .stiffness)
  | .zone => k.isZone
  | .station => true

/-- What R179 fixes for P0 and P1. -/
def builtinAllows (e : Fin 40) (c : ProtConfig) : Bool :=
  if e.val = 0 then
    decide (c.kind = some .haltLoop) && decide (c.scope = .station) &&
      (decide (c.action = .unload) || decide (c.action = .trip)) && c.enabled
  else if e.val = 1 then
    decide (c.kind = some .broadcastHalt) && decide (c.scope = .station) &&
      (decide (c.action = .hold) || decide (c.action = .unload) || decide (c.action = .trip))
  else true

/-- The entry of PROT_ENTRY's fields, none where a test of R178 fails. The one instance of HALT_LOOP and BROADCAST_HALT is
stored as ANY, which means the same. -/
def protConfigOf (e : Fin 40) (p : List Byte) : Option ProtConfig :=
  if u8 p 1 = 255 then (if e.val ≤ 1 then none else some {})
  else
    match CondKind.ofCode (u8 p 1), Action.ofCode (u8 p 3), Scope.ofCode (u8 p 6), flagOf (u8 p 7) with
    | some k, some a, some sc, some enabled =>
      let c : ProtConfig :=
        { kind := some k, inst := if u8 p 2 = 255 ∨ k.count = 1 then none else some (u8 p 2), action := a
          value := if a = .derate then u16 p 4 else 0, scope := sc, enabled := enabled }
      if (decide (u8 p 2 = 255) || decide (u8 p 2 < k.count)) && decide (c.value ≤ 999) && sc.validFor k &&
          builtinAllows e c then some c
      else none
    | _, _, _, _ => none

/-- An entry as stored (R178, R209). -/
def ProtConfig.bytes (c : ProtConfig) : List Byte :=
  put1 (match c.kind with
    | none => 255
    | some k => k.code) ++
  put1 (match c.inst with
    | none => 255
    | some i => i) ++
  put1 c.action.code ++ put2 c.value ++ put1 c.scope.code ++ putFlag c.enabled

/-- An accepted PROT_ENTRY: the entry is QUIET with its new fields, the merge is made, and the entry is judged against the
condition table (R180). -/
def storeEntry (e : Fin 40) (c : ProtConfig) (s : State) : State :=
  judgeEntry e (merge (s.modEntry e fun _ => { cfg := c }))

/-- PROT_ENTRY's tests and effect, answered with the entry and its state (R178 to R180). -/
def protEntryBody (p : List Byte) (s : State) : Answer :=
  .inSetup s <|
  .get (indexOf 40 (u8 p 0)) fun e =>
  .get (protConfigOf e p) fun c =>
  let s := storeEntry e c s
  .ok (c.bytes ++ put1 s.pmx.entries[e].st.code) s

/-- PROT_ENTRY (R178). -/
def execProtEntry (f : Frame) (s : State) : Host.Outcome State Fault Refusal :=
  stepDone (command 0x60 (fun _ => 8) protEntryBody f s)

/-- An entry as PROT_LIST reports it: as stored, state, reach, number and lowest of the raised set (R194). -/
def entryBytes (s : State) (e : Fin 40) : List Byte :=
  let x := s.pmx.entries[e]
  x.cfg.bytes ++ put1 x.st.code ++ putSet x.reach ++ put1 x.raised.length ++ put2 ((x.raised.head?).getD 65535 : Nat)

/-- The protection summary of an actuator (R186, R194): derate, highest action, unload restraint, trip restraint. -/
def summaryBytes (s : State) (a : Fin 8) : List Byte :=
  put2 (s.mergedDerate a) ++ put1 (match s.highestAction a with
    | none => 255
    | some x => x.code) ++ putOpt (s.unloadRestraint a) ++ putOpt (s.tripRestraint a)

/-- PROT_LIST's tests and reply (R194; layout: log entry 8). -/
def protListBody (p : List Byte) (s : State) : Answer :=
  let first := u8 p 0
  let count := u8 p 1
  .test (decide (first < 40) && inRange 1 8 count && decide (first + count ≤ 40)) .range <|
  let l := (List.finRange 40).filter fun e => decide (first ≤ e.val) && decide (e.val < first + count)
  .ok (l.flatMap (entryBytes s) ++ (List.finRange 8).flatMap (summaryBytes s) ++ putFlag s.holdStands) s

/-- PROT_LIST (R194). -/
def execProtList (f : Frame) (s : State) : Host.Outcome State Fault Refusal :=
  stepDone (command 0x61 (fun _ => 2) protListBody f s)

/-- A LATCHED entry goes to QUIET with its reach emptied (R184). -/
def ProtEntry.clear (x : ProtEntry) : ProtEntry :=
  if x.st = .latched then { x with st := .quiet, raised := [], reach := 0 } else x

/-- The entries in a state, ascending. -/
def State.entriesIn (s : State) (st : EntryState) : List (Fin 40) :=
  (List.finRange 40).filter fun e => s.pmx.entries[e].st = st

/-- The 40-bit set of a list of entries in five bytes, bit k for Pk (R184). -/
def entrySetBytes (l : List (Fin 40)) : List Byte :=
  let n := (l.map fun e => 2 ^ e.val).sum
  put1 (n / 4294967296 : Nat) ++ put4 n

/-- PROT_CLEAR of one entry (R184). -/
def clearOne (e : Fin 40) (s : State) : Answer :=
  if s.pmx.entries[e].st = .active then .state e.val
  else .done (merge (s.modEntry e ProtEntry.clear))

/-- PROT_CLEAR ALL (R184). -/
def clearAll (s : State) : Answer :=
  let left := s.entriesIn .active
  .take .done (match left with
      | [] => Config.noDetail
      | e :: _ => e.val)
    (put1 (s.entriesIn .latched).length ++ put1 left.length ++ entrySetBytes left)
    (merge (s.modPmx fun p => { p with entries := p.entries.map ProtEntry.clear }))

/-- PROT_CLEAR's forms (R184). -/
def protClearBody (p : List Byte) (s : State) : Answer :=
  if u8 p 0 = 255 then clearAll s else .get (indexOf 40 (u8 p 0)) fun e => clearOne e s

/-- PROT_CLEAR (R184). -/
def execProtClear (f : Frame) (s : State) : Host.Outcome State Fault Refusal :=
  stepDone (command 0x62 (fun _ => 1) protClearBody f s)

/-- PROT_FIRST_CLEAR's reply and effect (R193). -/
def protFirstClearBody (_ : List Byte) (s : State) : Answer :=
  .ok (putTrip s.pmx.firstOut) (s.modPmx fun p => { p with firstOut := none })

/-- PROT_FIRST_CLEAR (R193). -/
def execProtFirstClear (f : Frame) (s : State) : Host.Outcome State Fault Refusal :=
  stepDone (command 0x63 (fun _ => 0) protFirstClearBody f s)

/-- TRIP_LOG's test and reply (R192, R210). -/
def tripLogBody (p : List Byte) (s : State) : Answer :=
  let l := s.pmx.tripLog
  match u8 p 0 with
  | 0 => .ok (put1 l.length ++ (l.take 4).flatMap TripRec.bytes) s
  | 1 => .ok (put1 l.length ++ (l.drop 4).flatMap TripRec.bytes ++ putTrip s.pmx.firstOut) s
  | _ => .range

/-- TRIP_LOG (R210). -/
def execTripLog (f : Frame) (s : State) : Host.Outcome State Fault Refusal :=
  stepDone (command 0x64 (fun _ => 1) tripLogBody f s)

end Sys2Proof.Machine
end

