-- ==== Sys2Proof/Machine/LoadGroups.lean ====
section
/-!
DEFINITION. Machine/LoadGroups.lean: the meanings of GROUP_SET and GROUP_STATUS (chapter 5).
-/
namespace Sys2Proof.Machine

/-- The pairs of actuator and weight of GROUP_SET, as many as its count (R92, R209). -/
def groupPairs (p : List Byte) : List (Nat × Nat) :=
  (List.range (u8 p 1)).map fun i => (u8 p (2 + 3 * i), u16 p (3 + 3 * i))

/-- The weights given for an actuator. -/
def weightsOf (l : List (Nat × Nat)) (a : Fin 8) : List Nat := (l.filter fun x => x.1 = a.val).map Prod.snd

/-- The first actuator, ascending, with a property. -/
def firstAct (p : Fin 8 → Bool) : Option (Fin 8) := (List.finRange 8).find? p

/-- The member list of GROUP_SET in ascending actuator order (R92). -/
def membersOf (l : List (Nat × Nat)) : List (Fin 8 × Nat) :=
  (List.finRange 8).filterMap fun a => ((weightsOf l a).head?).map fun w => (a, w)

/-- A group record as stored: member count, four pairs, carry-over, tie policy (R92, R209; unused pairs FFh and 0, log
entry 8). -/
def Group.recordBytes (g : Group) : List Byte :=
  put1 g.members.length ++ g.members.flatMap (fun m => put1 m.1.val ++ put2 m.2) ++
  (List.replicate (4 - g.members.length) (put1 255 ++ put2 0)).flatten ++ putFlag g.carry ++ put1 g.tie.code

/-- An accepted GROUP_SET takes effect; a dissolved group keeps nothing of its latest sample (R41, R71, R93, R105). -/
def storeGroup (g : Fin 4) (members : List (Fin 8 × Nat)) (carry : Bool) (tie : Tie) (s : State) : State :=
  let before := s.lostCause
  let s := s.modGroup g fun x =>
    if members = [] then { carry := carry, tie := tie }
    else ({ x with members := members, carry := carry, tie := tie, lru := members.map Prod.fst } : Group).clearRecord
  let s := members.foldl (fun s m => s.modAct m.1 fun x => { x with source := .sequencer }) s
  flush (lostEdge before s)

/-- GROUP_SET's tests, in the order of R92, and its effect. -/
def groupSetBody (p : List Byte) (s : State) : Answer :=
  .inSetup s <|
  .get (indexOf 4 (u8 p 0)) fun g =>
  let l := groupPairs p
  .test (decide (u8 p 1 ≠ 1) && decide (u8 p 1 ≤ 4)) .range <|
  .test (l.all fun x => decide (x.1 < 8)) .range <|
  match firstAct fun a => decide (1 < (weightsOf l a).length) with
  | some a => .refuse .refusedRange a.val
  | none =>
    match firstAct fun a => (weightsOf l a).any fun w => !inRange 1 1000 w with
    | some a => .refuse .refusedRange a.val
    | none =>
      .get (flagOf (u8 p 14)) fun carry =>
      .get (Tie.ofCode (u8 p 15)) fun tie =>
      match firstAct fun a => decide (weightsOf l a ≠ []) &&
          (match s.groupOf a with
            | some h => decide (h ≠ g)
            | none => false) with
      | some a => .refuse .refusedRange a.val
      | none =>
        let s := storeGroup g (membersOf l) carry tie s
        .ok (s.group g).recordBytes s

/-- GROUP_SET (R92). -/
def execGroupSet (f : Frame) (s : State) : Host.Outcome State Fault Refusal :=
  stepDone (command 0x30 (fun _ => 16) groupSetBody f s)

/-- A member as GROUP_STATUS reports it: IN_SHARE or OUT, state, derate, and S, D and H of the latest sample. A member that was
OUT at that sample has no S and D of it (R95); its H is the value its state put there (R48, R81, R105), and where the servo
stood still the value kept (log entry 13). -/
def memberBytes (s : State) (g : Fin 4) (a : Fin 8) : List Byte :=
  let x := s.act a
  let b := (s.group g).shared.contains a
  putFlag (s.inShare a) ++ put1 x.state.code ++ put2 x.derate ++ put2 (if b then x.regs.s else 0) ++
  put2 (if b then x.regs.d else 0) ++ put2 x.regs.h

/-- GROUP_STATUS's test and reply (R105; layout: log entry 8). W_all is the weight sum of the record as stored, whether or not
the latest sample formed it (log entry 23). -/
def groupStatusBody (p : List Byte) (s : State) : Answer :=
  .get (indexOf 4 (u8 p 0)) fun g =>
  let x := s.group g
  let time := x.selTime.getD (0, 0)
  .ok (x.recordBytes ++ putOpt x.lead ++ putOpt (s.actingLead g) ++ x.members.flatMap (fun m => memberBytes s g m.1) ++
    put2 (weightSum x.members) ++ put2 x.wIn ++ put2 x.base ++ put2 x.total ++
    putFlag (s.short g) ++ put2 x.sf ++ put2 x.h ++ put2 x.uncarried ++
    putOpt x.recipient ++ putFlag x.selTime.isSome ++ put4 time.1 ++ put4 time.2 ++ put1 x.reasons.code ++
    putFlag x.due ++ x.lru.flatMap fun a => put1 a.val) s

/-- GROUP_STATUS (R105). -/
def execGroupStatus (f : Frame) (s : State) : Host.Outcome State Fault Refusal :=
  stepDone (command 0x31 (fun _ => 1) groupStatusBody f s)

end Sys2Proof.Machine
end

