-- ==== Sys2Proof/Machine/Plan.lean ====
section
/-!
DEFINITION. Machine/Plan.lean: the meanings of the sequencer's rows and of TRACK_SET, PLAN_WRITE to SEQ_STATUS (chapter 2).
-/
namespace Sys2Proof.Machine

/-! ### Events -/

/-- COUNTED_CYCLE: the control sample at which the master phase wraps in STEADY (R36). -/
def execCountedCycle (r : Readings) (s : State) : Host.Outcome State Fault Refusal :=
  stepDone (sampleIf (countsCycle s) r s)

/-- STEADY_END: the control sample at which the counted cycles reach the segment's count (R36). -/
def execSteadyEnd (r : Readings) (s : State) : Host.Outcome State Fault Refusal :=
  stepDone (sampleIf (endsActivity .steady s) r s)

/-- RAMP_END: the control sample at which n reaches N (R31). -/
def execRampEnd (r : Readings) (s : State) : Host.Outcome State Fault Refusal :=
  stepDone (sampleIf (endsActivity .ramp s) r s)

/-- DWELL_EXPIRY: the control sample at which n reaches N (R32). -/
def execDwellExpiry (r : Readings) (s : State) : Host.Outcome State Fault Refusal :=
  stepDone (sampleIf (endsActivity .dwell s) r s)

/-- APPROACH_END: the control sample at which every track stands at the mean (R33). -/
def execApproachEnd (r : Readings) (s : State) : Host.Outcome State Fault Refusal :=
  stepDone (sampleIf (endsActivity .approach s) r s)

/-- TAPER_UP_END: the control sample at which k reaches K (R35). -/
def execTaperUpEnd (r : Readings) (s : State) : Host.Outcome State Fault Refusal :=
  stepDone (sampleIf (endsActivity .taperUp s) r s)

/-- TAPER_DOWN_END: the control sample at which k reaches K (R38). -/
def execTaperDownEnd (r : Readings) (s : State) : Host.Outcome State Fault Refusal :=
  stepDone (sampleIf (endsActivity .taperDown s) r s)

/-- PAUSING_END: the control sample at which j reaches M (R43). -/
def execPausingEnd (r : Readings) (s : State) : Host.Outcome State Fault Refusal :=
  stepDone (sampleIf (endsPause s) r s)

/-! ### Plan table, settings and tracks -/

/-- The sequencer states in which the plan may be written (R23, R25). -/
def SeqState.writable (q : SeqState) : Bool := !q.going

/-- The segment record of PLAN_WRITE's fields, none where a field is out of its range (R23, R209). -/
def segmentOf (own : Nat) (p : List Byte) : Option Segment :=
  match u8 p 1, flagOf (u8 p 2) with
  | 0, some hold =>
    if inRange (-10000) 10000 (s16 p 3) && inRange 1 3600000 (u32 p 5) then some (.ramp hold (s16 p 3) (u32 p 5)) else none
  | 1, some hold =>
    match flagOf (u8 p 7) with
    | some snap => if inRange 1 86400000 (u32 p 3) then some (.dwell hold (u32 p 3) snap) else none
    | none => none
  | 2, some hold =>
    match Shape.ofCode (u8 p 9) with
    | some shape =>
      if inRange (-10000) 10000 (s16 p 3) && inRange 0 10000 (u16 p 5) &&
          inRange (-10000) 10000 (s16 p 3 - u16 p 5) && inRange (-10000) 10000 (s16 p 3 + u16 p 5) &&
          inRange 1 1000 (u16 p 7) && inRange 1 16777215 (u32 p 10) then
        some (.cycle hold (s16 p 3) (u16 p 5) (u16 p 7) shape (u32 p 10) (u16 p 14))
      else none
    | none => none
  | 3, some false =>
    match indexOf 48 (u8 p 3) with
    | some t => if decide (t.val < own) && inRange 1 65535 (u16 p 4) then some (.loop t (u16 p 4)) else none
    | none => none
  | 4, some false => some .finish
  | _, _ => none

/-- PLAN_WRITE's tests and effect (R23). -/
def planWriteBody (p : List Byte) (s : State) : Answer :=
  .get (indexOf 48 (u8 p 0)) fun i =>
  .get (segmentOf i.val p) fun seg =>
  .test s.psq.state.writable (.state Config.noDetail) <|
  .done (s.modSeq fun q => { q with plan := q.plan.set i seg })

/-- PLAN_WRITE (R23). -/
def execPlanWrite (f : Frame) (s : State) : Host.Outcome State Fault Refusal :=
  stepDone (command 0x10 (fun _ => 16) planWriteBody f s)

/-- A segment record as PLAN_READ returns it: kind, hold-on-entry flag, the fields of the kind (R24; log entry 8). -/
def Segment.bytes : Segment → List Byte
  | .ramp hold l ms => put1 0 ++ putFlag hold ++ put2 l ++ put4 ms
  | .dwell hold ms snap => put1 1 ++ putFlag hold ++ put4 ms ++ putFlag snap
  | .cycle hold mean a freq shape count interval =>
    put1 2 ++ putFlag hold ++ put2 mean ++ put2 a ++ put2 freq ++ put1 shape.code ++ put4 count ++ put2 interval
  | .loop t r => put1 3 ++ putFlag false ++ put1 t.val ++ put2 r
  | .finish => put1 4 ++ putFlag false

/-- PLAN_READ's test and reply (R24). -/
def planReadBody (p : List Byte) (s : State) : Answer :=
  .get (indexOf 48 (u8 p 0)) fun i => .ok s.psq.plan[i].bytes s

/-- PLAN_READ (R24). -/
def execPlanRead (f : Frame) (s : State) : Host.Outcome State Fault Refusal :=
  stepDone (command 0x11 (fun _ => 1) planReadBody f s)

/-- PLAN_SET's tests and effect; both settings are clamp class (R25, R201). -/
def planSetBody (p : List Byte) (s : State) : Answer :=
  let taper := clamp (u16 p 0) 0 60000
  let rate := clamp (u16 p 2) 1 10000
  .test s.psq.state.writable (.state Config.noDetail) <|
  .clamped (firstClamped [(taper ≠ u16 p 0, 0), (rate ≠ u16 p 2, 2)]) []
    (s.modSeq fun q => { q with taperMs := taper.toNat, approachRate := rate.toNat })

/-- PLAN_SET (R25). -/
def execPlanSet (f : Frame) (s : State) : Host.Outcome State Fault Refusal :=
  stepDone (command 0x12 (fun _ => 4) planSetBody f s)

/-- The one-byte code of an optional index (R209). -/
def optCode {n : Nat} : Option (Fin n) → Nat
  | none => 255
  | some i => i.val

/-- A TRACK_SET changes a field that is fixed outside SETUP (R3, R21). -/
def trackStructural (p : List Byte) (s : State) : Bool :=
  match indexOf 8 (u8 p 0) with
  | none => false
  | some t =>
    let x := s.psq.tracks[t]
    decide (u8 p 1 ≠ x.quantity.code) || decide ((u16 p 2 : Int) ≠ x.reference) || decide (u8 p 6 ≠ optCode x.deflection)

/-- TRACK_SET's tests and effect (R21). -/
def trackSetBody (p : List Byte) (s : State) : Answer :=
  .test (decide (s.stc.mode = .setup) || !trackStructural p s) .mode <|
  .get (indexOf 8 (u8 p 0)) fun t =>
  .get (Quantity.ofCode (u8 p 1)) fun q =>
  .test (inRange 0 32767 (u16 p 2) && inRange 0 999 (u16 p 4)) .range <|
  .get (optIndexOf 16 (u8 p 6)) fun slot =>
  .test (inRange 500 1000 (u16 p 7)) .range <|
  .test (decide (u16 p 4 = s.psq.tracks[t].offset) || !s.psq.state.going) (.state Config.noDetail) <|
  let track : Track :=
    { quantity := q, reference := u16 p 2, offset := u16 p 4, deflection := slot, threshold := u16 p 7 }
  .done (s.modSeq fun x => { x with tracks := x.tracks.set t track })

/-- TRACK_SET (R21). -/
def execTrackSet (f : Frame) (s : State) : Host.Outcome State Fault Refusal :=
  stepDone (command 0x13 (fun _ => 9) trackSetBody f s)

/-! ### START and GO -/

/-- A value lies in at least one enabled window of a quantity that covers an actuator (R28). -/
def valueCovered (s : State) (a : Fin 8) (q : Quantity) (v : Int) : Bool :=
  (coveringWindows s.svc.windows q a).any fun i => s.svc.windows[i].holds v

/-- The actuator at which a level of an in-use track fails the window pre-check (R28). -/
def preCheckLevel (s : State) (t : Fin 8) (level : Int) : Option (Fin 8) :=
  let base := roundDiv (s.psq.tracks[t].reference * level) 10000
  match s.groupOf t with
  | none => if valueCovered s t s.psq.tracks[t].quantity base then none else some t
  | some g => ((shares base (s.group g).members).find? fun m => !valueCovered s m.1 .force m.2).map Prod.fst

/-- The extreme levels of a segment (R28). -/
def Segment.extremes : Segment → List Int
  | .ramp _ l _ => [l]
  | .cycle _ mean a _ _ _ _ => [mean - a, mean + a]
  | .dwell .. | .loop .. | .finish => []

/-- The segments the pre-check visits: from the start index to the first END, or through segment 47 (R28). -/
def visited (q : Sequencer) (start : Fin 48) : List (Fin 48) :=
  ((List.finRange 48).filter fun i => start.val ≤ i.val).takeWhile fun i => q.plan[i] ≠ .finish

/-- The window pre-check: the detail of its first failure, segment × 256 + actuator (R28). -/
def preCheck (s : State) (start : Fin 48) : Option Nat :=
  let tracks := (List.finRange 8).filter s.inUse
  let present := tracks.filterMap fun t => (preCheckLevel s t s.psq.levels[t]).map fun a => start.val * 256 + a.val
  let later := (visited s.psq start).flatMap fun i => tracks.flatMap fun t =>
    s.psq.plan[i].extremes.filterMap fun l => (preCheckLevel s t l).map fun a => i.val * 256 + a.val
  (present ++ later).head?

/-- The first in-use track whose actuator is not ACTIVE, or whose group has no member ACTIVE (R27). -/
def notReady (s : State) : Option (Fin 8) :=
  (List.finRange 8).find? fun t => s.inUse t &&
    match s.groupOf t with
    | none => !s.inShare t
    | some g => (s.sharing g).isEmpty

/-- What a taken START clears at its arrival (R29). -/
def Sequencer.zeroed (start : Fin 48) (q : Sequencer) : Sequencer :=
  { q with segment := start, ctr := 0, ctrEnd := 0, segCycles := 0, totalCycles := 0, phase := 0
           loops := Vector.replicate 48 0, peaks := Vector.replicate 8 none
           hold := { q.hold with segment := false, lost := false } }

/-- A START that is taken (R29). -/
def startAct (start : Fin 48) (wait : Bool) (s : State) : State :=
  let s := clearAllStiffness (clearZoneBins (s.modSeq (Sequencer.zeroed start)))
  flush (if wait then seqChange (fun q => { q with state := .waitingGo, activity := .none }) s else runFrom start.val s)

/-- START's tests and effect (R27). -/
def startBody (p : List Byte) (s : State) : Answer :=
  .test (s.stc.mode = .run) .mode <|
  .get (indexOf 48 (u8 p 0)) fun start =>
  .get (flagOf (u8 p 1)) fun wait =>
  match preCheck s start with
  | some d => .refuse .refusedRange d
  | none =>
    .test (!s.psq.state.going) (.state Config.noDetail) <|
    match notReady s with
    | some a => .state a.val
    | none => .done (startAct start wait s)

/-- START (R27, R29). -/
def execStart (f : Frame) (s : State) : Host.Outcome State Fault Refusal :=
  stepDone (command 0x14 (fun _ => 2) startBody f s)

/-- GO: in WAITING_GO the start segment is entered, with LOST added first where its cause holds (R29, R41, R42). -/
def goAct (s : State) : State :=
  if s.psq.state = .waitingGo then
    let s := if s.lostCause then addReason .lost s else s
    flush (runFrom s.psq.segment.val s)
  else s

/-- GO (R29). -/
def execGo (f : Frame) (s : State) : Host.Outcome State Fault Refusal :=
  stepDone (groupCommand 0x09 (fun s => .done (goAct s)) f s)

/-! ### HOLD, RESUME, ABORT, SEQ_STATUS -/

/-- HOLD, answered with the set after the addition (R41). -/
def holdBody (s : State) : Answer :=
  let s := flush (addReason .operator s)
  .ok (put1 s.psq.hold.code) s

/-- HOLD (R41). -/
def execHold (f : Frame) (s : State) : Host.Outcome State Fault Refusal :=
  stepDone (groupCommand 0x15 holdBody f s)

/-- What RESUME takes out of the hold-reason set (R45). -/
def resumeSet (s : State) (h : HoldSet) : HoldSet :=
  { h with operator := false, segment := false, protection := h.protection && s.holdStands, lost := h.lost && s.lostCause }

/-- RESUME, answered with the set as it stands after the removals (R45). -/
def resumeBody (s : State) : Answer :=
  .ok (put1 (resumeSet s s.psq.hold).code) (flush (removeReasons (resumeSet s) s))

/-- RESUME (R45). -/
def execResume (f : Frame) (s : State) : Host.Outcome State Fault Refusal :=
  stepDone (groupCommand 0x16 resumeBody f s)

/-- ABORT's test and effect (R46). -/
def abortBody (_ : List Byte) (s : State) : Answer :=
  .test s.psq.state.going (.state Config.noDetail) <| .done (flush (seqAbort s))

/-- ABORT (R46). -/
def execAbort (f : Frame) (s : State) : Host.Outcome State Fault Refusal :=
  stepDone (command 0x17 (fun _ => 0) abortBody f s)

/-- The loop counters of all LOOP segments, ascending (R26). -/
def Sequencer.loopBytes (q : Sequencer) : List Byte :=
  (List.finRange 48).flatMap fun i => match q.plan[i] with
    | .loop .. => put2 q.loops[i]
    | .ramp .. | .dwell .. | .cycle .. | .finish => []

/-- SEQ_STATUS's reply (R26; layout: log entry 8). -/
def seqStatusBody (_ : List Byte) (s : State) : Answer :=
  let q := s.psq
  .ok (put1 q.state.code ++ put1 q.activity.code ++ put1 q.segment.val ++ put4 q.ctr ++ put4 q.ctrEnd ++
    put4 q.segCycles ++ put4 q.shownCount ++ put4 q.totalCycles ++ put4 q.phase ++ put2 q.amp ++ put1 q.hold.code ++
    q.levels.toList.flatMap put2 ++ q.loopBytes) s

/-- SEQ_STATUS (R26). -/
def execSeqStatus (f : Frame) (s : State) : Host.Outcome State Fault Refusal :=
  stepDone (command 0x18 (fun _ => 0) seqStatusBody f s)

end Sys2Proof.Machine
end

