-- ==== Sys2Proof/Machine/Satellites.lean ====
section
/-!
DEFINITION. Machine/Satellites.lean: the meanings of the gauge link's events and of SAT_PRESENT to SAT_STATUS (chapter 6).
-/
namespace Sys2Proof.Machine

/-! ### Events -/

/-- GAUGE_POLL (R107). -/
def execGaugePoll (slot : Fin 4) (s : State) : Host.Outcome State Fault Refusal := stepDone (pollTime slot s)

/-- The slot's next poll time is the one at which the unanswered count reaches 3 and the slot is lost (R111). -/
def lossDue (x : Sat) : Bool := x.state.answering && x.awaiting && decide (2 ≤ x.unanswered)

/-- UNANSWERED_COUNT_REACHED: the poll time at which the count reaches 3 in SETTLING or LIVE (R111). -/
def execUnansweredCountReached (slot : Fin 4) (s : State) : Host.Outcome State Fault Refusal :=
  stepDone (if lossDue s.glc[slot] then pollTime slot s else s)

/-- SATELLITE_ANSWER (R107). -/
def execSatelliteAnswer (slot : Fin 4) (ans : SatAnswer) (s : State) : Host.Outcome State Fault Refusal :=
  stepDone (takeAnswer slot ans s)

/-- SETTLE_TIMER_EXPIRY (R112). -/
def execSettleTimerExpiry (slot : Fin 4) (s : State) : Host.Outcome State Fault Refusal := stepDone (settleExpiry slot s)

/-! ### Commands -/

/-- A slot that is present (R109). -/
def presentSlot (k : Nat) (s : State) (rest : Fin 4 → Answer) : Answer :=
  .get (indexOf 4 k) fun x =>
  .test s.glc[x].present (.refuse .refusedAbsent Config.noDetail) (rest x)

/-- SAT_PRESENT's effect (R109, R123). -/
def setPresence (x : Fin 4) (on : Bool) (settle : Nat) (s : State) : State :=
  let was := s.glc[x].present
  let s := s.modSat x fun y => { y with settleMs := settle }
  match on, was with
  | true, false => satChange x .present (Sat.seek s.clock.now) s
  | false, true => satChange x .removed Sat.remove s
  | true, true | false, false => s

/-- SAT_PRESENT's tests and effect (R109, R201). -/
def satPresentBody (p : List Byte) (s : State) : Answer :=
  .inSetup s <|
  .get (indexOf 4 (u8 p 0)) fun x =>
  .get (flagOf (u8 p 1)) fun on =>
  let settle := clamp (u16 p 2) 0 10000
  .clamped (firstClamped [(settle ≠ u16 p 2, 2)]) [] (setPresence x on settle.toNat s)

/-- SAT_PRESENT (R109). -/
def execSatPresent (f : Frame) (s : State) : Host.Outcome State Fault Refusal :=
  stepDone (command 0x38 (fun _ => 4) satPresentBody f s)

/-- In SETTLING a new pending order clears settle-seen (R112). -/
def Sat.unsee (x : Sat) : Sat := if x.state = .settling then { x with seen := false } else x

/-- SAT_WRITE's tests and effect, answered with the queue's count (R115). -/
def satWriteBody (p : List Byte) (s : State) : Answer :=
  presentSlot (u8 p 0) s fun x =>
  .get (indexOf 16 (u8 p 1)) fun ch =>
  .get (SatSetting.ofCodes (u8 p 2) (u8 p 3)) fun setting =>
  .test (!s.glc[x].draining) (.state Config.noDetail) <|
  .test (s.glc[x].posted.length < Config.postedCap) (.refuse .refusedFull Config.noDetail) <|
  .ok (put1 (s.glc[x].posted.length + 1 : Nat))
    (s.modSat x fun y =>
      Sat.unsee { y with posted := y.posted ++ [{ ch := ch, setting := setting, origin := .posted }] })

/-- SAT_WRITE (R115). -/
def execSatWrite (f : Frame) (s : State) : Host.Outcome State Fault Refusal :=
  stepDone (command 0x39 (fun _ => 4) satWriteBody f s)

/-- A channel of the image, the four field values by their codes (R118, R212). -/
def ImageCh.bytes (c : ImageCh) : List Byte := put1 c.excitation.val ++ put1 c.gain.val ++ put1 c.filter.val ++ put1 c.shunt.val

/-- SAT_READ's test and reply (R118). -/
def satReadBody (p : List Byte) (s : State) : Answer :=
  .get (indexOf 4 (u8 p 0)) fun x =>
  let y := s.glc[x]
  .ok (y.image.toList.flatMap ImageCh.bytes ++ put1 y.posted.length ++ put1 y.restore.length ++ putFlag y.inFlight.isSome) s

/-- SAT_READ (R118). -/
def execSatRead (f : Frame) (s : State) : Host.Outcome State Fault Refusal :=
  stepDone (command 0x3A (fun _ => 1) satReadBody f s)

/-- SAT_RESET's tests and effect (R112, R119). -/
def satResetBody (p : List Byte) (s : State) : Answer :=
  presentSlot (u8 p 0) s fun x =>
  .test (!s.glc[x].draining) (.state Config.noDetail) <|
  .done (s.modSat x fun y => Sat.unsee { y with draining := true })

/-- SAT_RESET (R119). -/
def execSatReset (f : Frame) (s : State) : Host.Outcome State Fault Refusal :=
  stepDone (command 0x3B (fun _ => 1) satResetBody f s)

/-- The order in flight as SAT_STATUS reports it: its kind, and a configuration entry's fields (R125, R212). -/
def orderBytes : Option Order → List Byte
  | none => put1 0 ++ put1 0 ++ put1 0 ++ put1 0 ++ put1 0
  | some .reset => put1 2 ++ put1 0 ++ put1 0 ++ put1 0 ++ put1 0
  | some (.config e) => put1 1 ++ put1 e.ch.val ++ put1 e.setting.field ++ put1 e.setting.value ++ put1 e.origin.code

/-- The settle timer's elapsed time (R125), in whole ms with the fraction dropped, and its whole period once it has expired
and the slot still waits in SETTLING, which no rule gives (log entry 24). -/
def Sat.settleElapsed (now : Nat) (x : Sat) : Nat :=
  if x.settleRunning then (now - x.settleStart) / 1000 else x.settlePeriod

/-- SAT_STATUS's test and reply (R125; layout: log entry 8). -/
def satStatusBody (p : List Byte) (s : State) : Answer :=
  .get (indexOf 4 (u8 p 0)) fun x =>
  let y := s.glc[x]
  let settling := decide (y.state = .settling)
  let num (n : Nat) : Int := if settling then n else 0
  .ok (putFlag y.present ++ put2 y.settleMs ++ put1 y.state.code ++ put1 y.unanswered ++
    put2 (num (y.settleElapsed s.clock.now)) ++ put2 (num y.settlePeriod) ++ putFlag (settling && y.seen) ++
    putFlag y.draining ++ orderBytes y.inFlight ++ put1 y.posted.length ++ put1 y.restore.length ++
    putFlag y.lastFresh ++ putFlag y.lastValid ++ putFlag (s.raised (.satLost x))) s

/-- SAT_STATUS (R125). -/
def execSatStatus (f : Frame) (s : State) : Host.Outcome State Fault Refusal :=
  stepDone (command 0x3C (fun _ => 1) satStatusBody f s)

end Sys2Proof.Machine
end

