-- ==== Sys2Proof/Machine/Station.lean ====
section
/-!
DEFINITION. Machine/Station.lean: the meanings of the station's own rows: POWER to AUXILIARY_ANALOG_SAMPLE, the link's rows,
and the commands STATUS to RESTART, HALT and FETCH (chapters 1 and 11).
-/
namespace Sys2Proof.Machine

/-! ### Events -/

/-- POWER (R12). -/
def execPower (straps : Address) (s : State) : Host.Outcome State Fault Refusal :=
  stepDone (coldReset straps { power := true } s)

/-- LINE (R12). -/
def execLine (straps : Address) (s : State) : Host.Outcome State Fault Refusal :=
  stepDone (coldReset straps { line := true } s)

/-- DEFERRED_RESTART: the reset takes place once every actuator is OFF or TRIPPED (R11). -/
def execDeferredRestart (s : State) : Host.Outcome State Fault Refusal :=
  stepDone (finish s)

/-- HALT_LOOP_CHANGE: the loop's state, and HALT_LOOP raised at an open event and lowered at a close event (R9). -/
def execHaltLoopChange (isOpen : Bool) (s : State) : Host.Outcome State Fault Refusal :=
  stepDone (setTo .haltLoop isOpen (s.modStc fun c => { c with haltOpen := isOpen }))

/-- CONTACT_EDGE (R19). -/
def execContactEdge (slot : Fin 16) (closed : Bool) (s : State) : Host.Outcome State Fault Refusal :=
  stepDone (contactEdge slot closed s)

/-- AUXILIARY_ANALOG_SAMPLE (R17). -/
def execAuxiliaryAnalogSample (slot : Fin 16) (raw : Int) (s : State) : Host.Outcome State Fault Refusal :=
  stepDone (analogSample slot raw s)

/-! ### The link's events (R196 to R202) -/

/-- FRAMING_FAILURE: the bytes are received that bring the frame to its failure by length or CRC (R196, R197). -/
def execFramingFailure (bytes : List Byte) (s : State) : Host.Outcome State Fault Refusal :=
  stepDone (receiveBytes bytes s)

/-- BYTE_SPACING_TIMEOUT: the bytes are received, and then more than 2 ms pass without another (R196, R197). -/
def execByteSpacingTimeout (bytes : List Byte) (s : State) : Host.Outcome State Fault Refusal :=
  stepDone (spacingTimeout (receiveBytes bytes s))

/-- UNKNOWN_COMMAND_CODE (R200). -/
def execUnknownCommandCode (code : Byte) (f : Frame) (s : State) : Host.Outcome State Fault Refusal :=
  stepDone (unknownCode code f s)

/-- REPLY_SENT (R202). -/
def execReplySent (s : State) : Host.Outcome State Fault Refusal := stepDone (replyDone s)

/-! ### STATUS, MODE, STATION_SET -/

/-- STATUS's reply (R13; layout: log entry 8). -/
def statusBody (s : State) : Answer :=
  let c := s.stc
  .ok (put1 c.resetRecord.code ++ put1 c.address.toNat ++ put1 c.mode.code ++ putFlag c.restartPending ++
    put1 c.settings.mask.toNat ++ putFlag c.settings.acceptGroupRestart ++ putFlag c.settings.keepSettings ++
    putFlag c.settings.attentionEnable ++ put2 c.settings.binTime ++ put4 s.time ++ putFlag c.haltOpen ++
    put1 s.sli.notices.length ++ putFlag s.sli.noticesLost ++ put2 s.sli.linkErrors) s

/-- STATUS (R13). -/
def execStatus (f : Frame) (s : State) : Host.Outcome State Fault Refusal :=
  stepDone (readCommand 0x01 statusBody f s)

/-- An actuator is covered by an enabled window of a quantity whose bounds satisfy a test (R5, R56). -/
def State.covered (s : State) (a : Fin 8) (q : Quantity) (p : Window → Bool) : Bool :=
  (coveringWindows s.svc.windows q a).any fun i => p s.svc.windows[i]

/-- The objects of a RUN-entry item that fail it, as indexes, ascending (R5). -/
def runItem (s : State) : Nat → List Nat
  | 1 => ((List.finRange 8).filter fun a => (s.act a).cfg.enabled &&
      !(s.covered a .force (fun _ => true) && s.covered a .stroke (fun _ => true))).map Fin.val
  | 2 => ((List.finRange 8).filter fun a => (s.act a).cfg.enabled &&
      !s.covered a .force (fun w => w.holds (s.act a).cfg.unloadTarget)).map Fin.val
  | 3 => ((List.finRange 8).filter fun a => (s.groupOf a).isSome &&
      !((s.act a).cfg.enabled && decide (s.psq.tracks[a].quantity = .force))).map Fin.val
  | 4 => ((List.finRange 64).filter fun c => s.stp.chans[c].cfg.enabled && !s.glc[chanSlot c].present).map Fin.val
  | 5 => ((List.finRange 64).filter fun c => s.stp.chans[c].cfg.enabled &&
      match s.stp.chans[c].cfg.tempSlot with
      | none => false
      | some x => decide (s.axs[x].fn ≠ .temperature)).map Fin.val
  | 6 => ((List.finRange 8).filter fun t =>
      match s.psq.tracks[t].deflection with
      | none => false
      | some x => decide (s.axs[x].fn ≠ .deflection)).map Fin.val
  | 7 => ((List.finRange 16).filter fun z =>
      match s.zmn.zones[z].cfg.track with
      | none => false
      | some t => !(s.act t).cfg.enabled).map Fin.val
  | _ => []

/-- The RUN-entry check: the detail of its first failure, item × 256 + index (R5). -/
def runCheck (s : State) : Option Nat :=
  ([1, 2, 3, 4, 5, 6, 7].flatMap fun item => (runItem s item).map fun i => item * 256 + i).head?

/-- The lowest-numbered actuator that is not OFF (R6, R8). -/
def State.notOff (s : State) : Option (Fin 8) := (List.finRange 8).find? fun a => (s.act a).state ≠ .off

/-- The lowest-numbered STATION-scope entry that is ACTIVE or LATCHED (R8). -/
def State.stationEntry (s : State) : Option (Fin 40) :=
  (List.finRange 40).find? fun e => decide (s.pmx.entries[e].cfg.scope = .station) && decide (s.pmx.entries[e].st ≠ .quiet)

/-- The station enters SETUP, and the sequencer IDLE (R6, R8, R46). -/
def enterSetup (s : State) : State := flush (seqIdle (s.modStc fun c => { c with mode := .setup }))

/-- MODE's tests and effect (R4, R6, R8). -/
def modeBody (p : List Byte) (s : State) : Answer :=
  match s.stc.mode, u8 p 0 with
  | .safe, 1 => .mode
  | .run, 1 | .setup, 0 => .done s
  | .setup, 1 => match runCheck s with
    | some d => .state d
    | none => .done (s.modStc fun c => { c with mode := .run })
  | .run, 0 => match s.notOff with
    | some a => .state (8 * 256 + a.val)
    | none => .done (enterSetup s)
  | .safe, 0 => match s.notOff, s.stationEntry with
    | some a, _ => .state (8 * 256 + a.val)
    | none, some e => .state (9 * 256 + e.val)
    | none, none => .done (enterSetup s)
  | _, _ => .range

/-- MODE (R4). -/
def execMode (f : Frame) (s : State) : Host.Outcome State Fault Refusal :=
  stepDone (command 0x02 (fun _ => 1) modeBody f s)

/-- STATION_SET's tests and effect (R14, R201). -/
def stationSetBody (p : List Byte) (s : State) : Answer :=
  .test (u8 p 0 ≤ 31) .range <|
  .get (flagOf (u8 p 1)) fun group =>
  .get (flagOf (u8 p 2)) fun keep =>
  .get (flagOf (u8 p 3)) fun attention =>
  let bin := clamp (u16 p 4) 1 600
  .clamped (firstClamped [(bin ≠ u16 p 4, 4)]) []
    (s.modStc fun c => { c with settings :=
      { mask := BitVec.ofNat 5 (u8 p 0), acceptGroupRestart := group, keepSettings := keep, attentionEnable := attention
        binTime := bin.toNat } })

/-- STATION_SET (R14). -/
def execStationSet (f : Frame) (s : State) : Host.Outcome State Fault Refusal :=
  stepDone (command 0x03 (fun _ => 6) stationSetBody f s)

/-! ### Auxiliary slots -/

/-- ASSIGN's tests and effect (R15). -/
def assignBody (p : List Byte) (s : State) : Answer :=
  .inSetup s <|
  .get (indexOf 16 (u8 p 0)) fun x =>
  .get (SlotFn.ofCode (u8 p 1)) fun fn =>
  .test (fn.takenBy x) .range <|
  .done (if s.axs[x].fn = fn then s
    else senseContact x (lower (.auxLimit x) (s.modSlot x fun y => { y with fn := fn, value := 0 })))

/-- ASSIGN (R15). -/
def execAssign (f : Frame) (s : State) : Host.Outcome State Fault Refusal :=
  stepDone (command 0x04 (fun _ => 2) assignBody f s)

/-- SLOT_SET's tests and effect (R16, R19). -/
def slotSetBody (p : List Byte) (s : State) : Answer :=
  .get (indexOf 16 (u8 p 0)) fun x =>
  .test (inRange (-2000000) 2000000 (s32 p 5) && inRange (-2000000) 2000000 (s32 p 9)) .range <|
  .test (s32 p 5 ≤ s32 p 9) .range <|
  .get (flagOf (u8 p 13)) fun openFault =>
  .done (judgeAux x (s.modSlot x fun y =>
    { y with scale := s16 p 1, offset := s16 p 3, low := s32 p 5, high := s32 p 9, openFault := openFault }))

/-- SLOT_SET (R16). -/
def execSlotSet (f : Frame) (s : State) : Host.Outcome State Fault Refusal :=
  stepDone (command 0x05 (fun _ => 14) slotSetBody f s)

/-- SLOT_READ's tests and reply (R20; layout: log entry 8). -/
def slotReadBody (p : List Byte) (s : State) : Answer :=
  .get (indexOf 16 (u8 p 0)) fun x =>
  let y := s.axs[x]
  .ok (put1 y.fn.code ++ put4 (s.slotValue x) ++ putFlag (s.raised (.auxLimit x)) ++ put2 y.scale ++ put2 y.offset ++
    put4 y.low ++ put4 y.high ++ putFlag y.openFault) s

/-- SLOT_READ (R20). -/
def execSlotRead (f : Frame) (s : State) : Host.Outcome State Fault Refusal :=
  stepDone (command 0x06 (fun _ => 1) slotReadBody f s)

/-! ### RESTART, HALT, FETCH -/

/-- A RESTART that is taken (R10). -/
def restartAct (s : State) : State := if s.allAtRest then restartReset s else restartWait s

/-- RESTART: by group delivery only with "accept group restart" on; addressed, its reply is formed before the reset
(R10, R199, R202). -/
def restartCommand (f : Frame) (before : State) : State :=
  let s := before.received
  match s.delivery f with
  | .ignored => s
  | .group =>
    if f.payload = [] ∧ s.stc.restartPending = false ∧ s.stc.settings.acceptGroupRestart = true then restartAct s else s
  | .addressed =>
    let taken := decide (f.payload = []) && !s.stc.restartPending && decide (s.sli.replies.length < Config.replyCap)
    let s' := addressed 0x07
      (accept (fun _ => 0) false (fun _ s => .done (if s.allAtRest then s else restartWait s)) f) f s
    if taken = true ∧ s.allAtRest = true then restartReset s' else s'

/-- RESTART (R10). -/
def execRestart (f : Frame) (s : State) : Host.Outcome State Fault Refusal := stepDone (restartCommand f s)

/-- HALT raises BROADCAST_HALT, taken whole, and then lowers it (R177, R204). -/
def haltAct (s : State) : State := lower .broadcastHalt (raise .broadcastHalt s)

/-- HALT (R204). -/
def execHalt (f : Frame) (s : State) : Host.Outcome State Fault Refusal :=
  stepDone (groupCommand 0x08 (fun s => .done (haltAct s)) f s)

/-- The record of kind NONE that FETCH returns on an empty queue (R207). -/
def noNotice : Notice := { kind := .none, time := 0, cycles := 0, subject := 0 }

/-- FETCH's effect and reply: the number of notices left, and the oldest notice (R207, R212). -/
def fetchBody (s : State) : Answer :=
  let rest := s.sli.notices.drop 1
  .ok (put1 rest.length ++ (s.sli.notices.head?.getD noNotice).bytes)
    (s.modLink fun l => { l with notices := rest, noticesLost := if rest.isEmpty then false else l.noticesLost })

/-- FETCH (R207). -/
def execFetch (f : Frame) (s : State) : Host.Outcome State Fault Refusal :=
  stepDone (readCommand 0x70 fetchBody f s)

end Sys2Proof.Machine
end

