-- ==== Sys2Proof/Machine/Strains.lean ====
section
/-!
DEFINITION. Machine/Strains.lean: the meanings of ZEROING_COMPLETION and of CH_CONFIG to STIFF_REF (chapter 7).
-/
namespace Sys2Proof.Machine

/-- The answer's set is the sixteenth of a zeroing channel (R113, R132). -/
def zeroingDue (c : Fin 64) (ans : SatAnswer) (s : State) : Bool :=
  let x := s.stp.chans[c]
  answerTaken (chanSlot c) ans s && decide (s.glc[chanSlot c].state = .live) && ans.valid && x.cfg.enabled &&
    match x.zeroing with
    | none => false
    | some (n, _) => decide (15 ≤ n)

/-- ZEROING_COMPLETION: the answer whose set is the sixteenth conversion of a zeroing channel (R132). -/
def execZeroingCompletion (c : Fin 64) (ans : SatAnswer) (s : State) : Host.Outcome State Fault Refusal :=
  stepDone (if zeroingDue c ans s then takeAnswer (chanSlot c) ans s else s)

/-! ### CH_CONFIG -/

/-- A channel record as stored, limits high first (R127, R209). -/
def ChanConfig.bytes (c : ChanConfig) : List Byte :=
  putFlag c.enabled ++ put1 c.bridge.code ++ put2 c.gauge ++ put4 c.zero ++ putOpt c.tempSlot ++ put2 c.t0 ++
  put2 c.coeff ++ put4 c.high ++ put4 c.low ++ put4 c.hyst

/-- The channel record of CH_CONFIG's fields, none where a field fails (R127). -/
def chanConfigOf (p : List Byte) : Option ChanConfig :=
  match flagOf (u8 p 1), Bridge.ofCode (u8 p 2), optIndexOf 16 (u8 p 9) with
  | some enabled, some bridge, some slot =>
    let c : ChanConfig :=
      { enabled := enabled, bridge := bridge, gauge := u16 p 3, zero := s32 p 5, tempSlot := slot, t0 := s16 p 10
        coeff := s16 p 12, high := s32 p 14, low := s32 p 18, hyst := u32 p 22 }
    if inRange 1500 3000 c.gauge && inRange (-2000000) 2000000 c.zero && inRange (-10000) 10000 c.coeff &&
        inRange (-300000) 300000 c.high && inRange (-300000) 300000 c.low && decide (c.low ≤ c.high) &&
        inRange 0 300000 c.hyst then some c
    else none
  | _, _, _ => none

/-- A CH_CONFIG changes a field that is fixed outside SETUP (R3, R127). -/
def chanStructural (p : List Byte) (s : State) : Bool :=
  match indexOf 64 (u8 p 0) with
  | none => false
  | some c =>
    let f := s.stp.chans[c].cfg
    decide (u8 p 1 ≠ if f.enabled then 1 else 0) || decide (u8 p 2 ≠ f.bridge.code) ||
      decide (u8 p 9 ≠ match f.tempSlot with
        | none => 255
        | some x => x.val)

/-- A channel takes a new record; a channel that is disabled fails its zeroing, and its STRAIN_LIMIT is lowered
(R127, R130, R133). The record comes first, so the zero kept in ZERO_FAILED is the one it carries (log entry 22). -/
def storeChan (c : Fin 64) (f : ChanConfig) (s : State) : State :=
  let s := s.modChan c fun x => { x with cfg := f }
  if f.enabled then s else lower (.strainLimit c) (failZeroing c 1 s)

/-- CH_CONFIG's tests and effect (R127). -/
def chConfigBody (p : List Byte) (s : State) : Answer :=
  .test (decide (s.stc.mode = .setup) || !chanStructural p s) .mode <|
  .get (indexOf 64 (u8 p 0)) fun c =>
  .get (chanConfigOf p) fun f =>
  .ok f.bytes (storeChan c f s)

/-- CH_CONFIG (R127). -/
def execChConfig (f : Frame) (s : State) : Host.Outcome State Fault Refusal :=
  stepDone (command 0x40 (fun _ => 26) chConfigBody f s)

/-! ### CH_ZERO, CH_READ -/

/-- The channel form of CH_ZERO (R131). -/
def zeroChannel (c : Fin 64) (s : State) : Answer :=
  let x := chanSlot c
  .test s.glc[x].present (.refuse .refusedAbsent Config.noDetail) <|
  .test s.stp.chans[c].cfg.enabled (.state c.val) <|
  .test (s.glc[x].state = .live) (.state (x.val * 16)) <|
  .done (startZeroing c s)

/-- The slot form of CH_ZERO, answered with the number of channels started (R131). -/
def zeroSlot (x : Fin 4) (s : State) : Answer :=
  let l := (slotChans x).filter fun c => s.stp.chans[c].cfg.enabled
  .test s.glc[x].present (.refuse .refusedAbsent Config.noDetail) <|
  .test (s.glc[x].state = .live) (.state (x.val * 16)) <|
  .test (!l.isEmpty) (.state Config.noDetail) <|
  .ok (put1 l.length) (l.foldl (fun s c => startZeroing c s) s)

/-- CH_ZERO's two forms (R131, R209). -/
def chZeroBody (p : List Byte) (s : State) : Answer :=
  match u8 p 0 with
  | 0 => .get (indexOf 64 (u8 p 1)) fun c => zeroChannel c s
  | 1 => .get (indexOf 4 (u8 p 1)) fun x => zeroSlot x s
  | _ => .range

/-- CH_ZERO (R131). -/
def execChZero (f : Frame) (s : State) : Host.Outcome State Fault Refusal :=
  stepDone (command 0x41 (fun _ => 2) chZeroBody f s)

/-- A channel as CH_READ reports it (R134). -/
def chanBytes (s : State) (c : Fin 64) : List Byte :=
  let x := s.stp.chans[c]
  put1 (s.chanStatus c).code ++ put4 x.value ++ putFlag x.overrange ++ putFlag (s.raised (.strainLimit c)) ++ put4 x.lastRaw

/-- What CH_READ adds with count 1: the record, and while ZEROING the set count (R134). -/
def chanExtra (s : State) (c : Fin 64) : List Byte :=
  let x := s.stp.chans[c]
  x.cfg.bytes ++ if s.chanStatus c = .zeroing then put1 (x.zeroing.getD (0, 0)).1 else []

/-- CH_READ's tests and reply (R134; layout: log entry 8). -/
def chReadBody (p : List Byte) (s : State) : Answer :=
  let first := u8 p 0
  let count := u8 p 1
  .test (decide (first < 64) && inRange 1 16 count && decide (first + count ≤ 64)) .range <|
  let l := (List.finRange 64).filter fun c => decide (first ≤ c.val) && decide (c.val < first + count)
  .ok (l.flatMap (chanBytes s) ++ if count = 1 then l.flatMap (chanExtra s) else []) s

/-- CH_READ (R134). -/
def execChRead (f : Frame) (s : State) : Host.Outcome State Fault Refusal :=
  stepDone (command 0x42 (fun _ => 2) chReadBody f s)

/-! ### Snapshots -/

/-- The first number of a list that stands in it again later: the detail of R136, which with several different duplicates is
the model's choice (log entry 22). -/
def firstDuplicate : List Nat → Option Nat
  | [] => none
  | x :: l => if l.contains x then some x else firstDuplicate l

/-- SNAP_LIST's tests and effect (R136). -/
def snapListBody (p : List Byte) (s : State) : Answer :=
  let l := (p.drop 1).map BitVec.toNat
  .test (u8 p 0 ≤ Config.snapListCap) .range <|
  .test (l.all fun c => decide (c < 64)) .range <|
  match firstDuplicate l with
  | some c => .refuse .refusedRange c
  | none =>
    let list := l.filterMap (indexOf 64)
    .ok (put1 list.length ++ list.flatMap fun c => put1 c.val) (s.modStp fun t => { t with snapList := list })

/-- SNAP_LIST, whose length is 1 + count (R136, R209). -/
def execSnapList (f : Frame) (s : State) : Host.Outcome State Fault Refusal :=
  stepDone (command 0x43 (fun p => 1 + u8 p 0) snapListBody f s)

/-- SNAP_NOW's tests and effect, answered with the queue's count (R139). -/
def snapNowBody (p : List Byte) (s : State) : Answer :=
  .get (indexOf 8 (u8 p 0)) fun t =>
  .test (s.stp.snaps.length < Config.snapCap) (.refuse .refusedFull Config.noDetail) <|
  .ok (put1 (s.stp.snaps.length + 1 : Nat)) (offerSnap (s.snapshot .manual t none) s)

/-- SNAP_NOW (R139). -/
def execSnapNow (f : Frame) (s : State) : Host.Outcome State Fault Refusal :=
  stepDone (command 0x44 (fun _ => 1) snapNowBody f s)

/-- SNAP_FETCH's effect and reply: record-present flag, skipped count, records left, record (R140, R212). -/
def snapFetchBody (_ : List Byte) (s : State) : Answer :=
  let rest := s.stp.snaps.drop 1
  .ok (putFlag s.stp.snaps.head?.isSome ++ put1 s.stp.skipped ++ put1 rest.length ++
      (match s.stp.snaps.head? with
        | none => []
        | some r => r.bytes))
    (s.modStp fun t => { t with snaps := rest, skipped := 0 })

/-- SNAP_FETCH (R140). -/
def execSnapFetch (f : Frame) (s : State) : Host.Outcome State Fault Refusal :=
  stepDone (command 0x45 (fun _ => 0) snapFetchBody f s)

/-! ### STIFF_REF -/

/-- A track's stiffness record: reference, last k, last ratio, STIFFNESS (R143; layout: log entry 8). -/
def stiffBytes (s : State) (t : Fin 8) : List Byte :=
  let x := s.stp.stiff[t]
  putOpt2 x.kRef ++ putOpt2 x.k ++ putOpt2 x.ratio ++ putFlag (s.raised (.stiffness t))

/-- STIFF_REF's tests, effect and reply (R143). -/
def stiffRefBody (p : List Byte) (s : State) : Answer :=
  .get (optIndexOf 8 (u8 p 0)) fun t =>
  .get (flagOf (u8 p 1)) fun clear =>
  let l := match t with
    | none => List.finRange 8
    | some t => [t]
  .ok (l.flatMap (stiffBytes s)) (if clear then l.foldl (fun s t => clearStiffness t s) s else s)

/-- STIFF_REF (R143). -/
def execStiffRef (f : Frame) (s : State) : Host.Outcome State Fault Refusal :=
  stepDone (command 0x46 (fun _ => 2) stiffRefBody f s)

end Sys2Proof.Machine
end

