-- ==== Sys2Proof/Machine/ZoneRows.lean ====
section
/-!
DEFINITION. Machine/ZoneRows.lean: the meanings of BIN_TIMER_EXPIRY and of ZONE_SET to ZONE_ACK (chapter 9).
-/
namespace Sys2Proof.Machine

/-- BIN_TIMER_EXPIRY (R167). -/
def execBinTimerExpiry (s : State) : Host.Outcome State Fault Refusal := stepDone (binExpiry s)

/-- The level of the first used threshold below a used threshold before it, 0, 1 or 2 (R163). -/
def thresholdFault (t : Thresholds) : Option Nat :=
  if t.alert ≠ 0 ∧ t.alert < t.watch then some 1
  else if t.alarm ≠ 0 ∧ t.alarm < max t.watch t.alert then some 2
  else none

/-- A zone definition as stored (R163, R209). -/
def ZoneConfig.bytes (c : ZoneConfig) : List Byte :=
  putFlag c.enabled ++ putAeSet c.first ++ putAeSet c.second ++ put2 c.dtLow ++ put2 c.dtHigh ++ putOpt c.track ++
  putFlag c.gate.isSome ++ put2 (c.gate.getD 0) ++ putSet c.mask ++ put1 c.bins ++
  put2 c.counts.watch ++ put2 c.counts.alert ++ put2 c.counts.alarm ++
  put2 c.energies.watch ++ put2 c.energies.alert ++ put2 c.energies.alarm

/-- The zone definition of ZONE_SET's fields, none where a field fails (R163). -/
def zoneConfigOf (p : List Byte) : Option ZoneConfig :=
  match flagOf (u8 p 1), optIndexOf 8 (u8 p 10), flagOf (u8 p 11) with
  | some enabled, some track, some gate =>
    if decide (u16 p 2 < 4096) && decide (u16 p 4 < 4096) && decide (u16 p 6 ≤ 2000) && decide (u16 p 8 ≤ 2000) &&
        (!gate || inRange (-10000) 10000 (s16 p 12)) && inRange 1 64 (u8 p 15) && decide (u16 p 6 ≤ u16 p 8) then
      some { enabled := enabled, first := BitVec.ofNat 12 (u16 p 2), second := BitVec.ofNat 12 (u16 p 4)
             dtLow := u16 p 6, dtHigh := u16 p 8, track := track
             gate := if gate then some (s16 p 12) else none
             mask := p.getD 14 0, bins := u8 p 15
             counts := { watch := u16 p 16, alert := u16 p 18, alarm := u16 p 20 }
             energies := { watch := u16 p 22, alert := u16 p 24, alarm := u16 p 26 } }
    else none
  | _, _, _ => none

/-- An accepted ZONE_SET: definition, empty ring, latched level QUIET, evaluation (R164). -/
def storeZone (z : Fin 16) (c : ZoneConfig) (s : State) : State :=
  evaluateZone .set z
    (s.modZone z fun x => { x with cfg := c, bins := List.replicate c.bins {}, latched := .quiet })

/-- ZONE_SET's tests and effect (R163, R164). -/
def zoneSetBody (p : List Byte) (s : State) : Answer :=
  .inSetup s <|
  .get (indexOf 16 (u8 p 0)) fun z =>
  .get (zoneConfigOf p) fun c =>
  match thresholdFault c.counts, thresholdFault c.energies with
  | some d, _ => .refuse .refusedRange d
  | none, some d => .refuse .refusedRange (16 + d)
  | none, none => .ok c.bytes (storeZone z c s)

/-- ZONE_SET (R163). -/
def execZoneSet (f : Frame) (s : State) : Host.Outcome State Fault Refusal :=
  stepDone (command 0x52 (fun _ => 28) zoneSetBody f s)

/-- The three levels of a zone: present, latched, displayed (R173, R175). -/
def Zone.levelBytes (z : Zone) : List Byte := put1 z.presentLevel.code ++ put1 z.latched.code ++ put1 z.displayed.code

/-- The window sums of a zone (R173, R175). -/
def Zone.sumBytes (z : Zone) : List Byte := put4 z.countSum ++ put4 z.energySum

/-- ZONE_STATUS's test and reply, the bin timer's elapsed time in whole ms (R175; layout: log entry 8; the fraction dropped:
log entry 24). -/
def zoneStatusBody (p : List Byte) (s : State) : Answer :=
  .get (indexOf 16 (u8 p 0)) fun z =>
  let x := s.zmn.zones[z]
  .ok (x.cfg.bytes ++ x.levelBytes ++ putFlag (s.raised (.zoneAlert z)) ++ putFlag (s.raised (.zoneAlarm z)) ++ x.sumBytes ++
    (x.bins.take 16).flatMap (fun b => put2 b.count ++ put2 b.energy) ++ put1 x.lastHits ++
    put4 s.zmn.tickCount ++ put1 s.zmn.lastTick.code ++ put2 s.zmn.timerSec ++
    put4 ((s.clock.now - s.zmn.timerStart) / 1000 : Nat)) s

/-- ZONE_STATUS (R175). -/
def execZoneStatus (f : Frame) (s : State) : Host.Outcome State Fault Refusal :=
  stepDone (command 0x53 (fun _ => 1) zoneStatusBody f s)

/-- A ZONE_ACK that is taken (R173). -/
def ackZone (z : Fin 16) (clear : Bool) (s : State) : State :=
  evaluateZone .ack z (s.modZone z fun x => { (if clear then x.emptyBins else x) with latched := .quiet })

/-- ZONE_ACK's tests, effect and reply (R173). -/
def zoneAckBody (p : List Byte) (s : State) : Answer :=
  .get (indexOf 16 (u8 p 0)) fun z =>
  .get (flagOf (u8 p 1)) fun clear =>
  let s := ackZone z clear s
  .ok (s.zmn.zones[z].levelBytes ++ s.zmn.zones[z].sumBytes) s

/-- ZONE_ACK (R173). -/
def execZoneAck (f : Frame) (s : State) : Host.Outcome State Fault Refusal :=
  stepDone (command 0x54 (fun _ => 2) zoneAckBody f s)

end Sys2Proof.Machine
end

