-- ==== Sys2Proof/Machine/Dispatch.lean ====
section
/-!
DEFINITION. Machine/Dispatch.lean: the meaning of each row of spec/opcode_table.json, one arm for each.
-/
namespace Sys2Proof.Machine

def exec (i : Instr) (s : State) : Host.Outcome State Fault Refusal :=
  match i with
  | .power straps => Sys2Proof.Machine.execPower straps s
  | .line straps => Sys2Proof.Machine.execLine straps s
  | .deferredRestart => Sys2Proof.Machine.execDeferredRestart s
  | .haltLoopChange isOpen => Sys2Proof.Machine.execHaltLoopChange isOpen s
  | .contactEdge slot closed => Sys2Proof.Machine.execContactEdge slot closed s
  | .auxiliaryAnalogSample slot raw => Sys2Proof.Machine.execAuxiliaryAnalogSample slot raw s
  | .controlSample r => Sys2Proof.Machine.execControlSample r s
  | .followingCountReached a r => Sys2Proof.Machine.execFollowingCountReached a r s
  | .stallCountReached a r => Sys2Proof.Machine.execStallCountReached a r s
  | .countedCycle r => Sys2Proof.Machine.execCountedCycle r s
  | .steadyEnd r => Sys2Proof.Machine.execSteadyEnd r s
  | .rampEnd r => Sys2Proof.Machine.execRampEnd r s
  | .dwellExpiry r => Sys2Proof.Machine.execDwellExpiry r s
  | .approachEnd r => Sys2Proof.Machine.execApproachEnd r s
  | .taperUpEnd r => Sys2Proof.Machine.execTaperUpEnd r s
  | .taperDownEnd r => Sys2Proof.Machine.execTaperDownEnd r s
  | .pausingEnd r => Sys2Proof.Machine.execPausingEnd r s
  | .lowPressureTimerExpiry a => Sys2Proof.Machine.execLowPressureTimerExpiry a s
  | .highPressureTimerExpiry a => Sys2Proof.Machine.execHighPressureTimerExpiry a s
  | .unloadCompletion a r => Sys2Proof.Machine.execUnloadCompletion a r s
  | .unloadTimerExpiry a => Sys2Proof.Machine.execUnloadTimerExpiry a s
  | .gaugePoll slot => Sys2Proof.Machine.execGaugePoll slot s
  | .unansweredCountReached slot => Sys2Proof.Machine.execUnansweredCountReached slot s
  | .satelliteAnswer slot ans => Sys2Proof.Machine.execSatelliteAnswer slot ans s
  | .settleTimerExpiry slot => Sys2Proof.Machine.execSettleTimerExpiry slot s
  | .zeroingCompletion ch ans => Sys2Proof.Machine.execZeroingCompletion ch ans s
  | .thresholdCrossing ch x => Sys2Proof.Machine.execThresholdCrossing ch x s
  | .hdtExpiry ch => Sys2Proof.Machine.execHdtExpiry ch s
  | .durationExpiry ch => Sys2Proof.Machine.execDurationExpiry ch s
  | .lockoutExpiry ch => Sys2Proof.Machine.execLockoutExpiry ch s
  | .windowTimerExpiry => Sys2Proof.Machine.execWindowTimerExpiry s
  | .binTimerExpiry => Sys2Proof.Machine.execBinTimerExpiry s
  | .framingFailure bytes => Sys2Proof.Machine.execFramingFailure bytes s
  | .byteSpacingTimeout bytes => Sys2Proof.Machine.execByteSpacingTimeout bytes s
  | .unknownCommandCode code f => Sys2Proof.Machine.execUnknownCommandCode code f s
  | .replySent => Sys2Proof.Machine.execReplySent s
  | .status f => Sys2Proof.Machine.execStatus f s
  | .mode f => Sys2Proof.Machine.execMode f s
  | .stationSet f => Sys2Proof.Machine.execStationSet f s
  | .assign f => Sys2Proof.Machine.execAssign f s
  | .slotSet f => Sys2Proof.Machine.execSlotSet f s
  | .slotRead f => Sys2Proof.Machine.execSlotRead f s
  | .restart f => Sys2Proof.Machine.execRestart f s
  | .halt f => Sys2Proof.Machine.execHalt f s
  | .go f => Sys2Proof.Machine.execGo f s
  | .planWrite f => Sys2Proof.Machine.execPlanWrite f s
  | .planRead f => Sys2Proof.Machine.execPlanRead f s
  | .planSet f => Sys2Proof.Machine.execPlanSet f s
  | .trackSet f => Sys2Proof.Machine.execTrackSet f s
  | .start f => Sys2Proof.Machine.execStart f s
  | .hold f => Sys2Proof.Machine.execHold f s
  | .resume f => Sys2Proof.Machine.execResume f s
  | .abort f => Sys2Proof.Machine.execAbort f s
  | .seqStatus f => Sys2Proof.Machine.execSeqStatus f s
  | .windowSet f => Sys2Proof.Machine.execWindowSet f s
  | .actConfig f => Sys2Proof.Machine.execActConfig f s
  | .actGains f => Sys2Proof.Machine.execActGains f s
  | .actMode f => Sys2Proof.Machine.execActMode f s
  | .actControl f => Sys2Proof.Machine.execActControl f s
  | .actSource f => Sys2Proof.Machine.execActSource f s
  | .actManual f => Sys2Proof.Machine.execActManual f s
  | .actStatus f => Sys2Proof.Machine.execActStatus f s
  | .groupSet f => Sys2Proof.Machine.execGroupSet f s
  | .groupStatus f => Sys2Proof.Machine.execGroupStatus f s
  | .satPresent f => Sys2Proof.Machine.execSatPresent f s
  | .satWrite f => Sys2Proof.Machine.execSatWrite f s
  | .satRead f => Sys2Proof.Machine.execSatRead f s
  | .satReset f => Sys2Proof.Machine.execSatReset f s
  | .satStatus f => Sys2Proof.Machine.execSatStatus f s
  | .chConfig f => Sys2Proof.Machine.execChConfig f s
  | .chZero f => Sys2Proof.Machine.execChZero f s
  | .chRead f => Sys2Proof.Machine.execChRead f s
  | .snapList f => Sys2Proof.Machine.execSnapList f s
  | .snapNow f => Sys2Proof.Machine.execSnapNow f s
  | .snapFetch f => Sys2Proof.Machine.execSnapFetch f s
  | .stiffRef f => Sys2Proof.Machine.execStiffRef f s
  | .aeChannel f => Sys2Proof.Machine.execAeChannel f s
  | .aeChannelWindow f => Sys2Proof.Machine.execAeChannelWindow f s
  | .aeFetch f => Sys2Proof.Machine.execAeFetch f s
  | .zoneSet f => Sys2Proof.Machine.execZoneSet f s
  | .zoneStatus f => Sys2Proof.Machine.execZoneStatus f s
  | .zoneAck f => Sys2Proof.Machine.execZoneAck f s
  | .protEntry f => Sys2Proof.Machine.execProtEntry f s
  | .protList f => Sys2Proof.Machine.execProtList f s
  | .protClear f => Sys2Proof.Machine.execProtClear f s
  | .protFirstClear f => Sys2Proof.Machine.execProtFirstClear f s
  | .tripLog f => Sys2Proof.Machine.execTripLog f s
  | .fetch f => Sys2Proof.Machine.execFetch f s

end Sys2Proof.Machine
end

