-- ==== Sys2Proof/Machine/Step.lean ====
section
/-!
DEFINITION. Machine/Step.lean: one step of the station: the command at the front of the queue, or, on an empty queue, one
microsecond in which nothing arrives (log entries 1 and 2).
-/
namespace Sys2Proof.Machine

/-- The command at the front of the queue is taken, with the queue's rest; an empty queue lets one microsecond pass. -/
def step (s : State) : Host.Outcome State Fault Refusal :=
  match s.pending with
  | [] => .next s.tick
  | c :: rest => exec c { s with pending := rest }

/-- The state with the command a table word spells at the front of its queue. No row of the table has bits, so no word
spells one and the state is unchanged (log entry 1). -/
def State.withFetchWord (s : State) (nbits w : Nat) : State :=
  match Sys2Proof.decodeTableWord nbits w with
  | none => s
  | some c => { s with pending := c :: s.pending }

end Sys2Proof.Machine
end

