-- ==== Sys2Proof/WellFormed.lean ====
section
/-!
DEFINITION. WellFormed.lean: the operands that can arrive: readings inside the ranges of 00_scope.md ("Engineering units"),
frames that fit their row, and at least the byte at which a frame fails. Meanings are total and do not ask for it.
-/
namespace Sys2Proof

/-- A value lies in a range. -/
def within (lo hi x : Int) : Bool := decide (lo ≤ x) && decide (x ≤ hi)

/-- Card readings of −32768..32767, and nothing put first twice but the zones and the marks, of which a sample has many
(R49, R185). -/
def Readings.wf (r : Readings) : Bool :=
  r.force.all (within (-32768) 32767) && r.stroke.all (within (-32768) 32767) &&
    decide (r.first.filter fun i => decide (i ≠ .zone) && decide (i ≠ .mark)).Nodup

/-- Raw bridge readings of −2000000..2000000 (R107). -/
def SatAnswer.wf (a : SatAnswer) : Bool := a.set.all (within (-2000000) 2000000)

/-- Amplitude 0..100 dB and energy 0..255 (R148). -/
def Crossing.wf (x : Crossing) : Bool := decide (x.amplitude ≤ 100) && decide (x.energy ≤ 255)

/-- A command frame: a payload of at most 240 bytes, and a code and form that belong to its row (R196, R200, R209). -/
def frameWf (i : Instr) (code : Byte) (f : Frame) : Bool :=
  decide (f.payload.length ≤ 240) && decide (decodeCommand code f = i)

/-- The well-formed commands. -/
def Instr.wf (i : Instr) : Bool :=
  match frameOf i with
  | some (code, f) => frameWf i code f
  | none =>
    match i with
    | .auxiliaryAnalogSample _ raw => within (-32768) 32767 raw
    | .controlSample r | .countedCycle r | .steadyEnd r | .rampEnd r | .dwellExpiry r | .approachEnd r | .taperUpEnd r
    | .taperDownEnd r | .pausingEnd r | .followingCountReached _ r | .stallCountReached _ r | .unloadCompletion _ r => r.wf
    | .satelliteAnswer _ a | .zeroingCompletion _ a => a.wf
    | .thresholdCrossing _ x => x.wf
    | .framingFailure bytes => !bytes.isEmpty
    | _ => true

end Sys2Proof
end

