-- ==== Sys2Proof/Safety.lean ====
section
/-!
DEFINITION. Safety.lean: what claims about the station are stated with: when a command is taken, the reply it gets, and the
laws every state of a sound station keeps.
-/
namespace Sys2Proof.Machine

/-! ### Taking commands -/

/-- No reset of a pending RESTART is due at the end of the event (R11). -/
def State.noResetDue (s : State) : Prop := s.stc.restartPending = false ∨ s.allAtRest = false

/-- An addressed frame with a payload of n bytes passes the Address, Form and Pending groups (R200, R202). -/
def State.takes (s : State) (f : Frame) (n : Nat) : Prop :=
  s.delivery f = .addressed ∧ f.payload.length = n ∧ s.stc.restartPending = false ∧ s.sli.replies.length < 4

/-- Between two steps, with no RESTART pending: nothing is formed and waiting, and every command is taken (R10). -/
def State.settled (s : State) : Prop := s.ev = {} ∧ s.stc.restartPending = false

/-- No entry applies more than NOTE or DERATE, entries of HALT_LOOP and BROADCAST_HALT apart (P0 and P1 always are such):
so no raising but of these two moves an actuator, the plan or the mode (R179, R187). -/
def State.advisory (s : State) : Prop :=
  ∀ e : Fin 40, s.pmx.entries[e].cfg.acting = .note ∨ s.pmx.entries[e].cfg.acting = .derate ∨
    s.pmx.entries[e].cfg.kind = some .haltLoop ∨ s.pmx.entries[e].cfg.kind = some .broadcastHalt

/-- A frame of one of the five commands of R199, without payload, is executed by group delivery. -/
def State.takesByGroup (s : State) (f : Frame) : Prop :=
  s.delivery f = .group ∧ f.payload = [] ∧ s.stc.restartPending = false

/-- The state with one more reply held, carrying the flags that stand in it, and the receiver hunting after the frame that
is answered (R196, R202, R211). -/
def State.replied (s : State) (code : Byte) (f : Frame) (status : Status) (detail : Nat) (payload : List Byte) : State :=
  holdReply { code := code, tag := f.tag, payload := replyHead status s.stationFlags detail ++ payload } s.received

/-- The state with the reply DONE, detail FFFFh, held (R200, R202). -/
def State.answered (s : State) (code : Byte) (f : Frame) (payload : List Byte) : State :=
  s.replied code f .done 65535 payload

/-- `t` holds the replies `s` held, and then the reply DONE, detail FFFFh, with the flags that stand in `t` (R202). -/
def RepliedDone (s t : State) (code : Byte) (f : Frame) (payload : List Byte) : Prop :=
  t.sli.replies = s.sli.replies ++
    [{ code := code, tag := f.tag, payload := replyHead .done t.stationFlags 65535 ++ payload }]

/-- The lengths of the request payloads (R209); none for an event and for a code outside the catalogue. -/
def requestLength (i : Instr) : Option Nat :=
  match i with
  | .status _ | .restart _ | .halt _ | .go _ | .hold _ | .resume _ | .abort _ | .seqStatus _ | .snapFetch _
  | .protFirstClear _ | .fetch _ => some 0
  | .mode _ | .slotRead _ | .planRead _ | .actStatus _ | .groupStatus _ | .satRead _ | .satReset _ | .satStatus _
  | .snapNow _ | .aeFetch _ | .zoneStatus _ | .protClear _ | .tripLog _ => some 1
  | .assign _ | .start _ | .actMode _ | .actControl _ | .actSource _ | .chZero _ | .chRead _ | .stiffRef _ | .zoneAck _
  | .protList _ => some 2
  | .planSet _ | .actManual _ | .satPresent _ | .satWrite _ => some 4
  | .stationSet _ => some 6
  | .windowSet _ | .protEntry _ => some 8
  | .trackSet _ => some 9
  | .actGains _ => some 10
  | .slotSet _ => some 14
  | .planWrite _ | .groupSet _ => some 16
  | .chConfig _ => some 26
  | .zoneSet _ => some 28
  | .actConfig _ => some 38
  | .snapList f => some (1 + (f.payload.headD 0).toNat)
  | .aeChannel f | .aeChannelWindow f => some (if f.payload.head? = some 0xFF#8 then 3 else 9)
  | _ => none

/-- The five commands that group and broadcast deliveries execute (R199). -/
def groupExecuted (i : Instr) : Bool :=
  match i with
  | .halt _ | .go _ | .hold _ | .resume _ | .restart _ => true
  | _ => false

/-- The reading commands, whose only effect is their reply (R13, R20, R24, R26, R90, R105, R118, R125, R134, R175, R194,
R210), with the test of their operands. -/
def readable (i : Instr) : Bool :=
  match i with
  | .status _ | .seqStatus _ => true
  | .slotRead f => decide (u8 f.payload 0 < 16)
  | .planRead f => decide (u8 f.payload 0 < 48)
  | .actStatus f => decide (u8 f.payload 0 < 8)
  | .groupStatus f => decide (u8 f.payload 0 < 4)
  | .satRead f => decide (u8 f.payload 0 < 4)
  | .satStatus f => decide (u8 f.payload 0 < 4)
  | .chRead f =>
    decide (1 ≤ u8 f.payload 1) && decide (u8 f.payload 1 ≤ 16) && decide (u8 f.payload 0 + u8 f.payload 1 ≤ 64)
  | .zoneStatus f => decide (u8 f.payload 0 < 16)
  | .protList f =>
    decide (1 ≤ u8 f.payload 1) && decide (u8 f.payload 1 ≤ 8) && decide (u8 f.payload 0 + u8 f.payload 1 ≤ 40)
  | .tripLog f => decide (u8 f.payload 0 < 2)
  | _ => false

/-! ### What the reading commands return (R209, R212) -/

/-- A field of a reply: its width in bytes, and its value. -/
abbrev Field := Nat × Int

/-- A list of fields as a payload holds them: each high byte first (R209). -/
def fieldBytes (l : List Field) : List Byte :=
  l.flatMap fun x => (List.range x.1).map fun i => BitVec.ofInt 8 (x.2 / 256 ^ (x.1 - 1 - i))

/-- The field of a flag (R209). -/
def flagField (b : Bool) : Field := (1, b.toNat)

/-- The field of an optional index (R209). -/
def optField {n : Nat} : Option (Fin n) → Field
  | none => (1, 255)
  | some i => (1, i.val)

/-- STATUS (R13). -/
def State.statusFields (s : State) : List Field :=
  let r := s.stc.resetRecord
  let c := s.stc.settings
  [(1, r.power.toNat + 2 * r.line.toNat + 4 * r.restart.toNat + 8 * r.keep.toNat), (1, s.stc.address.toNat),
   (1, s.stc.mode.code), flagField s.stc.restartPending, (1, c.mask.toNat), flagField c.acceptGroupRestart,
   flagField c.keepSettings, flagField c.attentionEnable, (2, c.binTime), (4, s.time), flagField s.stc.haltOpen,
   (1, s.sli.notices.length), flagField s.sli.noticesLost, (2, s.sli.linkErrors)]

/-- The hold-reason set as bits (R212). -/
def HoldSet.bits (h : HoldSet) : Nat :=
  h.operator.toNat + 2 * h.pendant.toNat + 4 * h.protection.toNat + 8 * h.segment.toNat + 16 * h.lost.toNat

/-- SEQ_STATUS (R26). In DONE and ABORTED the count is the one held at the entry to that state. -/
def State.seqFields (s : State) : List Field :=
  let q := s.psq
  let count := if q.state = .done ∨ q.state = .aborted then q.heldCount else
    match q.plan[q.segment] with
    | .cycle _ _ _ _ _ count _ => count
    | .ramp .. | .dwell .. | .loop .. | .finish => 0
  List.flatten [
  [(1, q.state.code), (1, q.activity.code), (1, q.segment.val), (4, q.ctr), (4, q.ctrEnd), (4, q.segCycles), (4, count),
   (4, q.totalCycles), (4, q.phase), (2, q.amp), (1, q.hold.bits)],
  (List.finRange 8).map fun k => (2, q.levels[k]),
  (List.finRange 48).flatMap fun i => match q.plan[i] with
    | .loop .. => [(2, q.loops[i])]
    | .ramp .. | .dwell .. | .cycle .. | .finish => []]

/-- SLOT_READ: an output slot reads the level it drives, DUMP_OUT 1 with an actuator TRIPPED and BEACON_OUT 1 with one not
OFF (R18, R20). -/
def State.slotFields (s : State) (x : Fin 16) : List Field :=
  let y := s.axs[x]
  let value : Int := match y.fn with
    | .dumpOut => if ∃ a : Fin 8, (s.act a).state = .tripped then 1 else 0
    | .beaconOut => if ∃ a : Fin 8, (s.act a).state ≠ .off then 1 else 0
    | _ => y.value
  [(1, y.fn.code), (4, value), flagField (s.raised (.auxLimit x)), (2, y.scale), (2, y.offset), (4, y.low), (4, y.high),
   flagField y.openFault]

/-- PLAN_READ: kind, hold-on-entry flag, and the fields of the kind (R24). -/
def Segment.fields : Segment → List Field
  | .ramp hold l ms => [(1, 0), flagField hold, (2, l), (4, ms)]
  | .dwell hold ms snap => [(1, 1), flagField hold, (4, ms), flagField snap]
  | .cycle hold mean a freq shape count interval =>
    [(1, 2), flagField hold, (2, mean), (2, a), (2, freq), (1, shape.code), (4, count), (2, interval)]
  | .loop t r => [(1, 3), (1, 0), (1, t.val), (2, r)]
  | .finish => [(1, 4), (1, 0)]

/-- ACT_STATUS: the list of R69, and then that of R90. A field that serves one state alone reads 0 in the others. -/
def State.actFields (s : State) (a : Fin 8) : List Field :=
  let x := s.act a
  let r := x.regs
  let timed (v : Int) : Int := if x.state = .starting ∨ x.state = .raising then v else 0
  let unl (v : Int) : Int := if x.state = .unloading then v else 0
  let goal : Int := match x.state with
    | .starting => if x.toActive then 1 else 0
    | .unloading => if x.destOff then 2 else 0
    | .off | .low | .raising | .active | .tripped => 255
  let elapsed : Nat := if x.unload.timerOn then (s.clock.now - x.unload.start) / 1000 else x.unload.timeoutS * 1000
  List.flatten [
  [(2, r.l), (2, r.b), (2, r.s), (2, r.d), (2, r.h), (2, r.e), (2, r.c), (4, r.err), (4, r.p), (4, r.ut), (2, r.u), (4, r.a)],
  [(2, x.strokeHold), (2, x.derate), (1, x.present.code), (2, x.force), flagField x.forceSat, (2, x.stroke),
   flagField x.strokeSat],
  [ActCond.forceLimit, .strokeLimit, .following, .stall, .sensorRange, .envelope].map fun k =>
    flagField (s.raised (.act k a)),
  [(1, x.state.code), (1, goal), (2, timed ((s.clock.now - x.timerStart) / 1000 : Nat)), (2, timed x.timerMs),
   (4, unl x.unload.n), (2, unl x.unload.ramp), (2, unl x.unload.settle), (4, unl elapsed), (2, unl x.unload.target),
   (2, unl x.unload.rate), (2, unl x.unload.tol), (2, unl x.unload.settleMs), (2, unl x.unload.timeoutS)],
  [flagField x.cfg.enabled, (1, x.cfg.frame.val), (1, (s.manifold x.cfg.frame).code), (1, x.source.code),
   (1, x.cfg.quantity.code), (1, x.present.code), (2, x.manualForce), (2, x.manualStroke),
   flagField (s.raised (.unloadTimeout a)), flagField x.clampWindow.isSome, optField x.clampWindow]]

/-- A group record: the number of members, four pairs, carry-over and tie policy (R92). -/
def Group.recordFields (x : Group) : List Field :=
  List.flatten [
  [(1, x.members.length)],
  x.members.flatMap fun m => [(1, m.1.val), (2, m.2)],
  (List.replicate (4 - x.members.length) [(1, 255), (2, 0)]).flatten,
  [flagField x.carry, (1, x.tie.code)]]

/-- GROUP_STATUS (R105). S, D and H are those of the latest sample; a member that was OUT at it has S and D 0. -/
def State.groupFields (s : State) (g : Fin 4) : List Field :=
  let x := s.group g
  let acting := (x.members.map Prod.fst).find? fun a => (s.act a).state = .active
  let short := x.carry && x.members.any fun m => decide ((s.act m.1).state = .active ∧ (s.act m.1).derate < 1000)
  let r := x.reasons
  let time := x.selTime.getD (0, 0)
  List.flatten [
  x.recordFields,
  [optField (x.members.head?.map Prod.fst), optField acting],
  x.members.flatMap fun m =>
    let y := s.act m.1
    let latest (v : Int) : Int := if m.1 ∈ x.shared then v else 0
    [flagField (decide (y.state = .active)), (1, y.state.code), (2, y.derate), (2, latest y.regs.s), (2, latest y.regs.d),
     (2, y.regs.h)],
  [(2, ((x.members.map Prod.snd).sum : Nat)), (2, x.wIn), (2, x.base), (2, x.total), flagField short, (2, x.sf), (2, x.h),
   (2, x.uncarried), optField x.recipient, flagField x.selTime.isSome, (4, time.1), (4, time.2),
   (1, r.derate.toNat + 2 * r.recipientOut.toNat + 4 * r.recipientDerated.toNat + 8 * r.join.toNat), flagField x.due],
  x.lru.map fun a => (1, a.val)]

/-- SAT_READ (R118). -/
def State.imageFields (s : State) (x : Fin 4) : List Field :=
  let y := s.glc[x]
  List.flatten [
  (List.finRange 16).flatMap fun c =>
    let i := y.image[c]
    [(1, i.excitation.val), (1, i.gain.val), (1, i.filter.val), (1, i.shunt.val)],
  [(1, y.posted.length), (1, y.restore.length), flagField y.inFlight.isSome]]

/-- SAT_STATUS (R125). -/
def State.satFields (s : State) (x : Fin 4) : List Field :=
  let y := s.glc[x]
  let settling (v : Nat) : Int := if y.state = .settling then v else 0
  List.flatten [
  [flagField y.present, (2, y.settleMs), (1, y.state.code), (1, y.unanswered),
   (2, settling (if y.settleRunning then (s.clock.now - y.settleStart) / 1000 else y.settlePeriod)),
   (2, settling y.settlePeriod), (1, settling y.seen.toNat), flagField y.draining],
  match y.inFlight with
    | none => [(1, 0), (1, 0), (1, 0), (1, 0), (1, 0)]
    | some .reset => [(1, 2), (1, 0), (1, 0), (1, 0), (1, 0)]
    | some (.config e) =>
      [(1, 1), (1, e.ch.val), (1, e.setting.field), (1, e.setting.value), (1, e.origin.code)],
  [(1, y.posted.length), (1, y.restore.length), flagField y.lastFresh, flagField y.lastValid,
   flagField (s.raised (.satLost x))]]

/-- A channel as CH_READ reports it, with its status (R128, R134), and what is added with count 1. -/
def State.chanFields (s : State) (c : Fin 64) (alone : Bool) : List Field :=
  let y := s.stp.chans[c]
  let f := y.cfg
  let live := ∃ x : Fin 4, x.val = c.val / 16 ∧ s.glc[x].state = .live
  let status : Int := if f.enabled = false then 0 else if ¬live then 1 else if y.zeroing.isSome then 2 else 3
  List.flatten [
  [(1, status), (4, y.value), flagField y.overrange, flagField (s.raised (.strainLimit c)), (4, y.lastRaw)],
  if alone then
    [flagField f.enabled, (1, f.bridge.code), (2, f.gauge), (4, f.zero), optField f.tempSlot, (2, f.t0), (2, f.coeff),
     (4, f.high), (4, f.low), (4, f.hyst)]
  else [],
  match y.zeroing with
    | some (n, _) => if alone = true ∧ status = 2 then [(1, n)] else []
    | none => []]

/-- A zone definition (R163). -/
def ZoneConfig.fields (c : ZoneConfig) : List Field :=
  [flagField c.enabled, (2, c.first.toNat), (2, c.second.toNat), (2, c.dtLow), (2, c.dtHigh), optField c.track,
   flagField c.gate.isSome, (2, c.gate.getD 0), (1, c.mask.toNat), (1, c.bins), (2, c.counts.watch), (2, c.counts.alert),
   (2, c.counts.alarm), (2, c.energies.watch), (2, c.energies.alert), (2, c.energies.alarm)]

/-- ZONE_STATUS (R175). -/
def State.zoneFields (s : State) (z : Fin 16) : List Field :=
  let y := s.zmn.zones[z]
  List.flatten [
  y.cfg.fields,
  [(1, y.presentLevel.code), (1, y.latched.code), (1, y.displayed.code), flagField (s.raised (.zoneAlert z)),
   flagField (s.raised (.zoneAlarm z)), (4, ((y.bins.map Bin.count).sum : Nat)), (4, ((y.bins.map Bin.energy).sum : Nat))],
  (y.bins.take 16).flatMap fun b => [(2, b.count), (2, b.energy)],
  [(1, y.lastHits), (4, s.zmn.tickCount), (1, s.zmn.lastTick.code), (2, s.zmn.timerSec),
   (4, ((s.clock.now - s.zmn.timerStart) / 1000 : Nat))]]

/-- An entry as it is stored (R178). -/
def ProtConfig.fields (c : ProtConfig) : List Field :=
  [(1, match c.kind with
    | none => 255
    | some k => k.code),
   (1, match c.inst with
    | none => 255
    | some i => i),
   (1, c.action.code), (2, c.value), (1, c.scope.code), flagField c.enabled]

/-- PROT_LIST's part for an entry (R194). -/
def State.entryFields (s : State) (e : Fin 40) : List Field :=
  let x := s.pmx.entries[e]
  List.flatten [
  x.cfg.fields,
  [(1, x.st.code), (1, x.reach.toNat), (1, x.raised.length), (2, match x.raised with
    | [] => 65535
    | n :: _ => n)]]

/-- The protection summary of an actuator: merged derate, highest action, unload restraint and trip restraint
(R186, R194). -/
def State.summaryFields (s : State) (a : Fin 8) : List Field :=
  let on := (List.finRange 40).filter fun e => decide (s.pmx.entries[e].st ≠ .quiet ∧ s.pmx.entries[e].reach.getLsbD a.val)
  let act (e : Fin 40) : Action := if s.pmx.entries[e].cfg.enabled then s.pmx.entries[e].cfg.action else .note
  let derates := (on.filter fun e => act e = .derate).map fun e => s.pmx.entries[e].cfg.value
  [(2, derates.foldl min 1000), (1, match (on.map fun e => (act e).code).max? with
    | none => 255
    | some n => n),
   optField (on.find? fun e => act e = .unload ∨ act e = .trip), optField (on.find? fun e => act e = .trip)]

/-- A trip record (R192). -/
def TripRec.fields (r : TripRec) : List Field :=
  List.flatten [
  [(1, r.entry.val), (1, r.kind.code), (1, r.inst), optField r.act, (4, r.time), (4, r.cycles), (1, r.segment),
   (1, r.seqState.code)],
  (List.finRange 8).map fun a => (2, r.forces[a])]

/-- The fields that a reading command with operands in range returns (R13, R20, R24, R26, R90, R105, R118, R125, R134, R175,
R194, R210). Their order, where the rules give none, and the fields of log entries 8, 13, 23 and 24 are the model's. -/
def reading (i : Instr) (s : State) : List Field :=
  let at' (n k : Nat) (p : Fin n → List Field) : List Field := if h : k < n then p ⟨k, h⟩ else []
  let range (n first count : Nat) : List (Fin n) :=
    (List.finRange n).filter fun i => decide (first ≤ i.val ∧ i.val < first + count)
  match i with
  | .status _ => s.statusFields
  | .seqStatus _ => s.seqFields
  | .slotRead f => at' 16 (u8 f.payload 0) s.slotFields
  | .planRead f => at' 48 (u8 f.payload 0) fun k => s.psq.plan[k].fields
  | .actStatus f => at' 8 (u8 f.payload 0) s.actFields
  | .groupStatus f => at' 4 (u8 f.payload 0) s.groupFields
  | .satRead f => at' 4 (u8 f.payload 0) s.imageFields
  | .satStatus f => at' 4 (u8 f.payload 0) s.satFields
  | .chRead f =>
    let l := range 64 (u8 f.payload 0) (u8 f.payload 1)
    if u8 f.payload 1 = 1 then l.flatMap fun c => s.chanFields c true else l.flatMap fun c => s.chanFields c false
  | .zoneStatus f => at' 16 (u8 f.payload 0) s.zoneFields
  | .protList f =>
    List.flatten [
    (range 40 (u8 f.payload 0) (u8 f.payload 1)).flatMap s.entryFields, (List.finRange 8).flatMap s.summaryFields,
    [flagField (decide (∃ e : Fin 40, s.pmx.entries[e].st ≠ .quiet ∧ s.pmx.entries[e].cfg.enabled = true ∧
      s.pmx.entries[e].cfg.action = .hold))]]
  | .tripLog f =>
    let l := s.pmx.tripLog
    if u8 f.payload 0 = 0 then (1, l.length) :: (l.take 4).flatMap TripRec.fields
    else List.flatten [
      [(1, l.length)], (l.drop 4).flatMap TripRec.fields,
      match s.pmx.firstOut with
        | none => [(1, 0)]
        | some r => (1, 1) :: r.fields]
  | _ => []

/-! ### Notices (R205, R206) -/

/-- The state after notices have been offered to its queue, in their order (R205, R206). -/
def State.noted (s : State) (l : List Notice) : State := l.foldl (fun t n => offer n t) s

/-- The notices of one event, of which those with property `p` are `l`, take `s`'s queue to `t`'s. -/
def Forms (s t : State) (p : Notice → Bool) (l : List Notice) : Prop :=
  ∃ all : List Notice, all.filter p = l ∧ t.sli.notices = (s.noted all).sli.notices ∧
    t.sli.noticesLost = (s.noted all).sli.noticesLost

/-- The notices `l`, and no other, take `s`'s queue to `t`'s. -/
def Noted (s t : State) (l : List Notice) : Prop :=
  t.sli.notices = (s.noted l).sli.notices ∧ t.sli.noticesLost = (s.noted l).sli.noticesLost

/-- The notice is of a kind. -/
def Notice.is (k : NoticeKind) (n : Notice) : Bool := decide (n.kind = k)

/-- The SEQ_STATE notice of a change of the sequencer's state from `prev` to that of `q`, its values taken after the change
(R26). -/
def Sequencer.note (q : Sequencer) (time : Nat) (prev : SeqState) : Notice :=
  { kind := .seqState, time := time, cycles := q.totalCycles, subject := q.segment.val, v1 := q.state.code
    v2 := prev.code, v3 := q.hold.bits, v4 := q.activity.code }

/-- The ACT_STATE notice of an actuator's change from `old` to `new` (R74). -/
def State.actNote (s : State) (a : Fin 8) (new old : ActState) (cause : ActCause) : Notice :=
  { kind := .actState, time := s.time, cycles := s.psq.totalCycles, subject := a.val, v1 := new.code, v2 := old.code
    v3 := cause.code, v4 := (s.act a).force }

/-- The SAT_STATE notice of satellite slot x in its new state and lists `y`, entered from `prev` (R114). -/
def State.satNote (s : State) (x : Fin 4) (prev : SatState) (cause : SatCause) (y : Sat) : Notice :=
  { kind := .satState, time := s.time, cycles := s.psq.totalCycles, subject := x.val, v1 := y.state.code, v2 := prev.code
    v3 := cause.code, v4 := (y.posted.length + y.restore.length : Nat) }

/-- A number as four bytes hold it, in two halves of two bytes (R132, R133). -/
def high (x : Int) : Int := x % 4294967296 / 65536
def low (x : Int) : Int := x % 65536

/-- The ZERO_FAILED notice of a channel's zeroing, none where it has none (R133). -/
def State.zeroFailed (s : State) (c : Fin 64) (cause : Int) : List Notice :=
  match s.stp.chans[c].zeroing with
  | none => []
  | some (n, _) =>
    let zero := s.stp.chans[c].cfg.zero
    [{ kind := .zeroFailed, time := s.time, cycles := s.psq.totalCycles, subject := c.val, v1 := n, v2 := cause
       v3 := high zero, v4 := low zero }]

/-- The ZERO_FAILED notices of a satellite slot that leaves LIVE, ascending (R133). -/
def State.zeroingsFailed (s : State) (x : Fin 4) : List Notice :=
  if s.glc[x].state = .live then
    ((List.finRange 64).filter fun c => c.val / 16 = x.val).flatMap fun c => s.zeroFailed c 0
  else []

/-- The ZONE_LEVEL notices of the zones whose displayed level differs between `s` and `t`, ascending, formed in `t`
(R168, R171). -/
def zoneNotes (cause : ZoneCause) (s t : State) : List Notice :=
  ((List.finRange 16).filter fun z => t.zmn.zones[z].displayed ≠ s.zmn.zones[z].displayed).map fun z =>
    { kind := .zoneLevel, time := t.time, cycles := t.psq.totalCycles, subject := z.val
      v1 := t.zmn.zones[z].displayed.code, v2 := s.zmn.zones[z].displayed.code, v3 := t.zmn.zones[z].latched.code
      v4 := cause.code }

/-- The fields of a segment record lie in their ranges, for a segment of index `own` (R23). -/
def Segment.valid (own : Nat) : Segment → Prop
  | .ramp _ l ms => -10000 ≤ l ∧ l ≤ 10000 ∧ 1 ≤ ms ∧ ms ≤ 3600000
  | .dwell _ ms _ => 1 ≤ ms ∧ ms ≤ 86400000
  | .cycle _ mean a freq _ count interval =>
    a ≤ 10000 ∧ -10000 ≤ mean - a ∧ mean + a ≤ 10000 ∧ 1 ≤ freq ∧ freq ≤ 1000 ∧ 1 ≤ count ∧ count ≤ 16777215 ∧
      interval ≤ 65535
  | .loop t r => t.val < own ∧ 1 ≤ r ∧ r ≤ 65535
  | .finish => True

/-- The fields of an actuator record lie in their ranges (R70). -/
def ActConfig.valid (c : ActConfig) : Prop :=
  1 ≤ c.capacity ∧ c.capacity ≤ 32767 ∧
  -32768 ≤ c.forceLow ∧ c.forceLow ≤ c.forceHigh ∧ c.forceHigh ≤ 32767 ∧ 0 ≤ c.forceHyst ∧ c.forceHyst ≤ 32767 ∧
  -32768 ≤ c.strokeLow ∧ c.strokeLow ≤ c.strokeHigh ∧ c.strokeHigh ≤ 32767 ∧ 0 ≤ c.strokeHyst ∧ c.strokeHyst ≤ 32767 ∧
  1 ≤ c.followLimit ∧ c.followLimit ≤ 32767 ∧ 1 ≤ c.followMs ∧ c.followMs ≤ 10000 ∧ 1 ≤ c.stallMs ∧ c.stallMs ≤ 10000 ∧
  -32768 ≤ c.unloadTarget ∧ c.unloadTarget ≤ 32767 ∧ 1 ≤ c.unloadRate ∧ c.unloadRate ≤ 65535 ∧
  0 ≤ c.unloadTol ∧ c.unloadTol ≤ 32767 ∧ 1 ≤ c.unloadSettleMs ∧ c.unloadSettleMs ≤ 10000 ∧
  1 ≤ c.unloadTimeoutS ∧ c.unloadTimeoutS ≤ 600 ∧ 100 ≤ c.lowMs ∧ c.lowMs ≤ 10000 ∧ 100 ≤ c.highMs ∧ c.highMs ≤ 10000

/-- The fields of a strain channel record lie in their ranges (R127). -/
def ChanConfig.valid (c : ChanConfig) : Prop :=
  1500 ≤ c.gauge ∧ c.gauge ≤ 3000 ∧ -2000000 ≤ c.zero ∧ c.zero ≤ 2000000 ∧ -32768 ≤ c.t0 ∧ c.t0 ≤ 32767 ∧
  -10000 ≤ c.coeff ∧ c.coeff ≤ 10000 ∧ -300000 ≤ c.low ∧ c.low ≤ c.high ∧ c.high ≤ 300000 ∧
  0 ≤ c.hyst ∧ c.hyst ≤ 300000

/-- The used thresholds of a kind do not decrease and fit two bytes (R163). -/
def Thresholds.valid (t : Thresholds) : Prop :=
  t.watch ≤ 65535 ∧ t.alert ≤ 65535 ∧ t.alarm ≤ 65535 ∧
  (t.alert ≠ 0 → t.watch ≤ t.alert) ∧ (t.alarm ≠ 0 → t.watch ≤ t.alarm ∧ t.alert ≤ t.alarm)

/-- The fields of a zone definition lie in their ranges (R163). -/
def ZoneConfig.valid (c : ZoneConfig) : Prop :=
  c.dtLow ≤ c.dtHigh ∧ c.dtHigh ≤ 2000 ∧ (∀ g, c.gate = some g → -10000 ≤ g ∧ g ≤ 10000) ∧ 1 ≤ c.bins ∧ c.bins ≤ 64 ∧
  c.counts.valid ∧ c.energies.valid

/-- A protection entry that R178 and R179 let P`e` hold. The one instance of a station kind is held as ANY. -/
def ProtConfig.valid (e : Fin 40) (c : ProtConfig) : Prop :=
  match c.kind with
  | none => c = {} ∧ 2 ≤ e.val
  | some k =>
    (∀ i, c.inst = some i → i < k.count ∧ k.count ≠ 1) ∧ 0 ≤ c.value ∧ c.value ≤ 999 ∧
    (c.action ≠ .derate → c.value = 0) ∧
    (c.scope = .actuator ∨ c.scope = .frame → k.isActuator = true) ∧
    (c.scope = .group → k.isActuator = true ∨ k = .stiffness) ∧ (c.scope = .zone → k.isZone = true) ∧
    (e.val = 0 → k = .haltLoop ∧ c.scope = .station ∧ c.enabled = true ∧ (c.action = .unload ∨ c.action = .trip)) ∧
    (e.val = 1 → k = .broadcastHalt ∧ c.scope = .station ∧
      (c.action = .hold ∨ c.action = .unload ∨ c.action = .trip))

/-! ### The RUN-entry check (R5) -/

/-- An enabled window of a quantity covers an actuator (R5, R56). -/
def Window.covers (w : Window) (q : Quantity) (a : Fin 8) : Prop :=
  w.enabled = true ∧ w.quantity = q ∧ w.acts.getLsbD a.val = true

/-- An object fails an item of the RUN-entry check (R5). -/
def State.runFails (s : State) (item k : Nat) : Prop :=
  (item = 1 ∧ ∃ a : Fin 8, a.val = k ∧ (s.act a).cfg.enabled = true ∧
    ¬((∃ i : Fin 6, s.svc.windows[i].covers .force a) ∧ ∃ i : Fin 6, s.svc.windows[i].covers .stroke a)) ∨
  (item = 2 ∧ ∃ a : Fin 8, a.val = k ∧ (s.act a).cfg.enabled = true ∧
    ¬∃ i : Fin 6, s.svc.windows[i].covers .force a ∧ s.svc.windows[i].lower ≤ (s.act a).cfg.unloadTarget ∧
      (s.act a).cfg.unloadTarget ≤ s.svc.windows[i].upper) ∨
  (item = 3 ∧ ∃ a : Fin 8, a.val = k ∧ (∃ g : Fin 4, a ∈ (s.group g).members.map Prod.fst) ∧
    ¬((s.act a).cfg.enabled = true ∧ s.psq.tracks[a].quantity = .force)) ∨
  (item = 4 ∧ ∃ c : Fin 64, c.val = k ∧ s.stp.chans[c].cfg.enabled = true ∧
    ∃ x : Fin 4, x.val = c.val / 16 ∧ s.glc[x].present = false) ∨
  (item = 5 ∧ ∃ c : Fin 64, c.val = k ∧ s.stp.chans[c].cfg.enabled = true ∧
    ∃ x : Fin 16, s.stp.chans[c].cfg.tempSlot = some x ∧ s.axs[x].fn ≠ .temperature) ∨
  (item = 6 ∧ ∃ t : Fin 8, t.val = k ∧ ∃ x : Fin 16, s.psq.tracks[t].deflection = some x ∧ s.axs[x].fn ≠ .deflection) ∨
  (item = 7 ∧ ∃ z : Fin 16, z.val = k ∧ ∃ t : Fin 8, s.zmn.zones[z].cfg.track = some t ∧ (s.act t).cfg.enabled = false)

/-! ### START's tests (R27, R28) -/

/-- A track in use whose actuator is not ACTIVE, or whose group has no ACTIVE member (R27, R41). -/
def State.trackLost (s : State) (k : Fin 8) : Prop :=
  s.inUse k = true ∧
    ((s.groupOf k = none ∧ (s.act k).state ≠ .active) ∨
      ∃ g, s.groupOf k = some g ∧ ∀ m ∈ (s.group g).members, (s.act m.1).state ≠ .active)

/-- A level of a track passes the window pre-check: its base, or every member's share of it, lies in an enabled window that
covers the actuator (R28). -/
def State.levelCovered (s : State) (t : Fin 8) (level : Int) : Prop :=
  let base := roundDiv (s.psq.tracks[t].reference * level) 10000
  (s.groupOf t = none →
    ∃ i : Fin 6, s.svc.windows[i].covers s.psq.tracks[t].quantity t ∧ s.svc.windows[i].lower ≤ base ∧
      base ≤ s.svc.windows[i].upper) ∧
  (∀ g, s.groupOf t = some g → ∀ m ∈ shares base (s.group g).members,
    ∃ i : Fin 6, s.svc.windows[i].covers .force m.1 ∧ s.svc.windows[i].lower ≤ m.2 ∧ m.2 ≤ s.svc.windows[i].upper)

/-! ### The plan (R30, R33, R39, R40, R42 to R44) -/

/-- The sequencer's stop at a hold: HOLDING where it is in RAMP, DWELL and APPROACH; in the wave PAUSING from the present
amplitude over M samples, which with M = 0 is HOLDING at the mean (R42, R43, R37). -/
def Sequencer.stopped (q : Sequencer) : Sequencer :=
  if q.activity.isWave then
    let m := if q.amplitude = 0 then 0 else (roundDiv ((q.taper * q.amp : Nat) : Int) (q.amplitude : Nat)).toNat
    if m = 0 then
      { q with state := .holding, pauseAmp := q.amp, amp := 0, ctr := 0, ctrEnd := 0, peaks := Vector.replicate 8 none }
    else { q with state := .pausing, pauseAmp := q.amp, ctr := 0, ctrEnd := m, peaks := Vector.replicate 8 none }
  else { q with state := .holding }

/-- A segment just entered while RUNNING stops at the same event where the hold-reason set is not empty (R42). -/
def Sequencer.afterEntry (q : Sequencer) : Sequencer :=
  if q.state = .done then q else if q.hold.any then q.stopped else q

/-- The SEQ_STATE notices of the stop of a RUNNING sequencer: a wave passes through PAUSING (R26, R42, R43). -/
def Sequencer.stopNotes (q : Sequencer) (time : Nat) : List Notice :=
  let t := q.stopped
  if t.state = .holding ∧ q.activity.isWave = true then
    [({ q with state := .pausing } : Sequencer).note time .running, t.note time .pausing]
  else [t.note time .running]

/-- The sequencer after the state becomes RUNNING and segment i is entered at one event (R29, R30, R42). -/
def Sequencer.run (q : Sequencer) (i : Nat) : Sequencer := (enterFrom loopFuel i { q with state := .running }).afterEntry

/-- The SEQ_STATE notices of that event: RUNNING, and the plan's end or the stop of a hold that follows. -/
def Sequencer.runNotes (q : Sequencer) (time i : Nat) : List Notice :=
  let e := enterFrom loopFuel i { q with state := .running }
  if e.state = .done then [({ q with state := .running } : Sequencer).note time q.state, e.note time .running]
  else e.note time q.state :: if e.hold.any then e.stopNotes time else []

/-- The sequencer, RUNNING, after the end of its present segment (R30, R42). -/
def Sequencer.next (q : Sequencer) : Sequencer := (enterFrom loopFuel (q.segment.val + 1) q).afterEntry

/-- The SEQ_STATE notices of that event: DONE, the stop of a hold, or none. -/
def Sequencer.nextNotes (q : Sequencer) (time : Nat) : List Notice :=
  let e := enterFrom loopFuel (q.segment.val + 1) q
  if e.state = .done then [e.note time .running] else if e.hold.any then e.stopNotes time else []

/-- The taper counter at which a share x of the amplitude stands (R44). -/
def Sequencer.taperAt (q : Sequencer) (x : Int) : Nat :=
  if q.amplitude = 0 then q.taper else (roundDiv ((q.taper : Int) * x) (q.amplitude : Nat)).toNat

/-- Going on, the sequencer enters the next segment: the wave's count was reached, or the taper down has no way left
(R44). -/
def Sequencer.goesPast (q : Sequencer) : Bool :=
  match q.state with
  | .holding => q.activity.isWave && decide (q.count ≤ q.segCycles)
  | .pausing => decide (q.activity = .taperDown) && decide (q.taper ≤ q.taperAt ((q.amplitude : Int) - q.amp))
  | .idle | .waitingGo | .running | .done | .aborted => false

/-- What R44 gives when the hold-reason set, empty in `q`, has just become empty. -/
def Sequencer.goesOn (q : Sequencer) : Sequencer :=
  if q.goesPast then q.run (q.segment.val + 1)
  else
    match q.state with
    | .holding => if q.activity.isWave then beginTaperUp { q with state := .running } else { q with state := .running }
    | .pausing =>
      if q.activity = .taperDown then
        { q with state := .running, ctr := q.taperAt ((q.amplitude : Int) - q.amp), ctrEnd := q.taper }
      else
        let k := q.taperAt q.amp
        let t : Sequencer := { q with state := .running, activity := .taperUp, ctr := k, ctrEnd := q.taper }
        if q.taper ≤ k then beginSteady t else t
    | .idle | .waitingGo | .running | .done | .aborted => q

/-- The SEQ_STATE notices of going on (R26, R44). -/
def Sequencer.goNotes (q : Sequencer) (time : Nat) : List Notice :=
  if q.goesPast then q.runNotes time (q.segment.val + 1)
  else if q.state = .holding ∨ q.state = .pausing then [q.goesOn.note time q.state] else []

/-- Entering segment i from `q` leaves the third sequencer: the cases of R30, R33, R39 and R40. -/
inductive Enters : Nat → Sequencer → Sequencer → Prop where
  | past (i : Nat) (q : Sequencer) (h : 48 ≤ i) : Enters i q
      { q with state := .done, activity := .none, segment := 47, heldCount := q.plan[47].count
               hold := { q.hold with segment := false, lost := false } }
  | finish (i : Fin 48) (q : Sequencer) (h : q.plan[i] = .finish) : Enters i.val q
      { q with state := .done, activity := .none, segment := i, heldCount := 0
               hold := { q.hold with segment := false, lost := false } }
  | ramp (i : Fin 48) (q : Sequencer) (hold : Bool) (level : Int) (ms : Nat) (h : q.plan[i] = .ramp hold level ms) :
      Enters i.val q
        { q with segment := i, activity := .ramp, ctr := 0, ctrEnd := 2 * ms, l0 := q.levels
                 hold := { q.hold with segment := q.hold.segment || hold } }
  | dwell (i : Fin 48) (q : Sequencer) (hold : Bool) (ms : Nat) (snap : Bool) (h : q.plan[i] = .dwell hold ms snap) :
      Enters i.val q
        { q with segment := i, activity := .dwell, ctr := 0, ctrEnd := 2 * ms
                 hold := { q.hold with segment := q.hold.segment || hold } }
  | approach (i : Fin 48) (q : Sequencer) (hold : Bool) (mean : Int) (a f : Nat) (shape : Shape) (count interval n : Nat)
      (h : q.plan[i] = .cycle hold mean a f shape count interval) (off : ∃ k : Fin 8, q.levels[k] ≠ mean) :
      Enters i.val q
        { q with segment := i, segCycles := 0, activity := .approach, ctr := 0, l0 := q.levels
                 ctrEnd := (q.levels.toList.map fun l => approachSteps l mean q.approachRate).foldl max 0
                 hold := { q.hold with segment := q.hold.segment || hold } }
  | taper (i : Fin 48) (q : Sequencer) (hold : Bool) (mean : Int) (a f : Nat) (shape : Shape) (count interval : Nat)
      (h : q.plan[i] = .cycle hold mean a f shape count interval) (at_mean : ∀ k : Fin 8, q.levels[k] = mean) :
      Enters i.val q
        (beginTaperUp { q with segment := i, segCycles := 0, hold := { q.hold with segment := q.hold.segment || hold } })
  | again (i : Fin 48) (q q' : Sequencer) (t : Fin 48) (r : Nat) (h : q.plan[i] = .loop t r) (more : q.loops[i] < r)
      (go : Enters t.val { q with loops := q.loops.set i (q.loops[i] + 1) } q') : Enters i.val q q'
  | passed (i : Fin 48) (q q' : Sequencer) (t : Fin 48) (r : Nat) (h : q.plan[i] = .loop t r) (full : r ≤ q.loops[i])
      (go : Enters (i.val + 1) { q with loops := q.loops.set i 0 } q') : Enters i.val q q'

/-- What a control sample leaves as it was, and what it makes of time, when no entry moves anything (R48). -/
def SampleFrame (s t : State) : Prop :=
  t = { s with clock := t.clock, psq := t.psq, svc := t.svc, lgu := t.lgu, stp := t.stp, zmn := t.zmn, pmx := t.pmx
               sli := t.sli } ∧
  t.clock.now = max s.clock.now s.clock.nextSample ∧ t.clock.nextSample = t.clock.now + 500 ∧
  t.svc.windows = s.svc.windows ∧ (∀ a : Fin 8, (t.act a).cfg = (s.act a).cfg) ∧ t.sli.replies = s.sli.replies

/-! ### Actuators (R76) -/

/-- The state an ACT_MODE leads to, none where R76 refuses it. -/
def modeTable (x : ActState) (target : ModeTarget) : Option ActState :=
  match x, target with
  | .off, .low | .off, .active => some .starting
  | .off, .off => some .off
  | .starting, .low | .starting, .active => some .starting
  | .starting, .off => some .off
  | .low, .low => some .low
  | .low, .active => some .raising
  | .low, .off => some .off
  | .raising, .low => some .low
  | .raising, .active => some .raising
  | .raising, .off => some .off
  | .active, .low | .active, .off => some .unloading
  | .active, .active => some .active
  | .unloading, .low | .unloading, .off => some .unloading
  | .unloading, .active => none
  | .tripped, .low | .tripped, .active => none
  | .tripped, .off => some .off

/-! ### The handover record (R97 to R99) -/

/-- The causes `r` make a selection due: they join those of a selection that is due already, and replace those of an earlier
one (R99). -/
def Group.dueFor (r : HandReasons) (x : Group) : Group :=
  { x with
    due := true
    reasons := if x.due then
        { derate := x.reasons.derate || r.derate, recipientOut := x.reasons.recipientOut || r.recipientOut
          recipientDerated := x.reasons.recipientDerated || r.recipientDerated, join := x.reasons.join || r.join }
      else r }

/-- The handover record clear (R98). -/
def Group.withoutRecord (x : Group) : Group := { x with recipient := none, selTime := none, reasons := {}, due := false }

/-- The group after its member a has become IN_SHARE, or OUT, the group being short then or not (R98, R99). -/
def Group.moved (a : Fin 8) (joins short : Bool) (x : Group) : Group :=
  if short = false then x.withoutRecord
  else if joins then if x.recipient = none then x.dueFor { join := true } else x
  else if x.recipient = some a then ({ x with recipient := none } : Group).dueFor { recipientOut := true }
  else x

/-- The group after the derate of its IN_SHARE member a has been written, the group being short then or not (R98, R99). -/
def Group.derateWritten (a : Fin 8) (old new : Int) (short : Bool) (x : Group) : Group :=
  if short = false then x.withoutRecord
  else if old ≤ new then x
  else if x.recipient = some a then
    ({ x with recipient := none } : Group).dueFor { recipientDerated := true, derate := true }
  else x.dueFor { derate := true }

/-- A group is short with these states and derates: carry-over ON, and an ACTIVE member with a derate below 1000 (R97). -/
def Group.shortWith (state : Fin 8 → ActState) (derate : Fin 8 → Int) (x : Group) : Bool :=
  x.carry && x.members.any fun m => decide (state m.1 = .active ∧ derate m.1 < 1000)

/-- The groups of `s` after actuator a alone has entered ACTIVE, or left it, in `t` (R94, R98, R99). -/
def State.lguMoved (s t : State) (a : Fin 8) (joins : Bool) : Vector Group 4 :=
  match s.groupOf a with
  | none => s.lgu
  | some g =>
    let short := (s.group g).shortWith (fun b => (t.act b).state) fun b => (t.act b).derate
    s.lgu.set g ((s.group g).moved a joins short)

/-- The groups of `s` after one merge has written the derates of `t`, actuators ascending (R98, R99, R187). -/
def State.lguDerated (s t : State) : Vector Group 4 :=
  Vector.ofFn fun g => (List.finRange 8).foldl (fun x a =>
    if s.groupOf a ≠ some g ∨ (s.act a).state ≠ .active ∨ (t.act a).derate = (s.act a).derate then x
    else x.derateWritten a (s.act a).derate (t.act a).derate
      ((s.group g).shortWith (fun b => (s.act b).state)
        fun b => if b ≤ a then (t.act b).derate else (s.act b).derate)) (s.group g)

/-! ### The lost cause (R41, R42) -/

/-- Where the lost cause comes to hold between `s` and `t` while a plan goes, LOST is added and a RUNNING plan stops, with its
SEQ_STATE notices; else the sequencer stays as it was (R26, R41, R42). -/
def LostComes (s t : State) : Prop :=
  let q : Sequencer := { s.psq with hold := { s.psq.hold with lost := true } }
  let comes := s.psq.state.going = true ∧ s.lostCause = false ∧ t.lostCause = true
  t.psq = (if comes then if s.psq.state = .running then q.stopped else q else s.psq) ∧
  Forms s t (Notice.is .seqState) (if comes ∧ s.psq.state = .running then q.stopNotes s.time else [])

/-! ### Resets (R11) -/

/-- The state the reset of a RESTART leaves with the HALT loop closed and no DIGITAL_IN contact found open and faulty (R11, R13,
R20, and the reset values of each block): with keep-settings on configuration is kept, else it takes its defaults. -/
def Restarted (s t : State) : Prop :=
  let keep := s.stc.settings.keepSettings
  t.clock = {} ∧ t.ev = {} ∧ t.pending = s.pending ∧
  t.stc = { mode := .setup, resetRecord := { power := false, restart := true, keep := keep }, restartPending := false
            settings := if keep then { s.stc.settings with keepSettings := false } else {}
            address := s.stc.address, haltOpen := s.stc.haltOpen } ∧
  t.sli = { notices := [{ kind := .reset, time := 0, cycles := 0, subject := s.stc.address.toNat
                          v1 := if keep then 12 else 4 }]
            linkErrors := s.sli.linkErrors, replies := s.sli.replies, sendDue := s.sli.sendDue - s.clock.now, rx := s.sli.rx } ∧
  t.axs = s.axs.map (fun x =>
    if keep then
      { x with value :=
          if (x.fn = .digitalIn ∨ x.fn = .pendantHold ∨ x.fn = .pendantResume) ∧ x.closed = true then 1 else 0 }
    else { closed := x.closed }) ∧
  t.psq = (if keep then
    { plan := s.psq.plan, taperMs := s.psq.taperMs, approachRate := s.psq.approachRate, tracks := s.psq.tracks } else {}) ∧
  t.svc = (if keep then
    { windows := s.svc.windows
      acts := s.svc.acts.map fun x =>
        { cfg := x.cfg, source := x.source, manualForce := x.manualForce, manualStroke := x.manualStroke
          gainsForce := x.gainsForce, gainsStroke := x.gainsStroke, present := x.cfg.quantity } } else {}) ∧
  t.lgu = (if keep then s.lgu.map (fun g =>
    { members := g.members, carry := g.carry, tie := g.tie, lru := g.members.map Prod.fst }) else Vector.replicate 4 {}) ∧
  t.glc = (if keep then s.glc.map (fun x =>
    if x.present then { present := true, settleMs := x.settleMs, image := x.image, state := .seeking, awaiting := true
                        pollAt := 2000 }
    else { settleMs := x.settleMs, image := x.image }) else Vector.replicate 4 {}) ∧
  t.stp = (if keep then
    { chans := s.stp.chans.map (fun x => { cfg := x.cfg }), snapList := s.stp.snapList } else {}) ∧
  t.aeu = (if keep then { chans := s.aeu.chans.map (fun x => { cfg := x.cfg }), window := s.aeu.window } else {}) ∧
  t.zmn = (if keep then
    { zones := s.zmn.zones.map (fun z => { cfg := z.cfg, bins := List.replicate z.cfg.bins {} })
      timerSec := s.stc.settings.binTime } else {}) ∧
  t.pmx = { tripLog := s.pmx.tripLog, firstOut := s.pmx.firstOut
            entries := if keep then s.pmx.entries.map (fun x => { cfg := x.cfg }) else defaultEntries }

/-! ### Emission (R157) -/

/-- A zone definition matches an event (R157). -/
def ZoneConfig.takes (c : ZoneConfig) (e : OpenEvent) : Prop :=
  c.enabled = true ∧ c.first.getLsbD e.f.val = true ∧
  match e.s with
  | none => c.second = 0
  | some x => c.second.getLsbD x.val = true ∧ c.dtLow ≤ e.dt ∧ e.dt ≤ c.dtHigh

/-! ### Zones (R163, R165, R169) -/

/-- The level that the sums of a zone's bins give: the highest of which a used threshold, one that is not 0, is reached by its
sum; QUIET where none is, and of a disabled zone (R163, R165, R169). -/
def Zone.levelOfSums (z : Zone) : Level :=
  let counts := (z.bins.map Bin.count).sum
  let energies := (z.bins.map Bin.energy).sum
  let met (p : Thresholds → Nat) : Bool :=
    decide ((p z.cfg.counts ≠ 0 ∧ p z.cfg.counts ≤ counts) ∨ (p z.cfg.energies ≠ 0 ∧ p z.cfg.energies ≤ energies))
  if z.cfg.enabled = false then .quiet
  else if met Thresholds.alarm then .alarm
  else if met Thresholds.alert then .alert
  else if met Thresholds.watch then .watch
  else .quiet

/-! ### Laws -/

/-- Nothing formed waits between two steps, and no queue, log or saturating count passes its capacity (R111, R115, R120, R136, R140, R152, R159, R192, R197, R202,
R205). -/
def State.queuesBounded (s : State) : Prop :=
  s.ev = {} ∧ s.sli.notices.length ≤ 32 ∧ s.sli.replies.length ≤ 4 ∧ s.sli.linkErrors ≤ 65535 ∧ s.sli.rx.length ≤ 248 ∧
  (∀ x : Fin 4, s.glc[x].posted.length ≤ 8 ∧ s.glc[x].restore.length ≤ 64 ∧ s.glc[x].unanswered ≤ 3) ∧
  s.stp.snapList.length ≤ 32 ∧ s.stp.snaps.length ≤ 24 ∧ s.stp.skipped ≤ 255 ∧
  s.aeu.hits.length ≤ 64 ∧ s.aeu.log.length ≤ 32 ∧ s.pmx.tripLog.length ≤ 8

/-- The valve drive lies within full drive and is 0 where the servo is stopped, and the integrator lies within the bound of
the present control quantity (R50, R60, R61). -/
def State.driveLaw (s : State) : Prop :=
  ∀ a : Fin 8,
    (s.act a).regs.u.natAbs ≤ 10000 ∧
    ((s.act a).state = .off ∨ (s.act a).state = .starting ∨ (s.act a).state = .tripped → (s.act a).regs.u = 0) ∧
    (∀ q, 0 ≤ ((s.act a).gains q).imax ∧ ((s.act a).gains q).imax ≤ 10000) ∧
    (s.act a).regs.a.natAbs ≤ ((s.act a).gains (s.act a).present).imax * 65536

/-- In SETUP every actuator is OFF; in SAFE none is RAISING or ACTIVE; in a frame with a TRIPPED actuator every actuator is
TRIPPED or OFF (R6, R7, R8, R89). -/
def State.stationLaw (s : State) : Prop :=
  (s.stc.mode = .setup → ∀ a : Fin 8, (s.act a).state = .off) ∧
  (s.stc.mode = .safe → ∀ a : Fin 8, (s.act a).state ≠ .raising ∧ (s.act a).state ≠ .active) ∧
  (∀ a b : Fin 8, (s.act a).cfg.frame = (s.act b).cfg.frame → (s.act a).state = .tripped →
    (s.act b).state = .tripped ∨ (s.act b).state = .off)

/-- An entry is ACTIVE exactly while an instance stands in its raised set, a QUIET entry reaches nothing, and every derate is
the merge of the DERATE entries that reach its actuator (R180, R186, R187). -/
def State.matrixLaw (s : State) : Prop :=
  (∀ e : Fin 40, (s.pmx.entries[e].st = .active ↔ s.pmx.entries[e].raised ≠ []) ∧
    (s.pmx.entries[e].st = .quiet → s.pmx.entries[e].reach = 0)) ∧
  (∀ a : Fin 8, (s.act a).derate = s.mergedDerate a)

/-- A zone's ring holds as many bins as its definition says, its present level is the one its sums give, its displayed level is the higher of the present and the latched
one, a disabled zone is QUIET, and its two conditions stand as the displayed level says (R165, R169, R171, R172). -/
def State.zoneLaw (s : State) : Prop :=
  ∀ z : Fin 16,
    s.zmn.zones[z].bins.length = s.zmn.zones[z].cfg.bins ∧
    s.zmn.zones[z].presentLevel = s.zmn.zones[z].levelOfSums ∧
    s.zmn.zones[z].displayed = s.zmn.zones[z].presentLevel.higher s.zmn.zones[z].latched ∧
    (s.zmn.zones[z].cfg.enabled = false → s.zmn.zones[z].presentLevel = .quiet ∧ s.zmn.zones[z].latched = .quiet) ∧
    s.raised (.zoneAlert z) = decide (s.zmn.zones[z].displayed = .alert ∨ s.zmn.zones[z].displayed = .alarm) ∧
    s.raised (.zoneAlarm z) = decide (s.zmn.zones[z].displayed = .alarm)

/-- No actuator is a member of two groups, an LRU order holds members alone, and a recipient is an IN_SHARE member of its
group whose derate is 1000 (R92, R99, R101). -/
def State.groupLaw (s : State) : Prop :=
  (∀ g h : Fin 4, ∀ a : Fin 8, a ∈ (s.group g).members.map Prod.fst → a ∈ (s.group h).members.map Prod.fst → g = h) ∧
  (∀ g : Fin 4, ∀ a : Fin 8, a ∈ (s.group g).lru → a ∈ (s.group g).members.map Prod.fst) ∧
  (∀ g : Fin 4, ∀ a : Fin 8, (s.group g).recipient = some a →
    a ∈ (s.group g).members.map Prod.fst ∧ s.inShare a = true ∧ (s.act a).derate = 1000)

end Sys2Proof.Machine
end

