-- ==== Sys2Proof/Certificates/Slice0/Obligations.lean ====
section
/-!
DEFINITION. Obligations.lean: the statements for the provers. A statement about a next state gives that state whole, or
the fields it has and a frame: `t = { s with … }` says that every field not named in it is unchanged.
-/
section

open Sys2Proof Sys2Proof.Machine

/-! ### The queue and the link (chapter 11) -/

/-- One step takes the command at the front of the queue; on an empty queue one microsecond passes (the model's own
choice: log entries 1 and 2). -/
def Obligations.StepRunsTheFrontCommand : Prop :=
  (∀ (s : State) (c : Instr) (rest : List Instr), s.pending = c :: rest → step s = exec c { s with pending := rest }) ∧
  (∀ s : State, s.pending = [] → step s = .next { s with clock := { s.clock with now := s.clock.now + 1 } })

/-- Every command, in every state, ends in a next state, and leaves the commands that wait as they were. -/
def Obligations.EveryCommandIsTaken : Prop :=
  ∀ (i : Instr) (s : State), ∃ t, exec i s = .next t ∧ t.pending = s.pending

/-- The receiver, byte by byte, with what it holds. The frame of every well-formed command is received as that command; the
receiver hunts for the marker, holds a frame until it is whole, and finds a length above 240 and a wrong CRC; each failure
counts one link error; a reply frame has destination 0 and the station address as its source (R196, R197, R202, R209,
R211). That the bytes come with the two rows, and may hold whole frames that no row takes, is the model's (log entries 9
and 20). -/
def Obligations.FramesAreReceived : Prop :=
  (∀ (i : Instr) (code : Byte) (f : Frame) (held : List Byte), frameOf i = some (code, f) → i.wf = true → held.length ≤ 1 →
    encodeCommand i = some (encodeFrame code f) ∧ decodeCommand code f = i ∧
    takeBytes held (encodeFrame code f) = ([], [.whole code f])) ∧
  (∀ junk : List Byte, 0xC5#8 ∉ junk → takeBytes [] junk = ([], [])) ∧
  (∀ b : Byte, takeBytes [0xC5#8] [b] = (if b = 0x3A#8 then [0xC5#8, b] else if b = 0xC5#8 then [b] else [], [])) ∧
  (∀ dst src code tag length : Byte, 240 < length.toNat →
    takeBytes [] [0xC5#8, 0x3A#8, dst, src, code, tag, length] = ([], [.badLength])) ∧
  (∀ (code : Byte) (f : Frame) (hi lo : Byte), f.payload.length ≤ 240 → hi ++ lo ≠ crc16 (frameBody code f) →
    takeBytes [] (0xC5#8 :: 0x3A#8 :: (frameBody code f ++ [hi, lo])) = ([], [.badCrc])) ∧
  (∀ (code : Byte) (f : Frame) (k : Nat), f.payload.length ≤ 240 → 2 ≤ k → k < (encodeFrame code f).length →
    takeBytes [] ((encodeFrame code f).take k) = ((encodeFrame code f).take k, [])) ∧
  (∀ (s : State) (bytes held : List Byte) (ends : List FrameEnd), s.noResetDue →
    takeBytes s.sli.rx bytes = (held, ends) →
    let spaced := if 2 ≤ held.length then 1 else 0
    let count (n : Nat) : Nat := if n = 0 then s.sli.linkErrors else min (s.sli.linkErrors + n) 65535
    let failed := (ends.filter fun x => x = .badLength ∨ x = .badCrc).length
    exec (.framingFailure bytes) s = .next { s with sli := { s.sli with rx := held, linkErrors := count failed } } ∧
    exec (.byteSpacingTimeout bytes) s = .next
      { s with sli := { s.sli with
          rx := if 2 ≤ held.length then [] else held, linkErrors := count (failed + spaced) } }) ∧
  (∀ (s : State) (r : Reply), r.payload.length ≤ 240 →
    (∃ hi lo : Byte, s.replyFrame r =
      [0xC5#8, 0x3A#8, 0#8, s.stc.address.setWidth 8, r.code, r.tag, BitVec.ofNat 8 r.payload.length] ++ r.payload ++
        [hi, lo]) ∧
    takeBytes [] (s.replyFrame r) =
      ([], [.whole r.code { dst := 0, src := s.stc.address.setWidth 8, tag := r.tag, payload := r.payload }]))

/-- The delivery of a frame by source, destination, station address and station mask; an ignored frame changes nothing but
the receiver, which hunts again, and leaves the link error count as it was (R198). -/
def Obligations.DeliveryFollowsAddressAndMask : Prop :=
  ∀ (s : State) (f : Frame),
    (s.delivery f = .addressed ↔ f.src = 0 ∧ f.dst ≠ 0 ∧ f.dst.toNat = s.stc.address.toNat) ∧
    (s.delivery f = .group ↔ f.src = 0 ∧ (f.dst = 0 ∨
      (s.stc.address ≠ 0 ∧ f.dst.toNat < 32 ∧ f.dst.toNat ≠ s.stc.address.toNat ∧
        ∀ k : Nat, k < 5 → s.stc.settings.mask.getLsbD k = false → f.dst.getLsbD k = s.stc.address.getLsbD k))) ∧
    (s.delivery f = .ignored ↔ ¬(s.delivery f = .addressed) ∧ ¬(s.delivery f = .group)) ∧
    (∀ (i : Instr) (code : Byte), frameOf i = some (code, f) → s.delivery f = .ignored → s.noResetDue →
      exec i s = .next { s with sli := { s.sli with rx := [] } })

/-- A group delivery executes HALT, GO, HOLD, RESUME and RESTART alone, and without a reply. It drops the other commands, a
payload, anything while a restart is pending, and RESTART where the setting does not accept it. What it executes it does as
an addressed frame would, but for the reply (R10, R11, R199). -/
def Obligations.GroupDeliveriesExecuteFiveCommands : Prop :=
  (∀ (i : Instr) (code : Byte) (f : Frame) (s t : State), frameOf i = some (code, f) → s.delivery f = .group →
    exec i s = .next t → t.sli.replies = s.sli.replies) ∧
  (∀ (i : Instr) (code : Byte) (f : Frame) (s : State), frameOf i = some (code, f) → s.delivery f = .group →
    s.noResetDue →
    (groupExecuted i = false ∨ f.payload ≠ [] ∨ s.stc.restartPending = true ∨
      (i = .restart f ∧ s.stc.settings.acceptGroupRestart = false)) →
    exec i s = .next { s with sli := { s.sli with rx := [] } }) ∧
  (∀ (f g : Frame) (s : State), s.takesByGroup f → s.takes g 0 →
    (∃ t, exec (.halt f) s = .next t ∧ exec (.halt g) s = .next (t.answered 0x08 g [])) ∧
    (∃ t, exec (.go f) s = .next t ∧ exec (.go g) s = .next (t.answered 0x09 g [])) ∧
    (∃ t payload, exec (.hold f) s = .next t ∧ exec (.hold g) s = .next (t.answered 0x15 g payload)) ∧
    (∃ t payload, exec (.resume f) s = .next t ∧ exec (.resume g) s = .next (t.answered 0x16 g payload))) ∧
  (∀ (f g : Frame) (s : State), s.takesByGroup f → s.takes g 0 → s.stc.settings.acceptGroupRestart = true →
    ∃ u : State, u.sli.replies = s.sli.replies ∧
      (s.allAtRest = true → u = { s with sli := { s.sli with rx := [] } }) ∧
      (if ∃ a : Fin 8, (s.act a).state = .active ∨ (s.act a).state = .unloading then
        u.stc = { s.stc with restartPending := true } ∧
          exec (.restart f) s = .next u ∧ exec (.restart g) s = .next (u.answered 0x07 g [])
      else
        exec (.restart f) s = .next (restartReset u) ∧ exec (.restart g) s = .next (restartReset (u.answered 0x07 g []))))

/-- The Form and Pending groups and the overrun: a wrong length and an unknown code are answered REFUSED_FORM, a pending
restart refuses all but STATUS and FETCH, and a frame that finds four replies held is dropped and counted. A reply sent whole
makes room for the next, which takes 9 + n byte times of ten bits at 115,200 bit/s for n payload bytes, rounded up to a
microsecond (R197, R200, R202; the rounding is the model's: log entry 9). -/
def Obligations.CommandsAreAcceptedAndRepliesLeave : Prop :=
  (∀ (i : Instr) (code : Byte) (f : Frame) (s : State), frameOf i = some (code, f) → s.delivery f = .addressed →
    s.noResetDue →
    (s.sli.replies.length < 4 →
      (∀ n, requestLength i = some n → f.payload.length ≠ n →
        exec i s = .next (s.replied code f .refusedForm 65535 [])) ∧
      (catalogue.contains code.toNat = false →
        exec (.unknownCommandCode code f) s = .next (s.replied code f .refusedForm 65535 [])) ∧
      (requestLength i = some f.payload.length → s.stc.restartPending = true → i ≠ .status f → i ≠ .fetch f →
        exec i s = .next (s.replied code f .refusedState 65535 []))) ∧
    (4 ≤ s.sli.replies.length → requestLength i ≠ none ∨ catalogue.contains code.toNat = false →
      exec i s = .next { s with sli := { s.sli with
        rx := [], linkErrors := min (s.sli.linkErrors + 1) 65535 } })) ∧
  (∀ (s : State) (r : Reply) (rest : List Reply), s.noResetDue → s.sli.replies = r :: rest →
    exec .replySent s = .next
      { s with
        clock := { s.clock with now := max s.clock.now s.sli.sendDue }
        sli := { s.sli with
          replies := rest
          sendDue := match rest with
            | [] => 0
            | q :: _ => max s.clock.now s.sli.sendDue + sendTime q.payload.length } }) ∧
  (∀ n : Nat, 3125 * (9 + n) ≤ 36 * sendTime n ∧ 36 * sendTime n < 3125 * (9 + n) + 36)

/-- A notice offered to a queue with room is appended; at a full queue a TRIP displaces the newest notice that is no TRIP,
anything else is discarded, and notices-lost is set. FETCH removes and returns the oldest notice with the number left, or a
record of kind NONE; one that leaves the queue empty clears notices-lost; and it is taken while a restart is pending
(R205 to R207). -/
def Obligations.NoticesAreQueuedAndFetched : Prop :=
  (∀ (n : Notice) (s : State),
    (s.sli.notices.length < 32 → offer n s = { s with sli := { s.sli with notices := s.sli.notices ++ [n] } }) ∧
    (s.sli.notices.length = 32 →
      (n.kind = .trip → (∃ m ∈ s.sli.notices, m.kind ≠ .trip) →
        ∃ pre m post, s.sli.notices = pre ++ m :: post ∧ m.kind ≠ .trip ∧ (∀ x ∈ post, x.kind = .trip) ∧
          offer n s = { s with sli := { s.sli with notices := pre ++ post ++ [n], noticesLost := true } }) ∧
      (n.kind ≠ .trip ∨ (∀ m ∈ s.sli.notices, m.kind = .trip) →
        offer n s = { s with sli := { s.sli with noticesLost := true } }))) ∧
  (∀ (f : Frame) (s : State), s.delivery f = .addressed → f.payload = [] → s.sli.replies.length < 4 → s.noResetDue →
    (∀ n rest, s.sli.notices = n :: rest →
      exec (.fetch f) s = .next
        (({ s with sli := { s.sli with
              notices := rest, noticesLost := if rest = [] then false else s.sli.noticesLost } } : State).answered 0x70 f
          (put1 rest.length ++ n.bytes))) ∧
    (s.sli.notices = [] →
      exec (.fetch f) s = .next
        (({ s with sli := { s.sli with noticesLost := false } } : State).answered 0x70 f (List.replicate 20 0))))

/-- A reading command with operands in range, STATUS while a restart is pending as well, changes nothing but the replies held,
and returns its fields (R13, R20, R24, R26, R69, R90, R105, R118, R125, R134, R175, R186, R194, R209, R210). The order of
fields where the rules give none, the unused pairs of a group record, the H of a member whose servo stands still, W_all
beside the values of a sample that formed none, the whole milliseconds of elapsed times and what an expired timer reads are
the model's (log entries 8, 13, 23 and 24). -/
def Obligations.ReadingCommandsReturnTheirFields : Prop :=
  ∀ (i : Instr) (code : Byte) (f : Frame) (s : State), frameOf i = some (code, f) → readable i = true →
    s.delivery f = .addressed → requestLength i = some f.payload.length → s.sli.replies.length < 4 →
    s.stc.restartPending = false ∨ (i = .status f ∧ s.allAtRest = false) →
    exec i s = .next (s.answered code f (fieldBytes (reading i s)))

/-! ### Resets, modes and settings (chapter 1) -/

/-- POWER and LINE with the HALT loop closed: every field at its reset value, the address from the straps, the RESET notice
queued (R12, R13; the reset values of registers no rule names are the model's: log entries 3 and 5). -/
def Obligations.ColdResetsClearTheStation : Prop :=
  ∀ (s : State) (straps : Address), s.stc.haltOpen = false →
    exec (.power straps) s = .next
      { stc := { resetRecord := { power := true }, address := straps }
        sli := { notices := [{ kind := .reset, time := 0, cycles := 0, subject := straps.toNat, v1 := 1 }] }
        axs := s.axs.map fun x => { closed := x.closed }
        pending := s.pending } ∧
    exec (.line straps) s = .next
      { stc := { resetRecord := { line := true }, address := straps }
        sli := { notices := [{ kind := .reset, time := 0, cycles := 0, subject := straps.toNat, v1 := 2 }] }
        axs := s.axs.map fun x => { closed := x.closed }
        pending := s.pending }

/-- An open HALT loop raises HALT_LOOP, at POWER and LINE as well. With P0 as R179 gives it every pressurized actuator is
TRIPPED with its valve drive 0, the station is in SAFE with a going plan ABORTED, and the first-out record is P0's. A closed
loop lowers it and moves no actuator (R7, R9, R12, R26, R182, R183, R190 to R193). Registers at a reset that no rule names are
the model's (log entry 5). -/
def Obligations.HaltLoopTripsTheStation : Prop :=
  (∀ (s : State) (straps : Address) (i : Instr), i = .power straps ∨ i = .line straps → s.stc.haltOpen = true →
    ∃ t, exec i s = .next t ∧
      t.stc = { mode := .safe, address := straps, haltOpen := true
                resetRecord := { power := decide (i = .power straps), line := decide (i = .line straps) } } ∧
      t.raised .haltLoop = true ∧ t.pmx.entries[0].st = .active ∧ (∀ a : Fin 8, (t.act a).state = .off) ∧
      t.sli = { notices :=
        [{ kind := .reset, time := 0, cycles := 0, subject := straps.toNat, v1 := if i = .power straps then 1 else 2 },
         { kind := .trip, time := 0, cycles := 0, subject := 0, v1 := CondKind.haltLoop.code, v2 := 0, v3 := 65535
           v4 := 0 }] } ∧
      t.axs = s.axs.map (fun x => { closed := x.closed }) ∧ t.pending = s.pending ∧
      ∃ r, t.pmx.tripLog = [r] ∧ t.pmx.firstOut = some r ∧ r.entry = 0 ∧ r.kind = .haltLoop ∧ r.act = none) ∧
  (∀ s : State, s.settled → s.raised .haltLoop = false →
    s.pmx.entries[0].cfg = { kind := some .haltLoop, action := .trip, scope := .station, enabled := true } →
    ∃ t, exec (.haltLoopChange true) s = .next t ∧
      t.stc = { s.stc with haltOpen := true, mode := .safe } ∧ t.raised .haltLoop = true ∧
      t.pmx.entries[0].st = .active ∧
      (∀ a : Fin 8, (t.act a).state = if (s.act a).state.pressurized then .tripped else (s.act a).state) ∧
      (∀ a : Fin 8, (s.act a).state.pressurized = true → (t.act a).regs.u = 0) ∧
      (s.stc.mode ≠ .safe → s.psq.state.going = true → t.psq.state = .aborted ∧ t.psq.levels = s.psq.levels ∧
        ((∀ e : Fin 40, e ≠ 0 → s.pmx.entries[e].cfg.kind ≠ some .haltLoop) →
          s.lostCause = true ∨ (∀ k : Fin 8, s.inUse k = false) →
          Forms s t (Notice.is .seqState) [t.psq.note s.time s.psq.state])) ∧
      (s.pmx.firstOut = none → ∃ r, t.pmx.firstOut = some r ∧ r.entry = 0 ∧ r.kind = .haltLoop ∧
        ∀ a : Fin 8, r.forces[a] = (s.act a).force) ∧
      t = { s with stc := t.stc, psq := t.psq, svc := t.svc, lgu := t.lgu, pmx := t.pmx, sli := t.sli }) ∧
  (∀ s : State, s.settled → s.raised .haltLoop = true →
    ∃ t, exec (.haltLoopChange false) s = .next t ∧
      t.stc = { s.stc with haltOpen := false } ∧ t.raised .haltLoop = false ∧
      (∀ a : Fin 8, (t.act a).state = (s.act a).state) ∧
      (∀ e : Fin 40, s.pmx.entries[e].cfg.kind = some .haltLoop → s.pmx.entries[e].cfg.inst = none →
        s.pmx.entries[e].st = .active → s.pmx.entries[e].raised = [0] →
        t.pmx.entries[e].st = if s.pmx.entries[e].cfg.action = .note then .quiet else .latched) ∧
      t = { s with stc := t.stc, svc := t.svc, lgu := t.lgu, pmx := t.pmx })

/-- The reset of a RESTART at rest, at its arrival or at the end of its wait: with the loop closed, the state `Restarted`
gives, and AUX_LIMIT of the slots whose DIGITAL_IN contact is found open; with the loop open, HALT_LOOP raised, the station
in SAFE and every actuator OFF. A reset that waits is made in the step that brings the last actuator to rest: the sample
that completes its unload to OFF, or the opening of the HALT loop that trips every actuator still unloading (R7, R9 to R11,
R13, R19, R20, R81, R193). The send time counted from the reset, the registers no
rule names and the contacts' levels are the model's (log entries 19, 5 and 3). -/
def Obligations.RestartAtRestResets : Prop :=
  (∀ (s u : State) (i : Instr), s.allAtRest = true →
    (i = .deferredRestart ∧ s.stc.restartPending = true ∧ u = s) ∨
      (∃ f : Frame, i = .restart f ∧ s.takes f 0 ∧ u = s.answered 0x07 f []) →
    let keep := s.stc.settings.keepSettings
    let faulty (x : Fin 16) : Prop :=
      keep = true ∧ s.axs[x].fn = .digitalIn ∧ s.axs[x].openFault = true ∧ s.axs[x].closed = false
    (s.stc.haltOpen = false → (∀ x : Fin 16, ¬faulty x) → ∃ t, exec i s = .next t ∧ Restarted u t) ∧
    (s.stc.haltOpen = false → s.advisory →
      ∃ t v, exec i s = .next t ∧ Restarted u v ∧ (∀ c : Cond, t.raised c = true ↔ ∃ x, c = .auxLimit x ∧ faulty x) ∧
        (∀ a : Fin 8, t.act a = { v.act a with derate := t.mergedDerate a }) ∧
        t.pmx.tripLog = v.pmx.tripLog ∧ t.pmx.firstOut = v.pmx.firstOut ∧
        Forms v t (fun n => !n.is .entry) [] ∧
        t.sli = { v.sli with notices := t.sli.notices, noticesLost := t.sli.noticesLost } ∧
        t = { v with svc := t.svc, lgu := t.lgu, pmx := t.pmx, sli := t.sli }) ∧
    (s.stc.haltOpen = true →
      (keep = true →
        s.pmx.entries[0].cfg = { kind := some .haltLoop, action := .trip, scope := .station, enabled := true }) →
      ∃ t, exec i s = .next t ∧
        t.stc = { mode := .safe, resetRecord := { power := false, restart := true, keep := keep }, restartPending := false
                  settings := if keep then { s.stc.settings with keepSettings := false } else {}
                  address := s.stc.address, haltOpen := true } ∧
        t.raised .haltLoop = true ∧ t.pmx.entries[0].st = .active ∧ (∀ a : Fin 8, (t.act a).state = .off) ∧
        (∀ r, s.pmx.firstOut = some r → t.pmx.firstOut = some r) ∧
        (s.pmx.firstOut = none → ∃ r, t.pmx.firstOut = some r ∧ r.entry = 0 ∧ r.kind = .haltLoop) ∧
        t.sli.replies = u.sli.replies ∧ t.sli.linkErrors = u.sli.linkErrors ∧ t.clock = {} ∧ t.pending = s.pending)) ∧
  (∀ (r : Readings) (s : State) (a : Fin 8), s.ev = {} → s.advisory → s.stc.restartPending = true →
    (s.act a).state = .unloading → (s.act a).destOff = true →
    (∀ b : Fin 8, b ≠ a → (s.act b).state = .off ∨ (s.act b).state = .tripped) →
    (clamp r.force[a] (-32768) 32767 - (s.act a).unload.target).natAbs ≤ (s.act a).unload.tol →
    2 * (s.act a).unload.settleMs ≤ (s.act a).unload.settle + 1 → s.stc.haltOpen = false →
    (∀ x : Fin 16, s.stc.settings.keepSettings = true → s.axs[x].fn = .digitalIn → s.axs[x].openFault = true →
      s.axs[x].closed = true) →
    ∃ t, exec (.controlSample r) s = .next t ∧ exec (.unloadCompletion a r) s = .next t ∧
      Restarted { s with clock := { s.clock with now := max s.clock.now s.clock.nextSample } } t) ∧
  (∀ s : State, s.ev = {} → s.stc.restartPending = true →
    (∀ a : Fin 8, (s.act a).state = .off ∨ (s.act a).state = .tripped ∨ (s.act a).state = .unloading) →
    s.raised .haltLoop = false →
    s.pmx.entries[0].cfg = { kind := some .haltLoop, action := .trip, scope := .station, enabled := true } →
    let keep := s.stc.settings.keepSettings
    ∃ t, exec (.haltLoopChange true) s = .next t ∧
      t.stc = { mode := .safe, resetRecord := { power := false, restart := true, keep := keep }, restartPending := false
                settings := if keep then { s.stc.settings with keepSettings := false } else {}
                address := s.stc.address, haltOpen := true } ∧
      t.raised .haltLoop = true ∧ t.pmx.entries[0].st = .active ∧ (∀ a : Fin 8, (t.act a).state = .off) ∧
      (∀ r, s.pmx.firstOut = some r → t.pmx.firstOut = some r) ∧
      (s.pmx.firstOut = none → ∃ r, t.pmx.firstOut = some r ∧ r.entry = 0 ∧ r.kind = .haltLoop ∧
        r.forces = s.svc.acts.map Actuator.force) ∧
      t.sli.replies = s.sli.replies ∧ t.sli.linkErrors = s.sli.linkErrors ∧ t.clock = {} ∧ t.pending = s.pending)

/-- A RESTART with an actuator under load sets restart-pending, takes STARTING, LOW and RAISING actuators to OFF with their
notices and unloads the others to OFF, with no trip record (R10, R74). -/
def Obligations.RestartWaitsForRest : Prop :=
  ∀ (f : Frame) (s : State), s.takes f 0 → s.ev = {} →
    (∃ a : Fin 8, (s.act a).state = .active ∨ (s.act a).state = .unloading) →
    ∃ t, exec (.restart f) s = .next t ∧ t.stc = { s.stc with restartPending := true } ∧
      (∀ a : Fin 8, (t.act a).state =
        match (s.act a).state with
        | .off | .starting | .low | .raising => .off
        | .active | .unloading => .unloading
        | .tripped => .tripped) ∧
      (∀ a : Fin 8, (s.act a).state = .active ∨ (s.act a).state = .unloading → (t.act a).destOff = true) ∧
      t.pmx.tripLog = s.pmx.tripLog ∧ t.pmx.firstOut = s.pmx.firstOut ∧
      Forms s t (Notice.is .actState)
        (((List.finRange 8).filter fun a => (s.act a).state ≠ .off ∧ (t.act a).state = .off).map fun a =>
          s.actNote a .off (s.act a).state .restart) ∧
      RepliedDone s t 0x07 f [] ∧
      t = { s with stc := t.stc, psq := t.psq, svc := t.svc, lgu := t.lgu, pmx := t.pmx, sli := t.sli }

/-- MODE: the RUN-entry check with its first failure as detail, the ways back to SETUP with theirs, the repeated mode, and
the unknown target; STATION_SET replaces the five station settings, with the bin time held inside 1..600 (R4 to R6, R8, R14,
R26, R46, R201, R208). That SETUP leaves activity NONE, the pending peaks cleared and the counters as they were is the
model's (log entry 11). -/
def Obligations.ModesAndSettings : Prop :=
  (∀ (f : Frame) (s : State), s.takes f 1 →
    (u8 f.payload 0 = 1 → s.stc.mode = .setup → (∀ item k, ¬s.runFails item k) →
      exec (.mode f) s = .next (({ s with stc := { s.stc with mode := .run } } : State).answered 0x02 f [])) ∧
    (u8 f.payload 0 = 1 → s.stc.mode = .setup → ∀ item k, s.runFails item k →
      (∀ i j, s.runFails i j → item < i ∨ (item = i ∧ k ≤ j)) →
      exec (.mode f) s = .next (s.replied 0x02 f .refusedState (item * 256 + k) [])) ∧
    ((u8 f.payload 0 = 1 ∧ s.stc.mode = .run) ∨ (u8 f.payload 0 = 0 ∧ s.stc.mode = .setup) →
      exec (.mode f) s = .next (s.answered 0x02 f [])) ∧
    (u8 f.payload 0 = 1 → s.stc.mode = .safe → exec (.mode f) s = .next (s.replied 0x02 f .refusedMode 65535 [])) ∧
    (2 ≤ u8 f.payload 0 → exec (.mode f) s = .next (s.replied 0x02 f .refusedRange 65535 [])) ∧
    (u8 f.payload 0 = 0 → s.stc.mode ≠ .setup →
      (∀ a : Fin 8, (s.act a).state ≠ .off → (∀ b : Fin 8, b < a → (s.act b).state = .off) →
        exec (.mode f) s = .next (s.replied 0x02 f .refusedState (8 * 256 + a.val) [])) ∧
      ((∀ a : Fin 8, (s.act a).state = .off) →
        (∀ e : Fin 40, s.stc.mode = .safe → s.pmx.entries[e].cfg.scope = .station → s.pmx.entries[e].st ≠ .quiet →
          (∀ d : Fin 40, d < e → s.pmx.entries[d].cfg.scope = .station → s.pmx.entries[d].st = .quiet) →
          exec (.mode f) s = .next (s.replied 0x02 f .refusedState (9 * 256 + e.val) [])) ∧
        (s.ev = {} →
          (s.stc.mode = .safe → ∀ e : Fin 40, s.pmx.entries[e].cfg.scope = .station → s.pmx.entries[e].st = .quiet) →
          ∀ t : State, t = { s with
            stc := { s.stc with mode := .setup }
            psq := { s.psq with
              state := .idle, activity := .none, segment := 0, phase := 0, amp := 0
              levels := Vector.replicate 8 0, peaks := Vector.replicate 8 none
              hold := { s.psq.hold with segment := false, lost := false } } } →
          exec (.mode f) s = .next
            ((if s.psq.state = .idle then t else t.noted [t.psq.note s.time s.psq.state]).answered 0x02 f []))))) ∧
  (∀ (f : Frame) (s : State) (mask : Address) (group keep attention : Bool), s.takes f 6 →
    u8 f.payload 0 = mask.toNat → u8 f.payload 1 = group.toNat → u8 f.payload 2 = keep.toNat →
    u8 f.payload 3 = attention.toNat →
    let t : State := { s with stc := { s.stc with settings :=
      { mask := mask, acceptGroupRestart := group, keepSettings := keep, attentionEnable := attention
        binTime := max 1 (min 600 (u16 f.payload 4)) } } }
    (t.attention = true ↔ s.sli.notices ≠ [] ∧ attention = true) ∧
    (1 ≤ u16 f.payload 4 → u16 f.payload 4 ≤ 600 → exec (.stationSet f) s = .next (t.answered 0x03 f [])) ∧
    (u16 f.payload 4 = 0 ∨ 600 < u16 f.payload 4 → exec (.stationSet f) s = .next (t.replied 0x03 f .clamped 4 [])))

/-- ASSIGN in SETUP gives a slot a function it can take, with value 0 or the contact's present level, and keeps the rest of
its record; SLOT_SET replaces the five other fields and judges AUX_LIMIT at once (R15, R16, R19). -/
def Obligations.SlotCommandsStore : Prop :=
  (∀ (f : Frame) (s : State) (x : Fin 16) (fn : SlotFn), s.takes f 2 → s.stc.mode = .setup →
    u8 f.payload 0 = x.val → u8 f.payload 1 = fn.code →
    (fn = .deflection ∨ fn = .crackGauge ∨ fn = .temperature ∨ fn = .supplyPressure → x.val ≤ 9) →
    (fn = .dumpOut ∨ fn = .beaconOut → x.val ≤ 13) →
    (s.axs[x].fn = fn → exec (.assign f) s = .next (s.answered 0x04 f [])) ∧
    (s.axs[x].fn ≠ fn → s.raised (.auxLimit x) = false →
      ¬(fn = .digitalIn ∧ s.axs[x].openFault = true ∧ s.axs[x].closed = false) →
      exec (.assign f) s = .next ((s.modSlot x fun y =>
        { y with fn := fn
                 value := if (fn = .digitalIn ∨ fn = .pendantHold ∨ fn = .pendantResume) ∧ y.closed = true then 1
                          else 0 }).answered 0x04 f []))) ∧
  (∀ (f : Frame) (s : State) (x : Fin 16) (openFault out : Bool), s.takes f 14 → u8 f.payload 0 = x.val →
    -2000000 ≤ s32 f.payload 5 → s32 f.payload 5 ≤ s32 f.payload 9 → s32 f.payload 9 ≤ 2000000 →
    u8 f.payload 13 = openFault.toNat →
    (out = true ↔
      ((s.axs[x].fn = .deflection ∨ s.axs[x].fn = .crackGauge ∨ s.axs[x].fn = .temperature ∨
          s.axs[x].fn = .supplyPressure) ∧ (s.axs[x].value < s32 f.payload 5 ∨ s32 f.payload 9 < s.axs[x].value)) ∨
      (s.axs[x].fn = .digitalIn ∧ openFault = true ∧ s.axs[x].value = 0)) →
    let t := s.modSlot x fun y =>
      { y with scale := s16 f.payload 1, offset := s16 f.payload 3, low := s32 f.payload 5, high := s32 f.payload 9
               openFault := openFault }
    exec (.slotSet f) s = .next
      ((if out then raise (.auxLimit x) t else lower (.auxLimit x) t).answered 0x05 f []))

/-- An analog sample sets the slot's value and judges AUX_LIMIT; a contact edge sets the contact's value, judges AUX_LIMIT of
a DIGITAL_IN slot, adds PENDANT at a PENDANT_HOLD slot and removes it at a PENDANT_RESUME slot, with the SEQ_STATE notices of
the stop and of going on (R17, R19, R26, R41 to R44). That a terminal's level is held at a slot of another function, what
going on enters at a full count, and the amplitude a stop leaves where the pause has length 0, are the model's (log entries
3, 21, 12 and 11). -/
def Obligations.SlotInputsAreTaken : Prop :=
  (∀ (s : State) (x : Fin 16) (raw : Int), s.stc.restartPending = false →
    s.axs[x].fn = .deflection ∨ s.axs[x].fn = .crackGauge ∨ s.axs[x].fn = .temperature ∨
      s.axs[x].fn = .supplyPressure →
    let v := roundDiv (raw * s.axs[x].scale) 1000 + s.axs[x].offset
    let v := if s.axs[x].fn = .supplyPressure then max 0 (min 65535 v) else v
    let t := s.modSlot x fun y => { y with value := v }
    exec (.auxiliaryAnalogSample x raw) s = .next
      (if v < s.axs[x].low ∨ s.axs[x].high < v then raise (.auxLimit x) t else lower (.auxLimit x) t)) ∧
  (∀ (s : State) (x : Fin 16) (closed : Bool), s.settled →
    let t := s.modSlot x fun y => { y with closed := closed }
    let u := s.modSlot x fun y => { y with closed := closed, value := if closed then 1 else 0 }
    (s.axs[x].fn ≠ .digitalIn → s.axs[x].fn ≠ .pendantHold → s.axs[x].fn ≠ .pendantResume →
      exec (.contactEdge x closed) s = .next t) ∧
    (s.axs[x].fn = .digitalIn → s.axs[x].openFault = false → exec (.contactEdge x closed) s = .next u) ∧
    (s.axs[x].fn = .digitalIn → s.axs[x].openFault = true → s.axs[x].value = (if closed then 0 else 1) →
      exec (.contactEdge x closed) s = .next (if closed then lower (.auxLimit x) u else raise (.auxLimit x) u)) ∧
    (s.axs[x].fn = .pendantHold ∨ s.axs[x].fn = .pendantResume → s.axs[x].value = 1 → closed = false →
      exec (.contactEdge x closed) s = .next u) ∧
    (s.axs[x].fn = .pendantHold → s.axs[x].value = 0 → closed = true →
      let q := { s.psq with hold := { s.psq.hold with pendant := true } }
      exec (.contactEdge x closed) s = .next
        (if s.psq.state = .running then ({ u with psq := q.stopped } : State).noted (q.stopNotes s.time)
         else { u with psq := q })) ∧
    (s.axs[x].fn = .pendantResume → s.axs[x].value = 0 → closed = true →
      let q := { s.psq with hold := { s.psq.hold with pendant := false } }
      exec (.contactEdge x closed) s = .next
        (if s.psq.hold.any = true ∧ q.hold.any = false then ({ u with psq := q.goesOn } : State).noted (q.goNotes s.time)
         else { u with psq := q })))

/-! ### The plan sequencer (chapter 2) -/

/-- PLAN_WRITE stores a valid segment record, PLAN_SET the two settings held inside their ranges, TRACK_SET a track record
whose structural fields (quantity, reference, deflection slot) change in SETUP alone and whose offset changes in a state that
is not going; while a plan goes all three are refused (R3, R21, R23, R25, R201). That a field is changed when it differs from
what is held is the model's (log entry 18). -/
def Obligations.PlanCommandsStore : Prop :=
  (∀ (f : Frame) (s : State) (i : Fin 48) (seg : Segment) (pad : List Byte), s.takes f 16 →
    f.payload = put1 i.val ++ seg.bytes ++ pad → seg.valid i.val →
    (s.psq.state.going = false →
      exec (.planWrite f) s = .next
        (({ s with psq := { s.psq with plan := s.psq.plan.set i seg } } : State).answered 0x10 f [])) ∧
    (s.psq.state.going = true → exec (.planWrite f) s = .next (s.replied 0x10 f .refusedState 65535 []))) ∧
  (∀ (f : Frame) (s : State), s.takes f 4 →
    let t : State := { s with psq := { s.psq with
      taperMs := min 60000 (u16 f.payload 0), approachRate := max 1 (min 10000 (u16 f.payload 2)) } }
    (s.psq.state.going = true → exec (.planSet f) s = .next (s.replied 0x12 f .refusedState 65535 [])) ∧
    (s.psq.state.going = false →
      (u16 f.payload 0 ≤ 60000 → 1 ≤ u16 f.payload 2 → u16 f.payload 2 ≤ 10000 →
        exec (.planSet f) s = .next (t.answered 0x12 f [])) ∧
      (60000 < u16 f.payload 0 → exec (.planSet f) s = .next (t.replied 0x12 f .clamped 0 [])) ∧
      (u16 f.payload 0 ≤ 60000 → u16 f.payload 2 = 0 ∨ 10000 < u16 f.payload 2 →
        exec (.planSet f) s = .next (t.replied 0x12 f .clamped 2 [])))) ∧
  (∀ (f : Frame) (s : State) (t : Fin 8) (r : Track), s.takes f 9 →
    f.payload = put1 t.val ++ put1 r.quantity.code ++ put2 r.reference ++ put2 r.offset ++ putOpt r.deflection ++
      put2 r.threshold →
    0 ≤ r.reference → r.reference ≤ 32767 → r.offset ≤ 999 → 500 ≤ r.threshold → r.threshold ≤ 1000 →
    let same := r.quantity = s.psq.tracks[t].quantity ∧ r.reference = s.psq.tracks[t].reference ∧
      r.deflection = s.psq.tracks[t].deflection
    (s.stc.mode = .setup ∨ same →
      (r.offset = s.psq.tracks[t].offset ∨ s.psq.state.going = false →
        exec (.trackSet f) s = .next
          (({ s with psq := { s.psq with tracks := s.psq.tracks.set t r } } : State).answered 0x13 f [])) ∧
      (r.offset ≠ s.psq.tracks[t].offset → s.psq.state.going = true →
        exec (.trackSet f) s = .next (s.replied 0x13 f .refusedState 65535 []))) ∧
    (s.stc.mode ≠ .setup → ¬same → exec (.trackSet f) s = .next (s.replied 0x13 f .refusedMode 65535 [])))

/-- The window pre-check passes a start segment exactly when the present level of every track in use, and every extreme
level of the segments from the start to the first END, is covered (R28). -/
def Obligations.PreCheckCoversEveryLevel : Prop :=
  ∀ (s : State) (start : Fin 48), preCheck s start = none ↔
    ∀ t : Fin 8, s.inUse t = true → s.levelCovered t s.psq.levels[t] ∧
      ∀ i : Fin 48, start ≤ i → (∀ j : Fin 48, start ≤ j → j ≤ i → s.psq.plan[j] ≠ .finish) →
        match s.psq.plan[i] with
        | .ramp _ level _ => s.levelCovered t level
        | .cycle _ mean a _ _ _ _ => s.levelCovered t (mean - a) ∧ s.levelCovered t (mean + a)
        | .dwell .. | .loop .. | .finish => True

/-- START in RUN that passes its tests clears the run and enters its segment, or WAITING_GO; GO enters the segment from
WAITING_GO, with LOST added where a track is lost, and does nothing in any other state; a START that fails a test changes
nothing. Both queue the SEQ_STATE notices of their changes, and START the ZONE_LEVEL notices of its CLEAR before them (R26,
R27, R29, R41, R42, R143, R171, R174). That the notice of RUNNING is formed at the entry, what STEADY's counters read, and
the amplitude a stop leaves where the pause has length 0, are the model's (log entries 12 and 11). -/
def Obligations.StartAndGo : Prop :=
  (∀ (f : Frame) (s : State) (start : Fin 48) (wait : Bool), s.takes f 2 → s.stc.mode = .run →
    u8 f.payload 0 = start.val → u8 f.payload 1 = wait.toNat →
    (preCheck s start = none →
      (s.psq.state.going = true → exec (.start f) s = .next (s.replied 0x14 f .refusedState 65535 [])) ∧
      (s.psq.state.going = false →
        (∀ k : Fin 8, s.trackLost k → (∀ j : Fin 8, j < k → ¬s.trackLost j) →
          exec (.start f) s = .next (s.replied 0x14 f .refusedState k.val [])) ∧
        ((∀ k : Fin 8, ¬s.trackLost k) → s.ev = {} → s.zoneLaw →
          let q : Sequencer := { s.psq with
            segment := start, ctr := 0, ctrEnd := 0, segCycles := 0, totalCycles := 0, phase := 0
            loops := Vector.replicate 48 0, peaks := Vector.replicate 8 none
            hold := { s.psq.hold with segment := false, lost := false } }
          let waiting : Sequencer := { q with state := .waitingGo, activity := .none }
          ∃ t, exec (.start f) s = .next t ∧ t.psq = (if wait then waiting else q.run start.val) ∧
            (∀ z : Fin 16, t.zmn.zones[z].bins = List.replicate s.zmn.zones[z].bins.length {}) ∧
            (∀ k : Fin 8, t.stp.stiff[k] = {}) ∧
            (∀ a : Fin 8, (t.act a).state = (s.act a).state) ∧
            Noted s t (zoneNotes .clear s t ++
              if wait then [waiting.note s.time s.psq.state] else q.runNotes s.time start.val) ∧
            RepliedDone s t 0x14 f [] ∧
            t = { s with psq := t.psq, zmn := t.zmn, stp := { s.stp with stiff := t.stp.stiff }, svc := t.svc
                         lgu := t.lgu, pmx := t.pmx, sli := t.sli }))) ∧
    (∀ d, preCheck s start = some d → exec (.start f) s = .next (s.replied 0x14 f .refusedRange d []))) ∧
  (∀ (f : Frame) (s : State), s.takes f 2 →
    (s.stc.mode ≠ .run → exec (.start f) s = .next (s.replied 0x14 f .refusedMode 65535 [])) ∧
    (s.stc.mode = .run → 48 ≤ u8 f.payload 0 ∨ 2 ≤ u8 f.payload 1 →
      exec (.start f) s = .next (s.replied 0x14 f .refusedRange 65535 []))) ∧
  (∀ (f : Frame) (s : State), s.takes f 0 →
    (s.psq.state ≠ .waitingGo → exec (.go f) s = .next (s.answered 0x09 f [])) ∧
    (s.psq.state = .waitingGo → s.ev = {} → ∀ lost : Bool, (lost = true ↔ ∃ k : Fin 8, s.trackLost k) →
      let q : Sequencer := { s.psq with hold := { s.psq.hold with lost := s.psq.hold.lost || lost } }
      exec (.go f) s = .next
        ((({ s with psq := q.run q.segment.val } : State).noted (q.runNotes s.time q.segment.val)).answered 0x09 f [])))

/-- HOLD adds OPERATOR and stops a RUNNING plan; RESUME takes out OPERATOR and SEGMENT, PROTECTION where no enabled HOLD
entry stands and LOST where no track is lost, and the plan goes on when the set becomes empty; ABORT freezes a going plan
in ABORTED, where SEQ_STATUS keeps the segment's count, and is refused in the other states. Each queues the SEQ_STATE notices
of its changes (R26, R41 to R46). What going on enters at a full count, the counters of STEADY, and the amplitude a stop
leaves where the pause has length 0, are the model's (log entries 12 and 11). -/
def Obligations.HoldResumeAbort : Prop :=
  ∀ (f : Frame) (s : State), s.takes f 0 → s.ev = {} →
    (let q : Sequencer := { s.psq with hold := { s.psq.hold with operator := true } };
      exec (.hold f) s = .next
        ((if s.psq.state = .running then ({ s with psq := q.stopped } : State).noted (q.stopNotes s.time)
          else { s with psq := q }).answered 0x15 f (put1 q.hold.bits))) ∧
    (∀ lost : Bool, (lost = true ↔ ∃ k : Fin 8, s.trackLost k) →
      ∀ held : Bool, (held = true ↔ ∃ e : Fin 40, s.pmx.entries[e].st ≠ .quiet ∧
        s.pmx.entries[e].cfg.enabled = true ∧ s.pmx.entries[e].cfg.action = .hold) →
      let h : HoldSet := { s.psq.hold with
        operator := false, segment := false, protection := s.psq.hold.protection && held
        lost := s.psq.hold.lost && lost }
      let q : Sequencer := { s.psq with hold := h }
      exec (.resume f) s = .next
        ((if s.psq.hold.any = true ∧ h.any = false then ({ s with psq := q.goesOn } : State).noted (q.goNotes s.time)
          else { s with psq := q }).answered 0x16 f (put1 h.bits))) ∧
    (s.psq.state.going = true →
      let q : Sequencer := { s.psq with
        state := .aborted, activity := .none, peaks := Vector.replicate 8 none, heldCount := s.psq.count
        hold := { s.psq.hold with segment := false, lost := false } }
      exec (.abort f) s = .next
        ((({ s with psq := q } : State).noted [q.note s.time s.psq.state]).answered 0x17 f [])) ∧
    (s.psq.state.going = false → exec (.abort f) s = .next (s.replied 0x17 f .refusedState 65535 []))

/-- Entering a segment of a plan whose records are valid ends, after any chain of LOOPs at the same event, as R30, R33, R35,
R39 and R40 say. The counters a STEADY begins with where the taper is 0 are the model's (log entry 11). -/
def Obligations.EnteringASegmentFollowsLoops : Prop :=
  ∀ (i : Nat) (q : Sequencer), (∀ k : Fin 48, (q.plan[k]).valid k.val) → Enters i q (enterFrom loopFuel i q)

/-- The samples at which no wave runs: levels stand outside RUNNING, are 0 in IDLE, follow the straight line of a RAMP, and
stand in a DWELL; the sample that reaches the end value enters the next segment, and takes a DWELL_END record of every track
in use while the snapshot queue has room, with the rest counted as skipped (R22, R26, R30 to R32, R42, R137, R138, R140). The
two rows are that sample; that they change nothing before it, the counters of STEADY, and the amplitude a stop leaves where
the pause has length 0, are the model's (log entries 2 and 11). -/
def Obligations.LevelSegmentSamples : Prop :=
  ∀ (r : Readings) (s : State), s.settled → s.advisory →
    (s.psq.state ≠ .running → s.psq.state ≠ .pausing →
      s.psq.state ≠ .holding ∨ s.psq.activity.isWave = false →
      ∃ t, exec (.controlSample r) s = .next t ∧ SampleFrame s t ∧ t.stp = s.stp ∧ t.zmn = s.zmn ∧
        Forms s t (Notice.is .seqState) [] ∧
        t.psq = (if s.psq.state = .idle then { s.psq with levels := Vector.replicate 8 0 } else s.psq)) ∧
    (s.psq.state = .running → s.psq.activity = .ramp → ∀ hold level ms, s.psq.here = .ramp hold level ms →
      let n := s.psq.ctr + 1
      let N := s.psq.ctrEnd
      let q : Sequencer := { s.psq with ctr := n, levels := Vector.replicate 8 level }
      ∃ t, exec (.controlSample r) s = .next t ∧ SampleFrame s t ∧ t.stp = s.stp ∧ t.zmn = s.zmn ∧
        t.psq = (if n < N then
            { s.psq with ctr := n, levels := s.psq.l0.map fun l => roundDiv (l * N + (level - l) * n) N }
          else q.next) ∧
        Forms s t (Notice.is .seqState) (if n < N then [] else q.nextNotes t.time) ∧
        exec (.rampEnd r) s = .next (if n < N then s else t)) ∧
    (s.psq.state = .running → s.psq.activity = .dwell → ∀ hold ms snap, s.psq.here = .dwell hold ms snap →
      let n := s.psq.ctr + 1
      let N := s.psq.ctrEnd
      let q : Sequencer := { s.psq with ctr := n }
      let tracks := (List.finRange 8).filter s.inUse
      let room := 24 - s.stp.snaps.length
      ∃ t, exec (.controlSample r) s = .next t ∧ SampleFrame s t ∧ t.zmn = s.zmn ∧
        (n < N ∨ snap = false → t.stp = s.stp) ∧
        (N ≤ n → snap = true → s.stp.skipped ≤ 255 →
          t.stp = { s.stp with
            snaps := s.stp.snaps ++ (tracks.take room).map fun k => t.snapshot .dwellEnd k none
            skipped := min 255 (s.stp.skipped + (tracks.length - room)) }) ∧
        t.psq = (if n < N then q else q.next) ∧
        Forms s t (Notice.is .seqState) (if n < N then [] else q.nextNotes t.time) ∧
        exec (.dwellExpiry r) s = .next (if n < N then s else t))

/-- APPROACH moves every track at the approach rate toward the mean and no further, ends at the least sample at which all
stand there, and begins TAPER_UP. TAPER_UP raises the amplitude by A / K a sample and begins STEADY at k = K (R26, R33 to
R35; R33's formula where its example differs: log entry 25). The two rows are the samples that end them; that they change
nothing before, and that STEADY reads counter and end 0, is the model's (log entries 2 and 11). -/
def Obligations.ApproachAndTaperUpSamples : Prop :=
  (∀ (l0 mean : Int) (rate n : Nat), 1 ≤ rate →
    (approachLevel l0 mean rate n = mean ↔ approachSteps l0 mean rate ≤ n)) ∧
  (∀ (r : Readings) (s : State), s.settled → s.advisory → s.psq.state = .running →
    ∀ hold mean a freq shape count interval, s.psq.here = .cycle hold mean a freq shape count interval →
    let n := s.psq.ctr + 1
    let K := 2 * s.psq.taperMs
    (s.psq.activity = .approach →
      let q : Sequencer := { s.psq with
        ctr := n
        levels := s.psq.l0.map fun l =>
          if l < mean then min mean (roundDiv (l * 2000 + (s.psq.approachRate * n : Nat)) 2000)
          else max mean (roundDiv (l * 2000 - (s.psq.approachRate * n : Nat)) 2000) }
      ∃ t, exec (.controlSample r) s = .next t ∧ SampleFrame s t ∧ t.stp = s.stp ∧ t.zmn = s.zmn ∧
        Forms s t (Notice.is .seqState) [] ∧
        ((∀ k : Fin 8, q.levels[k] = mean) →
          t.psq = (if K = 0 then { q with activity := .steady, phase := 0, amp := a, ctr := 0, ctrEnd := 0 }
            else { q with activity := .taperUp, phase := 0, amp := 0, ctr := 0, ctrEnd := K }) ∧
          exec (.approachEnd r) s = .next t) ∧
        ((∃ k : Fin 8, q.levels[k] ≠ mean) → t.psq = q ∧ exec (.approachEnd r) s = .next s)) ∧
    (s.psq.activity = .taperUp →
      let phase := (advancePhase s.psq.phase freq).1
      let amp := (roundDiv (a * n : Nat) (K : Nat)).toNat
      let q : Sequencer := { s.psq with
        ctr := n, phase := phase, amp := amp
        levels := Vector.ofFn fun k => waveLevel mean amp shape (trackPhase phase s.psq.tracks[k].offset) }
      ∃ t, exec (.controlSample r) s = .next t ∧ SampleFrame s t ∧ t.stp = s.stp ∧ t.zmn = s.zmn ∧
        Forms s t (Notice.is .seqState) [] ∧
        t.psq = (if n < K then q else { q with activity := .steady, amp := a, ctr := 0, ctrEnd := 0 }) ∧
        exec (.taperUpEnd r) s = .next (if n < K then s else t)))

/-- STEADY counts its wraps, each of them an activity tick, keeps the pending peaks, hands its marks to the strain processor
in track order, and begins TAPER_DOWN at the segment's count. TAPER_DOWN lowers the amplitude to 0 and enters the next
segment. PAUSING lowers it from where the stop found it and ends HOLDING at the mean (R26, R36 to R38, R43, R137, R168,
R171). The rows are the samples that count and that end them; that they change nothing before, that TAPER_DOWN stands at the
last tick, the counters of STEADY, and the amplitude a stop leaves where the pause has length 0, are the model's (log entries
2, 6 and 11). -/
def Obligations.SteadyTaperDownAndPausingSamples : Prop :=
  ∀ (r : Readings) (s : State), s.settled → s.advisory →
    ∀ hold mean a freq shape count interval, s.psq.here = .cycle hold mean a freq shape count interval →
    let n := s.psq.ctr + 1
    let K := 2 * s.psq.taperMs
    let phase := (advancePhase s.psq.phase freq).1
    let levels (amp : Nat) : Vector Int 8 :=
      Vector.ofFn fun k => waveLevel mean amp shape (trackPhase phase s.psq.tracks[k].offset)
    (s.psq.state = .running → s.psq.activity = .steady →
      let wrap := (advancePhase s.psq.phase freq).2
      let cycles := if wrap then s.psq.segCycles + 1 else s.psq.segCycles
      let ended := wrap = true ∧ count ≤ cycles
      let q : Sequencer := { s.psq with
        phase := phase, amp := a, levels := levels a, segCycles := cycles
        totalCycles := if wrap then min 4294967295 (s.psq.totalCycles + 1) else s.psq.totalCycles }
      let down : Sequencer := { q with activity := .taperDown, ctr := 0, ctrEnd := K, peaks := Vector.replicate 8 none }
      let passes (k : Fin 8) (x : Nat) : Bool :=
        crosses (trackPhase s.psq.phase s.psq.tracks[k].offset) (freq * 100) x
      let snapAt (c : Nat) : Bool := decide (interval ≠ 0 ∧ c % interval = 0)
      let pending (k : Fin 8) : Option Nat := if passes k 5000000 then some (cycles + 1) else s.psq.peaks[k]
      let marks : List Mark := (List.finRange 8).flatMap fun k =>
        (if passes k 5000000 then [{ track := k, peak := true, cycle := cycles + 1, snap := snapAt (cycles + 1) }]
         else []) ++
        if passes k 15000000 then (pending k).toList.map fun c => { track := k, peak := false, cycle := c, snap := snapAt c }
        else []
      ∃ t, exec (.controlSample r) s = .next t ∧ SampleFrame s t ∧
        (ended → t.stp = s.stp) ∧
        (¬ended → t.stp = (marks.foldl (fun u m => takeMark m u)
          { s with clock := t.clock, psq := t.psq, svc := t.svc, lgu := t.lgu }).stp) ∧
        (¬ended → t.psq = { q with
          peaks := Vector.ofFn fun k => if passes k 15000000 then none else pending k }) ∧
        (ended → t.psq = if K = 0 then down.next else down) ∧
        Forms s t (Notice.is .seqState) (if ended ∧ K = 0 then down.nextNotes t.time else []) ∧
        Forms s t (Notice.is .zoneLevel) (zoneNotes .tick s t) ∧
        (wrap = false → t.zmn = s.zmn) ∧
        (wrap = true →
          t.zmn.tickCount = (s.zmn.tickCount + 1) % 4294967296 ∧ t.zmn.lastTick = .cycle ∧
          t.zmn.timerStart = t.clock.now ∧ t.zmn.timerSec = s.stc.settings.binTime ∧
          ∀ z : Fin 16, s.zmn.zones[z].bins ≠ [] → t.zmn.zones[z].bins = {} :: s.zmn.zones[z].bins.dropLast) ∧
        exec (.countedCycle r) s = .next (if wrap then t else s) ∧
        (ended → exec (.steadyEnd r) s = .next t) ∧ (¬ended → exec (.steadyEnd r) s = .next s)) ∧
    (s.psq.state = .running → s.psq.activity = .taperDown →
      let amp := (roundDiv (a * (K - n) : Nat) (K : Nat)).toNat
      let q : Sequencer := { s.psq with ctr := n, phase := phase, amp := amp, levels := levels amp }
      ∃ t, exec (.controlSample r) s = .next t ∧ SampleFrame s t ∧ t.stp = s.stp ∧ t.zmn = s.zmn ∧
        t.psq = (if n < K then q else q.next) ∧
        Forms s t (Notice.is .seqState) (if n < K then [] else q.nextNotes t.time) ∧
        exec (.taperDownEnd r) s = .next (if n < K then s else t)) ∧
    (s.psq.state = .pausing →
      let M := s.psq.ctrEnd
      let amp := (roundDiv (s.psq.pauseAmp * (M - n) : Nat) (M : Nat)).toNat
      let q : Sequencer := { s.psq with ctr := n, phase := phase, amp := amp, levels := levels amp }
      ∃ t, exec (.controlSample r) s = .next t ∧ SampleFrame s t ∧ t.stp = s.stp ∧ t.zmn = s.zmn ∧
        t.psq = (if n < M then q else { q with state := .holding }) ∧
        Forms s t (Notice.is .seqState) (if n < M then [] else [t.psq.note t.time .pausing]) ∧
        exec (.pausingEnd r) s = .next (if n < M then s else t)) ∧
    (s.psq.state = .holding → s.psq.activity.isWave = true →
      ∃ t, exec (.controlSample r) s = .next t ∧ SampleFrame s t ∧ t.stp = s.stp ∧ t.zmn = s.zmn ∧
        Forms s t (Notice.is .seqState) [] ∧ t.psq = { s.psq with levels := Vector.replicate 8 mean })

/-- The master phase advances by 100 units for each cHz around a cycle of 20,000,000, a track's phase is shifted by its
offset, the triangle is the table of R34, the sine stands at its exact values at the quarters and has their symmetry, a
level lies at the mean for amplitude 0, and a point is crossed exactly when the advance passes or reaches it (R34, R37). -/
def Obligations.WaveFollowsItsPhase : Prop :=
  (∀ p freq : Nat, p < 20000000 → freq ≤ 1000 →
    advancePhase p freq = ((p + 100 * freq) % 20000000, decide (20000000 ≤ p + 100 * freq))) ∧
  (∀ p offset : Nat, p < 20000000 → offset ≤ 999 → trackPhase p offset = (p + 20000 * offset) % 20000000) ∧
  (∀ (mean : Int) (amp p : Nat), p < 20000000 →
    waveLevel mean amp .triangle p =
      if p < 5000000 then roundDiv (mean * 5000000 + amp * p) 5000000
      else if p < 15000000 then roundDiv (mean * 5000000 + amp * (10000000 - p)) 5000000
      else roundDiv (mean * 5000000 + amp * (p - 20000000)) 5000000) ∧
  (∀ p : Nat, p ≤ 10000000 → sineAt p = sineAt (10000000 - p)) ∧
  (∀ p : Nat, p < 10000000 → sineAt (p + 10000000) = -sineAt p) ∧
  sineAt 0 = 0 ∧ sineAt 5000000 = 2 ^ 160 ∧
  (∀ (mean : Int) (shape : Shape) (p : Nat), waveLevel mean 0 shape p = mean) ∧
  (∀ (mean : Int) (amp : Nat) (shape : Shape),
    waveLevel mean amp shape 5000000 = mean + amp ∧ waveLevel mean amp shape 15000000 = mean - amp) ∧
  (∀ before step x : Nat, before < 20000000 → step < 20000000 → x < 20000000 →
    (crosses before step x = true ↔ ∃ j, 0 < j ∧ j ≤ step ∧ (before + j) % 20000000 = x))

/-- Between the quarters the sine of a phase p is sin(2π p / 20,000,000) within 10^-15, and a level of a SINE wave lies within
half a unit and 10^-11 of mean + a × w (R34; how the sine is computed is the model's: log entry 10). -/
def Obligations.SineIsAccurate : Prop :=
  ∀ p : Nat, p < 20000000 →
    let w : ℝ := Real.sin (2 * Real.pi * p / 20000000)
    |(sineAt p : ℝ) / 2 ^ 160 - w| ≤ 1 / 10 ^ 15 ∧
    ∀ (mean : Int) (amp : Nat), amp ≤ 10000 →
      |(waveLevel mean amp .sine p : ℝ) - (mean + amp * w)| ≤ 1 / 2 + 1 / 10 ^ 11

/-! ### The servo channels (chapter 3) and the actuators (chapter 4) -/

/-- The setpoint chain of a control sample: the readings, the value that enters stage 6 by the actuator's state, source and
group, and stages 6 to 9 on it, for an UNLOADING actuator and a group member as well (R48 to R59, R62, R81, R103, R104). That
the registers of stages that do not run stand, L under MANUAL and every register of a stopped servo among them, is the
model's (log entry 13), and so is stage 7 without a covering window (log entry 16). -/
def Obligations.SetpointChain : Prop :=
  (∀ (r : Readings) (s : State) (a : Fin 8), (s.act a).state = .off ∨ (s.act a).state = .starting ∨
      (s.act a).state = .tripped →
    let v := sampleValues r s
    (v.1.act a).regs = (s.act a).regs ∧ exec (.controlSample r) s = stepDone (sampleEvents r.first v.2 v.1)) ∧
  (∀ (r : Readings) (s : State) (a : Fin 8), s.settled → s.advisory →
    ∃ t, exec (.controlSample r) s = .next t ∧ SampleFrame s t ∧
      let x := s.act a
      let y := t.act a
      let g := match x.present with
        | .force => x.gainsForce
        | .stroke => x.gainsStroke
      let chain (pre : Regs) (v : Int) : Regs :=
        let h := match x.present with
          | .force => clamp v (-x.cfg.capacity) x.cfg.capacity
          | .stroke => clamp v x.cfg.strokeLow x.cfg.strokeHigh
        let e := (windowClamp s.svc.windows x.present a h).1
        let c := pre.c + clamp (e - pre.c) (-g.rate) g.rate
        let o := piLoop g (match x.present with
          | .force => y.force
          | .stroke => y.stroke) c pre.a
        { pre with h := h, e := e, c := c, err := o.1, p := o.2.1, ut := o.2.2.1, a := o.2.2.2.1, u := o.2.2.2.2 }
      let stages (pre : Regs) (base : Int) : Regs :=
        let d := match x.present with
          | .force => roundDiv (base * x.derate) 1000
          | .stroke => base
        chain { pre with b := base, s := base, d := d } d
      y.force = clamp r.force[a] (-32768) 32767 ∧ y.stroke = clamp r.stroke[a] (-32768) 32767 ∧
      y.forceSat = decide (r.force[a] ≤ -32768 ∨ 32767 ≤ r.force[a]) ∧
      y.strokeSat = decide (r.stroke[a] ≤ -32768 ∨ 32767 ≤ r.stroke[a]) ∧
      (x.state = .off ∨ x.state = .starting ∨ x.state = .tripped → y.regs = x.regs ∧ y.state = x.state) ∧
      (x.state = .low ∨ x.state = .raising → y.regs = chain x.regs x.strokeHold ∧ y.state = x.state) ∧
      (x.state = .unloading → y.state = .unloading → y.regs = chain x.regs y.unload.ramp) ∧
      (x.state = .active → y.state = .active) ∧
      (x.state = .active → s.groupOf a = none →
        (x.source = .manual → y.regs = stages x.regs (match x.present with
          | .force => x.manualForce
          | .stroke => x.manualStroke)) ∧
        (x.source = .sequencer →
          y.regs = if s.psq.tracks[a].quantity = x.present then
              stages { x.regs with l := t.psq.levels[a] }
                (roundDiv (s.psq.tracks[a].reference * t.psq.levels[a]) 10000)
            else chain x.regs x.regs.c)) ∧
      (∀ k : Fin 4, x.state = .active → s.groupOf a = some k →
        let z := (sampleValues r s).1.group k
        y.regs = chain { x.regs with l := y.regs.l, b := y.regs.b, s := y.regs.s, d := y.regs.d }
          (y.regs.d + if z.recipient = some a then z.h else 0)))

/-- Stage 7: a value inside a covering window passes, any other goes to the boundary of the nearest, the lowest index among
equals (R57). With no covering window it passes: that clause is the model's (log entry 16). -/
def Obligations.WindowClampTakesTheNearest : Prop :=
  ∀ (w : Vector Window 6) (q : Quantity) (a : Fin 8) (h : Int),
    let inside (i : Fin 6) : Prop := w[i].lower ≤ h ∧ h ≤ w[i].upper
    let distance (i : Fin 6) : Int := if h < w[i].lower then w[i].lower - h else h - w[i].upper
    ((∃ i : Fin 6, w[i].covers q a ∧ inside i) → windowClamp w q a h = (h, none)) ∧
    (∀ i : Fin 6, w[i].covers q a → (∀ j : Fin 6, w[j].covers q a → ¬inside j) →
      (∀ j : Fin 6, w[j].covers q a → distance i ≤ distance j ∧ (distance i = distance j → i ≤ j)) →
      windowClamp w q a h = (if h < w[i].lower then w[i].lower else w[i].upper, some i)) ∧
    ((∀ i : Fin 6, ¬w[i].covers q a) → windowClamp w q a h = (h, none))

/-- The PI loop of a control sample, step by step, for every actuator whose servo runs (R59). -/
def Obligations.PiLoopFollowsItsSteps : Prop :=
  ∀ (r : Readings) (s : State) (a : Fin 8),
    let v := sampleValues r s
    let x := v.1.act a
    let old := (s.act a).regs.a
    let g := match x.present with
      | .force => x.gainsForce
      | .stroke => x.gainsStroke
    let measured := match x.present with
      | .force => x.force
      | .stroke => x.stroke
    let holds := 10000 ≤ x.regs.ut.natAbs ∧ x.regs.err ≠ 0 ∧ (x.regs.err < 0 ↔ x.regs.ut < 0)
    exec (.controlSample r) s = stepDone (sampleEvents r.first v.2 v.1) ∧
    (x.state.servoRuns = true →
      x.regs.err = x.regs.c - measured ∧
      x.regs.p = roundDiv (g.kp * x.regs.err) 256 ∧
      x.regs.ut = x.regs.p + roundDiv old 65536 ∧
      (holds → x.regs.a = old) ∧
      (¬holds → x.regs.a = clamp (old + g.ki * x.regs.err) (-(g.imax * 65536)) (g.imax * 65536)) ∧
      x.regs.u = clamp (x.regs.p + roundDiv x.regs.a 65536) (-10000) 10000)

/-- Every command keeps the bounds of the valve drive and of the integrator, and a stopped servo's drive at 0
(R50, R59 to R61, R63). -/
def Obligations.DriveLawIsKept : Prop :=
  ∀ (i : Instr) (s t : State), s.driveLaw → exec i s = .next t → t.driveLaw

/-- The conditions of an enabled actuator at a control sample: the bands with hysteresis, the saturated readings, the window
clamp, and the two counters, of an UNLOADING actuator as well (R49, R57, R65 to R68). The count rows are the samples that
bring their condition; that they change nothing else, and that a lowered time counts at the next sample, is the model's (log
entries 2 and 26). -/
def Obligations.SampleConditionsAreJudged : Prop :=
  ∀ (r : Readings) (s : State) (a : Fin 8), s.settled → s.advisory → (s.act a).cfg.enabled = true →
    ∃ t, exec (.controlSample r) s = .next t ∧ SampleFrame s t ∧
      let c := (s.act a).cfg
      let y := t.act a
      t.raised (.act .forceLimit a) =
        (if c.forceHigh < y.force ∨ y.force < c.forceLow then true
         else if c.forceLow + c.forceHyst ≤ y.force ∧ y.force ≤ c.forceHigh - c.forceHyst then false
         else s.raised (.act .forceLimit a)) ∧
      t.raised (.act .strokeLimit a) =
        (if c.strokeHigh < y.stroke ∨ y.stroke < c.strokeLow then true
         else if c.strokeLow + c.strokeHyst ≤ y.stroke ∧ y.stroke ≤ c.strokeHigh - c.strokeHyst then false
         else s.raised (.act .strokeLimit a)) ∧
      t.raised (.act .sensorRange a) = (y.forceSat || y.strokeSat) ∧
      ((s.act a).state = .low ∨ (s.act a).state = .raising ∨ (s.act a).state = .active ∨
          ((s.act a).state = .unloading ∧ y.state = .unloading) →
        1 ≤ c.followMs → 1 ≤ c.stallMs →
        t.raised (.act .envelope a) = y.clampWindow.isSome ∧
        y.follow = (if c.followLimit < y.regs.err.natAbs then (s.act a).follow + 1 else 0) ∧
        y.stall = (if y.regs.u.natAbs = 10000 then (s.act a).stall + 1 else 0) ∧
        t.raised (.act .following a) =
          (if y.follow = 0 then false else if 2 * c.followMs ≤ y.follow then true else s.raised (.act .following a)) ∧
        t.raised (.act .stall a) =
          (if y.stall = 0 then false else if 2 * c.stallMs ≤ y.stall then true else s.raised (.act .stall a)) ∧
        exec (.followingCountReached a r) s =
          .next (if s.raised (.act .following a) = false ∧ 2 * c.followMs ≤ y.follow then t else s) ∧
        exec (.stallCountReached a r) s =
          .next (if s.raised (.act .stall a) = false ∧ 2 * c.stallMs ≤ y.stall then t else s))

/-- WINDOW_SET stores a window in SETUP. ACT_CONFIG stores a valid record whose structural fields (enabled, frame, unload
target) change in SETUP alone and whose control quantity stands in ACTIVE and UNLOADING; disabling an actuator lowers its
conditions; an unload rate of 0 is clamped to 1 (R3, R56, R68, R70, R201). That the present control quantity stays what it
was, and that a field is changed when it differs from what is held, is the model's (log entries 13 and 18). -/
def Obligations.WindowAndActuatorRecords : Prop :=
  (∀ (f : Frame) (s : State) (i : Fin 6) (w : Window), s.takes f 8 → f.payload = put1 i.val ++ w.bytes →
    -32768 ≤ w.lower → w.lower ≤ w.upper → w.upper ≤ 32767 →
    (s.stc.mode = .setup → exec (.windowSet f) s = .next
      (({ s with svc := { s.svc with windows := s.svc.windows.set i w } } : State).answered 0x20 f w.bytes)) ∧
    (s.stc.mode ≠ .setup → exec (.windowSet f) s = .next (s.replied 0x20 f .refusedMode 65535 []))) ∧
  (∀ (f : Frame) (s : State) (a : Fin 8) (c : ActConfig), s.takes f 38 → c.valid →
    let same := c.enabled = (s.act a).cfg.enabled ∧ c.frame = (s.act a).cfg.frame ∧
      c.unloadTarget = (s.act a).cfg.unloadTarget
    (s.stc.mode ≠ .setup → ¬same → f.payload = put1 a.val ++ c.bytes →
      exec (.actConfig f) s = .next (s.replied 0x21 f .refusedMode 65535 [])) ∧
    (s.stc.mode = .setup ∨ same →
      (c.quantity ≠ (s.act a).cfg.quantity → (s.act a).state = .active ∨ (s.act a).state = .unloading →
        f.payload = put1 a.val ++ c.bytes →
        exec (.actConfig f) s = .next (s.replied 0x21 f .refusedState a.val [])) ∧
      (c.quantity = (s.act a).cfg.quantity ∨ ((s.act a).state ≠ .active ∧ (s.act a).state ≠ .unloading) → s.ev = {} →
        let u := s.modAct a fun x => { x with cfg := c }
        (c.enabled = true ∨ (s.act a).cfg.enabled = false →
          c.enabled = (s.act a).cfg.enabled ∨ s.psq.state.going = false →
          (f.payload = put1 a.val ++ c.bytes → exec (.actConfig f) s = .next (u.answered 0x21 f c.bytes)) ∧
          (c.unloadRate = 1 → f.payload = put1 a.val ++ ({ c with unloadRate := 0 } : ActConfig).bytes →
            exec (.actConfig f) s = .next (u.replied 0x21 f .clamped 25 c.bytes))) ∧
        (c.enabled = false → (s.act a).cfg.enabled = true → f.payload = put1 a.val ++ c.bytes →
          ∃ t, exec (.actConfig f) s = .next t ∧ (t.act a).cfg = c ∧
            (∀ k : ActCond, t.raised (.act k a) = false) ∧ t.raised (.unloadTimeout a) = false ∧
            (∀ b : Fin 8, (t.act b).state = (s.act b).state) ∧ RepliedDone s t 0x21 f c.bytes ∧
            t = { s with svc := t.svc, lgu := t.lgu, pmx := t.pmx, sli := t.sli }))))

/-- ACT_GAINS stores the gains of a quantity with Imax and the rate limit held inside their ranges, and the integrator inside
a new bound; ACT_MANUAL stores a setpoint held inside the actuator's limits; ACT_SOURCE sets the source, by which a track
may be lost and the plan stop; ACT_CONTROL sets the control quantity in LOW and switches it in ACTIVE (R26, R41, R42, R60,
R63, R71 to R73, R201). The amplitude a stop leaves where the pause has length 0 is the model's (log entry 11). -/
def Obligations.ActuatorSettings : Prop :=
  (∀ (f : Frame) (s : State) (a : Fin 8) (q : Quantity) (kp ki imax rate : Nat), s.takes f 10 →
    f.payload = put1 a.val ++ put1 q.code ++ put2 kp ++ put2 ki ++ put2 imax ++ put2 rate →
    kp ≤ 65535 → ki ≤ 65535 → imax ≤ 65535 → rate ≤ 65535 →
    let g : Gains := { kp := kp, ki := ki, imax := min 10000 imax, rate := max 1 (min 32767 rate) }
    let t := s.modAct a fun x =>
      { x with gainsForce := if q = .force then g else x.gainsForce
               gainsStroke := if q = .stroke then g else x.gainsStroke
               regs := if x.present = q then { x.regs with a := clamp x.regs.a (-(g.imax * 65536)) (g.imax * 65536) }
                       else x.regs }
    exec (.actGains f) s = .next
      (if 10000 < imax then t.replied 0x22 f .clamped 6 []
       else if rate = 0 ∨ 32767 < rate then t.replied 0x22 f .clamped 8 []
       else t.answered 0x22 f [])) ∧
  (∀ (f : Frame) (s : State) (a : Fin 8) (q : Quantity), s.takes f 4 → u8 f.payload 0 = a.val → u8 f.payload 1 = q.code →
    let v := match q with
      | .force => clamp (s16 f.payload 2) (-(s.act a).cfg.capacity) (s.act a).cfg.capacity
      | .stroke => clamp (s16 f.payload 2) (s.act a).cfg.strokeLow (s.act a).cfg.strokeHigh
    let t := s.modAct a fun x =>
      { x with manualForce := if q = .force then v else x.manualForce
               manualStroke := if q = .stroke then v else x.manualStroke }
    exec (.actManual f) s = .next
      (if v = s16 f.payload 2 then t.answered 0x26 f [] else t.replied 0x26 f .clamped 2 [])) ∧
  (∀ (f : Frame) (s : State) (a : Fin 8) (src : Source), s.takes f 2 → u8 f.payload 0 = a.val →
    u8 f.payload 1 = src.code →
    (s.groupOf a ≠ none → src = .manual → exec (.actSource f) s = .next (s.replied 0x25 f .refusedState a.val [])) ∧
    (s.groupOf a = none ∨ src = .sequencer → s.ev = {} →
      let u := s.modAct a fun x => { x with source := src }
      let q : Sequencer := { s.psq with hold := { s.psq.hold with lost := true } }
      exec (.actSource f) s = .next
        ((if s.psq.state.going = true ∧ s.lostCause = false ∧ u.lostCause = true then
            if s.psq.state = .running then ({ u with psq := q.stopped } : State).noted (q.stopNotes s.time)
            else { u with psq := q }
          else u).answered 0x25 f []))) ∧
  (∀ (f : Frame) (s : State) (a : Fin 8) (q : Quantity), s.takes f 2 → u8 f.payload 0 = a.val → u8 f.payload 1 = q.code →
    (s.groupOf a ≠ none → exec (.actControl f) s = .next (s.replied 0x24 f .refusedState a.val [])) ∧
    (s.groupOf a = none →
      ((s.act a).state ≠ .low → (s.act a).state ≠ .active →
        exec (.actControl f) s = .next (s.replied 0x24 f .refusedState 65535 [])) ∧
      ((s.act a).state = .low ∨ ((s.act a).state = .active ∧ (s.act a).present = q) →
        exec (.actControl f) s = .next
          ((s.modAct a fun x => { x with cfg := { x.cfg with quantity := q } }).answered 0x24 f [])) ∧
      ((s.act a).state = .active → (s.act a).present ≠ q →
        exec (.actControl f) s = .next
          ((s.modAct a fun x =>
            let m := match q with
              | .force => x.force
              | .stroke => x.stroke
            let bound := 65536 * match q with
              | .force => x.gainsForce.imax
              | .stroke => x.gainsStroke.imax
            { x with cfg := { x.cfg with quantity := q }, present := q
                     regs := { x.regs with c := m, a := clamp (65536 * x.regs.u) (-bound) bound } }).answered 0x24 f []))))

/-- ACT_MODE with its tests passed follows the table of R76, changes no other actuator's state, and queues an ACT_STATE notice
at LOW and OFF; its refusals change nothing. A recipient that leaves ACTIVE leaves its group's record, with a selection due
for RECIPIENT_OUT, and the record is cleared where the group stops being short; where the lost cause comes to hold, LOST is
added and a RUNNING plan stops, with the SEQ_STATE notices of the stop (R26, R41, R42, R74 to R78, R80, R87, R94, R98, R99).
That UNLOADING's ramp value reads C0 until its first sample, and the amplitude a stop leaves where the pause has length 0, are
the model's (log entries 13 and 11). -/
def Obligations.ActModeFollowsTheTable : Prop :=
  ∀ (f : Frame) (s : State) (a : Fin 8) (target : ModeTarget), s.takes f 2 → u8 f.payload 0 = a.val →
    ModeTarget.ofCode (u8 f.payload 1) = some target →
    let restrains (e : Fin 40) (trip : Bool) : Prop :=
      s.pmx.entries[e].st ≠ .quiet ∧ s.pmx.entries[e].reach.getLsbD a.val = true ∧
        (s.pmx.entries[e].cfg.acting = .trip ∨ (s.pmx.entries[e].cfg.acting = .unload ∧ trip = false))
    let neighbour (b : Fin 8) : Prop :=
      b ≠ a ∧ (s.act b).cfg.frame = (s.act a).cfg.frame ∧ (s.act b).state = .tripped
    (target ≠ .off → s.stc.mode ≠ .run → exec (.actMode f) s = .next (s.replied 0x23 f .refusedMode 65535 [])) ∧
    (target ≠ .off → s.stc.mode = .run →
      ((s.act a).cfg.enabled = false → exec (.actMode f) s = .next (s.replied 0x23 f .refusedState a.val [])) ∧
      ((s.act a).cfg.enabled = true →
        (∀ b : Fin 8, neighbour b → (∀ c : Fin 8, c < b → ¬neighbour c) →
          exec (.actMode f) s = .next (s.replied 0x23 f .refusedState b.val [])) ∧
        ((∀ b : Fin 8, ¬neighbour b) →
          (∀ e : Fin 40, restrains e false → (∀ d : Fin 40, d < e → ¬restrains d false) →
            exec (.actMode f) s = .next (s.replied 0x23 f .refusedState e.val [])) ∧
          ((∀ e : Fin 40, ¬restrains e false) → modeTable (s.act a).state target = none →
            exec (.actMode f) s = .next (s.replied 0x23 f .refusedState 65535 []))))) ∧
    (target = .off → (s.act a).state = .tripped →
      ∀ e : Fin 40, restrains e true → (∀ d : Fin 40, d < e → ¬restrains d true) →
        exec (.actMode f) s = .next (s.replied 0x23 f .refusedState e.val [])) ∧
    (∀ y : ActState, modeTable (s.act a).state target = some y → s.ev = {} →
      (target ≠ .off → s.stc.mode = .run ∧ (s.act a).cfg.enabled = true ∧ (∀ b : Fin 8, ¬neighbour b) ∧
        ∀ e : Fin 40, ¬restrains e false) →
      (target = .off → (s.act a).state = .tripped → ∀ e : Fin 40, ¬restrains e true) →
      ∃ t, exec (.actMode f) s = .next t ∧
        (t.act a).state = y ∧ (t.act a).cfg = (s.act a).cfg ∧
        (∀ b : Fin 8, b ≠ a → t.act b = { s.act b with derate := (t.act b).derate }) ∧
        (y = .starting → (t.act a).toActive = decide (target = .active)) ∧
        (y = .unloading → (t.act a).destOff = decide (target = .off)) ∧
        (y = .off → (s.act a).state ≠ .off → (t.act a).regs.c = 0 ∧ (t.act a).regs.a = 0 ∧ (t.act a).regs.u = 0) ∧
        ((s.act a).state = .off → y = .starting →
          (t.act a).timerStart = s.clock.now ∧ (t.act a).timerMs = (s.act a).cfg.lowMs ∧ (t.act a).regs.u = 0) ∧
        ((s.act a).state = .low → y = .raising →
          (t.act a).timerStart = s.clock.now ∧ (t.act a).timerMs = (s.act a).cfg.highMs) ∧
        ((s.act a).state = .active → y = .unloading → (t.act a).present = .force ∧
          (t.act a).unload = { target := (s.act a).cfg.unloadTarget, rate := (s.act a).cfg.unloadRate
                               tol := (s.act a).cfg.unloadTol, settleMs := (s.act a).cfg.unloadSettleMs
                               timeoutS := (s.act a).cfg.unloadTimeoutS, c0 := (t.act a).regs.c
                               ramp := (t.act a).regs.c, start := s.clock.now, timerOn := true }) ∧
        (y = (s.act a).state → t.sli.notices = s.sli.notices) ∧
        Forms s t (Notice.is .actState)
          (if y ≠ (s.act a).state ∧ (y = .low ∨ y = .off) then [s.actNote a y (s.act a).state .command] else []) ∧
        LostComes s t ∧
        ((∀ b : Fin 8, (s.act b).derate = s.mergedDerate b) →
          t.lgu = if (s.act a).state = .active ∧ y = .unloading then s.lguMoved t a false else s.lgu) ∧
        RepliedDone s t 0x23 f [] ∧
        t = { s with svc := t.svc, lgu := t.lgu, psq := t.psq, pmx := t.pmx, sli := t.sli })

/-- The pressure timers: STARTING goes to RAISING for target ACTIVE where the test of R77 passes and to LOW otherwise, with
a fresh stroke hold, RAISING to ACTIVE, under FORCE control for a group member, for which a short group without a recipient
has a selection due with cause JOIN (R62 to R64, R74, R77, R78, R94, R98, R99). That the rows do nothing in every other state is the model's (log entry 2). -/
def Obligations.PressureTimersExpire : Prop :=
  ∀ (s : State) (a : Fin 8), s.settled →
    let x := s.act a
    let now := max s.clock.now (x.timerStart + x.timerMs * 1000)
    let timed : State := { s with clock := { s.clock with now := now } }
    (x.state ≠ .starting → exec (.lowPressureTimerExpiry a) s = .next s) ∧
    (x.state ≠ .raising → exec (.highPressureTimerExpiry a) s = .next s) ∧
    (x.state = .starting → ∀ up : Bool,
      (up = true ↔ x.toActive = true ∧ s.stc.mode = .run ∧
        (∀ b : Fin 8, b ≠ a → (s.act b).cfg.frame = x.cfg.frame → (s.act b).state ≠ .tripped) ∧
        ∀ e : Fin 40, s.pmx.entries[e].st ≠ .quiet → s.pmx.entries[e].reach.getLsbD a.val = true →
          s.pmx.entries[e].cfg.acting ≠ .unload ∧ s.pmx.entries[e].cfg.acting ≠ .trip) →
      let y : Actuator := { x with
        state := if up then .raising else .low
        timerStart := if up then now else 0, timerMs := if up then x.cfg.highMs else 0
        strokeHold := x.stroke, present := .stroke, regs := { x.regs with c := x.stroke, a := 0 } }
      exec (.lowPressureTimerExpiry a) s = .next
        ((timed.modAct a fun _ => y).noted (if up then [] else [timed.actNote a .low .starting .timer]))) ∧
    (x.state = .raising →
      ∃ t, exec (.highPressureTimerExpiry a) s = .next t ∧ t.clock = timed.clock ∧
        t.act a = (let y : Actuator := { x with state := .active, timerStart := 0, timerMs := 0 }
          if s.groupOf a = none ∧ x.cfg.quantity = .stroke then y
          else { y with
            present := .force
            regs := { x.regs with
              c := x.force
              a := clamp (x.regs.u * 65536) (-(x.gainsForce.imax * 65536)) (x.gainsForce.imax * 65536) } }) ∧
        (∀ b : Fin 8, b ≠ a → t.act b = s.act b) ∧
        t.sli = (timed.noted [timed.actNote a .active .raising .timer]).sli ∧
        t = { s with clock := t.clock, svc := { s.svc with acts := t.svc.acts }, lgu := s.lguMoved t a true
                     sli := t.sli })

/-- The unload timer raises UNLOAD_TIMEOUT and the unload goes on. The sample at which the settle counter reaches its value
completes the unload to LOW with a stroke hold, or to OFF, with its ACT_STATE notice, and lowers UNLOAD_TIMEOUT (R74, R81 to
R83). That the rows do nothing before their count, and where their timer does not run, is the model's (log entry 2). -/
def Obligations.UnloadsEnd : Prop :=
  ∀ (s : State) (a : Fin 8), s.settled → s.advisory →
    let x := s.act a
    (x.state ≠ .unloading ∨ x.unload.timerOn = false → exec (.unloadTimerExpiry a) s = .next s) ∧
    (x.state = .unloading → x.unload.timerOn = true →
      ∃ t, exec (.unloadTimerExpiry a) s = .next t ∧
        t.clock = { s.clock with now := max s.clock.now (x.unload.start + x.unload.timeoutS * 1000000) } ∧
        t.raised (.unloadTimeout a) = true ∧ (t.act a).unload = { x.unload with timerOn := false } ∧
        (∀ b : Fin 8, (t.act b).state = (s.act b).state) ∧
        t = { s with clock := t.clock, svc := t.svc, lgu := t.lgu, pmx := t.pmx, sli := t.sli }) ∧
    (x.state ≠ .unloading → ∀ r : Readings, exec (.unloadCompletion a r) s = .next s) ∧
    (x.state = .unloading → 1 ≤ x.unload.settleMs → ∀ r : Readings,
      let settle := if (clamp r.force[a] (-32768) 32767 - x.unload.target).natAbs ≤ x.unload.tol
        then x.unload.settle + 1 else 0
      ∃ t, exec (.controlSample r) s = .next t ∧ SampleFrame s t ∧
        (settle < 2 * x.unload.settleMs → exec (.unloadCompletion a r) s = .next s ∧ (t.act a).state = .unloading ∧
          (t.act a).unload =
            { x.unload with
              n := x.unload.n + 1, settle := settle
              ramp := if x.unload.c0 < x.unload.target then
                  min x.unload.target (roundDiv (x.unload.c0 * 2000 + x.unload.rate * (x.unload.n + 1 : Nat)) 2000)
                else if x.unload.target < x.unload.c0 then
                  max x.unload.target (roundDiv (x.unload.c0 * 2000 - x.unload.rate * (x.unload.n + 1 : Nat)) 2000)
                else x.unload.target } ∧
          (t.act a).regs.h = (match x.present with
            | .force => clamp (t.act a).unload.ramp (-x.cfg.capacity) x.cfg.capacity
            | .stroke => clamp (t.act a).unload.ramp x.cfg.strokeLow x.cfg.strokeHigh)) ∧
        (2 * x.unload.settleMs ≤ settle → exec (.unloadCompletion a r) s = .next t ∧
          (t.act a).unload.timerOn = false ∧ t.raised (.unloadTimeout a) = false ∧
          Forms s t (fun n => n.is .actState && decide (n.subject = a.val))
            [{ t.actNote a (t.act a).state .unloading .unloadDone with cycles := (sampleValues r s).1.psq.totalCycles }] ∧
          (x.destOff = true → (t.act a).state = .off ∧ (t.act a).regs.c = 0 ∧ (t.act a).regs.a = 0 ∧
            (t.act a).regs.u = 0) ∧
          (x.destOff = false → (t.act a).state = .low ∧ (t.act a).present = .stroke ∧
            (t.act a).strokeHold = (t.act a).stroke ∧ (t.act a).regs.c = (t.act a).stroke)))

/-- Every command keeps the law of modes and frames (R6 to R8, R75 to R78, R86, R89). -/
def Obligations.StationLawIsKept : Prop :=
  ∀ (i : Instr) (s t : State), s.stationLaw → exec i s = .next t → t.stationLaw

/-- A frame's manifold output and its two solenoids, and the outputs DUMP_OUT and BEACON_OUT, from the states of the
actuators (R18, R88). -/
def Obligations.ManifoldsFollowTheFrame : Prop :=
  ∀ (s : State) (f : Fin 4),
    let inFrame (p : ActState → Prop) : Prop := ∃ a : Fin 8, (s.act a).cfg.frame = f ∧ p (s.act a).state
    let tripped := inFrame fun x => x = .tripped
    let high := inFrame fun x => x = .raising ∨ x = .active ∨ x = .unloading
    let low := inFrame fun x => x = .starting ∨ x = .low
    (s.manifold f = .dump ↔ tripped) ∧ (s.manifold f = .high ↔ ¬tripped ∧ high) ∧
    (s.manifold f = .low ↔ ¬tripped ∧ ¬high ∧ low) ∧ (s.manifold f = .closed ↔ ¬tripped ∧ ¬high ∧ ¬low) ∧
    Manifold.closed.solenoids = (false, false) ∧ Manifold.low.solenoids = (true, false) ∧
    Manifold.high.solenoids = (true, true) ∧ Manifold.dump.solenoids = (false, true) ∧
    (∀ x : Fin 16,
      (s.axs[x].fn = .dumpOut → (s.slotValue x = 1 ↔ ∃ a : Fin 8, (s.act a).state = .tripped) ∧
        (s.slotValue x = 0 ↔ ∀ a : Fin 8, (s.act a).state ≠ .tripped)) ∧
      (s.axs[x].fn = .beaconOut → (s.slotValue x = 1 ↔ ∃ a : Fin 8, (s.act a).state ≠ .off) ∧
        (s.slotValue x = 0 ↔ ∀ a : Fin 8, (s.act a).state = .off)))

/-! ### Load groups (chapter 5) -/

/-- The work of one sample for a group with IN_SHARE members: the total, the shares with the remainder at the acting lead,
the derated values, the shortfall, the handover amount and the members' values after stage 6, with the members whose values
GROUP_STATUS then reports. Their sum has the sign of B or is 0, and never exceeds the total, which never exceeds B (R53, R55,
R95, R97, R103 to R105). -/
def Obligations.GroupStaysWithinItsTotal : Prop :=
  ∀ (r : Readings) (s : State) (g : Fin 4) (lead : Fin 8 × Nat) (first : Fin 8 × Nat) (others : List (Fin 8 × Nat)),
    s.groupLaw → (s.group g).members.head? = some lead → ((s.group g).members.map Prod.fst).Nodup →
    (∀ m ∈ (s.group g).members, 1 ≤ m.2) → s.sharing g = first :: others →
    (∀ m ∈ s.sharing g, (s.act m.1).present = .force ∧ 0 ≤ (s.act m.1).derate ∧ (s.act m.1).derate ≤ 1000 ∧
      1 ≤ (s.act m.1).cfg.capacity) →
    let v := (sampleValues r s).1
    let y := v.group g
    let reg (m : Fin 8 × Nat) : Regs := (v.act m.1).regs
    let wIn := ((s.sharing g).map Prod.snd).sum
    let wAll := ((s.group g).members.map Prod.snd).sum
    let sum (p : Fin 8 × Nat → Int) : Int := ((s.sharing g).map p).sum
    let room (a : Fin 8) : Int := max 0 ((s.act a).cfg.capacity - (v.act a).regs.d.natAbs)
    y.wIn = wIn ∧ y.shared = (s.sharing g).map Prod.fst ∧
    y.base = roundDiv (s.psq.tracks[lead.1].reference * v.psq.levels[lead.1]) 10000 ∧
    y.total = (if (s.group g).carry then y.base else (y.base * wIn).tdiv wAll) ∧
    (∀ m ∈ others, (reg m).s = (y.total * m.2).tdiv wIn) ∧ sum (fun m => (reg m).s) = y.total ∧
    (∀ m ∈ s.sharing g, (reg m).b = y.base ∧ (reg m).l = v.psq.levels[lead.1] ∧
      (reg m).d = roundDiv ((reg m).s * (s.act m.1).derate) 1000) ∧
    y.sf = (if (s.group g).carry then sum (fun m => (reg m).s - (reg m).d) else 0) ∧
    y.h = (match y.recipient with
      | none => 0
      | some a => if y.sf < 0 then -(min (-y.sf) (room a)) else min y.sf (room a)) ∧
    y.uncarried = y.sf - y.h ∧
    (∀ m ∈ s.sharing g, (reg m).h =
      clamp ((reg m).d + if y.recipient = some m.1 then y.h else 0) (-(s.act m.1).cfg.capacity)
        (s.act m.1).cfg.capacity) ∧
    (0 ≤ y.base → 0 ≤ sum fun m => (reg m).h) ∧ (y.base ≤ 0 → sum (fun m => (reg m).h) ≤ 0) ∧
    (sum fun m => (reg m).h).natAbs ≤ y.total.natAbs ∧ y.total.natAbs ≤ y.base.natAbs ∧
    (s.settled → s.advisory → ∃ t, exec (.controlSample r) s = .next t ∧
      ∀ m ∈ s.sharing g, (t.act m.1).regs = reg m)

/-- Under the law of groups, a due selection is made at the sample of a group with IN_SHARE members: of the eligible members in tie order the earliest
of lowest utilization, which goes to the end of the LRU order, with a HANDOVER notice; HANDOVER_NONE where none is eligible;
and no selection where none is due. A group without an IN_SHARE member makes none, and reads no sample values (R95, R97 to
R102, R104). That its B then reads 0 is the model's (log entry 23). -/
def Obligations.SelectionsFollowTheTieOrder : Prop :=
  ∀ (r : Readings) (s : State) (g : Fin 4), s.settled → s.advisory → s.groupLaw →
    (s.group g).members ≠ [] →
    let v := (sampleValues r s).1
    let x := s.group g
    let y := v.group g
    let order := match x.tie with
      | .lru => x.lru
      | .first => x.members.map Prod.fst
    let d (a : Fin 8) : Nat := (v.act a).regs.d.natAbs
    let eligible (a : Fin 8) : Prop :=
      a ∈ order ∧ (s.act a).state = .active ∧ (s.act a).derate = 1000 ∧ (d a : Int) < (s.act a).cfg.capacity
    let use (a : Fin 8) : Int := (d a * 1000 : Int).tdiv (s.act a).cfg.capacity
    let best (a : Fin 8) : Prop :=
      eligible a ∧ ∀ b : Fin 8, eligible b → use a ≤ use b ∧ (use a = use b → order.idxOf a ≤ order.idxOf b)
    let kept (z : Group) : Prop := z.recipient = x.recipient ∧ z.selTime = x.selTime ∧ z.reasons = x.reasons ∧
      z.due = x.due ∧ z.lru = x.lru
    let chosen (z : Group) (a : Option (Fin 8)) : Prop := z.recipient = a ∧ z.selTime = some (v.time, v.psq.totalCycles) ∧
      z.reasons = x.reasons ∧ z.due = false ∧ z.lru = match a with
        | none => x.lru
        | some a => x.lru.filter (fun b => b ≠ a) ++ [a]
    let note (kind : NoticeKind) (v1 v3 : Int) : Notice :=
      { kind := kind, time := v.time, cycles := v.psq.totalCycles, subject := g.val, v1 := v1, v2 := x.reasons.code
        v3 := v3, v4 := y.sf }
    let mine (n : Notice) : Bool := (n.is .handover || n.is .handoverNone) && decide (n.subject = g.val)
    ∃ t, exec (.controlSample r) s = .next t ∧
      (s.sharing g = [] → kept y ∧ Forms s t mine [] ∧ y.shared = [] ∧ y.base = 0 ∧ y.total = 0 ∧ y.wIn = 0 ∧ y.sf = 0 ∧
        y.h = 0 ∧ y.uncarried = 0) ∧
      (s.sharing g ≠ [] → x.due = false → kept y ∧ Forms s t mine []) ∧
      (s.sharing g ≠ [] → x.due = true →
        (∀ a : Fin 8, best a → chosen y (some a) ∧ Forms s t mine [note .handover a.val (use a)]) ∧
        ((∀ a : Fin 8, ¬eligible a) →
          chosen y none ∧ Forms s t mine [note .handoverNone 65535 (s.sharing g).length]))

/-- GROUP_SET, by the number of members it names, their pairs in any order and whatever stands in the unused ones: it is
refused outside SETUP, with 1 or more than 4 members, an index above 7, a duplicate, a weight outside 1..1000, an unknown
flag or policy, and a member of another group; else the members are stored in ascending order with the LRU order ascending,
the handover record clear and the members' source SEQUENCER (R71, R92, R93, R101, R200). That a group keeps the values of its
latest sample until the next, a dissolved one none, and the unused pairs of the reply, are the model's (log entries 23 and
8). -/
def Obligations.GroupSetStores : Prop :=
  ∀ (f : Frame) (s : State) (l : List (Nat × Nat)), s.takes f 16 → l.length = u8 f.payload 1 →
    (∀ i : Nat, i < l.length → l[i]? = some (u8 f.payload (2 + 3 * i), u16 f.payload (3 + 3 * i))) →
    let given (a : Fin 8) : List Nat := (l.filter fun p => p.1 = a.val).map Prod.snd
    let doubled (a : Fin 8) : Prop := 2 ≤ (given a).length
    let wrong (a : Fin 8) : Prop := ∃ w ∈ given a, ¬(1 ≤ w ∧ w ≤ 1000)
    let least (p : Fin 8 → Prop) (a : Fin 8) : Prop := p a ∧ ∀ b : Fin 8, b < a → ¬p b
    let refused (d : Nat) : Prop := exec (.groupSet f) s = .next (s.replied 0x30 f .refusedRange d [])
    (s.stc.mode ≠ .setup → exec (.groupSet f) s = .next (s.replied 0x30 f .refusedMode 65535 [])) ∧
    (s.stc.mode = .setup → 4 ≤ u8 f.payload 0 → refused 65535) ∧
    (∀ g : Fin 4, s.stc.mode = .setup → u8 f.payload 0 = g.val →
      let taken (a : Fin 8) : Prop := given a ≠ [] ∧ s.groupOf a ≠ none ∧ s.groupOf a ≠ some g
      (l.length = 1 ∨ 4 < l.length ∨ (∃ p ∈ l, 8 ≤ p.1) → refused 65535) ∧
      (l.length ≠ 1 → l.length ≤ 4 → (∀ p ∈ l, p.1 < 8) →
        (∀ a : Fin 8, least doubled a → refused a.val) ∧
        ((∀ a : Fin 8, ¬doubled a) →
          (∀ a : Fin 8, least wrong a → refused a.val) ∧
          ((∀ a : Fin 8, ¬wrong a) →
            (2 ≤ u8 f.payload 14 ∨ 2 ≤ u8 f.payload 15 → refused 65535) ∧
            (∀ (carry : Bool) (tie : Tie), u8 f.payload 14 = carry.toNat → u8 f.payload 15 = tie.code →
              (∀ a : Fin 8, least taken a → refused a.val) ∧
              (∀ members : List (Fin 8 × Nat), (∀ a : Fin 8, ¬taken a) → s.ev = {} → s.psq.state.going = false →
                (members.map fun m => (m.1.val, m.2)).Perm l → (members.map Prod.fst).Pairwise (· < ·) →
                let x : Group := if members = [] then { carry := carry, tie := tie }
                  else { s.group g with
                    members := members, carry := carry, tie := tie, lru := members.map Prod.fst
                    recipient := none, selTime := none, reasons := {}, due := false }
                exec (.groupSet f) s = .next
                  (({ s with
                      lgu := s.lgu.set g x
                      svc := { s.svc with acts := Vector.ofFn fun a =>
                        if a ∈ members.map Prod.fst then { s.act a with source := .sequencer } else s.act a } }
                    : State).answered 0x30 f (fieldBytes x.recordFields))))))))

/-- Every command keeps the law of memberships and recipients (R92, R98, R99, R101). -/
def Obligations.GroupLawIsKept : Prop :=
  ∀ (i : Instr) (s t : State), s.groupLaw → exec i s = .next t → t.groupLaw

/-! ### The gauge link (chapter 6) -/

/-- SAT_PRESENT sets presence and settle interval in SETUP: SEEKING with the first poll sent, or ABSENT with everything
under way dropped and the image kept, with SAT_STATE and the ZERO_FAILED of the zeroings that LIVE is left with. SAT_WRITE
appends an entry to the posted queue, SAT_RESET starts a drain (R107, R109, R112, R114, R115, R119, R123, R124, R133,
R201). -/
def Obligations.SatelliteCommandsStore : Prop :=
  (∀ (f : Frame) (s : State) (x : Fin 4) (on : Bool), s.takes f 4 → u8 f.payload 0 = x.val →
    u8 f.payload 1 = on.toNat →
    let y := s.glc[x]
    let settle := min 10000 (u16 f.payload 2)
    let reply (t : State) : State :=
      if u16 f.payload 2 ≤ 10000 then t.answered 0x38 f [] else t.replied 0x38 f .clamped 2 []
    (s.stc.mode ≠ .setup → exec (.satPresent f) s = .next (s.replied 0x38 f .refusedMode 65535 [])) ∧
    (s.stc.mode = .setup →
      (y.present = on → exec (.satPresent f) s = .next
        (reply { s with glc := s.glc.set x { y with settleMs := settle } })) ∧
      (on = true → y.present = false → y.state = .absent →
        let z : Sat := { y with
          settleMs := settle, present := true, state := .seeking, unanswered := 0, awaiting := true, carried := false
          pollAt := s.clock.now + 2000 }
        exec (.satPresent f) s = .next
          (reply (({ s with glc := s.glc.set x z } : State).noted [s.satNote x .absent .present z]))) ∧
      (on = false → y.present = true →
        let z : Sat := { settleMs := settle, image := y.image, lastFresh := y.lastFresh, lastValid := y.lastValid }
        ∃ u : State, exec (.satPresent f) s = .next (reply u) ∧ u.glc = s.glc.set x z ∧
          u.raised (.satLost x) = (s.raised (.satLost x) && decide (y.state ≠ .lost)) ∧
          (y.state = .live → ∀ c : Fin 64, c.val / 16 = x.val → u.stp.chans[c].zeroing = none) ∧
          (∀ a : Fin 8, (u.act a).state = (s.act a).state) ∧
          u.sli = (s.noted (s.satNote x y.state .removed z :: s.zeroingsFailed x)).sli ∧
          u = { s with glc := u.glc, stp := { s.stp with chans := u.stp.chans }, svc := u.svc, lgu := u.lgu
                       pmx := u.pmx, sli := u.sli }))) ∧
  (∀ (f : Frame) (s : State) (x : Fin 4), u8 f.payload 0 = x.val →
    let y := s.glc[x]
    (s.takes f 4 → ∀ (c : Fin 16) (v : SatSetting), u8 f.payload 1 = c.val → u8 f.payload 2 = v.field →
      u8 f.payload 3 = v.value →
      (y.present = false → exec (.satWrite f) s = .next (s.replied 0x39 f .refusedAbsent 65535 [])) ∧
      (y.present = true → y.draining = true →
        exec (.satWrite f) s = .next (s.replied 0x39 f .refusedState 65535 [])) ∧
      (y.present = true → y.draining = false → 8 ≤ y.posted.length →
        exec (.satWrite f) s = .next (s.replied 0x39 f .refusedFull 65535 [])) ∧
      (y.present = true → y.draining = false → y.posted.length < 8 →
        exec (.satWrite f) s = .next
          (({ s with glc := s.glc.set x { y with
                posted := y.posted ++ [{ ch := c, setting := v, origin := .posted }]
                seen := y.seen && decide (y.state ≠ .settling) } } : State).answered 0x39 f
            (put1 (y.posted.length + 1 : Nat))))) ∧
    (s.takes f 1 →
      (y.present = false → exec (.satReset f) s = .next (s.replied 0x3B f .refusedAbsent 65535 [])) ∧
      (y.present = true → y.draining = true →
        exec (.satReset f) s = .next (s.replied 0x3B f .refusedState 65535 [])) ∧
      (y.present = true → y.draining = false →
        exec (.satReset f) s = .next
          (({ s with glc := s.glc.set x { y with
                draining := true, seen := y.seen && decide (y.state ≠ .settling) } } : State).answered 0x3B f []))))

/-- A poll counts an answer that did not come, carries the order in flight or chooses one in SETTLING and LIVE, and at the
third unanswered poll takes the slot to LOST with its lists and its order standing, SAT_LOST raised, SAT_STATE and the
ZERO_FAILED of its zeroings queued (R107, R111, R114, R116, R124, R133). That UNANSWERED_COUNT_REACHED does nothing before
the third unanswered poll, and an absent slot's poll nothing at all, is the model's (log entry 2). -/
def Obligations.PollsCountAndLose : Prop :=
  ∀ (s : State) (x : Fin 4),
    let y := s.glc[x]
    let now := max s.clock.now y.pollAt
    let timed : State := { s with clock := { s.clock with now := now } }
    let count := if y.awaiting then min 3 (y.unanswered + 1) else y.unanswered
    let answering := y.state = .settling ∨ y.state = .live
    let order : Option Order := match y.inFlight, y.restore, y.posted with
      | some o, _, _ => some o
      | none, e :: _, _ => some (.config e)
      | none, [], e :: _ => some (.config e)
      | none, [], [] => if y.draining then some .reset else none
    (y.state = .absent → s.noResetDue →
      exec (.gaugePoll x) s = .next s ∧ exec (.unansweredCountReached x) s = .next s) ∧
    (y.state ≠ .absent → s.noResetDue → ¬answering ∨ count < 3 →
      exec (.unansweredCountReached x) s = .next s ∧
      exec (.gaugePoll x) s = .next { timed with
        glc := s.glc.set x { y with
          unanswered := count, awaiting := true, pollAt := now + 2000
          inFlight := if answering then order else y.inFlight
          carried := decide answering && order.isSome } }) ∧
    (answering → y.awaiting = true → 2 ≤ y.unanswered → s.settled → s.advisory →
      let z : Sat := { y with
        state := .lost, unanswered := 3, awaiting := true, carried := false, pollAt := now + 2000
        settleStart := 0, settlePeriod := 0, settleRunning := false, seen := false }
      ∃ t, exec (.gaugePoll x) s = .next t ∧ exec (.unansweredCountReached x) s = .next t ∧
        t.clock = timed.clock ∧ t.glc = s.glc.set x z ∧ t.raised (.satLost x) = true ∧
        (y.state = .live → ∀ c : Fin 64, c.val / 16 = x.val → t.stp.chans[c].zeroing = none) ∧
        (∀ a : Fin 8, (t.act a).state = (s.act a).state) ∧
        Forms s t (fun n => !n.is .entry) (timed.satNote x y.state .noAnswer z :: timed.zeroingsFailed x) ∧
        t = { s with clock := t.clock, glc := t.glc, stp := { s.stp with chans := t.stp.chans }, svc := t.svc
                     lgu := t.lgu, pmx := t.pmx, sli := t.sli })

/-- What an answer that is taken makes of its slot, by the slot's state, the verdict on the order the poll carried and the
fresh flag, with its SAT_STATE, SAT_REJECT and ZERO_FAILED notices (R107, R111 to R114, R117, R120 to R122, R124, R132, R133).
Where rules of one answer meet, the order is the model's (log entry 14), and so is that an answer to no poll, late, or of an
absent slot changes nothing (log entry 14). -/
def Obligations.AnswersMoveTheSlot : Prop :=
  ∀ (s : State) (x : Fin 4) (ans : SatAnswer),
    let y := s.glc[x]
    (y.state = .absent ∨ y.awaiting = false ∨ ans.late = true → s.noResetDue →
      exec (.satelliteAnswer x ans) s = .next s) ∧
    (y.state ≠ .absent → y.awaiting = true → ans.late = false → s.settled → s.advisory →
      let z : Sat := { y with
        awaiting := false, carried := false, unanswered := 0, lastFresh := ans.fresh, lastValid := ans.valid }
      let settling (u : Sat) : Sat := { u with
        state := .settling, settleStart := s.clock.now, settlePeriod := u.settleMs
        settleRunning := decide (u.settleMs ≠ 0), seen := false }
      let live (u : Sat) : Sat := { u with
        state := .live, settleStart := 0, settlePeriod := 0, settleRunning := false, seen := false }
      let restored (u : Sat) : Sat :=
        { settling u with restore := restoration u.image, image := Vector.replicate 16 {}, draining := false }
      let removed (e : Entry) : Sat := { z with
        inFlight := none
        posted := if e.origin = .posted then y.posted.drop 1 else y.posted
        restore := if e.origin = .restore then y.restore.drop 1 else y.restore }
      let order := if y.carried then y.inFlight else none
      let noVerdict := order = none ∨
        (∃ e, order = some (.config e) ∧ ans.verdict ≠ some .accepted ∧ ans.verdict ≠ some .rejected) ∨
        (order = some .reset ∧ ans.verdict ≠ some .resetDone ∧ ans.fresh = false)
      let answering := y.state = .settling ∨ y.state = .live
      let returning := y.state = .seeking ∨ (y.state = .lost ∧ y.inFlight ≠ some .reset)
      let fresh := ans.fresh = true ∧ restoration y.image ≠ [] ∧ y.restore = [] ∧ y.inFlight ≠ some .reset
      let idle := y.posted = [] ∧ y.restore = [] ∧ y.inFlight = none ∧ y.draining = false
      let converted : State := { s with stp := { s.stp with chans := s.stp.chans.map fun c =>
        if c.cfg.enabled = true ∧ ans.valid = true then
          { c with zeroing := match c.zeroing with
              | some (n, sum) => if n < 15 then some (n + 1, sum) else none
              | none => none }
        else c } }
      ∃ t, exec (.satelliteAnswer x ans) s = .next t ∧
        let w := t.glc[x]
        let notes (l : List Notice) : Prop := Forms s t (fun n => n.is .satState || n.is .satReject || n.is .zeroFailed) l
        let leaving (cause : SatCause) : List Notice := s.satNote x y.state cause w :: converted.zeroingsFailed x
        let answer := s.satNote x y.state .answer (settling z)
        (∀ j : Fin 4, j ≠ x → t.glc[j] = s.glc[j]) ∧
        t.raised (.satLost x) = (s.raised (.satLost x) && decide (y.state ≠ .lost)) ∧
        (∀ a : Fin 8, (t.act a).state = (s.act a).state) ∧
        t = { s with glc := t.glc, stp := { s.stp with chans := t.stp.chans }, svc := t.svc, lgu := t.lgu
                     pmx := t.pmx, sli := t.sli } ∧
        (∀ e, answering → order = some (.config e) → ans.verdict = some .accepted →
          notes (if y.state = .live then leaving .config else []) ∧
          w = settling { removed e with
            image := y.image.set e.ch (match e.setting with
              | .excitation v => { y.image[e.ch] with excitation := v }
              | .gain v => { y.image[e.ch] with gain := v }
              | .filter v => { y.image[e.ch] with filter := v }
              | .shunt v => { y.image[e.ch] with shunt := v }) }) ∧
        (∀ e, answering → order = some (.config e) → ans.verdict = some .rejected →
          let again := ans.fresh = true ∧ restoration y.image ≠ [] ∧ (removed e).restore = []
          notes (({ kind := .satReject, time := s.time, cycles := s.psq.totalCycles, subject := x.val, v1 := e.ch.val
                    v2 := e.setting.field, v3 := e.setting.value, v4 := e.origin.code } : Notice) ::
            if again then leaving .fresh else if y.state = .live ∧ ans.valid = false then leaving .invalid else []) ∧
          w = if again then restored (removed e)
            else if y.state = .live ∧ ans.valid = false then settling (removed e) else removed e) ∧
        (answering → order = some .reset → ans.verdict = some .resetDone ∨ ans.fresh = true →
          notes (leaving .resetDone) ∧ w = { restored z with inFlight := none }) ∧
        (y.state = .lost → y.inFlight = some .reset →
          notes [answer, s.satNote x .settling .resetDone w] ∧ w = { restored z with inFlight := none }) ∧
        ((answering ∧ noVerdict) ∨ returning →
          (fresh → w = restored z ∧
            notes (if answering then leaving .fresh else [answer, s.satNote x .settling .fresh w])) ∧
          (¬fresh →
            (returning →
              notes (answer :: if w.state = .live then [s.satNote x .settling .settled w] else []) ∧
              w = if ans.valid = true ∧ idle then
                if y.settleMs = 0 then live z else { settling z with seen := true }
              else settling z) ∧
            (y.state = .settling →
              notes (if w.state = .live then [s.satNote x .settling .settled w] else []) ∧
              w = if ans.valid = true ∧ idle then (if y.settleRunning then { z with seen := true } else live z) else z) ∧
            (y.state = .live → notes (if ans.valid then [] else leaving .invalid) ∧
              w = if ans.valid then z else settling z))))

/-- The settle timer's expiry ends the settle where a valid set has been seen; and the restoration list, accepted entry by
entry, gives the image back (R112, R114, R120). That the row does nothing outside a running settle is the model's (log entry
2). -/
def Obligations.SettlesAndRestorations : Prop :=
  (∀ (s : State) (x : Fin 4), s.noResetDue →
    let y := s.glc[x]
    let now := max s.clock.now (y.settleStart + y.settlePeriod * 1000)
    let timed : State := { s with clock := { s.clock with now := now } }
    (y.state ≠ .settling ∨ y.settleRunning = false → exec (.settleTimerExpiry x) s = .next s) ∧
    (y.state = .settling → y.settleRunning = true → y.seen = false →
      exec (.settleTimerExpiry x) s = .next { timed with glc := s.glc.set x { y with settleRunning := false } }) ∧
    (y.state = .settling → y.settleRunning = true → y.seen = true →
      let z : Sat := { y with
        state := .live, settleStart := 0, settlePeriod := 0, settleRunning := false, seen := false }
      exec (.settleTimerExpiry x) s = .next
        (({ timed with glc := s.glc.set x z } : State).noted [timed.satNote x .settling .settled z]))) ∧
  (∀ image : Vector ImageCh 16,
    (restoration image).length ≤ 64 ∧ (∀ e ∈ restoration image, e.origin = .restore) ∧
    (restoration image).foldl (fun m e => m.set e.ch (m[e.ch].put e.setting)) (Vector.replicate 16 {}) = image)

/-! ### Strain channels, snapshots and stiffness (chapter 7) -/

/-- A valid set of a LIVE satellite converts every enabled channel of its slot, whatever else the answer brings, and so does
the set of an answer that completes a settle, the first of LIVE: value, OVERRANGE, STRAIN_LIMIT, and the zeroing, whose
sixteenth conversion sets the new zero and queues ZERO_DONE. Where the answer takes the slot out of LIVE, the zeroings it
leaves are dropped (R112, R113, R128 to R133). ZEROING_COMPLETION is that answer where its set is the sixteenth, and changes
nothing where it is not, by the model's choice, which also lets a settle of length 0 end at once (log entries 2 and 14). -/
def Obligations.LiveSetsAreConverted : Prop :=
  ∀ (s : State) (x : Fin 4) (ans : SatAnswer), s.settled → s.advisory →
    s.glc[x].awaiting = true → ans.late = false → ans.valid = true →
    let slot := s.glc[x]
    let settles := ((slot.state = .settling ∧ slot.settleRunning = false) ∨
        ((slot.state = .seeking ∨ slot.state = .lost) ∧ slot.settleMs = 0)) ∧
      slot.posted = [] ∧ slot.restore = [] ∧ slot.inFlight = none ∧ slot.draining = false ∧
      (ans.fresh = false ∨ restoration slot.image = [])
    slot.state = .live ∨ settles →
    ∃ t, exec (.satelliteAnswer x ans) s = .next t ∧ (settles → t.glc[x].state = .live) ∧
      t = { s with glc := t.glc, stp := { s.stp with chans := t.stp.chans }, svc := t.svc, lgu := t.lgu
                   pmx := t.pmx, sli := t.sli } ∧
      (∀ a : Fin 8, (t.act a).state = (s.act a).state) ∧
      (let done (c : Fin 64) : List Notice :=
          let old := s.stp.chans[c].cfg.zero
          let new := t.stp.chans[c].cfg.zero;
          match s.stp.chans[c].zeroing with
          | none => []
          | some (n, _) =>
            if s.stp.chans[c].cfg.enabled = true ∧ 15 ≤ n then
              [{ kind := .zeroDone, time := s.time, cycles := s.psq.totalCycles, subject := c.val
                 v1 := high new, v2 := low new, v3 := high old, v4 := low old }]
            else []
        Forms s t (Notice.is .zeroDone) (((List.finRange 64).filter fun c => c.val / 16 = x.val).flatMap done)) ∧
      ∀ c : Fin 64,
        let y := s.stp.chans[c]
        (c.val / 16 ≠ x.val → t.stp.chans[c] = y) ∧
        (c.val / 16 = x.val → y.cfg.enabled = false →
          t.stp.chans[c] = { y with zeroing := if t.glc[x].state = .live then y.zeroing else none }) ∧
        (c.val / 16 ≠ x.val ∨ y.cfg.enabled = false → t.raised (.strainLimit c) = s.raised (.strainLimit c)) ∧
        (c.val / 16 = x.val → y.cfg.enabled = true →
          ∀ raw : Int, ans.set[c.val % 16]? = some raw →
          let factor : Int := match y.cfg.bridge with
            | .quarter => 4
            | .half => 2
            | .full => 1
          let thermal : Int := match y.cfg.tempSlot with
            | none => 0
            | some k => if s.axs[k].fn = .temperature then
                roundDiv (y.cfg.coeff * (s.axs[k].value - y.cfg.t0)) 100 else 0
          let strain := roundDiv (factor * (raw - y.cfg.zero) * 100) y.cfg.gauge - thermal
          let v := max (-300000) (min 300000 strain)
          t.stp.chans[c] = { y with
            value := v, lastRaw := raw, overrange := decide (strain < -300000 ∨ 300000 < strain)
            zeroing := (match y.zeroing with
              | none => none
              | some (n, sum) => if n < 15 ∧ t.glc[x].state = .live then some (n + 1, sum + raw) else none)
            cfg := { y.cfg with
              zero := (match y.zeroing with
                | none => y.cfg.zero
                | some (n, sum) => if n < 15 then y.cfg.zero else roundDiv (sum + raw) 16) } } ∧
          t.raised (.strainLimit c) =
            (if y.cfg.high < v ∨ v < y.cfg.low then true
             else if y.cfg.low + y.cfg.hyst ≤ v ∧ v ≤ y.cfg.high - y.cfg.hyst then false
             else s.raised (.strainLimit c)) ∧
          (∀ n sum, y.zeroing = some (n, sum) → 15 ≤ n → slot.state = .live →
            exec (.zeroingCompletion c ans) s = .next t) ∧
          (∀ n sum, y.zeroing = some (n, sum) → n < 15 → exec (.zeroingCompletion c ans) s = .next s) ∧
          (y.zeroing = none → exec (.zeroingCompletion c ans) s = .next s))

/-- CH_CONFIG stores a valid channel record whose structural fields change in SETUP alone, and a disabled channel fails its
zeroing with ZERO_FAILED, cause DISABLED, and has its STRAIN_LIMIT lowered; CH_ZERO starts the zeroing of a channel, or of
every enabled channel of a slot, of a LIVE satellite (R3, R127, R130, R131, R133). That ZERO_FAILED gives the zero which the
command carries is the model's (log entry 22). -/
def Obligations.ChannelCommandsStore : Prop :=
  (∀ (f : Frame) (s : State) (c : Fin 64) (x : ChanConfig), s.takes f 26 → f.payload = put1 c.val ++ x.bytes → x.valid →
    let y := s.stp.chans[c]
    let same := x.enabled = y.cfg.enabled ∧ x.bridge = y.cfg.bridge ∧ x.tempSlot = y.cfg.tempSlot
    let u : State := { s with stp := { s.stp with chans := s.stp.chans.set c { y with cfg := x } } }
    (s.stc.mode ≠ .setup → ¬same → exec (.chConfig f) s = .next (s.replied 0x40 f .refusedMode 65535 [])) ∧
    (s.stc.mode = .setup ∨ same →
      (x.enabled = true → exec (.chConfig f) s = .next (u.answered 0x40 f x.bytes)) ∧
      (x.enabled = false →
        ∃ t, exec (.chConfig f) s = .next t ∧ t.raised (.strainLimit c) = false ∧
          t.stp = { s.stp with chans := s.stp.chans.set c { y with cfg := x, zeroing := none } } ∧
          (∀ a : Fin 8, (t.act a).state = (s.act a).state) ∧ RepliedDone s t 0x40 f x.bytes ∧
          Noted s t (u.zeroFailed c 1) ∧
          t = { s with stp := t.stp, svc := t.svc, lgu := t.lgu, pmx := t.pmx, sli := t.sli }))) ∧
  (∀ (f : Frame) (s : State) (c : Fin 64) (x : Fin 4), s.takes f 2 → x.val = c.val / 16 → u8 f.payload 0 = 0 →
    u8 f.payload 1 = c.val →
    (s.glc[x].present = false → exec (.chZero f) s = .next (s.replied 0x41 f .refusedAbsent 65535 [])) ∧
    (s.glc[x].present = true →
      (s.stp.chans[c].cfg.enabled = false → exec (.chZero f) s = .next (s.replied 0x41 f .refusedState c.val [])) ∧
      (s.stp.chans[c].cfg.enabled = true →
        (s.glc[x].state ≠ .live → exec (.chZero f) s = .next (s.replied 0x41 f .refusedState (x.val * 16) [])) ∧
        (s.glc[x].state = .live →
          let chans := s.stp.chans.set c { s.stp.chans[c] with zeroing := some (0, 0) }
          exec (.chZero f) s = .next
            (({ s with stp := { s.stp with chans := chans } } : State).answered 0x41 f []))))) ∧
  (∀ (f : Frame) (s : State) (x : Fin 4), s.takes f 2 → u8 f.payload 0 = 1 → u8 f.payload 1 = x.val →
    s.glc[x].present = true → s.glc[x].state = .live →
    let started (c : Fin 64) : Bool := decide (c.val / 16 = x.val) && s.stp.chans[c].cfg.enabled
    ((∀ c : Fin 64, started c = false) → exec (.chZero f) s = .next (s.replied 0x41 f .refusedState 65535 [])) ∧
    ((∃ c : Fin 64, started c = true) →
      let chans := Vector.ofFn fun c =>
        if started c then { s.stp.chans[c] with zeroing := some (0, 0) } else s.stp.chans[c]
      exec (.chZero f) s = .next
        (({ s with stp := { s.stp with chans := chans } } : State).answered 0x41 f
          (put1 ((List.finRange 64).filter started).length))))

/-- SNAP_LIST replaces the list, SNAP_NOW appends a MANUAL record while the queue has room, SNAP_FETCH removes the oldest
record and the skipped count, STIFF_REF returns the stiffness records and clears them on demand (R136, R138 to R140,
R143). -/
def Obligations.SnapshotCommandsStore : Prop :=
  (∀ (f : Frame) (s : State) (l : List (Fin 64)), s.takes f (1 + l.length) →
    f.payload = put1 l.length ++ l.flatMap (fun c => put1 c.val) → l.length ≤ 32 → l.Nodup →
    exec (.snapList f) s = .next
      (({ s with stp := { s.stp with snapList := l } } : State).answered 0x43 f f.payload)) ∧
  (∀ (f : Frame) (s : State) (k : Fin 8), s.takes f 1 → u8 f.payload 0 = k.val →
    (24 ≤ s.stp.snaps.length → exec (.snapNow f) s = .next (s.replied 0x44 f .refusedFull 65535 [])) ∧
    (s.stp.snaps.length < 24 →
      exec (.snapNow f) s = .next
        (({ s with stp := { s.stp with snaps := s.stp.snaps ++
            [{ kind := .manual, track := k, cycles := s.psq.totalCycles, time := s.time, level := s.psq.levels[k]
               forces := s.trackForces k, deflection := s.trackDeflection k, stiffness := none
               strains := s.stp.snapList.map fun c =>
                 { ch := c, value := s.stp.chans[c].value
                   stale := decide (s.chanStatus c = .stale ∨ s.chanStatus c = .disabled) } }] } } : State).answered
          0x44 f (put1 (s.stp.snaps.length + 1 : Nat))))) ∧
  (∀ (f : Frame) (s : State), s.takes f 0 →
    let u : State := { s with stp := { s.stp with snaps := s.stp.snaps.drop 1, skipped := 0 } }
    (s.stp.snaps = [] → exec (.snapFetch f) s = .next
      (u.answered 0x45 f (putFlag false ++ put1 s.stp.skipped ++ put1 0))) ∧
    (∀ x rest, s.stp.snaps = x :: rest → exec (.snapFetch f) s = .next
      (u.answered 0x45 f (putFlag true ++ put1 s.stp.skipped ++ put1 rest.length ++ x.bytes)))) ∧
  (∀ (f : Frame) (s : State) (clear : Bool) (l : List (Fin 8)), s.takes f 2 → u8 f.payload 1 = clear.toNat →
    (u8 f.payload 0 = 255 ∧ l = List.finRange 8) ∨ (∃ k : Fin 8, u8 f.payload 0 = k.val ∧ l = [k]) →
    (clear = false → exec (.stiffRef f) s = .next (s.answered 0x46 f (l.flatMap (stiffBytes s)))) ∧
    (clear = true →
      ∃ t, exec (.stiffRef f) s = .next t ∧
        (∀ k : Fin 8, t.stp.stiff[k] = if k ∈ l then { peak := s.stp.stiff[k].peak } else s.stp.stiff[k]) ∧
        (∀ k : Fin 8, t.raised (.stiffness k) = (s.raised (.stiffness k) && decide (k ∉ l))) ∧
        (∀ a : Fin 8, (t.act a).state = (s.act a).state) ∧ RepliedDone s t 0x46 f (l.flatMap (stiffBytes s)) ∧
        t = { s with stp := { s.stp with stiff := t.stp.stiff }, svc := t.svc, lgu := t.lgu, pmx := t.pmx, sli := t.sli }))

/-- What the strain processor makes of a mark of a control sample (`SteadyTaperDownAndPausingSamples` says which marks come):
nothing of one that is no snapshot mark; a record and the peak store at a PEAK; at a VALLEY of the stored cycle the secant
stiffness, the reference, the ratio and STIFFNESS, and a record (R137, R140 to R143). That a VALLEY without a deflection slot
or with the store of another cycle leaves the store as it is, is the model's (log entry 22). -/
def Obligations.StiffnessComesAtAValley : Prop :=
  ∀ (m : Mark) (s : State), s.ev = {} → s.advisory →
    let t := takeMark m s
    let old := s.stp.stiff[m.track]
    let force := (s.trackForces m.track).sum
    let queued (kind : SnapKind) (k : Option Nat) : Prop :=
      if s.stp.snaps.length < 24 then
        t.stp.snaps = s.stp.snaps ++ [s.snapshot kind m.track k] ∧ t.stp.skipped = s.stp.skipped
      else t.stp.snaps = s.stp.snaps ∧ t.stp.skipped = if s.stp.skipped < 255 then s.stp.skipped + 1 else s.stp.skipped
    (m.snap = false → t = s) ∧
    (m.snap = true → m.peak = true → s.inUse m.track = true →
      queued .peak none ∧ t.raised (.stiffness m.track) = s.raised (.stiffness m.track) ∧
      t.stp.stiff[m.track] = { old with peak := (s.trackDeflection m.track).map fun d => (m.cycle, force, d) }) ∧
    (m.snap = true → m.peak = false → s.inUse m.track = true →
      (∀ d p f, s.trackDeflection m.track = some d → old.peak = some (m.cycle, f, p) → 5 ≤ (p - d).natAbs →
        let k := (max 0 (min 65535 (roundDiv (100 * (f - force)) (p - d)))).toNat
        let ref := old.kRef.getD k
        let ratio := if ref = 0 then none else some (min 65535 (1000 * k / ref))
        queued .valley (some k) ∧
        t.stp.stiff[m.track] = { peak := none, kRef := some ref, k := some k, ratio := ratio } ∧
        (t.raised (.stiffness m.track) = true ↔ ∃ r, ratio = some r ∧ r < s.psq.tracks[m.track].threshold)) ∧
      (∀ d p f, s.trackDeflection m.track = some d → old.peak = some (m.cycle, f, p) → (p - d).natAbs < 5 →
        queued .valley none ∧ t.stp.stiff[m.track] = { old with peak := none }) ∧
      (s.trackDeflection m.track = none ∨ (∀ f p, old.peak ≠ some (m.cycle, f, p)) →
        queued .valley none ∧ t.stp.stiff[m.track] = old)) ∧
    (s.inUse m.track = false → t.stp.snaps = s.stp.snaps ∧ t.stp.skipped = s.stp.skipped)

/-! ### Acoustic emission (chapter 8) -/

/-- A crossing is ignored in LOCKOUT and on an OFF channel, begins a hit in IDLE with its record in the hit queue, and joins
the hit that runs; at a full hit queue the hit runs without a record, with hits-lost set. The two ends of a hit make its
record COMPLETE and lock the channel out; the lockout ends in IDLE (R147 to R154). That the three expiry rows do nothing in
other states, and that time does not go back to a crossing of the past, is the model's (log entries 2 and 21). -/
def Obligations.HitsBeginAndEnd : Prop :=
  ∀ (s : State) (c : Fin 12), s.settled → s.advisory →
    let y := s.aeu.chans[c]
    let at' (time : HitTime) : Clock := { s.clock with now := s.clock.now + (time - s.hitClock).toInt.toNat }
    (∀ x : Crossing,
      (y.state = .lockout ∨ (y.state = .idle ∧ y.cfg.role = .off) →
        exec (.thresholdCrossing c x) s = .next { s with clock := at' x.time }) ∧
      (y.state = .idle → y.cfg.role ≠ .off →
        let room := decide (s.aeu.hits.length < 64)
        let hit : RunningHit :=
          { cfg := y.cfg, arrival := x.time, peak := x.amplitude, energy := x.energy, lastCrossing := x.time
            hdtAt := x.time + BitVec.ofNat 32 y.cfg.hdt, durAt := x.time + BitVec.ofNat 32 y.cfg.maxDur
            hasRecord := room }
        let chans := s.aeu.chans.set c { y with state := .inHit, hit := hit }
        ∃ t, exec (.thresholdCrossing c x) s = .next t ∧ t.clock = at' x.time ∧ t.aeu.chans = chans ∧
          (∀ a : Fin 8, (t.act a).state = (s.act a).state) ∧
          t = { s with clock := t.clock, aeu := t.aeu, zmn := t.zmn, pmx := t.pmx, svc := t.svc, lgu := t.lgu
                       sli := t.sli } ∧
          let rec' : HitRec :=
            { ch := c, arrival := x.time, peak := x.amplitude, energy := x.energy, long := false, complete := false
              stamp := { time := t.time, cycles := s.psq.totalCycles, levels := s.psq.levels, role := y.cfg.role } }
          (room = true → rec' ∈ t.aeu.hits) ∧
          (s.aeu.event = none → s.aeu.hits = [] → t = { s with
            clock := t.clock, aeu := { s.aeu with chans := chans, hits := [rec'] } }) ∧
          (room = false → ∀ r rest, s.aeu.hits = r :: rest → r.complete = false →
            (∀ e, s.aeu.event = some e → (r.arrival - e.windowEnd).toInt ≤ 0) →
            t = { s with clock := t.clock, aeu := { s.aeu with chans := chans, hitsLost := true } })) ∧
      (y.state = .inHit →
        let hit : RunningHit := { y.hit with
          peak := max y.hit.peak x.amplitude, energy := min 65535 (y.hit.energy + x.energy)
          lastCrossing := x.time, hdtAt := x.time + BitVec.ofNat 32 y.hit.cfg.hdt }
        exec (.thresholdCrossing c x) s = .next { s with
          clock := at' x.time
          aeu := { s.aeu with
            chans := s.aeu.chans.set c { y with hit := hit }
            hits := if y.hit.hasRecord then
                s.aeu.hits.map fun h =>
                  if h.ch = c ∧ h.complete = false then { h with peak := hit.peak, energy := hit.energy } else h
              else s.aeu.hits } })) ∧
    (y.state ≠ .inHit → exec (.hdtExpiry c) s = .next s ∧ exec (.durationExpiry c) s = .next s) ∧
    (y.state = .inHit → ∀ long : Bool,
      let expiry : Instr := if long then .durationExpiry c else .hdtExpiry c
      ∃ t, exec expiry s = .next t ∧
        t.clock = at' (if long then y.hit.durAt else y.hit.hdtAt) ∧
        t.aeu.chans = s.aeu.chans.set c { y with
          state := if y.hit.cfg.hlt = 0 then .idle else .lockout
          lockoutAt := if y.hit.cfg.hlt = 0 then 0 else t.hitClock + BitVec.ofNat 32 y.hit.cfg.hlt
          hit := {} } ∧
        (∀ a : Fin 8, (t.act a).state = (s.act a).state) ∧
        t = { s with clock := t.clock, aeu := t.aeu, zmn := t.zmn, pmx := t.pmx, svc := t.svc, lgu := t.lgu
                     sli := t.sli } ∧
        (y.hit.hasRecord = true → (∀ h ∈ t.aeu.hits, h.ch = c → h.complete = true) ∧
          ∀ h, s.aeu.event = none → s.aeu.hits = [h] → h.ch = c → h.complete = false →
            (t.hitClock - (h.arrival + BitVec.ofNat 32 s.aeu.window)).toInt ≤ 0 →
            t.aeu.hits = [] ∧ t.aeu.event = some
              { f := c, s := none, dt := 0, tFirst := h.arrival
                windowEnd := h.arrival + BitVec.ofNat 32 s.aeu.window, hits := 1, maxAmp := y.hit.peak
                energy := y.hit.energy, long := long, stamp := h.stamp })) ∧
    (y.state ≠ .lockout → exec (.lockoutExpiry c) s = .next s) ∧
    (y.state = .lockout → exec (.lockoutExpiry c) s = .next { s with
      clock := at' y.lockoutAt
      aeu := { s.aeu with chans := s.aeu.chans.set c { y with state := .idle, lockoutAt := 0 } } })

/-- The window timer's expiry, by the head of the hit queue: an OPEN record within the window holds the event open; else the
event closes, joined first by a COMPLETE record within the window, and a COMPLETE record beyond it opens the next event. The
closed event's record enters the log with its disposition, and a COUNTED event its zone's current bin, with a ZONE_LEVEL
notice of a changed level. AE_FETCH removes up to eight records; AE_CHANNEL stores a channel record or the event window
(R145, R146, R153 to R160, R165, R171). That the row changes nothing with no open event is the model's (log entry 2). -/
def Obligations.EventsCloseAndAreLogged : Prop :=
  (∀ s : State, s.noResetDue → s.aeu.event = none → exec .windowTimerExpiry s = .next s) ∧
  (∀ (s : State) (e : OpenEvent) (r : HitRec) (rest : List HitRec), s.noResetDue → s.aeu.event = some e →
    s.aeu.hits = r :: rest → r.complete = false → (r.arrival - e.windowEnd).toInt ≤ 0 →
    exec .windowTimerExpiry s = .next
      { s with clock := { s.clock with now := s.clock.now + (e.windowEnd + 1 - s.hitClock).toInt.toNat } }) ∧
  (∀ (s : State) (open' e : OpenEvent) (left : List HitRec) (opened : Option OpenEvent), s.settled → s.advisory →
    s.aeu.event = some open' →
    0 ≤ (open'.windowEnd - s.hitClock).toInt → (open'.windowEnd - s.hitClock).toInt < 2147483647 →
    let closing : Option (OpenEvent × List HitRec × Option OpenEvent) := match s.aeu.hits with
      | [] => some (open', [], none)
      | r :: rest =>
        let late := decide (0 < (r.arrival - open'.windowEnd).toInt)
        let reopened : OpenEvent :=
          { f := r.ch, s := none, dt := 0, tFirst := r.arrival, windowEnd := r.arrival + BitVec.ofNat 32 s.aeu.window
            hits := 1, maxAmp := r.peak, energy := r.energy, long := r.long, stamp := r.stamp }
        let second := decide (open'.s = none ∧ r.ch ≠ open'.f)
        let joined : OpenEvent := { open' with
          s := if second then some r.ch else open'.s
          dt := if second then (r.arrival - open'.tFirst).toNat else open'.dt
          hits := min 255 (open'.hits + 1), maxAmp := max open'.maxAmp r.peak
          energy := min 65535 (open'.energy + r.energy), long := open'.long || r.long }
        if r.complete = false then if late then some (open', r :: rest, none) else none
        else if rest = [] then
          if late = false then some (joined, [], none)
          else if 0 < (open'.windowEnd + 1 - reopened.windowEnd).toInt then none
          else some (open', [], some reopened)
        else none
    closing = some (e, left, opened) →
    let passes (z : Fin 16) : Prop := ∀ k g, s.zmn.zones[z].cfg.track = some k → s.zmn.zones[z].cfg.gate = some g →
      g ≤ e.stamp.levels[k]
    ∃ t x, exec .windowTimerExpiry s = .next t ∧
      t.clock = { s.clock with now := s.clock.now + (open'.windowEnd - s.hitClock).toInt.toNat + 1 } ∧
      t.aeu = { s.aeu with
        event := opened, hits := left, hitsLost := false
        log := if s.aeu.log.length < 32 then s.aeu.log ++ [x] else s.aeu.log.drop 1 ++ [x]
        overwritten := s.aeu.overwritten || decide (32 ≤ s.aeu.log.length) } ∧
      x = { f := e.f, s := e.s, dt := e.s.map fun _ => e.dt, hits := e.hits, maxAmp := e.maxAmp, energy := e.energy
            zone := x.zone, disposition := x.disposition, cycles := e.stamp.cycles, time := e.stamp.time
            hitsLost := s.aeu.hitsLost, long := e.long } ∧
      (e.stamp.role = .guard → x.disposition = .guarded ∧ x.zone = none) ∧
      (e.stamp.role ≠ .guard →
        ((∀ z : Fin 16, ¬s.zmn.zones[z].cfg.takes e) → x.disposition = .unzoned ∧ x.zone = none) ∧
        (∀ z : Fin 16, s.zmn.zones[z].cfg.takes e → (∀ y : Fin 16, y < z → ¬s.zmn.zones[y].cfg.takes e) →
          x.zone = some z ∧ (passes z → x.disposition = .counted) ∧ (¬passes z → x.disposition = .gated))) ∧
      (x.disposition ≠ .counted → t.zmn = s.zmn) ∧
      (∀ z : Fin 16, x.zone = some z → x.disposition = .counted →
        (∀ y : Fin 16, y ≠ z → t.zmn.zones[y] = s.zmn.zones[y]) ∧ t.zmn.zones[z].lastHits = e.hits ∧
        ∀ b rest, s.zmn.zones[z].bins = b :: rest →
          t.zmn.zones[z].bins =
            { count := if b.count < 65535 then b.count + 1 else 65535
              energy := if b.energy + e.energy ≤ 65535 then b.energy + e.energy else 65535 } :: rest) ∧
      Forms s t (Notice.is .zoneLevel) (zoneNotes .event s t) ∧
      (∀ a : Fin 8, (t.act a).state = (s.act a).state) ∧
      t = { s with clock := t.clock, aeu := t.aeu, zmn := t.zmn, pmx := t.pmx, svc := t.svc, lgu := t.lgu
                   sli := t.sli }) ∧
  (∀ (f : Frame) (s : State), s.takes f 1 →
    (8 < u8 f.payload 0 → exec (.aeFetch f) s = .next (s.replied 0x51 f .refusedRange 65535 [])) ∧
    (u8 f.payload 0 ≤ 8 → exec (.aeFetch f) s = .next
      (({ s with aeu := { s.aeu with log := s.aeu.log.drop (u8 f.payload 0), overwritten := false } } : State).answered
        0x51 f (putFlag s.aeu.overwritten ++ put1 (s.aeu.log.length - u8 f.payload 0 : Nat) ++ put1 s.aeu.hits.length ++
          putFlag s.aeu.event.isSome ++ s.aeu.chans.toList.flatMap (fun c => put1 c.state.code) ++
          (s.aeu.log.take (u8 f.payload 0)).flatMap EventRec.bytes)))) ∧
  (∀ (f : Frame) (s : State) (c : Fin 12) (x : AeConfig), s.takes f 9 → f.payload = put1 c.val ++ x.bytes →
    20 ≤ x.threshold → x.threshold ≤ 99 → 50 ≤ x.hdt → x.hdt ≤ 1000 → x.hlt ≤ 5000 → 1000 ≤ x.maxDur →
    x.maxDur ≤ 65535 →
    let chans := s.aeu.chans.set c { s.aeu.chans[c] with cfg := x }
    exec (.aeChannel f) s = .next (({ s with aeu := { s.aeu with chans := chans } } : State).answered 0x50 f x.bytes)) ∧
  (∀ (f : Frame) (s : State) (window : Nat), s.takes f 3 → f.payload = put1 255 ++ put2 window → window ≤ 65535 →
    exec (.aeChannelWindow f) s = .next
      (if window ≤ 2000 then
        ({ s with aeu := { s.aeu with window := window } } : State).answered 0x50 f (put2 window)
      else s.replied 0x50 f .refusedRange 65535 []))

/-! ### Zones (chapter 9) -/

/-- ZONE_SET stores a valid definition in SETUP with an empty ring at QUIET, and refuses an index, a field or a threshold that
fails; ZONE_ACK clears the latched level, and the ring on demand; the bin timer gives a TIMER tick except in STEADY, where it
only starts again, with the bin time or with the period it had. At a tick the level of an enabled zone is that of the sums
over its ring against its used thresholds. Each change of a displayed level queues ZONE_LEVEL (R14, R163 to R165, R167 to
R171, R173). That ZONE_SET keeps the last hit count is the model's (log entry 22); which period an expiry without a tick takes
is left free (log entry 27). -/
def Obligations.ZoneRowsAct : Prop :=
  (∀ (f : Frame) (s : State), s.takes f 28 →
    (s.stc.mode ≠ .setup → exec (.zoneSet f) s = .next (s.replied 0x52 f .refusedMode 65535 [])) ∧
    (s.stc.mode = .setup → 16 ≤ u8 f.payload 0 → exec (.zoneSet f) s = .next (s.replied 0x52 f .refusedRange 65535 []))) ∧
  (∀ (f : Frame) (s : State) (z : Fin 16) (c : ZoneConfig), s.takes f 28 → f.payload = put1 z.val ++ c.bytes →
    s.stc.mode = .setup →
    c.dtLow ≤ 65535 → c.dtHigh ≤ 65535 → c.bins ≤ 255 → (∀ g, c.gate = some g → -32768 ≤ g ∧ g ≤ 32767) →
    c.counts.watch ≤ 65535 → c.counts.alert ≤ 65535 → c.counts.alarm ≤ 65535 →
    c.energies.watch ≤ 65535 → c.energies.alert ≤ 65535 → c.energies.alarm ≤ 65535 →
    let refused (d : Nat) : Prop := exec (.zoneSet f) s = .next (s.replied 0x52 f .refusedRange d [])
    let ranges := c.dtLow ≤ c.dtHigh ∧ c.dtHigh ≤ 2000 ∧ (∀ g, c.gate = some g → -10000 ≤ g ∧ g ≤ 10000) ∧
      1 ≤ c.bins ∧ c.bins ≤ 64
    let low (x : Thresholds) : Prop := x.alert ≠ 0 ∧ x.alert < x.watch
    let high (x : Thresholds) : Prop := x.alarm ≠ 0 ∧ (x.alarm < x.watch ∨ x.alarm < x.alert)
    (¬ranges → refused 65535) ∧
    (ranges → low c.counts → refused 1) ∧
    (ranges → ¬low c.counts → high c.counts → refused 2) ∧
    (ranges → c.counts.valid → low c.energies → refused 17) ∧
    (ranges → c.counts.valid → ¬low c.energies → high c.energies → refused 18) ∧
    (c.valid → s.zoneLaw →
      ∃ t, exec (.zoneSet f) s = .next t ∧
        (let y : Zone := { cfg := c, bins := List.replicate c.bins {}, lastHits := s.zmn.zones[z].lastHits };
          t.zmn = { s.zmn with zones := s.zmn.zones.set z y }) ∧
        t.raised (.zoneAlert z) = false ∧ t.raised (.zoneAlarm z) = false ∧
        (∀ a : Fin 8, (t.act a).state = (s.act a).state) ∧ RepliedDone s t 0x52 f c.bytes ∧
        Forms s t (Notice.is .zoneLevel) (zoneNotes .set s t) ∧
        t = { s with zmn := t.zmn, svc := t.svc, lgu := t.lgu, pmx := t.pmx, sli := t.sli })) ∧
  (∀ (f : Frame) (s : State), s.takes f 2 → 16 ≤ u8 f.payload 0 →
    exec (.zoneAck f) s = .next (s.replied 0x54 f .refusedRange 65535 [])) ∧
  (∀ (f : Frame) (s : State) (z : Fin 16) (clear : Bool), s.takes f 2 → u8 f.payload 0 = z.val →
    u8 f.payload 1 = clear.toNat → s.zoneLaw →
    let y := s.zmn.zones[z]
    let level := if clear then .quiet else y.presentLevel
    let bins := if clear then List.replicate y.bins.length {} else y.bins
    ∃ t, exec (.zoneAck f) s = .next t ∧
      (let w : Zone := { y with bins := bins, presentLevel := level, latched := .quiet, displayed := level };
        t.zmn = { s.zmn with zones := s.zmn.zones.set z w }) ∧
      t.raised (.zoneAlert z) = decide (level = .alert ∨ level = .alarm) ∧
      t.raised (.zoneAlarm z) = decide (level = .alarm) ∧
      (∀ a : Fin 8, (t.act a).state = (s.act a).state) ∧
      RepliedDone s t 0x54 f (put1 level.code ++ put1 0 ++ put1 level.code ++
        put4 ((bins.map Bin.count).sum : Nat) ++ put4 ((bins.map Bin.energy).sum : Nat)) ∧
      Forms s t (Notice.is .zoneLevel) (zoneNotes .ack s t) ∧
      t = { s with zmn := t.zmn, svc := t.svc, lgu := t.lgu, pmx := t.pmx, sli := t.sli }) ∧
  (∀ s : State, s.settled → s.advisory →
    let now := max s.clock.now (s.zmn.timerStart + s.zmn.timerSec * 1000000)
    let steady := s.psq.state = .running ∧ s.psq.activity = .steady
    ∃ t, exec .binTimerExpiry s = .next t ∧ t.clock = { s.clock with now := now } ∧
      t.zmn.timerStart = now ∧
      (t.zmn.timerSec = s.stc.settings.binTime ∨ (steady ∧ t.zmn.timerSec = s.zmn.timerSec)) ∧
      (steady → t = { s with clock := t.clock, zmn := { s.zmn with timerStart := now, timerSec := t.zmn.timerSec } }) ∧
      (¬steady → t.zmn.tickCount = (s.zmn.tickCount + 1) % 4294967296 ∧ t.zmn.lastTick = .timer ∧
        Forms s t (Notice.is .zoneLevel) (zoneNotes .tick s t) ∧
        ∀ z : Fin 16,
          (s.zmn.zones[z].bins ≠ [] → t.zmn.zones[z].bins = {} :: s.zmn.zones[z].bins.dropLast) ∧
          (s.zmn.zones[z].cfg.enabled = true →
            t.zmn.zones[z].presentLevel = t.zmn.zones[z].levelOfSums ∧
            t.zmn.zones[z].latched =
              (if (t.zmn.zones[z].presentLevel = .alert ∨ t.zmn.zones[z].presentLevel = .alarm) ∧
                  s.zmn.zones[z].presentLevel.code < t.zmn.zones[z].presentLevel.code ∧
                  s.zmn.zones[z].latched.code < t.zmn.zones[z].presentLevel.code
                then t.zmn.zones[z].presentLevel else s.zmn.zones[z].latched))) ∧
      (∀ a : Fin 8, (t.act a).state = (s.act a).state) ∧
      t = { s with clock := t.clock, zmn := t.zmn, svc := t.svc, lgu := t.lgu, pmx := t.pmx, sli := t.sli })

/-- Every command keeps the law of zones (R164, R165, R169 to R174). -/
def Obligations.ZoneLawIsKept : Prop :=
  ∀ (i : Instr) (s t : State), s.zoneLaw → exec i s = .next t → t.zoneLaw

/-! ### The protection matrix (chapter 10) -/

/-- PROT_ENTRY stores an entry QUIET in SETUP and judges it against the instances that stand raised, applying its action: in
SETUP, where every actuator is OFF and no plan goes, a HOLD adds PROTECTION, a TRIP makes its record and a STATION-scope
UNLOAD or TRIP enters SAFE. PROT_CLEAR takes a LATCHED entry, or all of them, to QUIET, leaves ACTIVE ones, and writes the
merged derates, which its group's handover record takes; PROT_FIRST_CLEAR returns and empties the first-out record (R7, R98, R99, R178 to R180, R182, R184, R186 to R188, R193). That the
written entry alone is judged, and how a one-instance kind and an unused value are stored, is the model's (log entry 15). -/
def Obligations.MatrixCommandsAct : Prop :=
  (∀ (f : Frame) (s : State), s.takes f 8 →
    (s.stc.mode ≠ .setup → exec (.protEntry f) s = .next (s.replied 0x60 f .refusedMode 65535 [])) ∧
    (s.stc.mode = .setup → 40 ≤ u8 f.payload 0 →
      exec (.protEntry f) s = .next (s.replied 0x60 f .refusedRange 65535 []))) ∧
  (∀ (f : Frame) (s : State) (e : Fin 40), s.takes f 8 → s.stc.mode = .setup → u8 f.payload 0 = e.val →
    let given (c d : ProtConfig) : Prop := f.payload = put1 e.val ++ d.bytes ∧ c.valid e ∧
      d = { c with inst := d.inst, value := d.value } ∧
      (d.inst = c.inst ∨ (d.inst = some 0 ∧ ∃ k, c.kind = some k ∧ k.count = 1)) ∧
      (d.value = c.value ∨ c.action ≠ .derate)
    (u8 f.payload 1 ≠ 255 → (∀ c d, ¬given c d) →
      exec (.protEntry f) s = .next (s.replied 0x60 f .refusedRange 65535 [])) ∧
    (∀ c d : ProtConfig, given c d → s.ev = {} → s.psq.state.going = false →
      (∀ a : Fin 8, (s.act a).state = .off) →
      let hits (x : Cond) : Prop := s.raised x = true ∧ c.kind = some x.kind ∧ (c.inst = none ∨ c.inst = some x.inst)
      let trips := c.acting = .trip
      let safe := c.scope = .station ∧ (c.acting = .unload ∨ trips)
      ∃ t, exec (.protEntry f) s = .next t ∧
        t.pmx = { s.pmx with
          entries := s.pmx.entries.set e t.pmx.entries[e], tripLog := t.pmx.tripLog, firstOut := t.pmx.firstOut } ∧
        t.pmx.entries[e].cfg = c ∧
        ((∀ x : Cond, ¬hits x) → t.pmx.entries[e] = { cfg := c } ∧ t.sli.notices = s.sli.notices ∧ t.stc = s.stc ∧
          t.psq = s.psq) ∧
        (∀ x : Cond, hits x →
          t.pmx.entries[e].st = .active ∧ x.inst ∈ t.pmx.entries[e].raised ∧
          t.stc = (if safe then { s.stc with mode := .safe } else s.stc) ∧
          t.psq = (if c.acting = .hold then { s.psq with hold := { s.psq.hold with protection := true } } else s.psq)) ∧
        (∀ n ∈ t.pmx.entries[e].raised, ∃ x : Cond, hits x ∧ x.inst = n) ∧
        (¬trips → t.pmx.tripLog = s.pmx.tripLog ∧ t.pmx.firstOut = s.pmx.firstOut) ∧
        (∀ x : Cond, trips → hits x → (∀ y, hits y → y = x) →
          let r : TripRec :=
            { entry := e, kind := x.kind, inst := x.inst, act := if x.kind.isActuator then x.actuator else none
              time := s.time, cycles := s.psq.totalCycles, segment := s.psq.segment.val, seqState := s.psq.state
              forces := s.svc.acts.map Actuator.force }
          t.pmx.tripLog = (if s.pmx.tripLog.length < 8 then s.pmx.tripLog else s.pmx.tripLog.drop 1) ++ [r] ∧
          t.pmx.firstOut = some (s.pmx.firstOut.getD r)) ∧
        (∀ x : Cond, hits x → (∀ y, hits y → x.inst ≤ y.inst) →
          Noted s t [
            { kind := if trips then .trip else .entry, time := s.time, cycles := s.psq.totalCycles, subject := e.val
              v1 := x.kind.code, v2 := x.inst
              v3 := if trips then (match x.kind.isActuator, x.actuator with
                | true, some a => a.val
                | _, _ => 65535) else c.acting.code
              v4 := if c.acting = .derate then c.value else 0 }]) ∧
        (∀ a : Fin 8, (t.act a).derate = t.mergedDerate a ∧ (t.act a).state = .off) ∧
        RepliedDone s t 0x60 f (c.bytes ++ put1 t.pmx.entries[e].st.code) ∧
        t = { s with stc := t.stc, psq := t.psq, pmx := t.pmx, svc := t.svc, lgu := t.lgu, sli := t.sli })) ∧
  (∀ (f : Frame) (s : State), s.takes f 1 → 40 ≤ u8 f.payload 0 → u8 f.payload 0 ≠ 255 →
    exec (.protClear f) s = .next (s.replied 0x62 f .refusedRange 65535 [])) ∧
  (∀ (f : Frame) (s : State) (e : Fin 40), s.takes f 1 → u8 f.payload 0 = e.val →
    (s.pmx.entries[e].st = .active → exec (.protClear f) s = .next (s.replied 0x62 f .refusedState e.val [])) ∧
    (s.pmx.entries[e].st ≠ .active →
      ∃ t, exec (.protClear f) s = .next t ∧
        t.pmx = (if s.pmx.entries[e].st = .latched then
            { s.pmx with entries := s.pmx.entries.set e { cfg := s.pmx.entries[e].cfg } } else s.pmx) ∧
        (∀ a : Fin 8, (t.act a).derate = t.mergedDerate a ∧ (t.act a).state = (s.act a).state) ∧
        t.lgu = s.lguDerated t ∧ RepliedDone s t 0x62 f [] ∧ t = { s with pmx := t.pmx, svc := t.svc, lgu := t.lgu, sli := t.sli })) ∧
  (∀ (f : Frame) (s : State), s.takes f 1 → u8 f.payload 0 = 255 →
    let active := (List.finRange 40).filter fun e => decide (s.pmx.entries[e].st = .active)
    let latched := (List.finRange 40).filter fun e => decide (s.pmx.entries[e].st = .latched)
    let set := (active.map fun e => 2 ^ e.val).sum
    ∃ t, exec (.protClear f) s = .next t ∧
      (∀ e : Fin 40, t.pmx.entries[e] =
        if s.pmx.entries[e].st = .latched then { cfg := s.pmx.entries[e].cfg } else s.pmx.entries[e]) ∧
      t.pmx = { s.pmx with entries := t.pmx.entries } ∧
      (∀ a : Fin 8, (t.act a).derate = t.mergedDerate a ∧ (t.act a).state = (s.act a).state) ∧
      t.lgu = s.lguDerated t ∧
      (let detail := match active with
          | [] => 65535
          | e :: _ => e.val
        let payload := replyHead .done t.stationFlags detail ++ put1 latched.length ++ put1 active.length ++
          put1 (set / 4294967296 : Nat) ++ put4 set
        t.sli.replies = s.sli.replies ++ [{ code := 0x62, tag := f.tag, payload := payload }]) ∧
      t = { s with pmx := t.pmx, svc := t.svc, lgu := t.lgu, sli := t.sli }) ∧
  (∀ (f : Frame) (s : State), s.takes f 0 →
    exec (.protFirstClear f) s = .next
      (({ s with pmx := { s.pmx with firstOut := none } } : State).answered 0x63 f (match s.pmx.firstOut with
        | none => putFlag false
        | some x => putFlag true ++ x.bytes)))

/-- HALT raises and lowers BROADCAST_HALT, and P1 stands LATCHED. With P1 as R179 gives it the station enters SAFE, every
ACTIVE actuator unloads to LOW, every RAISING one goes to LOW and a going plan is ABORTED; with P1's action HOLD the plan is
held instead; with TRIP every pressurized actuator is TRIPPED, a trip record made and a TRIP notice queued; a disabled P1
acts as NOTE, with its ENTRY notice alone (R7, R41, R74, R182 to R184, R188 to R191, R204). The amplitude a stop leaves where
the pause has length 0 is the model's (log entry 11). -/
def Obligations.HaltUnloadsOrHolds : Prop :=
  ∀ (f : Frame) (s : State), s.takes f 0 → s.ev = {} → s.raised .broadcastHalt = false →
    (∀ e : Fin 40, e ≠ 1 → s.pmx.entries[e].cfg.kind ≠ some .broadcastHalt) → s.pmx.entries[1].raised = [] →
    let p (x : Action) : ProtConfig := { kind := some .broadcastHalt, action := x, scope := .station, enabled := true }
    let entered (t : State) (x : Action) : Prop :=
      t.raised .broadcastHalt = false ∧
      t.pmx.entries[1] = { cfg := p x, st := .latched, reach := BitVec.allOnes 8 } ∧
      (s.pmx.entries[1].st ≠ .active → Forms s t (Notice.is .entry)
        (if x = .trip then [] else [
          { kind := .entry, time := s.time, cycles := s.psq.totalCycles, subject := 1, v1 := CondKind.broadcastHalt.code
            v2 := 0, v3 := x.code, v4 := 0 }]))
    let off : ProtConfig := s.pmx.entries[1].cfg
    let aborts (t : State) : Prop := s.stc.mode ≠ .safe → s.psq.state.going = true →
      t.psq.state = .aborted ∧ t.psq.levels = s.psq.levels ∧
      (s.lostCause = true ∨ (∀ k : Fin 8, s.inUse k = false) →
        Forms s t (Notice.is .seqState) [t.psq.note s.time s.psq.state])
    (s.pmx.entries[1].cfg = p .unload →
      ∃ t, exec (.halt f) s = .next t ∧ t.stc = { s.stc with mode := .safe } ∧ entered t .unload ∧
        (∀ a : Fin 8, (t.act a).state =
          match (s.act a).state with
          | .active => .unloading
          | .raising => .low
          | x => x) ∧
        (∀ a : Fin 8, (s.act a).state = .active → (t.act a).destOff = false) ∧
        Forms s t (Notice.is .actState)
          (((List.finRange 8).filter fun a => (s.act a).state = .raising).map fun a =>
            s.actNote a .low .raising .protection) ∧
        aborts t ∧ RepliedDone s t 0x08 f [] ∧
        t = { s with stc := t.stc, psq := t.psq, svc := t.svc, lgu := t.lgu, pmx := t.pmx, sli := t.sli }) ∧
    (s.pmx.entries[1].cfg = p .hold →
      ∃ t, exec (.halt f) s = .next t ∧ entered t .hold ∧
        (let q : Sequencer := { s.psq with hold := { s.psq.hold with protection := true } };
          (t.psq = if s.psq.state = .running then q.stopped else q) ∧
          Forms s t (Notice.is .seqState) (if s.psq.state = .running then q.stopNotes s.time else [])) ∧
        (∀ a : Fin 8, (t.act a).state = (s.act a).state) ∧ RepliedDone s t 0x08 f [] ∧
        t = { s with psq := t.psq, svc := t.svc, lgu := t.lgu, pmx := t.pmx, sli := t.sli }) ∧
    (off = { p off.action with enabled := false } → off.action ≠ .note →
      ∃ t, exec (.halt f) s = .next t ∧ t.raised .broadcastHalt = false ∧
        t.pmx.entries[1] = { cfg := off, st := .latched, reach := BitVec.allOnes 8 } ∧
        (s.pmx.entries[1].st ≠ .active → Noted s t [
          { kind := .entry, time := s.time, cycles := s.psq.totalCycles, subject := 1, v1 := CondKind.broadcastHalt.code
            v2 := 0, v3 := Action.note.code, v4 := 0 }]) ∧
        (∀ a : Fin 8, t.act a = { s.act a with derate := t.mergedDerate a }) ∧ t.pmx.tripLog = s.pmx.tripLog ∧
        t.pmx.firstOut = s.pmx.firstOut ∧ RepliedDone s t 0x08 f [] ∧
        t = { s with svc := t.svc, lgu := t.lgu, pmx := t.pmx, sli := t.sli }) ∧
    (s.pmx.entries[1].cfg = p .trip →
      ∃ t, exec (.halt f) s = .next t ∧ t.stc = { s.stc with mode := .safe } ∧ entered t .trip ∧
        (s.pmx.entries[1].st ≠ .active → Forms s t (Notice.is .trip) [
          { kind := .trip, time := s.time, cycles := s.psq.totalCycles, subject := 1, v1 := CondKind.broadcastHalt.code
            v2 := 0, v3 := 65535, v4 := ((List.finRange 8).filter fun a => (s.act a).state.pressurized).length }]) ∧
        (∀ a : Fin 8, (t.act a).state = if (s.act a).state.pressurized then .tripped else (s.act a).state) ∧
        (∃ r, t.pmx.firstOut = some (s.pmx.firstOut.getD r) ∧ r.entry = 1 ∧ r.kind = .broadcastHalt ∧ r.act = none ∧
          t.pmx.tripLog = (if s.pmx.tripLog.length < 8 then s.pmx.tripLog else s.pmx.tripLog.drop 1) ++ [r]) ∧
        aborts t ∧ RepliedDone s t 0x08 f [] ∧
        t = { s with stc := t.stc, psq := t.psq, svc := t.svc, lgu := t.lgu, pmx := t.pmx, sli := t.sli })

/-- A first-out record, once made, stands until PROT_FIRST_CLEAR, POWER or LINE (R193). -/
def Obligations.FirstOutStands : Prop :=
  ∀ (i : Instr) (s t : State) (r : TripRec), s.pmx.firstOut = some r → exec i s = .next t →
    (∀ straps, i ≠ .power straps ∧ i ≠ .line straps) → (∀ f, i ≠ .protFirstClear f) → t.pmx.firstOut = some r

/-- Every command keeps the law of entries and merged derates (R180, R182 to R184, R186, R187, R195). -/
def Obligations.MatrixLawIsKept : Prop :=
  ∀ (i : Instr) (s t : State), s.matrixLaw → exec i s = .next t → t.matrixLaw

/-- The notice of an entry's entry to ACTIVE, where the raising is that of the HALT loop, of an unload's timeout, of a lost
satellite, and matches one entry: TRIP of an enabled TRIP entry, with the actuator its record names and the number of
actuators that become TRIPPED, ENTRY of any other; none of an entry that was ACTIVE. Where the entry acts as NOTE or DERATE
no actuator changes its state, the merged derates are written, and the handover records of the groups take them (R98, R99, R182, R186, R187, R191). That a disabled entry, reported as NOTE, has DERATE value 0 is the model's
(log entry 15). -/
def Obligations.EntryAndTripNotices : Prop :=
  ∀ (i : Instr) (c : Cond) (s : State) (e : Fin 40), s.settled → s.raised c = false →
    ((i = .haltLoopChange true ∧ c = .haltLoop) ∨
      (∃ a : Fin 8, i = .unloadTimerExpiry a ∧ c = .unloadTimeout a ∧ (s.act a).state = .unloading ∧
        (s.act a).unload.timerOn = true) ∨
      (∃ x : Fin 4, i = .gaugePoll x ∧ c = .satLost x ∧ (s.glc[x].state = .settling ∨ s.glc[x].state = .live) ∧
        s.glc[x].awaiting = true ∧ 2 ≤ s.glc[x].unanswered)) →
    let x := s.pmx.entries[e]
    let matching (p : ProtConfig) : Prop := p.kind = some c.kind ∧ (p.inst = none ∨ p.inst = some c.inst)
    let acting : Action := if x.cfg.enabled then x.cfg.action else .note
    matching x.cfg → (∀ e' : Fin 40, e' ≠ e → ¬matching s.pmx.entries[e'].cfg) →
    ∃ t, exec i s = .next t ∧ t.pmx.entries[e].cfg = x.cfg ∧
      (acting = .note ∨ acting = .derate →
        (∀ a : Fin 8, (t.act a).derate = t.mergedDerate a ∧ (t.act a).state = (s.act a).state) ∧
        t.lgu = s.lguDerated t) ∧
      let tripped := (List.finRange 8).filter fun a => (t.act a).state = .tripped ∧ (s.act a).state ≠ .tripped
      Forms s t (fun n => n.is .entry || n.is .trip)
        (if x.st = .active then [] else [
          { kind := if acting = .trip then .trip else .entry, time := t.time, cycles := s.psq.totalCycles
            subject := e.val, v1 := c.kind.code, v2 := c.inst
            v3 := if acting = .trip then (match c with
              | .unloadTimeout a => a.val
              | _ => 65535) else acting.code
            v4 := if acting = .trip then tripped.length else if acting = .derate then x.cfg.value else 0 }])

/-! ### The whole station -/

/-- Every command leaves nothing formed and waiting, and every queue, log and saturating count within its capacity (R111,
R115, R120, R136, R140, R152, R159, R192, R197, R202, R205). -/
def Obligations.QueuesStayBounded : Prop :=
  ∀ (i : Instr) (s t : State), s.queuesBounded → exec i s = .next t → t.queuesBounded

/-- The station after reset meets every law, with the values R12, R13, R14 and the chapters give: SETUP, every actuator OFF,
the sequencer IDLE, every slot unassigned, every satellite slot ABSENT, the RESET notice alone in the queue. The registers
whose reset value no rule gives stand at the model's values (log entry 5). -/
def Obligations.ResetMeetsEveryLaw : Prop :=
  let s := State.reset
  s.queuesBounded ∧ s.driveLaw ∧ s.stationLaw ∧ s.matrixLaw ∧ s.zoneLaw ∧ s.groupLaw ∧
  s.stc.mode = .setup ∧ s.stc.resetRecord = { power := true } ∧ s.psq.state = .idle ∧
  (∀ x : Fin 16, s.axs[x].fn = .none) ∧ (∀ x : Fin 4, s.glc[x].state = .absent) ∧
  s.sli.notices.map Notice.kind = [.reset] ∧ s.attention = true ∧ s.pending = []

end
end

