-- ==== Sys2Proof/Laws/Arithmetic.lean ====
section
/-!
SUPPORT. Laws/Arithmetic.lean: the arithmetic of R2: clamping, rounding and saturating.
-/
namespace Sys2Proof.Machine

/-! ### clamp -/

theorem clamp_le {a b : Int} (h : a ≤ b) (x : Int) : clamp x a b ≤ b := by
  unfold clamp; split <;> [omega; split <;> omega]

theorem le_clamp {a b : Int} (h : a ≤ b) (x : Int) : a ≤ clamp x a b := by
  unfold clamp; split <;> [omega; split <;> omega]

theorem clamp_eq_of_mem {x a b : Int} (ha : a ≤ x) (hb : x ≤ b) : clamp x a b = x := by
  unfold clamp; rw [if_neg (by omega), if_neg (by omega)]

theorem clamp_mono {x y a b : Int} (hab : a ≤ b) (h : x ≤ y) : clamp x a b ≤ clamp y a b := by
  unfold clamp; split <;> split <;> (try split) <;> (try split) <;> omega

theorem natAbs_clampSym_le {m : Int} (h : 0 ≤ m) (x : Int) : (clampSym x m).natAbs ≤ m.natAbs := by
  unfold clampSym
  have h1 := clamp_le (show -m ≤ m by omega) x
  have h2 := le_clamp (show -m ≤ m by omega) x
  omega

theorem clampSym_eq_of_mem {x m : Int} (h : (x.natAbs : Int) ≤ m) : clampSym x m = x :=
  clamp_eq_of_mem (by omega) (by omega)

/-! ### round (R2) -/

/-- A rounded quotient is within half of the exact one. -/
theorem roundDiv_near (a : Int) {b : Int} (hb : 0 < b) :
    2 * roundDiv a b * b ≤ 2 * a + b ∧ 2 * a - b ≤ 2 * roundDiv a b * b := by
  have hd : 0 < 2 * b.natAbs := by omega
  have hm := Nat.div_add_mod (2 * a.natAbs + b.natAbs) (2 * b.natAbs)
  have hl := Nat.mod_lt (2 * a.natAbs + b.natAbs) hd
  unfold roundDiv
  generalize hq : (2 * a.natAbs + b.natAbs) / (2 * b.natAbs) = q at hm ⊢
  generalize (2 * a.natAbs + b.natAbs) % (2 * b.natAbs) = r at hm hl
  have hbb : (b.natAbs : Int) = b := by omega
  have e : (2 * b) * (q : Int) + r = 2 * a.natAbs + b := by
    have := congrArg (fun n : Nat => (n : Int)) hm
    push_cast at this
    rw [show |b| = b from abs_of_pos hb] at this
    rw [Int.natCast_natAbs]
    exact this
  have hl' : (r : Int) < 2 * b := by omega
  have e2 : 2 * (q : Int) * b = (2 * b) * q := by ring
  have hneg : decide (b < 0) = false := by simp; omega
  rw [hneg]
  by_cases ha : a < 0
  · simp only [ha, decide_true, Bool.true_eq_false, if_false]
    have e3 : 2 * -(q : Int) * b = -((2 * b) * q) := by ring
    constructor <;> rw [e3] <;> omega
  · simp only [ha, decide_false, if_true]
    constructor <;> rw [e2] <;> omega

theorem roundDiv_zero (b : Int) : roundDiv 0 b = 0 := by
  unfold roundDiv
  have h : (2 * (0 : Int).natAbs + b.natAbs) / (2 * b.natAbs) = 0 := by
    by_cases hb : b.natAbs = 0
    · simp [hb]
    · exact Nat.div_eq_of_lt (by simp; omega)
  rw [h]; simp

/-- An exact multiple is its own quotient. -/
theorem roundDiv_mul (a : Int) {b : Int} (hb : 0 < b) : roundDiv (a * b) b = a := by
  obtain ⟨h1, h2⟩ := roundDiv_near (a * b) hb
  have hle : roundDiv (a * b) b < a + 1 := by
    by_contra h
    have : (a + 1) * b ≤ roundDiv (a * b) b * b := mul_le_mul_of_nonneg_right (by omega) (by omega)
    nlinarith
  have hge : a - 1 < roundDiv (a * b) b := by
    by_contra h
    have : roundDiv (a * b) b * b ≤ (a - 1) * b := mul_le_mul_of_nonneg_right (by omega) (by omega)
    nlinarith
  omega

theorem roundDiv_one (a : Int) : roundDiv a 1 = a := by simpa using roundDiv_mul a (b := 1) (by omega)

theorem roundDiv_of_nonneg {a b : Int} (hb : 0 < b) (ha : 0 ≤ a) :
    roundDiv a b = ((2 * a.natAbs + b.natAbs) / (2 * b.natAbs) : Nat) := by
  unfold roundDiv
  rw [if_pos (by rw [decide_eq_false (by omega), decide_eq_false (by omega)])]

theorem roundDiv_of_neg {a b : Int} (hb : 0 < b) (ha : a < 0) :
    roundDiv a b = -((2 * a.natAbs + b.natAbs) / (2 * b.natAbs) : Nat) := by
  unfold roundDiv
  rw [if_neg (by rw [decide_eq_true ha, decide_eq_false (by omega)]; decide)]

/-- Rounding is monotone in the dividend. -/
theorem roundDiv_mono {a c b : Int} (hb : 0 < b) (h : a ≤ c) : roundDiv a b ≤ roundDiv c b := by
  have key : ∀ x y : Nat, x ≤ y → (2 * x + b.natAbs) / (2 * b.natAbs) ≤ (2 * y + b.natAbs) / (2 * b.natAbs) :=
    fun x y hxy => Nat.div_le_div_right (by omega)
  by_cases ha : a < 0 <;> by_cases hc : c < 0
  · rw [roundDiv_of_neg hb ha, roundDiv_of_neg hb hc]
    have := key c.natAbs a.natAbs (by omega)
    exact neg_le_neg (Int.ofNat_le.2 this)
  · rw [roundDiv_of_neg hb ha, roundDiv_of_nonneg hb (by omega)]
    exact le_trans (neg_nonpos.2 (Int.natCast_nonneg _)) (Int.natCast_nonneg _)
  · omega
  · rw [roundDiv_of_nonneg hb (by omega), roundDiv_of_nonneg hb (by omega)]
    exact Int.ofNat_le.2 (key _ _ (by omega))

/-- Rounding away from zero treats both signs alike. -/
theorem roundDiv_neg (a : Int) {b : Int} (hb : 0 < b) : roundDiv (-a) b = -roundDiv a b := by
  rcases lt_trichotomy a 0 with h | h | h
  · rw [roundDiv_of_neg hb h, roundDiv_of_nonneg hb (by omega), Int.natAbs_neg, neg_neg]
  · subst h; simp [roundDiv_zero]
  · rw [roundDiv_of_neg hb (by omega), roundDiv_of_nonneg hb (by omega), Int.natAbs_neg]

theorem roundDiv_nonneg {a b : Int} (hb : 0 < b) (ha : 0 ≤ a) : 0 ≤ roundDiv a b := by
  simpa [roundDiv_zero] using roundDiv_mono hb ha

/-! ### Saturating counts and ascending sets -/

theorem satAdd_le {a b top : Nat} : satAdd a b top ≤ top := by
  unfold satAdd; split <;> omega

theorem satAdd_eq_min (a b top : Nat) : satAdd a b top = min (a + b) top := by
  unfold satAdd; split <;> omega

theorem mem_insertAsc (n m : Nat) (l : List Nat) : m ∈ insertAsc n l ↔ m = n ∨ m ∈ l := by
  induction l with
  | nil => simp [insertAsc]
  | cons x l ih =>
    unfold insertAsc
    split
    · simp
    · split
      · simp_all
      · simp [ih]; tauto

theorem insertAsc_ne_nil (n : Nat) (l : List Nat) : insertAsc n l ≠ [] := by
  have := (mem_insertAsc n n l).2 (.inl rfl)
  intro h; simp [h] at this

end Sys2Proof.Machine
end

