-- ==== Sys2Proof/Laws/State.lean ====
section
/-!
SUPPORT. Laws/State.lean: one lemma for each field of State under each named update, so that no later proof unfolds a
record update.
-/
namespace Sys2Proof.Machine

variable (s : State)

/-! ### advanceTo -/

@[simp] theorem State.advanceTo_clock (t : Nat) :
    (s.advanceTo t).clock = { s.clock with now := max s.clock.now t } := rfl
@[simp] theorem State.advanceTo_stc (t : Nat) : (s.advanceTo t).stc = s.stc := rfl
@[simp] theorem State.advanceTo_sli (t : Nat) : (s.advanceTo t).sli = s.sli := rfl
@[simp] theorem State.advanceTo_axs (t : Nat) : (s.advanceTo t).axs = s.axs := rfl
@[simp] theorem State.advanceTo_psq (t : Nat) : (s.advanceTo t).psq = s.psq := rfl
@[simp] theorem State.advanceTo_svc (t : Nat) : (s.advanceTo t).svc = s.svc := rfl
@[simp] theorem State.advanceTo_lgu (t : Nat) : (s.advanceTo t).lgu = s.lgu := rfl
@[simp] theorem State.advanceTo_glc (t : Nat) : (s.advanceTo t).glc = s.glc := rfl
@[simp] theorem State.advanceTo_stp (t : Nat) : (s.advanceTo t).stp = s.stp := rfl
@[simp] theorem State.advanceTo_aeu (t : Nat) : (s.advanceTo t).aeu = s.aeu := rfl
@[simp] theorem State.advanceTo_zmn (t : Nat) : (s.advanceTo t).zmn = s.zmn := rfl
@[simp] theorem State.advanceTo_pmx (t : Nat) : (s.advanceTo t).pmx = s.pmx := rfl
@[simp] theorem State.advanceTo_ev (t : Nat) : (s.advanceTo t).ev = s.ev := rfl
@[simp] theorem State.advanceTo_pending (t : Nat) : (s.advanceTo t).pending = s.pending := rfl

/-! ### modStc -/

@[simp] theorem State.modStc_clock (f : StationControl → StationControl) : (s.modStc f).clock = s.clock := rfl
@[simp] theorem State.modStc_stc (f : StationControl → StationControl) : (s.modStc f).stc = f s.stc := rfl
@[simp] theorem State.modStc_sli (f : StationControl → StationControl) : (s.modStc f).sli = s.sli := rfl
@[simp] theorem State.modStc_axs (f : StationControl → StationControl) : (s.modStc f).axs = s.axs := rfl
@[simp] theorem State.modStc_psq (f : StationControl → StationControl) : (s.modStc f).psq = s.psq := rfl
@[simp] theorem State.modStc_svc (f : StationControl → StationControl) : (s.modStc f).svc = s.svc := rfl
@[simp] theorem State.modStc_lgu (f : StationControl → StationControl) : (s.modStc f).lgu = s.lgu := rfl
@[simp] theorem State.modStc_glc (f : StationControl → StationControl) : (s.modStc f).glc = s.glc := rfl
@[simp] theorem State.modStc_stp (f : StationControl → StationControl) : (s.modStc f).stp = s.stp := rfl
@[simp] theorem State.modStc_aeu (f : StationControl → StationControl) : (s.modStc f).aeu = s.aeu := rfl
@[simp] theorem State.modStc_zmn (f : StationControl → StationControl) : (s.modStc f).zmn = s.zmn := rfl
@[simp] theorem State.modStc_pmx (f : StationControl → StationControl) : (s.modStc f).pmx = s.pmx := rfl
@[simp] theorem State.modStc_ev (f : StationControl → StationControl) : (s.modStc f).ev = s.ev := rfl
@[simp] theorem State.modStc_pending (f : StationControl → StationControl) : (s.modStc f).pending = s.pending := rfl

/-! ### modLink -/

@[simp] theorem State.modLink_clock (f : Link → Link) : (s.modLink f).clock = s.clock := rfl
@[simp] theorem State.modLink_stc (f : Link → Link) : (s.modLink f).stc = s.stc := rfl
@[simp] theorem State.modLink_sli (f : Link → Link) : (s.modLink f).sli = f s.sli := rfl
@[simp] theorem State.modLink_axs (f : Link → Link) : (s.modLink f).axs = s.axs := rfl
@[simp] theorem State.modLink_psq (f : Link → Link) : (s.modLink f).psq = s.psq := rfl
@[simp] theorem State.modLink_svc (f : Link → Link) : (s.modLink f).svc = s.svc := rfl
@[simp] theorem State.modLink_lgu (f : Link → Link) : (s.modLink f).lgu = s.lgu := rfl
@[simp] theorem State.modLink_glc (f : Link → Link) : (s.modLink f).glc = s.glc := rfl
@[simp] theorem State.modLink_stp (f : Link → Link) : (s.modLink f).stp = s.stp := rfl
@[simp] theorem State.modLink_aeu (f : Link → Link) : (s.modLink f).aeu = s.aeu := rfl
@[simp] theorem State.modLink_zmn (f : Link → Link) : (s.modLink f).zmn = s.zmn := rfl
@[simp] theorem State.modLink_pmx (f : Link → Link) : (s.modLink f).pmx = s.pmx := rfl
@[simp] theorem State.modLink_ev (f : Link → Link) : (s.modLink f).ev = s.ev := rfl
@[simp] theorem State.modLink_pending (f : Link → Link) : (s.modLink f).pending = s.pending := rfl

/-! ### modSlot -/

@[simp] theorem State.modSlot_clock (x : Fin 16) (f : Slot → Slot) : (s.modSlot x f).clock = s.clock := rfl
@[simp] theorem State.modSlot_stc (x : Fin 16) (f : Slot → Slot) : (s.modSlot x f).stc = s.stc := rfl
@[simp] theorem State.modSlot_sli (x : Fin 16) (f : Slot → Slot) : (s.modSlot x f).sli = s.sli := rfl
@[simp] theorem State.modSlot_axs (x : Fin 16) (f : Slot → Slot) : (s.modSlot x f).axs = vmod s.axs x f := rfl
@[simp] theorem State.modSlot_psq (x : Fin 16) (f : Slot → Slot) : (s.modSlot x f).psq = s.psq := rfl
@[simp] theorem State.modSlot_svc (x : Fin 16) (f : Slot → Slot) : (s.modSlot x f).svc = s.svc := rfl
@[simp] theorem State.modSlot_lgu (x : Fin 16) (f : Slot → Slot) : (s.modSlot x f).lgu = s.lgu := rfl
@[simp] theorem State.modSlot_glc (x : Fin 16) (f : Slot → Slot) : (s.modSlot x f).glc = s.glc := rfl
@[simp] theorem State.modSlot_stp (x : Fin 16) (f : Slot → Slot) : (s.modSlot x f).stp = s.stp := rfl
@[simp] theorem State.modSlot_aeu (x : Fin 16) (f : Slot → Slot) : (s.modSlot x f).aeu = s.aeu := rfl
@[simp] theorem State.modSlot_zmn (x : Fin 16) (f : Slot → Slot) : (s.modSlot x f).zmn = s.zmn := rfl
@[simp] theorem State.modSlot_pmx (x : Fin 16) (f : Slot → Slot) : (s.modSlot x f).pmx = s.pmx := rfl
@[simp] theorem State.modSlot_ev (x : Fin 16) (f : Slot → Slot) : (s.modSlot x f).ev = s.ev := rfl
@[simp] theorem State.modSlot_pending (x : Fin 16) (f : Slot → Slot) : (s.modSlot x f).pending = s.pending := rfl

/-! ### modSeq -/

@[simp] theorem State.modSeq_clock (f : Sequencer → Sequencer) : (s.modSeq f).clock = s.clock := rfl
@[simp] theorem State.modSeq_stc (f : Sequencer → Sequencer) : (s.modSeq f).stc = s.stc := rfl
@[simp] theorem State.modSeq_sli (f : Sequencer → Sequencer) : (s.modSeq f).sli = s.sli := rfl
@[simp] theorem State.modSeq_axs (f : Sequencer → Sequencer) : (s.modSeq f).axs = s.axs := rfl
@[simp] theorem State.modSeq_psq (f : Sequencer → Sequencer) : (s.modSeq f).psq = f s.psq := rfl
@[simp] theorem State.modSeq_svc (f : Sequencer → Sequencer) : (s.modSeq f).svc = s.svc := rfl
@[simp] theorem State.modSeq_lgu (f : Sequencer → Sequencer) : (s.modSeq f).lgu = s.lgu := rfl
@[simp] theorem State.modSeq_glc (f : Sequencer → Sequencer) : (s.modSeq f).glc = s.glc := rfl
@[simp] theorem State.modSeq_stp (f : Sequencer → Sequencer) : (s.modSeq f).stp = s.stp := rfl
@[simp] theorem State.modSeq_aeu (f : Sequencer → Sequencer) : (s.modSeq f).aeu = s.aeu := rfl
@[simp] theorem State.modSeq_zmn (f : Sequencer → Sequencer) : (s.modSeq f).zmn = s.zmn := rfl
@[simp] theorem State.modSeq_pmx (f : Sequencer → Sequencer) : (s.modSeq f).pmx = s.pmx := rfl
@[simp] theorem State.modSeq_ev (f : Sequencer → Sequencer) : (s.modSeq f).ev = s.ev := rfl
@[simp] theorem State.modSeq_pending (f : Sequencer → Sequencer) : (s.modSeq f).pending = s.pending := rfl

/-! ### modAct -/

@[simp] theorem State.modAct_clock (a : Fin 8) (f : Actuator → Actuator) : (s.modAct a f).clock = s.clock := rfl
@[simp] theorem State.modAct_stc (a : Fin 8) (f : Actuator → Actuator) : (s.modAct a f).stc = s.stc := rfl
@[simp] theorem State.modAct_sli (a : Fin 8) (f : Actuator → Actuator) : (s.modAct a f).sli = s.sli := rfl
@[simp] theorem State.modAct_axs (a : Fin 8) (f : Actuator → Actuator) : (s.modAct a f).axs = s.axs := rfl
@[simp] theorem State.modAct_psq (a : Fin 8) (f : Actuator → Actuator) : (s.modAct a f).psq = s.psq := rfl
@[simp] theorem State.modAct_svc (a : Fin 8) (f : Actuator → Actuator) :
    (s.modAct a f).svc = { s.svc with acts := vmod s.svc.acts a f } := rfl
@[simp] theorem State.modAct_lgu (a : Fin 8) (f : Actuator → Actuator) : (s.modAct a f).lgu = s.lgu := rfl
@[simp] theorem State.modAct_glc (a : Fin 8) (f : Actuator → Actuator) : (s.modAct a f).glc = s.glc := rfl
@[simp] theorem State.modAct_stp (a : Fin 8) (f : Actuator → Actuator) : (s.modAct a f).stp = s.stp := rfl
@[simp] theorem State.modAct_aeu (a : Fin 8) (f : Actuator → Actuator) : (s.modAct a f).aeu = s.aeu := rfl
@[simp] theorem State.modAct_zmn (a : Fin 8) (f : Actuator → Actuator) : (s.modAct a f).zmn = s.zmn := rfl
@[simp] theorem State.modAct_pmx (a : Fin 8) (f : Actuator → Actuator) : (s.modAct a f).pmx = s.pmx := rfl
@[simp] theorem State.modAct_ev (a : Fin 8) (f : Actuator → Actuator) : (s.modAct a f).ev = s.ev := rfl
@[simp] theorem State.modAct_pending (a : Fin 8) (f : Actuator → Actuator) : (s.modAct a f).pending = s.pending := rfl

/-! ### modGroup -/

@[simp] theorem State.modGroup_clock (g : Fin 4) (f : Group → Group) : (s.modGroup g f).clock = s.clock := rfl
@[simp] theorem State.modGroup_stc (g : Fin 4) (f : Group → Group) : (s.modGroup g f).stc = s.stc := rfl
@[simp] theorem State.modGroup_sli (g : Fin 4) (f : Group → Group) : (s.modGroup g f).sli = s.sli := rfl
@[simp] theorem State.modGroup_axs (g : Fin 4) (f : Group → Group) : (s.modGroup g f).axs = s.axs := rfl
@[simp] theorem State.modGroup_psq (g : Fin 4) (f : Group → Group) : (s.modGroup g f).psq = s.psq := rfl
@[simp] theorem State.modGroup_svc (g : Fin 4) (f : Group → Group) : (s.modGroup g f).svc = s.svc := rfl
@[simp] theorem State.modGroup_lgu (g : Fin 4) (f : Group → Group) : (s.modGroup g f).lgu = vmod s.lgu g f := rfl
@[simp] theorem State.modGroup_glc (g : Fin 4) (f : Group → Group) : (s.modGroup g f).glc = s.glc := rfl
@[simp] theorem State.modGroup_stp (g : Fin 4) (f : Group → Group) : (s.modGroup g f).stp = s.stp := rfl
@[simp] theorem State.modGroup_aeu (g : Fin 4) (f : Group → Group) : (s.modGroup g f).aeu = s.aeu := rfl
@[simp] theorem State.modGroup_zmn (g : Fin 4) (f : Group → Group) : (s.modGroup g f).zmn = s.zmn := rfl
@[simp] theorem State.modGroup_pmx (g : Fin 4) (f : Group → Group) : (s.modGroup g f).pmx = s.pmx := rfl
@[simp] theorem State.modGroup_ev (g : Fin 4) (f : Group → Group) : (s.modGroup g f).ev = s.ev := rfl
@[simp] theorem State.modGroup_pending (g : Fin 4) (f : Group → Group) : (s.modGroup g f).pending = s.pending := rfl

/-! ### modSat -/

@[simp] theorem State.modSat_clock (x : Fin 4) (f : Sat → Sat) : (s.modSat x f).clock = s.clock := rfl
@[simp] theorem State.modSat_stc (x : Fin 4) (f : Sat → Sat) : (s.modSat x f).stc = s.stc := rfl
@[simp] theorem State.modSat_sli (x : Fin 4) (f : Sat → Sat) : (s.modSat x f).sli = s.sli := rfl
@[simp] theorem State.modSat_axs (x : Fin 4) (f : Sat → Sat) : (s.modSat x f).axs = s.axs := rfl
@[simp] theorem State.modSat_psq (x : Fin 4) (f : Sat → Sat) : (s.modSat x f).psq = s.psq := rfl
@[simp] theorem State.modSat_svc (x : Fin 4) (f : Sat → Sat) : (s.modSat x f).svc = s.svc := rfl
@[simp] theorem State.modSat_lgu (x : Fin 4) (f : Sat → Sat) : (s.modSat x f).lgu = s.lgu := rfl
@[simp] theorem State.modSat_glc (x : Fin 4) (f : Sat → Sat) : (s.modSat x f).glc = vmod s.glc x f := rfl
@[simp] theorem State.modSat_stp (x : Fin 4) (f : Sat → Sat) : (s.modSat x f).stp = s.stp := rfl
@[simp] theorem State.modSat_aeu (x : Fin 4) (f : Sat → Sat) : (s.modSat x f).aeu = s.aeu := rfl
@[simp] theorem State.modSat_zmn (x : Fin 4) (f : Sat → Sat) : (s.modSat x f).zmn = s.zmn := rfl
@[simp] theorem State.modSat_pmx (x : Fin 4) (f : Sat → Sat) : (s.modSat x f).pmx = s.pmx := rfl
@[simp] theorem State.modSat_ev (x : Fin 4) (f : Sat → Sat) : (s.modSat x f).ev = s.ev := rfl
@[simp] theorem State.modSat_pending (x : Fin 4) (f : Sat → Sat) : (s.modSat x f).pending = s.pending := rfl

/-! ### modStp -/

@[simp] theorem State.modStp_clock (f : Strain → Strain) : (s.modStp f).clock = s.clock := rfl
@[simp] theorem State.modStp_stc (f : Strain → Strain) : (s.modStp f).stc = s.stc := rfl
@[simp] theorem State.modStp_sli (f : Strain → Strain) : (s.modStp f).sli = s.sli := rfl
@[simp] theorem State.modStp_axs (f : Strain → Strain) : (s.modStp f).axs = s.axs := rfl
@[simp] theorem State.modStp_psq (f : Strain → Strain) : (s.modStp f).psq = s.psq := rfl
@[simp] theorem State.modStp_svc (f : Strain → Strain) : (s.modStp f).svc = s.svc := rfl
@[simp] theorem State.modStp_lgu (f : Strain → Strain) : (s.modStp f).lgu = s.lgu := rfl
@[simp] theorem State.modStp_glc (f : Strain → Strain) : (s.modStp f).glc = s.glc := rfl
@[simp] theorem State.modStp_stp (f : Strain → Strain) : (s.modStp f).stp = f s.stp := rfl
@[simp] theorem State.modStp_aeu (f : Strain → Strain) : (s.modStp f).aeu = s.aeu := rfl
@[simp] theorem State.modStp_zmn (f : Strain → Strain) : (s.modStp f).zmn = s.zmn := rfl
@[simp] theorem State.modStp_pmx (f : Strain → Strain) : (s.modStp f).pmx = s.pmx := rfl
@[simp] theorem State.modStp_ev (f : Strain → Strain) : (s.modStp f).ev = s.ev := rfl
@[simp] theorem State.modStp_pending (f : Strain → Strain) : (s.modStp f).pending = s.pending := rfl

/-! ### modChan -/

@[simp] theorem State.modChan_clock (c : Fin 64) (f : Chan → Chan) : (s.modChan c f).clock = s.clock := rfl
@[simp] theorem State.modChan_stc (c : Fin 64) (f : Chan → Chan) : (s.modChan c f).stc = s.stc := rfl
@[simp] theorem State.modChan_sli (c : Fin 64) (f : Chan → Chan) : (s.modChan c f).sli = s.sli := rfl
@[simp] theorem State.modChan_axs (c : Fin 64) (f : Chan → Chan) : (s.modChan c f).axs = s.axs := rfl
@[simp] theorem State.modChan_psq (c : Fin 64) (f : Chan → Chan) : (s.modChan c f).psq = s.psq := rfl
@[simp] theorem State.modChan_svc (c : Fin 64) (f : Chan → Chan) : (s.modChan c f).svc = s.svc := rfl
@[simp] theorem State.modChan_lgu (c : Fin 64) (f : Chan → Chan) : (s.modChan c f).lgu = s.lgu := rfl
@[simp] theorem State.modChan_glc (c : Fin 64) (f : Chan → Chan) : (s.modChan c f).glc = s.glc := rfl
@[simp] theorem State.modChan_stp (c : Fin 64) (f : Chan → Chan) :
    (s.modChan c f).stp = { s.stp with chans := vmod s.stp.chans c f } := rfl
@[simp] theorem State.modChan_aeu (c : Fin 64) (f : Chan → Chan) : (s.modChan c f).aeu = s.aeu := rfl
@[simp] theorem State.modChan_zmn (c : Fin 64) (f : Chan → Chan) : (s.modChan c f).zmn = s.zmn := rfl
@[simp] theorem State.modChan_pmx (c : Fin 64) (f : Chan → Chan) : (s.modChan c f).pmx = s.pmx := rfl
@[simp] theorem State.modChan_ev (c : Fin 64) (f : Chan → Chan) : (s.modChan c f).ev = s.ev := rfl
@[simp] theorem State.modChan_pending (c : Fin 64) (f : Chan → Chan) : (s.modChan c f).pending = s.pending := rfl

/-! ### modAeu -/

@[simp] theorem State.modAeu_clock (f : Emission → Emission) : (s.modAeu f).clock = s.clock := rfl
@[simp] theorem State.modAeu_stc (f : Emission → Emission) : (s.modAeu f).stc = s.stc := rfl
@[simp] theorem State.modAeu_sli (f : Emission → Emission) : (s.modAeu f).sli = s.sli := rfl
@[simp] theorem State.modAeu_axs (f : Emission → Emission) : (s.modAeu f).axs = s.axs := rfl
@[simp] theorem State.modAeu_psq (f : Emission → Emission) : (s.modAeu f).psq = s.psq := rfl
@[simp] theorem State.modAeu_svc (f : Emission → Emission) : (s.modAeu f).svc = s.svc := rfl
@[simp] theorem State.modAeu_lgu (f : Emission → Emission) : (s.modAeu f).lgu = s.lgu := rfl
@[simp] theorem State.modAeu_glc (f : Emission → Emission) : (s.modAeu f).glc = s.glc := rfl
@[simp] theorem State.modAeu_stp (f : Emission → Emission) : (s.modAeu f).stp = s.stp := rfl
@[simp] theorem State.modAeu_aeu (f : Emission → Emission) : (s.modAeu f).aeu = f s.aeu := rfl
@[simp] theorem State.modAeu_zmn (f : Emission → Emission) : (s.modAeu f).zmn = s.zmn := rfl
@[simp] theorem State.modAeu_pmx (f : Emission → Emission) : (s.modAeu f).pmx = s.pmx := rfl
@[simp] theorem State.modAeu_ev (f : Emission → Emission) : (s.modAeu f).ev = s.ev := rfl
@[simp] theorem State.modAeu_pending (f : Emission → Emission) : (s.modAeu f).pending = s.pending := rfl

/-! ### modAe -/

@[simp] theorem State.modAe_clock (c : Fin 12) (f : AeChan → AeChan) : (s.modAe c f).clock = s.clock := rfl
@[simp] theorem State.modAe_stc (c : Fin 12) (f : AeChan → AeChan) : (s.modAe c f).stc = s.stc := rfl
@[simp] theorem State.modAe_sli (c : Fin 12) (f : AeChan → AeChan) : (s.modAe c f).sli = s.sli := rfl
@[simp] theorem State.modAe_axs (c : Fin 12) (f : AeChan → AeChan) : (s.modAe c f).axs = s.axs := rfl
@[simp] theorem State.modAe_psq (c : Fin 12) (f : AeChan → AeChan) : (s.modAe c f).psq = s.psq := rfl
@[simp] theorem State.modAe_svc (c : Fin 12) (f : AeChan → AeChan) : (s.modAe c f).svc = s.svc := rfl
@[simp] theorem State.modAe_lgu (c : Fin 12) (f : AeChan → AeChan) : (s.modAe c f).lgu = s.lgu := rfl
@[simp] theorem State.modAe_glc (c : Fin 12) (f : AeChan → AeChan) : (s.modAe c f).glc = s.glc := rfl
@[simp] theorem State.modAe_stp (c : Fin 12) (f : AeChan → AeChan) : (s.modAe c f).stp = s.stp := rfl
@[simp] theorem State.modAe_aeu (c : Fin 12) (f : AeChan → AeChan) :
    (s.modAe c f).aeu = { s.aeu with chans := vmod s.aeu.chans c f } := rfl
@[simp] theorem State.modAe_zmn (c : Fin 12) (f : AeChan → AeChan) : (s.modAe c f).zmn = s.zmn := rfl
@[simp] theorem State.modAe_pmx (c : Fin 12) (f : AeChan → AeChan) : (s.modAe c f).pmx = s.pmx := rfl
@[simp] theorem State.modAe_ev (c : Fin 12) (f : AeChan → AeChan) : (s.modAe c f).ev = s.ev := rfl
@[simp] theorem State.modAe_pending (c : Fin 12) (f : AeChan → AeChan) : (s.modAe c f).pending = s.pending := rfl

/-! ### modZmn -/

@[simp] theorem State.modZmn_clock (f : Zones → Zones) : (s.modZmn f).clock = s.clock := rfl
@[simp] theorem State.modZmn_stc (f : Zones → Zones) : (s.modZmn f).stc = s.stc := rfl
@[simp] theorem State.modZmn_sli (f : Zones → Zones) : (s.modZmn f).sli = s.sli := rfl
@[simp] theorem State.modZmn_axs (f : Zones → Zones) : (s.modZmn f).axs = s.axs := rfl
@[simp] theorem State.modZmn_psq (f : Zones → Zones) : (s.modZmn f).psq = s.psq := rfl
@[simp] theorem State.modZmn_svc (f : Zones → Zones) : (s.modZmn f).svc = s.svc := rfl
@[simp] theorem State.modZmn_lgu (f : Zones → Zones) : (s.modZmn f).lgu = s.lgu := rfl
@[simp] theorem State.modZmn_glc (f : Zones → Zones) : (s.modZmn f).glc = s.glc := rfl
@[simp] theorem State.modZmn_stp (f : Zones → Zones) : (s.modZmn f).stp = s.stp := rfl
@[simp] theorem State.modZmn_aeu (f : Zones → Zones) : (s.modZmn f).aeu = s.aeu := rfl
@[simp] theorem State.modZmn_zmn (f : Zones → Zones) : (s.modZmn f).zmn = f s.zmn := rfl
@[simp] theorem State.modZmn_pmx (f : Zones → Zones) : (s.modZmn f).pmx = s.pmx := rfl
@[simp] theorem State.modZmn_ev (f : Zones → Zones) : (s.modZmn f).ev = s.ev := rfl
@[simp] theorem State.modZmn_pending (f : Zones → Zones) : (s.modZmn f).pending = s.pending := rfl

/-! ### modZone -/

@[simp] theorem State.modZone_clock (z : Fin 16) (f : Zone → Zone) : (s.modZone z f).clock = s.clock := rfl
@[simp] theorem State.modZone_stc (z : Fin 16) (f : Zone → Zone) : (s.modZone z f).stc = s.stc := rfl
@[simp] theorem State.modZone_sli (z : Fin 16) (f : Zone → Zone) : (s.modZone z f).sli = s.sli := rfl
@[simp] theorem State.modZone_axs (z : Fin 16) (f : Zone → Zone) : (s.modZone z f).axs = s.axs := rfl
@[simp] theorem State.modZone_psq (z : Fin 16) (f : Zone → Zone) : (s.modZone z f).psq = s.psq := rfl
@[simp] theorem State.modZone_svc (z : Fin 16) (f : Zone → Zone) : (s.modZone z f).svc = s.svc := rfl
@[simp] theorem State.modZone_lgu (z : Fin 16) (f : Zone → Zone) : (s.modZone z f).lgu = s.lgu := rfl
@[simp] theorem State.modZone_glc (z : Fin 16) (f : Zone → Zone) : (s.modZone z f).glc = s.glc := rfl
@[simp] theorem State.modZone_stp (z : Fin 16) (f : Zone → Zone) : (s.modZone z f).stp = s.stp := rfl
@[simp] theorem State.modZone_aeu (z : Fin 16) (f : Zone → Zone) : (s.modZone z f).aeu = s.aeu := rfl
@[simp] theorem State.modZone_zmn (z : Fin 16) (f : Zone → Zone) :
    (s.modZone z f).zmn = { s.zmn with zones := vmod s.zmn.zones z f } := rfl
@[simp] theorem State.modZone_pmx (z : Fin 16) (f : Zone → Zone) : (s.modZone z f).pmx = s.pmx := rfl
@[simp] theorem State.modZone_ev (z : Fin 16) (f : Zone → Zone) : (s.modZone z f).ev = s.ev := rfl
@[simp] theorem State.modZone_pending (z : Fin 16) (f : Zone → Zone) : (s.modZone z f).pending = s.pending := rfl

/-! ### modPmx -/

@[simp] theorem State.modPmx_clock (f : Protection → Protection) : (s.modPmx f).clock = s.clock := rfl
@[simp] theorem State.modPmx_stc (f : Protection → Protection) : (s.modPmx f).stc = s.stc := rfl
@[simp] theorem State.modPmx_sli (f : Protection → Protection) : (s.modPmx f).sli = s.sli := rfl
@[simp] theorem State.modPmx_axs (f : Protection → Protection) : (s.modPmx f).axs = s.axs := rfl
@[simp] theorem State.modPmx_psq (f : Protection → Protection) : (s.modPmx f).psq = s.psq := rfl
@[simp] theorem State.modPmx_svc (f : Protection → Protection) : (s.modPmx f).svc = s.svc := rfl
@[simp] theorem State.modPmx_lgu (f : Protection → Protection) : (s.modPmx f).lgu = s.lgu := rfl
@[simp] theorem State.modPmx_glc (f : Protection → Protection) : (s.modPmx f).glc = s.glc := rfl
@[simp] theorem State.modPmx_stp (f : Protection → Protection) : (s.modPmx f).stp = s.stp := rfl
@[simp] theorem State.modPmx_aeu (f : Protection → Protection) : (s.modPmx f).aeu = s.aeu := rfl
@[simp] theorem State.modPmx_zmn (f : Protection → Protection) : (s.modPmx f).zmn = s.zmn := rfl
@[simp] theorem State.modPmx_pmx (f : Protection → Protection) : (s.modPmx f).pmx = f s.pmx := rfl
@[simp] theorem State.modPmx_ev (f : Protection → Protection) : (s.modPmx f).ev = s.ev := rfl
@[simp] theorem State.modPmx_pending (f : Protection → Protection) : (s.modPmx f).pending = s.pending := rfl

/-! ### modEntry -/

@[simp] theorem State.modEntry_clock (e : Fin 40) (f : ProtEntry → ProtEntry) : (s.modEntry e f).clock = s.clock := rfl
@[simp] theorem State.modEntry_stc (e : Fin 40) (f : ProtEntry → ProtEntry) : (s.modEntry e f).stc = s.stc := rfl
@[simp] theorem State.modEntry_sli (e : Fin 40) (f : ProtEntry → ProtEntry) : (s.modEntry e f).sli = s.sli := rfl
@[simp] theorem State.modEntry_axs (e : Fin 40) (f : ProtEntry → ProtEntry) : (s.modEntry e f).axs = s.axs := rfl
@[simp] theorem State.modEntry_psq (e : Fin 40) (f : ProtEntry → ProtEntry) : (s.modEntry e f).psq = s.psq := rfl
@[simp] theorem State.modEntry_svc (e : Fin 40) (f : ProtEntry → ProtEntry) : (s.modEntry e f).svc = s.svc := rfl
@[simp] theorem State.modEntry_lgu (e : Fin 40) (f : ProtEntry → ProtEntry) : (s.modEntry e f).lgu = s.lgu := rfl
@[simp] theorem State.modEntry_glc (e : Fin 40) (f : ProtEntry → ProtEntry) : (s.modEntry e f).glc = s.glc := rfl
@[simp] theorem State.modEntry_stp (e : Fin 40) (f : ProtEntry → ProtEntry) : (s.modEntry e f).stp = s.stp := rfl
@[simp] theorem State.modEntry_aeu (e : Fin 40) (f : ProtEntry → ProtEntry) : (s.modEntry e f).aeu = s.aeu := rfl
@[simp] theorem State.modEntry_zmn (e : Fin 40) (f : ProtEntry → ProtEntry) : (s.modEntry e f).zmn = s.zmn := rfl
@[simp] theorem State.modEntry_pmx (e : Fin 40) (f : ProtEntry → ProtEntry) :
    (s.modEntry e f).pmx = { s.pmx with entries := vmod s.pmx.entries e f } := rfl
@[simp] theorem State.modEntry_ev (e : Fin 40) (f : ProtEntry → ProtEntry) : (s.modEntry e f).ev = s.ev := rfl
@[simp] theorem State.modEntry_pending (e : Fin 40) (f : ProtEntry → ProtEntry) :
    (s.modEntry e f).pending = s.pending := rfl

end Sys2Proof.Machine
end

