-- ==== Sys2Proof/Laws/Objects.lean ====
section
/-!
SUPPORT. Laws/Objects.lean: reads of one object after an update of one, and folds over ascending indexes.
-/
namespace Sys2Proof.Machine

/-! ### One element of a vector -/

/-- What an element reads after one element was changed. -/
theorem vmod_get {α : Type} {n : Nat} (v : Vector α n) (i j : Fin n) (f : α → α) :
    (vmod v i f)[j] = if i = j then f v[j] else v[j] := by
  unfold vmod
  by_cases h : i = j
  · subst h; simp
  · have : i.val ≠ j.val := fun e => h (Fin.ext e)
    simp [h, this]

/-- The changed element, in simp's own spelling of the index. -/
@[simp] theorem vmod_same {α : Type} {n : Nat} (v : Vector α n) (i : Fin n) (f : α → α) :
    (vmod v i f)[i.val] = f v[i.val] := by
  simp [vmod]

/-- Any other element. -/
theorem vmod_other {α : Type} {n : Nat} (v : Vector α n) {i j : Fin n} (f : α → α) (h : i ≠ j) :
    (vmod v i f)[j] = v[j] := (vmod_get v i j f).trans (if_neg h)

/-- Changing an element to what it is changes nothing. -/
theorem vmod_id {α : Type} {n : Nat} (v : Vector α n) (i : Fin n) : vmod v i id = v := by
  simp [vmod]

/-! ### Actuators, groups and entries -/

variable (s : State)

theorem State.modAct_act (a b : Fin 8) (f : Actuator → Actuator) :
    (s.modAct a f).act b = if a = b then f (s.act b) else s.act b := vmod_get ..

@[simp] theorem State.modAct_act_same (a : Fin 8) (f : Actuator → Actuator) : (s.modAct a f).act a = f (s.act a) := by
  simp [State.modAct_act]

theorem State.modAct_act_other {a b : Fin 8} (f : Actuator → Actuator) (h : a ≠ b) : (s.modAct a f).act b = s.act b := by
  simp [State.modAct_act, h]

theorem State.modGroup_group (g h : Fin 4) (f : Group → Group) :
    (s.modGroup g f).group h = if g = h then f (s.group h) else s.group h := vmod_get ..

/-- An update outside the servo channels leaves every actuator. -/
theorem State.act_congr {s t : State} (h : t.svc = s.svc) (a : Fin 8) : t.act a = s.act a := by
  simp [State.act, h]

/-- An update outside the load groups leaves every group. -/
theorem State.group_congr {s t : State} (h : t.lgu = s.lgu) (g : Fin 4) : t.group g = s.group g := by
  simp [State.group, h]

/-- An update outside the matrix leaves every condition. -/
theorem State.raised_congr {s t : State} (h : t.pmx = s.pmx) (c : Cond) : t.raised c = s.raised c := by
  simp [State.raised, h]

@[simp] theorem State.modGroup_act (g : Fin 4) (f : Group → Group) (a : Fin 8) : (s.modGroup g f).act a = s.act a := rfl
@[simp] theorem State.modSeq_act (f : Sequencer → Sequencer) (a : Fin 8) : (s.modSeq f).act a = s.act a := rfl
@[simp] theorem State.modStc_act (f : StationControl → StationControl) (a : Fin 8) : (s.modStc f).act a = s.act a := rfl
@[simp] theorem State.modLink_act (f : Link → Link) (a : Fin 8) : (s.modLink f).act a = s.act a := rfl
@[simp] theorem State.modPmx_act (f : Protection → Protection) (a : Fin 8) : (s.modPmx f).act a = s.act a := rfl
@[simp] theorem State.modEntry_act (e : Fin 40) (f : ProtEntry → ProtEntry) (a : Fin 8) :
    (s.modEntry e f).act a = s.act a := rfl
@[simp] theorem State.modAct_group (a : Fin 8) (f : Actuator → Actuator) (g : Fin 4) :
    (s.modAct a f).group g = s.group g := rfl
@[simp] theorem State.modLink_group (f : Link → Link) (g : Fin 4) : (s.modLink f).group g = s.group g := rfl
@[simp] theorem State.modAct_groupOf (a b : Fin 8) (f : Actuator → Actuator) :
    (s.modAct a f).groupOf b = s.groupOf b := rfl
@[simp] theorem State.modAct_raised (a : Fin 8) (f : Actuator → Actuator) (c : Cond) :
    (s.modAct a f).raised c = s.raised c := rfl
@[simp] theorem State.modLink_raised (f : Link → Link) (c : Cond) : (s.modLink f).raised c = s.raised c := rfl

/-- The condition table after one instance was set: slots of different instances differ. -/
theorem setCond_raised_same (c : Cond) (b : Bool) : (setCond c b s).raised c = b := by
  simp [setCond, State.raised]

/-! ### Folds over ascending indexes -/

/-- What every step of an ascending walk keeps, the walk keeps. -/
theorem forAsc_keeps {n : Nat} {f : Fin n → State → State} (P : State → Prop) (h : ∀ i s, P s → P (f i s))
    {s : State} (hs : P s) : P (forAsc n f s) := by
  unfold forAsc
  generalize List.finRange n = l
  induction l generalizing s with
  | nil => exact hs
  | cons i l ih => exact ih (h i s hs)

/-- A projection that no step of a walk changes is what it was. -/
theorem forAsc_same {n : Nat} {β : Type} {f : Fin n → State → State} (p : State → β) (h : ∀ i s, p (f i s) = p s)
    (s : State) : p (forAsc n f s) = p s :=
  forAsc_keeps (fun t => p t = p s) (fun i t ht => (h i t).trans ht) rfl

/-- The same for a fold over a list. -/
theorem foldl_same {α β : Type} {f : State → α → State} (p : State → β) (h : ∀ s x, p (f s x) = p s) (l : List α)
    (s : State) : p (l.foldl f s) = p s := by
  induction l generalizing s with
  | nil => rfl
  | cons x l ih => exact (ih _).trans (h s x)

end Sys2Proof.Machine
end

