-- ==== Sys2Proof/Laws/Link.lean ====
section
/-!
SUPPORT. Laws/Link.lean: what taking a frame, holding a reply and ending a step can do (chapter 11, R11).
-/
namespace Sys2Proof.Machine

variable {s t : State}

/-! ### The end of a step (R11) -/

theorem finish_of_noResetDue (h : s.noResetDue) : finish s = s := by
  unfold finish
  rw [if_neg]
  rintro ⟨h1, h2⟩
  rcases h with h | h <;> simp_all

theorem stepDone_of_noResetDue (h : s.noResetDue) : stepDone s = .next s := by
  rw [stepDone, finish_of_noResetDue h]

/-- A step always answers a next state: `finish` of what its meaning left, or the reset of a pending RESTART. -/
theorem stepDone_cases (s : State) :
    (s.noResetDue ∧ stepDone s = .next s) ∨
    (s.stc.restartPending = true ∧ s.allAtRest = true ∧ stepDone s = .next (restartReset s)) := by
  by_cases h : s.stc.restartPending = true ∧ s.allAtRest = true
  · exact .inr ⟨h.1, h.2, by simp [stepDone, finish, h]⟩
  · have : s.noResetDue := by
      rcases not_and_or.1 h with h | h
      · exact .inl (by simpa using h)
      · exact .inr (by simpa using h)
    exact .inl ⟨this, stepDone_of_noResetDue this⟩

/-! ### The receiver (R196) -/

@[simp] theorem received_clock (s : State) : s.received.clock = s.clock := rfl
@[simp] theorem received_stc (s : State) : s.received.stc = s.stc := rfl
@[simp] theorem received_axs (s : State) : s.received.axs = s.axs := rfl
@[simp] theorem received_psq (s : State) : s.received.psq = s.psq := rfl
@[simp] theorem received_svc (s : State) : s.received.svc = s.svc := rfl
@[simp] theorem received_lgu (s : State) : s.received.lgu = s.lgu := rfl
@[simp] theorem received_glc (s : State) : s.received.glc = s.glc := rfl
@[simp] theorem received_stp (s : State) : s.received.stp = s.stp := rfl
@[simp] theorem received_aeu (s : State) : s.received.aeu = s.aeu := rfl
@[simp] theorem received_zmn (s : State) : s.received.zmn = s.zmn := rfl
@[simp] theorem received_pmx (s : State) : s.received.pmx = s.pmx := rfl
@[simp] theorem received_ev (s : State) : s.received.ev = s.ev := rfl
@[simp] theorem received_pending (s : State) : s.received.pending = s.pending := rfl
@[simp] theorem received_sli (s : State) : s.received.sli = { s.sli with rx := [] } := rfl
@[simp] theorem received_delivery (s : State) (f : Frame) : s.received.delivery f = s.delivery f := rfl
@[simp] theorem received_stationFlags (s : State) : s.received.stationFlags = s.stationFlags := rfl

/-- While a frame is being received, one byte more leaves it held, or ends it and leaves the receiver hunting. -/
theorem takeByte_frame_cases (a b c : Byte) (l : List Byte) :
    (readFrame (l ++ [c]) = none ∧ takeByte (a :: b :: l) c = (a :: b :: (l ++ [c]), none)) ∨
    (∃ x, readFrame (l ++ [c]) = some x ∧ takeByte (a :: b :: l) c = ([], some x)) := by
  cases h : readFrame (l ++ [c]) with
  | none => exact .inl ⟨rfl, by simp [takeByte, h]⟩
  | some x => exact .inr ⟨x, rfl, by simp [takeByte, h]⟩

/-- What is received in two pieces is what is received at once. -/
theorem takeBytes_append (held l m : List Byte) :
    takeBytes held (l ++ m) =
      ((takeBytes (takeBytes held l).1 m).1, (takeBytes held l).2 ++ (takeBytes (takeBytes held l).1 m).2) := by
  induction l generalizing held with
  | nil => simp [takeBytes]
  | cons b l ih => simp [takeBytes, ih]

/-! ### Replies and the error count (R197, R202) -/

theorem holdReply_replies (r : Reply) (s : State) : (holdReply r s).sli.replies = s.sli.replies ++ [r] := rfl
theorem holdReply_notices (r : Reply) (s : State) : (holdReply r s).sli.notices = s.sli.notices := rfl
@[simp] theorem holdReply_clock (r : Reply) (s : State) : (holdReply r s).clock = s.clock := rfl
@[simp] theorem holdReply_stc (r : Reply) (s : State) : (holdReply r s).stc = s.stc := rfl
@[simp] theorem holdReply_axs (r : Reply) (s : State) : (holdReply r s).axs = s.axs := rfl
@[simp] theorem holdReply_psq (r : Reply) (s : State) : (holdReply r s).psq = s.psq := rfl
@[simp] theorem holdReply_svc (r : Reply) (s : State) : (holdReply r s).svc = s.svc := rfl
@[simp] theorem holdReply_lgu (r : Reply) (s : State) : (holdReply r s).lgu = s.lgu := rfl
@[simp] theorem holdReply_glc (r : Reply) (s : State) : (holdReply r s).glc = s.glc := rfl
@[simp] theorem holdReply_stp (r : Reply) (s : State) : (holdReply r s).stp = s.stp := rfl
@[simp] theorem holdReply_aeu (r : Reply) (s : State) : (holdReply r s).aeu = s.aeu := rfl
@[simp] theorem holdReply_zmn (r : Reply) (s : State) : (holdReply r s).zmn = s.zmn := rfl
@[simp] theorem holdReply_pmx (r : Reply) (s : State) : (holdReply r s).pmx = s.pmx := rfl
@[simp] theorem holdReply_ev (r : Reply) (s : State) : (holdReply r s).ev = s.ev := rfl
@[simp] theorem holdReply_pending (r : Reply) (s : State) : (holdReply r s).pending = s.pending := rfl
@[simp] theorem holdReply_linkErrors (r : Reply) (s : State) : (holdReply r s).sli.linkErrors = s.sli.linkErrors := rfl

theorem countLinkError_eq (s : State) :
    countLinkError s = { s with sli := { s.sli with linkErrors := min (s.sli.linkErrors + 1) 65535 } } := by
  simp [countLinkError, State.modLink, satAdd_eq_min]

/-! ### Notices (R205, R206) -/

theorem offer_of_room {n : Notice} (h : s.sli.notices.length < 32) :
    (offer n s).sli.notices = s.sli.notices ++ [n] ∧ (offer n s).sli.noticesLost = s.sli.noticesLost := by
  have h' : ¬ 32 ≤ s.sli.notices.length := by omega
  simp [offer, State.modLink, queueOffer, Config.noticeCap, h, h']

theorem length_eraseLastP_le {α : Type} (p : α → Bool) (l : List α) : (eraseLastP p l).length ≤ l.length := by
  simpa [eraseLastP] using (List.eraseP_sublist (l := l.reverse) (p := p)).length_le

theorem length_eraseLastP_lt {α : Type} {p : α → Bool} {l : List α} (h : l.any p = true) :
    (eraseLastP p l).length < l.length := by
  obtain ⟨x, hx, hp⟩ := List.any_eq_true.1 h
  have := List.length_eraseP_of_mem (List.mem_reverse.2 hx) hp
  have hl := List.length_pos_of_mem hx
  simp [eraseLastP, this]; omega

/-- The notice queue never holds more than 32 notices. -/
theorem offer_length_le {n : Notice} (h : s.sli.notices.length ≤ 32) : (offer n s).sli.notices.length ≤ 32 := by
  show (queueOffer s.sli.notices n).length ≤ 32
  unfold queueOffer Config.noticeCap
  split
  · simp; omega
  · split
    · rename_i h1
      have := length_eraseLastP_lt h1.2
      rw [List.length_append, List.length_singleton]; omega
    · exact h

/-! ### Taking a frame (R198 to R202) -/

/-- Every form a command's taking can have: ignored, dropped by its delivery, dropped for want of room, refused, or
executed. -/
theorem command_cases (code : Byte) (length : List Byte → Nat) (body : List Byte → State → Answer) (f : Frame) (s : State) :
    (s.delivery f ≠ .addressed ∧ command code length body f s = s.received) ∨
    (s.delivery f = .addressed ∧ 4 ≤ s.sli.replies.length ∧ command code length body f s = countLinkError s.received) ∨
    (s.delivery f = .addressed ∧ s.sli.replies.length < 4 ∧
      ∃ a, a = accept length false body f s.received ∧
        command code length body f s = holdReply (answerReply code f s.received a) (a.after s.received)) := by
  unfold command
  cases hd : s.delivery f
  · exact .inl ⟨by simp, rfl⟩
  · exact .inl ⟨by simp, rfl⟩
  · by_cases h : 4 ≤ s.sli.replies.length
    · exact .inr (.inl ⟨rfl, h, by simp [addressed, Config.replyCap, h]⟩)
    · exact .inr (.inr ⟨rfl, by omega, _, rfl, by simp [addressed, Config.replyCap, h]⟩)

/-- A frame that passes the Address, Form and Pending groups is answered by its command's own tests and effect. -/
theorem command_of_takes {code : Byte} {length : List Byte → Nat} {body : List Byte → State → Answer} {f : Frame} {n : Nat}
    (h : s.takes f n) (hn : length f.payload = n) :
    command code length body f s =
      holdReply (answerReply code f s.received (body f.payload s.received))
        ((body f.payload s.received).after s.received) := by
  obtain ⟨h1, h2, h3, h4⟩ := h
  simp [command, h1, addressed, Config.replyCap, Nat.not_le.2 h4, accept, h2, hn, h3]

/-- The same for the five commands that group deliveries execute. -/
theorem groupCommand_of_takes {code : Byte} {body : State → Answer} {f : Frame} (h : s.takes f 0) :
    groupCommand code body f s =
      holdReply (answerReply code f s.received (body s.received)) ((body s.received).after s.received) := by
  obtain ⟨h1, h2, h3, h4⟩ := h
  simp [groupCommand, h1, addressed, Config.replyCap, Nat.not_le.2 h4, accept, h2, h3]

theorem groupCommand_of_group {code : Byte} {body : State → Answer} {f : Frame} (h : s.takesByGroup f) :
    groupCommand code body f s = (body s.received).after s.received := by
  obtain ⟨h1, h2, h3⟩ := h
  simp [groupCommand, h1, h2, h3]

end Sys2Proof.Machine
end

