-- ==== Sys2Proof/Laws/Matrix.lean ====
section
/-!
SUPPORT. Laws/Matrix.lean: what a raising, a lowering, a change of actuator state, a hold and everything these bring about
can never touch. `State.outer` holds those parts of State; each shared operation of chapters 2, 4, 5 and 10 keeps it.
-/
namespace Sys2Proof.Machine

/-- The blocks and registers outside the reach of the matrix, the actuators' states, the groups and the sequencer. -/
def State.outer (s : State) :=
  (s.clock, s.axs, s.glc, s.stp, s.aeu, s.zmn, s.pending, s.svc.windows,
    (s.stc.settings, s.stc.address, s.stc.haltOpen, s.stc.restartPending, s.stc.resetRecord),
    (s.sli.replies, s.sli.sendDue, s.sli.linkErrors))

/-! ### What the projection gives -/

variable {s t : State}

theorem outer_clock (h : t.outer = s.outer) : t.clock = s.clock := congrArg Prod.fst h
theorem outer_axs (h : t.outer = s.outer) : t.axs = s.axs := congrArg (fun x => x.2.1) h
theorem outer_glc (h : t.outer = s.outer) : t.glc = s.glc := congrArg (fun x => x.2.2.1) h
theorem outer_stp (h : t.outer = s.outer) : t.stp = s.stp := congrArg (fun x => x.2.2.2.1) h
theorem outer_aeu (h : t.outer = s.outer) : t.aeu = s.aeu := congrArg (fun x => x.2.2.2.2.1) h
theorem outer_zmn (h : t.outer = s.outer) : t.zmn = s.zmn := congrArg (fun x => x.2.2.2.2.2.1) h
theorem outer_pending (h : t.outer = s.outer) : t.pending = s.pending := congrArg (fun x => x.2.2.2.2.2.2.1) h
theorem outer_windows (h : t.outer = s.outer) : t.svc.windows = s.svc.windows :=
  congrArg (fun x => x.2.2.2.2.2.2.2.1) h
theorem outer_replies (h : t.outer = s.outer) : t.sli.replies = s.sli.replies :=
  congrArg (fun x => x.2.2.2.2.2.2.2.2.2.1) h
theorem outer_settings (h : t.outer = s.outer) : t.stc.settings = s.stc.settings :=
  congrArg (fun x => x.2.2.2.2.2.2.2.2.1.1) h

/-- A choice between two states keeps what both keep. -/
@[simp] theorem outer_ite (p : Prop) [Decidable p] (x y : State) :
    (if p then x else y).outer = if p then x.outer else y.outer := apply_ite State.outer p x y

/-! ### The named updates -/

@[simp] theorem modSeq_outer (f : Sequencer → Sequencer) (s : State) : (s.modSeq f).outer = s.outer := rfl
@[simp] theorem modAct_outer (a : Fin 8) (f : Actuator → Actuator) (s : State) : (s.modAct a f).outer = s.outer := rfl
@[simp] theorem modGroup_outer (g : Fin 4) (f : Group → Group) (s : State) : (s.modGroup g f).outer = s.outer := rfl
@[simp] theorem modPmx_outer (f : Protection → Protection) (s : State) : (s.modPmx f).outer = s.outer := rfl
@[simp] theorem modEntry_outer (e : Fin 40) (f : ProtEntry → ProtEntry) (s : State) : (s.modEntry e f).outer = s.outer := rfl
@[simp] theorem setCond_outer (c : Cond) (b : Bool) (s : State) : (setCond c b s).outer = s.outer := rfl
@[simp] theorem offer_outer (n : Notice) (s : State) : (offer n s).outer = s.outer := rfl
@[simp] theorem ev_outer (e : EventBuffer) (s : State) : ({ s with ev := e } : State).outer = s.outer := rfl
@[simp] theorem mode_outer (m : StationMode) (s : State) :
    (s.modStc fun c => { c with mode := m }).outer = s.outer := rfl

/-! ### The sequencer (chapter 2) -/

@[simp] theorem seqChange_outer (f : Sequencer → Sequencer) (s : State) : (seqChange f s).outer = s.outer := rfl

@[simp] theorem seqStop_outer (s : State) : (seqStop s).outer = s.outer := by simp [seqStop]

@[simp] theorem seqStopIfHeld_outer (s : State) : (seqStopIfHeld s).outer = s.outer := by simp [seqStopIfHeld]

@[simp] theorem addReason_outer (r : HoldReason) (s : State) : (addReason r s).outer = s.outer := by
  simp [addReason]

@[simp] theorem runFrom_outer (i : Nat) (s : State) : (runFrom i s).outer = s.outer := by simp [runFrom]

@[simp] theorem enterNext_outer (s : State) : (enterNext s).outer = s.outer := by simp [enterNext]

@[simp] theorem seqGoOn_outer (s : State) : (seqGoOn s).outer = s.outer := by
  unfold seqGoOn; dsimp only; split <;> simp

@[simp] theorem removeReasons_outer (f : HoldSet → HoldSet) (s : State) : (removeReasons f s).outer = s.outer := by
  unfold removeReasons; dsimp only; split <;> simp

@[simp] theorem seqAbort_outer (s : State) : (seqAbort s).outer = s.outer := by simp [seqAbort]

@[simp] theorem seqIdle_outer (s : State) : (seqIdle s).outer = s.outer := by simp [seqIdle]

/-! ### Actuator states, derates and groups (chapters 4 and 5) -/

@[simp] theorem groupMembership_outer (a : Fin 8) (s : State) : (groupMembership a s).outer = s.outer := by
  unfold groupMembership; split <;> simp

@[simp] theorem writeDerate_outer (a : Fin 8) (d : Int) (s : State) : (writeDerate a d s).outer = s.outer := by
  unfold writeDerate; dsimp only; split
  · simp
  · repeat' (first | split | rfl)

@[simp] theorem lostEdge_outer (b : Bool) (s : State) : (lostEdge b s).outer = s.outer := by simp [lostEdge]

@[simp] theorem lowerLater_outer (c : Cond) (s : State) : (lowerLater c s).outer = s.outer := by simp [lowerLater]

@[simp] theorem clearRegs_outer (a : Fin 8) (s : State) : (clearRegs a s).outer = s.outer := by simp [clearRegs]

@[simp] theorem leaveUnloading_outer (a : Fin 8) (s : State) : (leaveUnloading a s).outer = s.outer := by
  simp [leaveUnloading]

@[simp] theorem setActState_outer (a : Fin 8) (x : ActState) (c : ActCause) (s : State) :
    (setActState a x c s).outer = s.outer := by
  simp [setActState]

@[simp] theorem enterStarting_outer (a : Fin 8) (b : Bool) (s : State) : (enterStarting a b s).outer = s.outer := by
  simp [enterStarting]

@[simp] theorem enterRaising_outer (a : Fin 8) (c : ActCause) (s : State) : (enterRaising a c s).outer = s.outer := by
  simp [enterRaising]

@[simp] theorem enterActive_outer (a : Fin 8) (s : State) : (enterActive a s).outer = s.outer := by
  simp [enterActive]

@[simp] theorem enterUnloading_outer (a : Fin 8) (b : Bool) (c : ActCause) (s : State) :
    (enterUnloading a b c s).outer = s.outer := by
  simp [enterUnloading]

@[simp] theorem completeUnload_outer (a : Fin 8) (s : State) : (completeUnload a s).outer = s.outer := by
  simp [completeUnload]

@[simp] theorem actOff_outer (a : Fin 8) (c : ActCause) (s : State) : (actOff a c s).outer = s.outer := by
  unfold actOff; split <;> simp

@[simp] theorem unloadAction_outer (a : Fin 8) (s : State) : (unloadAction a s).outer = s.outer := by
  unfold unloadAction; split <;> simp

@[simp] theorem tripAction_outer (a : Fin 8) (s : State) : (tripAction a s).outer = s.outer := by
  unfold tripAction; split
  · refine (forAsc_same State.outer (fun b s => ?_) _).trans (setActState_outer ..)
    split <;> simp
  · rfl

@[simp] theorem enterSafe_outer (s : State) : (enterSafe s).outer = s.outer := by
  unfold enterSafe; split
  · rfl
  · exact (forAsc_same State.outer (fun a s => modAct_outer ..) _).trans (seqAbort_outer _)

/-! ### The matrix (chapter 10) -/

@[simp] theorem merge_outer (s : State) : (merge s).outer = s.outer := by
  refine forAsc_same State.outer (fun a s => ?_) s
  dsimp only; split <;> simp

@[simp] theorem applyAction_outer (x : ProtConfig) (m : ActSet) (s : State) : (applyAction x m s).outer = s.outer := by
  have walk (f : Fin 8 → State → State) (h : ∀ a s, (f a s).outer = s.outer) (s : State) :
      (forAsc 8 (fun a s => if ActSet.has m a then f a s else s) s).outer = s.outer := by
    refine forAsc_same State.outer (fun a s => ?_) s
    split <;> simp [h]
  unfold applyAction; split
  · rfl
  · rfl
  · simp
  · dsimp only; split <;> simp [walk _ unloadAction_outer]
  · dsimp only; split <;> simp [walk _ tripAction_outer]

@[simp] theorem takeRaising_outer (e : Fin 40) (c : Cond) (s : State) : (takeRaising e c s).outer = s.outer := by
  simp [takeRaising]

@[simp] theorem lower_outer (c : Cond) (s : State) : (lower c s).outer = s.outer := by
  unfold lower; split
  · exact (merge_outer _).trans rfl
  · rfl

@[simp] theorem flush_outer (s : State) : (flush s).outer = s.outer := by
  unfold flush; dsimp only
  refine (foldl_same State.outer (fun s c => lower_outer c s) _ _).trans ?_
  exact foldl_same State.outer (fun s n => offer_outer n s) _ _

/-- A raising moves actuators, the plan, the groups, the mode, the entries and the notices, and nothing else. -/
@[simp] theorem raise_outer (c : Cond) (s : State) : (raise c s).outer = s.outer := by
  unfold raise; split
  · rfl
  · rw [flush_outer, merge_outer]
    exact (forAsc_same State.outer (fun e s => takeRaising_outer e c s) _).trans rfl

@[simp] theorem setTo_outer (c : Cond) (b : Bool) (s : State) : (setTo c b s).outer = s.outer := by
  unfold setTo; split <;> simp

@[simp] theorem judgeEntry_outer (e : Fin 40) (s : State) : (judgeEntry e s).outer = s.outer := by
  unfold judgeEntry; split
  · rfl
  · refine foldl_same State.outer (fun s c => ?_) _ _
    split <;> simp

/-! ### Raisings and lowerings that change nothing (R177) -/

theorem raise_of_raised {c : Cond} (h : s.raised c = true) : raise c s = s := by simp [raise, h]
theorem lower_of_lowered {c : Cond} (h : s.raised c = false) : lower c s = s := by simp [lower, h]

/-- With nothing formed and waiting, the end of an event does nothing. -/
theorem flush_of_empty (h : s.ev = {}) : flush s = s := by
  obtain ⟨clock, stc, sli, axs, psq, svc, lgu, glc, stp, aeu, zmn, pmx, ev, pending⟩ := s
  dsimp only at h; subst h
  rfl

end Sys2Proof.Machine
end

