-- ==== Sys2Proof/Laws/Sample.lean ====
section
/-!
SUPPORT. Laws/Sample.lean: in whatever order the work of a control sample is put, each zone of its tick and each mark is
worked once, in its own order, and each condition is judged once (R137, R168, R185); what judging one can do; and what the bytes of a row make of the link (R196, R197).
-/
namespace Sys2Proof.Machine

/-- The zone a piece of work evaluates. -/
def SampleWork.zone? : SampleWork → Option (Fin 16)
  | .zone z => some z
  | .mark _ | .cond .. | .completion _ => none

/-- The mark a piece of work takes. -/
def SampleWork.mark? : SampleWork → Option Mark
  | .mark m => some m
  | .zone _ | .cond .. | .completion _ => none

theorem workOf_zones (first : List SampleItem) (zones : List (Fin 16)) (marks : List Mark) :
    (workOf first zones marks).filterMap SampleWork.zone? = zones := by
  induction first generalizing zones marks with
  | nil =>
    rw [workOf, List.filterMap_append, List.filterMap_map, List.filterMap_map]
    simp [Function.comp_def, SampleWork.zone?]
  | cons i l ih =>
    cases i <;> cases zones <;> cases marks <;> simp only [workOf, List.filterMap_cons, SampleWork.zone?, ih]

theorem workOf_marks (first : List SampleItem) (zones : List (Fin 16)) (marks : List Mark) :
    (workOf first zones marks).filterMap SampleWork.mark? = marks := by
  induction first generalizing zones marks with
  | nil =>
    rw [workOf, List.filterMap_append, List.filterMap_map, List.filterMap_map]
    simp [Function.comp_def, SampleWork.mark?]
  | cons i l ih =>
    cases i <;> cases zones <;> cases marks <;> simp only [workOf, List.filterMap_cons, SampleWork.mark?, ih]

/-- The zones of a tick are evaluated once each, ascending, wherever `first` puts them. -/
theorem sampleWork_zones (first : List SampleItem) (zones : List (Fin 16)) (marks : List Mark) :
    (sampleWork first zones marks).filterMap SampleWork.zone? = zones := by
  simp [sampleWork, List.filterMap_append, workOf_zones]

/-- The marks of a sample are taken once each, in track order, wherever `first` puts them. -/
theorem sampleWork_marks (first : List SampleItem) (zones : List (Fin 16)) (marks : List Mark) :
    (sampleWork first zones marks).filterMap SampleWork.mark? = marks := by
  simp [sampleWork, List.filterMap_append, workOf_marks]

theorem workOf_count (k : ActCond) (a : Fin 8) (first : List SampleItem) (zones : List (Fin 16)) (marks : List Mark) :
    (workOf first zones marks).count (.cond k a) = first.count (.cond k a) := by
  induction first generalizing zones marks with
  | nil => simp [workOf, List.count_eq_zero]
  | cons i l ih => cases i <;> cases zones <;> cases marks <;> simp [workOf, List.count_cons, ih]

theorem onceEach_count (k : ActCond) (a : Fin 8) (seen first : List SampleItem) :
    (onceEach seen first).count (.cond k a) = if .cond k a ∈ first ∧ .cond k a ∉ seen then 1 else 0 := by
  induction first generalizing seen with
  | nil => simp [onceEach]
  | cons i l ih =>
    cases i with
    | zone | mark => simp [onceEach, ih]
    | cond k' a' =>
      by_cases he : SampleItem.cond k' a' = .cond k a
      · by_cases hs : SampleItem.cond k a ∈ seen <;> simp [onceEach, he, hs, ih]
      · have ne : SampleItem.cond k a ≠ .cond k' a' := fun h => he h.symm
        by_cases hs : SampleItem.cond k' a' ∈ seen <;> simp [onceEach, he, ne, hs, ih]
    | completion a' => by_cases hs : SampleItem.completion a' ∈ seen <;> simp [onceEach, hs, ih]

/-- Every condition of every actuator is judged exactly once at a sample, wherever `first` puts it. -/
theorem sampleWork_cond (k : ActCond) (a : Fin 8) (first : List SampleItem) (zones : List (Fin 16)) (marks : List Mark) :
    (sampleWork first zones marks).count (.cond k a) = 1 := by
  have all : sampleItems.count (.cond k a) = 1 := by revert a; cases k <;> decide +kernel
  rw [sampleWork, List.count_append, workOf_count, workOf_count, onceEach_count]
  by_cases h : SampleItem.cond k a ∈ first
  · simp [h, List.count_eq_zero]
  · rw [List.count_filter (by simpa using h), all]; simp [h]

/-- What judging a condition can do: nothing where nothing is due by the values of the sample; else the lowering, or the
raising, after which a condition of the loop is lowered where the servo stands still. -/
theorem judgeCond_cases (k : ActCond) (a : Fin 8) (v s : State) :
    (dueChange k a v = none ∧ judgeCond k a v s = s) ∨
    (dueChange k a v = some false ∧ judgeCond k a v s = lower (.act k a) s) ∨
    (dueChange k a v = some true ∧
      ((loopCond k = true ∧ ((raise (.act k a) s).act a).state.servoRuns = false ∧
          judgeCond k a v s = lower (.act k a) (raise (.act k a) s)) ∨
        ((loopCond k = true → ((raise (.act k a) s).act a).state.servoRuns = true) ∧
          judgeCond k a v s = raise (.act k a) s))) := by
  unfold judgeCond
  rcases dueChange k a v with _ | _ | _ <;> simp
  by_cases h : loopCond k = true ∧ ((raise (.act k a) s).act a).state.servoRuns = false
  · simp [h]
  · have h' : loopCond k = true → ((raise (.act k a) s).act a).state.servoRuns = true := by simpa using h
    exact .inr ⟨h', fun hk hr => absurd (h' hk) (by simp [hr])⟩

/-- Counting link errors changes the count alone, each time by one up to 65535. -/
theorem countLinkErrors_eq {α : Type} (l : List α) (s : State) (h : s.sli.linkErrors ≤ 65535) :
    l.foldl (fun s _ => countLinkError s) s =
      s.modLink fun x => { x with linkErrors := min 65535 (x.linkErrors + l.length) } := by
  induction l generalizing s with
  | nil => simp [State.modLink, Nat.min_eq_right h]
  | cons _ l ih =>
    rw [List.foldl_cons, ih _ (by simp [countLinkError, State.modLink, satAdd]; split <;> omega)]
    simp only [countLinkError, State.modLink, satAdd, List.length_cons]
    congr 2
    split <;> omega

/-- Bytes change the receiver and the error count alone: one error for each frame among them that fails. -/
theorem receiveBytes_eq (bytes : List Byte) (s : State) (h : s.sli.linkErrors ≤ 65535) :
    receiveBytes bytes s = s.modLink fun x =>
      { x with rx := (takeBytes s.sli.rx bytes).1
               linkErrors := min 65535 (x.linkErrors + ((takeBytes s.sli.rx bytes).2.filter FrameEnd.failed).length) } := by
  unfold receiveBytes
  exact countLinkErrors_eq _ _ h

end Sys2Proof.Machine
end

