-- ==== Sys2Proof/Laws/Units.lean ====
section
/-!
SUPPORT. Laws/Units.lean: what the shared operations of the strain processor, the gauge link, the emission unit and the zone
monitor can never touch (chapters 6 to 9), in the manner of Laws/Matrix.lean.
-/
namespace Sys2Proof.Machine

/-- What the period of a bin timer that restarts without a tick can be, whatever the free value is (R14, R167). -/
theorem ticklessBinTime_cases (s : State) :
    ticklessBinTime s = s.stc.settings.binTime ∨ ticklessBinTime s = s.zmn.timerSec := by
  unfold ticklessBinTime; split <;> simp

/-- What none of the four units touches: slots, queue of commands, windows, settings and held replies. -/
def State.rim (s : State) :=
  (s.axs, s.pending, s.svc.windows,
    (s.stc.settings, s.stc.address, s.stc.haltOpen, s.stc.restartPending, s.stc.resetRecord),
    (s.sli.replies, s.sli.sendDue, s.sli.linkErrors))

/-- What the zone monitor never touches, time apart. -/
def State.zoneRim (s : State) := (s.rim, s.glc, s.stp, s.aeu)

/-- What the strain processor never touches. -/
def State.strainRim (s : State) := (s.rim, s.clock, s.glc, s.aeu, s.zmn)

/-- What the gauge link never touches. -/
def State.satRim (s : State) := (s.rim, s.aeu, s.zmn)

/-- What the emission unit never touches. -/
def State.aeRim (s : State) := (s.rim, s.glc, s.stp)

variable {s t : State}

/-! ### A raising or a lowering touches none of it -/

theorem rim_of_outer (h : t.outer = s.outer) : t.rim = s.rim :=
  congrArg (fun x => (x.2.1, x.2.2.2.2.2.2.1, x.2.2.2.2.2.2.2.1, x.2.2.2.2.2.2.2.2.1, x.2.2.2.2.2.2.2.2.2)) h

theorem zoneRim_of_outer (h : t.outer = s.outer) : t.zoneRim = s.zoneRim := by
  simp [State.zoneRim, rim_of_outer h, outer_glc h, outer_stp h, outer_aeu h]

theorem strainRim_of_outer (h : t.outer = s.outer) : t.strainRim = s.strainRim := by
  simp [State.strainRim, rim_of_outer h, outer_clock h, outer_glc h, outer_aeu h, outer_zmn h]

theorem satRim_of_outer (h : t.outer = s.outer) : t.satRim = s.satRim := by
  simp [State.satRim, rim_of_outer h, outer_aeu h, outer_zmn h]

theorem satRim_of_strainRim (h : t.strainRim = s.strainRim) : t.satRim = s.satRim :=
  congrArg (fun x => (x.1, x.2.2.2.1, x.2.2.2.2)) h

theorem aeRim_of_zoneRim (h : t.zoneRim = s.zoneRim) : t.aeRim = s.aeRim :=
  congrArg (fun x => (x.1, x.2.1, x.2.2.1)) h

/-! ### The zone monitor (chapter 9) -/

theorem zoneConditions_outer (z : Fin 16) (old new : Level) (s : State) : (zoneConditions z old new s).outer = s.outer := by
  unfold zoneConditions; dsimp only; repeat' (first | split | simp)

@[simp] theorem modZmn_zoneRim (f : Zones → Zones) (s : State) : (s.modZmn f).zoneRim = s.zoneRim := rfl
@[simp] theorem modZone_zoneRim (z : Fin 16) (f : Zone → Zone) (s : State) : (s.modZone z f).zoneRim = s.zoneRim := rfl

@[simp] theorem evaluateZone_zoneRim (c : ZoneCause) (z : Fin 16) (s : State) :
    (evaluateZone c z s).zoneRim = s.zoneRim := by
  unfold evaluateZone; dsimp only; split
  · rfl
  · exact (zoneRim_of_outer (zoneConditions_outer ..)).trans rfl

@[simp] theorem evaluateEnabled_zoneRim (c : ZoneCause) (z : Fin 16) (s : State) :
    (evaluateEnabled c z s).zoneRim = s.zoneRim := by
  unfold evaluateEnabled; split <;> simp

@[simp] theorem activityTick_zoneRim (k : TickKind) (s : State) : (activityTick k s).zoneRim = s.zoneRim :=
  (forAsc_same State.zoneRim (fun z s => evaluateEnabled_zoneRim .tick z s) _).trans rfl

@[simp] theorem zoneEvent_zoneRim (z : Fin 16) (h e : Nat) (s : State) : (zoneEvent z h e s).zoneRim = s.zoneRim :=
  (evaluateZone_zoneRim ..).trans rfl

@[simp] theorem clearZoneBins_zoneRim (s : State) : (clearZoneBins s).zoneRim = s.zoneRim :=
  (forAsc_same State.zoneRim (fun z s => evaluateEnabled_zoneRim .clear z s) _).trans rfl

@[simp] theorem binExpiry_zoneRim (s : State) : (binExpiry s).zoneRim = s.zoneRim := by
  unfold binExpiry; dsimp only; split
  · rfl
  · exact (activityTick_zoneRim ..).trans rfl

/-! ### The strain processor (chapter 7) -/

@[simp] theorem modStp_strainRim (f : Strain → Strain) (s : State) : (s.modStp f).strainRim = s.strainRim := rfl
@[simp] theorem modChan_strainRim (c : Fin 64) (f : Chan → Chan) (s : State) : (s.modChan c f).strainRim = s.strainRim := rfl
@[simp] theorem modStiff_strainRim (k : Fin 8) (f : Stiff → Stiff) (s : State) :
    (s.modStiff k f).strainRim = s.strainRim := rfl
@[simp] theorem offer_strainRim (n : Notice) (s : State) : (offer n s).strainRim = s.strainRim := rfl
@[simp] theorem offerSnap_strainRim (r : Snapshot) (s : State) : (offerSnap r s).strainRim = s.strainRim := rfl
@[simp] theorem lower_strainRim (c : Cond) (s : State) : (lower c s).strainRim = s.strainRim :=
  strainRim_of_outer (lower_outer ..)
@[simp] theorem setTo_strainRim (c : Cond) (b : Bool) (s : State) : (setTo c b s).strainRim = s.strainRim :=
  strainRim_of_outer (setTo_outer ..)

@[simp] theorem zeroingStep_strainRim (c : Fin 64) (raw : Int) (s : State) :
    (zeroingStep c raw s).strainRim = s.strainRim := by
  unfold zeroingStep; split
  · rfl
  · split <;> rfl

@[simp] theorem convert_strainRim (c : Fin 64) (raw : Int) (s : State) : (convert c raw s).strainRim = s.strainRim := by
  simp [convert]

@[simp] theorem convertSet_strainRim (x : Fin 4) (set : Vector Int 16) (s : State) :
    (convertSet x set s).strainRim = s.strainRim := by
  refine foldl_same State.strainRim (fun s c => ?_) _ _
  split <;> simp

@[simp] theorem failZeroing_strainRim (c : Fin 64) (k : Int) (s : State) : (failZeroing c k s).strainRim = s.strainRim := by
  unfold failZeroing; split <;> rfl

@[simp] theorem newStiffness_strainRim (k : Fin 8) (n : Nat) (s : State) :
    (newStiffness k n s).strainRim = s.strainRim := by
  unfold newStiffness; dsimp only; split <;> simp

@[simp] theorem clearStiffness_strainRim (k : Fin 8) (s : State) : (clearStiffness k s).strainRim = s.strainRim := by
  simp [clearStiffness]

@[simp] theorem fillPeak_strainRim (m : Mark) (s : State) : (fillPeak m s).strainRim = s.strainRim := by
  unfold fillPeak; split
  · rfl
  · split <;> rfl

@[simp] theorem takeMark_strainRim (m : Mark) (s : State) : (takeMark m s).strainRim = s.strainRim := by
  unfold takeMark
  split
  · rfl
  · split
    · dsimp only; rw [fillPeak_strainRim]; split <;> rfl
    · split
      · dsimp only
        rw [offerSnap_strainRim]
        split
        · split <;> rfl
        · rw [newStiffness_strainRim]; split <;> rfl
      · rfl

@[simp] theorem dwellEndTrigger_strainRim (s : State) : (dwellEndTrigger s).strainRim = s.strainRim := by
  refine forAsc_same State.strainRim (fun k s => ?_) _
  split <;> rfl

@[simp] theorem clearAllStiffness_strainRim (s : State) : (clearAllStiffness s).strainRim = s.strainRim :=
  forAsc_same State.strainRim (fun k s => by simp) _

/-! ### The gauge link (chapter 6) -/

@[simp] theorem modSat_satRim (x : Fin 4) (f : Sat → Sat) (s : State) : (s.modSat x f).satRim = s.satRim := rfl
@[simp] theorem advanceTo_satRim (n : Nat) (s : State) : (s.advanceTo n).satRim = s.satRim := rfl
@[simp] theorem convertSet_satRim (x : Fin 4) (set : Vector Int 16) (s : State) :
    (convertSet x set s).satRim = s.satRim := satRim_of_strainRim (convertSet_strainRim ..)

@[simp] theorem satChange_satRim (x : Fin 4) (c : SatCause) (f : Sat → Sat) (s : State) :
    (satChange x c f s).satRim = s.satRim := by
  have fails (s : State) : ((slotChans x).foldl (fun s c => failZeroing c 0 s) s).satRim = s.satRim :=
    foldl_same State.satRim (fun s c => satRim_of_strainRim (failZeroing_strainRim c 0 s)) _ _
  unfold satChange; dsimp only
  split
  · refine (satRim_of_outer (raise_outer ..)).trans ?_
    split <;> [exact (fails _).trans rfl; rfl]
  · split
    · refine (satRim_of_outer (lower_outer ..)).trans ?_
      split <;> [exact (fails _).trans rfl; rfl]
    · split <;> [exact (fails _).trans rfl; rfl]

@[simp] theorem toSettling_satRim (x : Fin 4) (c : SatCause) (f : Sat → Sat) (s : State) :
    (toSettling x c f s).satRim = s.satRim := satChange_satRim ..

@[simp] theorem toLive_satRim (x : Fin 4) (s : State) : (toLive x s).satRim = s.satRim := satChange_satRim ..

@[simp] theorem pollTime_satRim (x : Fin 4) (s : State) : (pollTime x s).satRim = s.satRim := by
  unfold pollTime; dsimp only; split
  · rfl
  · rw [modSat_satRim]; split
    · exact (satChange_satRim ..).trans rfl
    · rfl

@[simp] theorem rejectEntry_satRim (x : Fin 4) (e : Entry) (s : State) : (rejectEntry x e s).satRim = s.satRim := rfl

@[simp] theorem settleSet_satRim (x : Fin 4) (a : SatAnswer) (s : State) : (settleSet x a s).satRim = s.satRim := by
  unfold settleSet; dsimp only; split
  · split
    · rfl
    · simp
  · rfl

@[simp] theorem freshOrInvalid_satRim (x : Fin 4) (a : SatAnswer) (s : State) :
    (freshOrInvalid x a s).satRim = s.satRim := by
  unfold freshOrInvalid; split
  · simp
  · split <;> simp

@[simp] theorem answerAnswering_satRim (x : Fin 4) (c : Bool) (a : SatAnswer) (s : State) :
    (answerAnswering x c a s).satRim = s.satRim := by
  unfold answerAnswering; dsimp only
  split <;> repeat' (first | split | simp)

@[simp] theorem answerReturning_satRim (x : Fin 4) (a : SatAnswer) (s : State) :
    (answerReturning x a s).satRim = s.satRim := by
  unfold answerReturning; dsimp only
  split
  · simp
  · split <;> simp

@[simp] theorem takeAnswer_satRim (x : Fin 4) (a : SatAnswer) (s : State) : (takeAnswer x a s).satRim = s.satRim := by
  unfold takeAnswer; dsimp only
  split
  · split <;> simp
  · rfl

@[simp] theorem settleExpiry_satRim (x : Fin 4) (s : State) : (settleExpiry x s).satRim = s.satRim := by
  unfold settleExpiry; dsimp only
  split
  · split <;> simp
  · rfl

/-! ### The emission unit (chapter 8) -/

@[simp] theorem modAeu_aeRim (f : Emission → Emission) (s : State) : (s.modAeu f).aeRim = s.aeRim := rfl
@[simp] theorem modAe_aeRim (c : Fin 12) (f : AeChan → AeChan) (s : State) : (s.modAe c f).aeRim = s.aeRim := rfl
@[simp] theorem advanceToHit_aeRim (x : HitTime) (s : State) : (s.advanceToHit x).aeRim = s.aeRim := rfl

@[simp] theorem closeEvent_aeRim (e : OpenEvent) (s : State) : (closeEvent e s).aeRim = s.aeRim := by
  unfold closeEvent; dsimp only; split
  · exact (aeRim_of_zoneRim (zoneEvent_zoneRim ..)).trans rfl
  · rfl

theorem buildStep_aeRim (h : buildStep s = some t) : t.aeRim = s.aeRim := by
  unfold buildStep at h
  split at h <;> (try split at h) <;> (try split at h) <;> simp at h <;> subst h <;> simp

@[simp] theorem build_aeRim (n : Nat) (s : State) : (build n s).aeRim = s.aeRim := by
  induction n generalizing s with
  | zero => rfl
  | succ n ih =>
    unfold build; split
    · rfl
    · rename_i h; exact (ih _).trans (buildStep_aeRim h)

@[simp] theorem buildAll_aeRim (s : State) : (buildAll s).aeRim = s.aeRim := build_aeRim ..

@[simp] theorem takeCrossing_aeRim (c : Fin 12) (x : Crossing) (s : State) : (takeCrossing c x s).aeRim = s.aeRim := by
  unfold takeCrossing; dsimp only; split
  · split
    · simp
    · exact (buildAll_aeRim _).trans rfl
  · unfold joinHit; dsimp only; split <;> simp
  · simp

@[simp] theorem endHit_aeRim (c : Fin 12) (l : Bool) (s : State) : (endHit c l s).aeRim = s.aeRim := by
  unfold endHit; dsimp only; rw [buildAll_aeRim]; split <;> rfl

@[simp] theorem hdtExpiry_aeRim (c : Fin 12) (s : State) : (hdtExpiry c s).aeRim = s.aeRim := by
  unfold hdtExpiry; split <;> simp

@[simp] theorem durationExpiry_aeRim (c : Fin 12) (s : State) : (durationExpiry c s).aeRim = s.aeRim := by
  unfold durationExpiry; split <;> simp

@[simp] theorem lockoutExpiry_aeRim (c : Fin 12) (s : State) : (lockoutExpiry c s).aeRim = s.aeRim := by
  unfold lockoutExpiry; split <;> simp

@[simp] theorem windowExpiry_aeRim (s : State) : (windowExpiry s).aeRim = s.aeRim := by
  unfold windowExpiry; split <;> simp

end Sys2Proof.Machine
end

