-- ==== Sys2Proof/Tests/Slice0.lean ====
section
/-!
SUPPORT. Tests/Slice0.lean: the WellFormed smoke tests, worked examples of the manual run one step at a time, and for every
statement with hypotheses states and operands that meet them, clause by clause.
-/
namespace Sys2Proof.Tests

-- One theorem after the other: each that waits for the kernel would hold a thread of its own.
set_option Elab.async false

open Sys2Proof Sys2Proof.Machine

/-! ### Helpers -/

/-- The state a command leaves. -/
def after (i : Instr) (s : State) : State :=
  match exec i s with
  | .next t => t
  | .fault f => nomatch f
  | .refused _ => State.reset

/-- A frame addressed to the station after reset. -/
def to1 (payload : List Byte) : Frame := { dst := 1, src := 0, tag := 9, payload := payload }

/-- A broadcast frame without payload. -/
def toAll : Frame := { dst := 0, src := 0, tag := 9, payload := [] }

/-- Readings of 0 everywhere. -/
def zeros : Readings := { force := Vector.replicate 8 0, stroke := Vector.replicate 8 0, first := [] }

/-- The station after reset, in RUN. -/
def inRun : State := State.reset.modStc fun c => { c with mode := .run }

/-- The station after reset, in SAFE. -/
def inSafe : State := State.reset.modStc fun c => { c with mode := .safe }

/-- Two windows that cover every actuator whole. -/
def wide (s : State) : State :=
  let w (q : Quantity) : Window := { enabled := true, quantity := q, lower := -32768, upper := 32767, acts := 255 }
  { s with svc := { s.svc with windows := (s.svc.windows.set 0 (w .force)).set 1 (w .stroke) } }

/-- Actuator a enabled and in a state. -/
def put (a : Fin 8) (x : ActState) (s : State) : State :=
  s.modAct a fun y => { y with state := x, cfg := { y.cfg with enabled := true } }

/-- RUN with A0 enabled and ACTIVE and every window wide. -/
def loaded : State := put 0 .active (wide inRun)

/-- A state whose plan runs a given first segment, with a given activity. -/
def running (seg : Segment) (x : Activity) (s : State) : State :=
  s.modSeq fun q => { q with plan := q.plan.set 0 seg, state := .running, activity := x }

/-- A CYCLE of 10 Hz, one cycle of amplitude 9000, a snapshot at each. -/
def wave : Segment := .cycle false 0 9000 1000 .sine 1 1

/-- Replies held. -/
def replies (n : Nat) (s : State) : State :=
  s.modLink fun l => { l with replies := List.replicate n { code := 1, tag := 1, payload := [] } }

/-- Notices queued. -/
def notices (n : Nat) (k : NoticeKind) (s : State) : State :=
  s.modLink fun l => { l with notices := List.replicate n { kind := k, time := 0, cycles := 0, subject := 0 } }

/-- A pending RESTART. -/
def waiting (s : State) : State := s.modStc fun c => { c with restartPending := true }

/-- A0 and A1 ACTIVE under FORCE control, members of G0 with weights 500 and 1, a handover due. -/
def grouped : State :=
  (put 1 .active loaded).modGroup 0 fun g =>
    { g with members := [(0, 500), (1, 1)], lru := [0, 1], due := true, reasons := { g.reasons with join := true } }

/-- A MANUAL snapshot of track 7. -/
def shot : Snapshot :=
  { kind := .manual, track := 7, cycles := 0, time := 0, level := 0, forces := [], deflection := none, stiffness := none
    strains := [] }

/-- Snapshots queued. -/
def shots (n : Nat) (s : State) : State := s.modStp fun p => { p with snaps := List.replicate n shot }

/-- A0 loaded, its sample of readings 0 bringing FORCE_LIMIT, which P2 takes with TRIP, and FOLLOWING, which P3 takes. -/
def strained (x : Action) : State :=
  let s := loaded.modAct 0 fun y =>
    { y with follow := 9, regs := { y.regs with c := 5000 }
             cfg := { y.cfg with forceLow := 1, followMs := 1, followLimit := 1 } }
  let p (k : CondKind) (x : Action) (v : Int) : ProtEntry :=
    { cfg := { kind := some k, inst := some 0, action := x, value := v, scope := .actuator, enabled := true } }
  s.modPmx fun m => { m with entries := (m.entries.set 2 (p .forceLimit .trip 0)).set 3 (p .following x 500) }

/-! ### WellFormed refuses -/

theorem test_wf_refuses_force_reading :
    (Instr.controlSample { zeros with force := zeros.force.set 3 32768 }).wf = false := by decide +kernel
theorem test_wf_refuses_stroke_reading :
    (Instr.rampEnd { zeros with stroke := zeros.stroke.set 3 (-32769) }).wf = false := by decide +kernel
theorem test_wf_refuses_item_twice :
    (Instr.controlSample { zeros with first := [.completion 0, .completion 0] }).wf = false := by decide +kernel
theorem test_wf_refuses_raw_reading :
    (Instr.satelliteAnswer 0 { set := Vector.replicate 16 2000001, valid := true, fresh := false, verdict := none
                               late := false }).wf = false := by decide +kernel
theorem test_wf_refuses_amplitude :
    (Instr.thresholdCrossing 0 { time := 0, amplitude := 101, energy := 0 }).wf = false := by decide +kernel
theorem test_wf_refuses_energy :
    (Instr.thresholdCrossing 0 { time := 0, amplitude := 0, energy := 256 }).wf = false := by decide +kernel
theorem test_wf_refuses_analog_reading : (Instr.auxiliaryAnalogSample 0 32768).wf = false := by decide +kernel
theorem test_wf_refuses_long_payload : (Instr.status (to1 (List.replicate 241 0))).wf = false := by decide +kernel
theorem test_wf_refuses_form_of_other_row : (Instr.aeChannel (to1 [0xFF, 0, 1])).wf = false := by decide +kernel
theorem test_wf_refuses_known_code : (Instr.unknownCommandCode 0x01 (to1 [])).wf = false := by decide +kernel
theorem test_wf_refuses_no_byte : (Instr.framingFailure []).wf = false := by decide +kernel
theorem test_wf_takes_marks_of_a_sample :
    (Instr.controlSample { zeros with first := [.mark, .mark, .zone, .zone, .completion 0] }).wf = true := by
  decide +kernel
theorem test_wf_takes_status : (Instr.status (to1 [])).wf = true := by decide +kernel

/-! ### Words, frames and the queue -/

/-- The check value of the CRC with polynomial 1021h from FFFFh over the digits 1 to 9 (R196). -/
theorem test_crc : crc16 [0x31, 0x32, 0x33, 0x34, 0x35, 0x36, 0x37, 0x38, 0x39] = 0x29B1 := by decide +kernel
theorem test_no_row_has_bits : decodeTableWord 8 1 = none := rfl
theorem test_withFetchWord : State.reset.withFetchWord 8 1 = State.reset := rfl
theorem test_step_takes_front :
    step { State.reset with pending := [.replySent, .deferredRestart] } =
      exec .replySent { State.reset with pending := [.deferredRestart] } := rfl

/-! ### Worked examples of the manual, and small steps computed by hand -/

/-- R2: 2.5 rounds to 3 and −2.5 to −3; 2.9 is truncated to 2 and −2.9 to −2. -/
theorem test_rounding :
    roundDiv 5 2 = 3 ∧ roundDiv (-5) 2 = -3 ∧ truncDiv 29 10 = 2 ∧ truncDiv (-29) 10 = -2 := by decide +kernel

/-- R34 by hand: a quarter of the way to the peak the sine stands at 0.70711 of the amplitude. -/
theorem test_sine : waveLevel 1000 9000 .sine 2500000 = 7364 ∧ waveLevel 1000 9000 .triangle 2500000 = 5500 := by
  decide +kernel

/-- R198: a station at address 13 with mask 3 takes 12, 14 and 15 as group deliveries. -/
theorem test_group_addresses :
    let s := State.reset.modStc fun c => { c with address := 13, settings := { c.settings with mask := 3 } }
    s.delivery { to1 [] with dst := 13 } = .addressed ∧ s.delivery { to1 [] with dst := 12 } = .group ∧
      s.delivery { to1 [] with dst := 15 } = .group ∧ s.delivery { to1 [] with dst := 16 } = .ignored := by
  decide +kernel

/-- R5: channel S21 enabled on satellite slot 1, which is not present: detail 1045. -/
theorem test_run_entry_detail :
    runCheck (State.reset.modChan 21 fun x => { x with cfg := { x.cfg with enabled := true } }) = some 1045 := by
  decide +kernel

/-- R57: A4 with windows 0..3000 and 5000..6000 at 4000, 4001 and −200. -/
theorem test_window_clamp :
    let w (a b : Int) : Window := { enabled := true, lower := a, upper := b, acts := 16 }
    let ws := (State.reset.svc.windows.set 1 (w 0 3000)).set 3 (w 5000 6000)
    windowClamp ws .force 4 4000 = (3000, some 1) ∧ windowClamp ws .force 4 4001 = (5000, some 3) ∧
      windowClamp ws .force 4 (-200) = (0, some 1) := by decide +kernel

/-- R95: weights 500, 300 and 200 at 9000, then with the third out and carry-over ON and OFF, then at −9001. -/
theorem test_shares :
    shares 9000 [(0, 500), (1, 300), (2, 200)] = [(0, 4500), (1, 2700), (2, 1800)] ∧
      shares (groupTotal true 9000 800 1000) [(0, 500), (1, 300)] = [(0, 5625), (1, 3375)] ∧
      shares (groupTotal false 9000 800 1000) [(0, 500), (1, 300)] = [(0, 4500), (1, 2700)] ∧
      shares (-9001) [(0, 500), (1, 300), (2, 200)] = [(0, -4501), (1, -2700), (2, -1800)] := by decide +kernel

/-- R129: S07 converts 53,000 at 31.2 °C to 9530, and a FULL bridge −1,200,000 to −60000. -/
theorem test_strain :
    rawStrain { gauge := 2100, zero := 1500, t0 := 200, coeff := 250 } 53000 (some 312) = 9530 ∧
      rawStrain { bridge := .full } (-1200000) none = -60000 := by decide +kernel

/-- R132: sixteen readings summing to 24,008 give a zero of 1501. -/
theorem test_zeroing :
    let s := State.reset.modChan 5 fun x => { x with zeroing := some (15, 24000) }
    (zeroingStep 5 8 s).stp.chans[5].cfg.zero = 1501 ∧ (zeroingStep 5 (-48008) s).stp.chans[5].cfg.zero = -1501 := by
  decide +kernel

/-- R89: a trip of A2 in F1 trips A3, which was UNLOADING, and dumps the frame. -/
theorem test_frame_trip :
    let s := tripAction 2 (put 3 .unloading (put 2 .active inRun))
    (s.act 2).state = .tripped ∧ (s.act 3).state = .tripped ∧ (s.act 0).state = .off ∧ s.manifold 1 = .dump := by
  decide +kernel

theorem test_power_reads_straps : (after (.power 13) inRun).stc.address = 13 ∧ (after (.power 13) inRun).stc.mode = .setup := by
  decide +kernel
theorem test_line_record : (after (.line 13) inRun).stc.resetRecord = { line := true } := by decide +kernel
theorem test_mode_run : (after (.mode (to1 [1])) State.reset).stc.mode = .run := by decide +kernel
theorem test_halt_enters_safe :
    (after (.halt (to1 [])) loaded).stc.mode = .safe ∧ ((after (.halt (to1 [])) loaded).act 0).state = .unloading := by
  decide +kernel
theorem test_halt_loop_trips : ((after (.haltLoopChange true) loaded).act 0).state = .tripped := by decide +kernel
theorem test_restart_waits :
    (after (.restart (to1 [])) loaded).stc.restartPending = true ∧
      ((after (.restart (to1 [])) loaded).act 0).destOff = true := by decide +kernel
theorem test_deferred_restart :
    (after .deferredRestart (waiting (put 0 .tripped inRun))).stc.resetRecord =
      { power := false, restart := true } := by decide +kernel
theorem test_slot_scaling :
    (after (.auxiliaryAnalogSample 3 2500) (State.reset.modSlot 3 fun x => { x with fn := .deflection, scale := -1001
                                                                                    offset := 7 })).axs[3].value = -2496 := by
  decide +kernel
theorem test_pendant_holds :
    (after (.contactEdge 3 true) (State.reset.modSlot 3 fun x => { x with fn := .pendantHold })).psq.hold.pendant = true := by
  decide +kernel
theorem test_plan_write_then_start :
    let s := after (.planWrite (to1 ([0, 0] ++ put1 0 ++ put2 1000 ++ put4 1 ++ List.replicate 7 0))) loaded
    (after (.start (to1 [0, 0])) s).psq.state = .running := by decide +kernel
theorem test_ramp_end_enters_next :
    (after (.rampEnd zeros) (running (.ramp false 1000 1) .ramp (loaded.modSeq fun q => { q with ctr := 1, ctrEnd := 2 }))).psq.state
      = .done := by decide +kernel
theorem test_counted_cycle :
    let s := after (.countedCycle zeros) (running wave .steady (loaded.modSeq fun q => { q with phase := 19999999 }))
    s.psq.totalCycles = 1 ∧ s.psq.activity = .taperDown ∧ s.zmn.tickCount = 1 := by decide +kernel
theorem test_sample_clock : (after (.controlSample zeros) State.reset).clock = { now := 500, nextSample := 1000 } := by
  decide +kernel
theorem test_pi_loop :
    piLoop { kp := 65535, ki := 3, imax := 100, rate := 1 } 0 40 0 = (40, 10240, 10240, 0, 10000) := by decide +kernel
theorem test_act_mode_starts : ((after (.actMode (to1 [0, 1])) (put 0 .off inRun)).act 0).toActive = true := by decide +kernel
theorem test_low_pressure_expiry :
    ((after (.lowPressureTimerExpiry 0) (put 0 .starting inRun)).act 0).state = .low := by decide +kernel
theorem test_unload_timeout :
    (after (.unloadTimerExpiry 0) ((put 0 .unloading inRun).modAct 0 fun x => { x with unload := { x.unload with timerOn := true } })).raised
      (.unloadTimeout 0) = true := by decide +kernel
theorem test_satellite_present : (after (.satPresent (to1 [2, 1, 0, 20])) State.reset).glc[2].state = .seeking := by decide +kernel
theorem test_crossing_begins_hit :
    let s := State.reset.modAe 4 fun y => { y with cfg := { y.cfg with role := .sensor } }
    let t := after (.thresholdCrossing 4 { time := 70, amplitude := 50, energy := 9 }) s
    t.aeu.chans[4].state = .inHit ∧ t.aeu.hits.length = 1 ∧ t.clock.now = 70 := by decide +kernel
theorem test_bin_timer : (after .binTimerExpiry State.reset).zmn.tickCount = 1 := by decide +kernel
theorem test_framing_failure_counts :
    (after (.framingFailure [0xC5, 0x3A, 1, 0, 1, 9, 241]) State.reset).sli.linkErrors = 1 := by decide +kernel
theorem test_rest_of_frame_after_marker :
    let s := after (.byteSpacingTimeout [0xC5]) State.reset
    s.sli.rx = [0xC5] ∧ (after (.byteSpacingTimeout [0x3A, 1]) s).sli.linkErrors = 1 := by decide +kernel
theorem test_fetch_empties : (after (.fetch (to1 [])) State.reset).sli.notices = [] := by decide +kernel
theorem test_first_clear :
    (after (.protFirstClear (to1 [])) (after (.haltLoopChange true) loaded)).pmx.firstOut = none := by decide +kernel

/-- R26: in DONE the count of the segment that ended the plan is kept through a PLAN_WRITE. -/
theorem test_done_keeps_count :
    let s := after (.abort (to1 [])) (running wave .steady loaded)
    s.psq.heldCount = 1 ∧ s.psq.count = 1 := by decide +kernel

/-- R211, R209: the reply to MODE with destination 0, source 1, code, tag, and the four bytes of its head. -/
theorem test_reply_frame :
    (State.reset.replyFrame { code := 2, tag := 9, payload := [0, 0, 255, 255] }).take 11 =
      [0xC5, 0x3A, 0, 1, 2, 9, 4, 0, 0, 255, 255] := by decide +kernel

/-- R105: a member that left ACTIVE since the latest sample keeps that sample's place in GROUP_STATUS. -/
theorem test_group_status_of_latest_sample :
    let s := after (.controlSample zeros) grouped
    (s.group 0).shared = [0, 1] ∧ ((after (.actMode (to1 [1, 0])) s).group 0).shared = [0, 1] := by decide +kernel

/-- R48, R105: H of a member in LOW is its stroke hold value, while S and D, which it has not, read 0. -/
theorem test_group_status_of_low_member :
    let s := (put 1 .low grouped).modAct 1 fun x => { x with strokeHold := 5 }
    (memberBytes (after (.controlSample zeros) s) 0 1).drop 4 = [0, 0, 0, 0, 0, 5] := by decide +kernel

/-- R185: a zone put after a condition is worked after it. -/
theorem test_sample_work_order :
    sampleWork [.cond .forceLimit 0, .zone] [3, 4] [] =
      [.cond .forceLimit 0, .zone 3, .zone 4] ++
        ((sampleItems.filter fun i => i ≠ .cond .forceLimit 0).map fun i => match i with
          | .cond k a => .cond k a
          | .completion a => .completion a
          | _ => .zone 0) := by decide +kernel

/-- R185: of a TRIP and a DERATE at one sample, both orders end TRIPPED with the derate recorded, and the loop's condition
lowered (R50). -/
theorem test_trip_and_derate_in_both_orders :
    let t (l : List SampleItem) : State := after (.controlSample { zeros with first := l }) (strained .derate)
    let ends (u : State) : Bool := (u.act 0).state = .tripped ∧ (u.act 0).derate = 500 ∧
      u.raised (.act .following 0) = false ∧ u.pmx.entries[3].st = .latched
    ends (t [.cond .forceLimit 0, .cond .following 0]) ∧ ends (t [.cond .following 0, .cond .forceLimit 0]) := by
  decide +kernel

/-- R185, R192: of two TRIPs at one sample each makes its record, in the order taken. -/
theorem test_two_trips_in_both_orders :
    let t (l : List SampleItem) : List (Fin 40) :=
      (after (.controlSample { zeros with first := l }) (strained .trip)).pmx.tripLog.map TripRec.entry
    t [.cond .forceLimit 0, .cond .following 0] = [2, 3] ∧ t [.cond .following 0, .cond .forceLimit 0] = [3, 2] := by
  decide +kernel

/-! ### States and operands that meet the hypotheses of the statements -/

theorem witness_StepRunsTheFrontCommand :
    { State.reset with pending := [.replySent] }.pending = Instr.replySent :: [] ∧ State.reset.pending = [] := ⟨rfl, rfl⟩

theorem witness_FramesAreReceived :
    frameOf (.mode (to1 [1])) = some (0x02, to1 [1]) ∧ (Instr.mode (to1 [1])).wf = true ∧ [0xC5#8].length ≤ 1 ∧
      frameOf (.aeChannelWindow (to1 [0xFF, 0, 1])) = some (0x50, to1 [0xFF, 0, 1]) ∧
      (Instr.aeChannelWindow (to1 [0xFF, 0, 1])).wf = true ∧ (Instr.status (to1 (List.replicate 240 0))).wf = true ∧
      0xC5#8 ∉ [1#8, 0x3A#8] ∧ 240 < (241 : Byte).toNat ∧ (List.replicate 240 (0 : Byte)).length ≤ 240 ∧
      (0#8 ++ 0#8 : BitVec 16) ≠ crc16 (frameBody 0x01 (to1 [])) ∧
      (2 ≤ 2 ∧ 2 < (encodeFrame 0x01 (to1 [])).length) ∧ (2 ≤ 8 ∧ 8 < (encodeFrame 0x01 (to1 [])).length) := by
  decide +kernel

theorem witness_FramesAreReceived_rows :
    State.reset.noResetDue ∧
      takeBytes State.reset.sli.rx [0xC5, 0x3A, 1, 0, 1, 9, 241, 0xC5] = ([0xC5], [.badLength]) ∧
      takeBytes State.reset.sli.rx [0xC5, 0x3A, 1, 0, 1, 9, 0, 0, 0] = ([], [.badCrc]) ∧
      takeBytes State.reset.sli.rx [0xC5, 0x3A] = ([0xC5, 0x3A], []) ∧
      (List.replicate 240 (0 : Byte)).length ≤ 240 := by
  unfold State.noResetDue; decide +kernel

theorem witness_DeliveryFollowsAddressAndMask :
    frameOf (.status { to1 [] with src := 1 }) = some (0x01, { to1 [] with src := 1 }) ∧
      State.reset.delivery { to1 [] with src := 1 } = .ignored ∧ State.reset.delivery { to1 [] with dst := 32 } = .ignored ∧
      State.reset.noResetDue := by
  unfold State.noResetDue; decide +kernel

theorem witness_GroupDeliveriesExecuteFiveCommands :
    frameOf (.status toAll) = some (0x01, toAll) ∧ groupExecuted (.status toAll) = false ∧
      frameOf (.restart toAll) = some (0x07, toAll) ∧ State.reset.stc.settings.acceptGroupRestart = false ∧
      frameOf (.halt { toAll with payload := [1] }) = some (0x08, { toAll with payload := [1] }) ∧
      frameOf (.halt toAll) = some (0x08, toAll) ∧
      State.reset.delivery toAll = .group ∧ State.reset.noResetDue ∧
      (waiting loaded).noResetDue ∧ (waiting loaded).delivery toAll = .group ∧
      State.reset.takesByGroup toAll ∧ State.reset.takes (to1 []) 0 := by
  unfold State.noResetDue State.takesByGroup State.takes; decide +kernel

/-- A station that takes RESTART by group delivery. -/
def accepting (s : State) : State :=
  s.modStc fun c => { c with settings := { c.settings with acceptGroupRestart := true } }

theorem witness_GroupDeliveriesExecuteFiveCommands_next :
    exec (.halt toAll) State.reset = .next (after (.halt toAll) State.reset) := rfl

theorem witness_GroupDeliveriesExecuteFiveCommands_restart :
    ∀ s ∈ [State.reset, loaded, put 0 .low inRun],
      (accepting s).takesByGroup toAll ∧ (accepting s).takes (to1 []) 0 ∧
        (accepting s).stc.settings.acceptGroupRestart = true := by
  unfold State.takesByGroup State.takes
  intro s h
  simp only [List.mem_cons, List.not_mem_nil, or_false] at h
  rcases h with rfl | rfl | rfl <;> decide +kernel

theorem witness_CommandsAreAcceptedAndRepliesLeave :
    frameOf (.mode (to1 [])) = some (0x02, to1 []) ∧ requestLength (.mode (to1 [])) = some 1 ∧
      frameOf (.unknownCommandCode 0x99 (to1 [])) = some (0x99, to1 []) ∧ catalogue.contains 0x99 = false ∧
      (replies 3 State.reset).delivery (to1 []) = .addressed ∧ (replies 3 State.reset).noResetDue ∧
      (replies 3 State.reset).sli.replies.length < 4 ∧
      requestLength (.mode (to1 [1])) = some (to1 [1]).payload.length ∧ (waiting loaded).stc.restartPending = true ∧
      (waiting loaded).noResetDue ∧ Instr.mode (to1 [1]) ≠ .status (to1 [1]) ∧ Instr.mode (to1 [1]) ≠ .fetch (to1 [1]) ∧
      4 ≤ (replies 4 State.reset).sli.replies.length ∧ (replies 4 State.reset).delivery (to1 []) = .addressed ∧
      (replies 4 State.reset).noResetDue := by
  unfold State.noResetDue; decide +kernel

theorem witness_CommandsAreAcceptedAndRepliesLeave_sent :
    State.reset.noResetDue ∧ (replies 1 State.reset).noResetDue ∧
      (replies 1 State.reset).sli.replies = { code := 1, tag := 1, payload := [] } :: [] := by
  unfold State.noResetDue; decide +kernel

theorem witness_NoticesAreQueuedAndFetched :
    let n (k : NoticeKind) : Notice := { kind := k, time := 0, cycles := 0, subject := 0 }
    (notices 31 .entry State.reset).sli.notices.length < 32 ∧
      (notices 32 .entry State.reset).sli.notices.length = 32 ∧ (n .trip).kind = .trip ∧
      (∃ m ∈ (notices 32 .entry State.reset).sli.notices, m.kind ≠ .trip) ∧ (n .entry).kind ≠ .trip ∧
      (notices 32 .trip State.reset).sli.notices.length = 32 ∧
      (∀ m ∈ (notices 32 .trip State.reset).sli.notices, m.kind = .trip) ∧
      State.reset.delivery (to1 []) = .addressed ∧ State.reset.sli.replies.length < 4 ∧ State.reset.noResetDue ∧
      (notices 1 .entry State.reset).sli.notices = n .entry :: [] ∧ (notices 0 .entry State.reset).sli.notices = [] := by
  unfold State.noResetDue; decide +kernel

/-- The reading commands, each at the last object it can name. -/
def readings : List Instr :=
  [.status (to1 []), .seqStatus (to1 []), .slotRead (to1 [15]), .planRead (to1 [47]), .actStatus (to1 [7]),
   .groupStatus (to1 [3]), .satRead (to1 [3]), .satStatus (to1 [3]), .chRead (to1 [63, 1]), .chRead (to1 [48, 16]),
   .zoneStatus (to1 [15]), .protList (to1 [32, 8]), .tripLog (to1 [0]), .tripLog (to1 [1])]

theorem witness_ReadingCommandsReturnTheirFields :
    (∀ i ∈ readings, ∃ code p, frameOf i = some (code, to1 p) ∧ readable i = true ∧
      State.reset.delivery (to1 p) = .addressed ∧ requestLength i = some (to1 p).payload.length) ∧
    State.reset.sli.replies.length < 4 ∧ State.reset.stc.restartPending = false ∧ (waiting loaded).allAtRest = false ∧
      (waiting loaded).delivery (to1 []) = .addressed ∧ (waiting loaded).sli.replies.length < 4 := by
  refine ⟨fun i h => ?_, by decide +kernel⟩
  simp only [readings, List.mem_cons, List.not_mem_nil, or_false] at h
  rcases h with rfl | rfl | rfl | rfl | rfl | rfl | rfl | rfl | rfl | rfl | rfl | rfl | rfl | rfl <;>
    exact ⟨_, _, rfl, by decide +kernel, by decide +kernel, by decide +kernel⟩

theorem witness_ColdResetsClearTheStation : State.reset.stc.haltOpen = false := rfl

/-- The HALT loop open, with P0 ACTIVE by it. -/
def halted : State := after (.haltLoopChange true) loaded

/-- A running plan with A0 ACTIVE, and track 1 lost already. -/
def lostAlready : State := running wave .steady (put 1 .low loaded)

theorem witness_HaltLoopTripsTheStation :
    halted.stc.haltOpen = true ∧ loaded.settled ∧ loaded.raised .haltLoop = false ∧
      loaded.pmx.entries[0].cfg = { kind := some .haltLoop, action := .trip, scope := .station, enabled := true } ∧
      (loaded.act 0).state.pressurized = true ∧ loaded.stc.mode ≠ .safe ∧ loaded.pmx.firstOut = none ∧
      (running wave .steady loaded).settled ∧ (running wave .steady loaded).psq.state.going = true ∧
      (running wave .steady loaded).stc.mode ≠ .safe ∧ (running wave .steady loaded).raised .haltLoop = false ∧
      (∀ e : Fin 40, e ≠ 0 → loaded.pmx.entries[e].cfg.kind ≠ some .haltLoop) ∧ lostAlready.lostCause = true ∧
      lostAlready.settled ∧ lostAlready.psq.state.going = true ∧ lostAlready.stc.mode ≠ .safe ∧
      lostAlready.raised .haltLoop = false ∧
      halted.settled ∧ halted.raised .haltLoop = true ∧ halted.pmx.entries[0].cfg.kind = some .haltLoop ∧
      halted.pmx.entries[0].cfg.inst = none ∧ halted.pmx.entries[0].st = .active ∧ halted.pmx.entries[0].raised = [0] := by
  unfold State.settled; decide +kernel

/-- Keep-settings on, with a DIGITAL_IN slot whose contact is a fault when open, and is open or closed. -/
def kept (closed : Bool) : State :=
  (State.reset.modStc fun c => { c with settings := { c.settings with keepSettings := true } }).modSlot 15
    fun x => { x with fn := .digitalIn, openFault := true, closed := closed }

theorem witness_RestartAtRestResets :
    let s := waiting (put 0 .tripped inRun)
    s.stc.haltOpen = false ∧ s.stc.settings.keepSettings = false ∧ s.allAtRest = true ∧ s.stc.restartPending = true ∧
      s.advisory ∧ State.reset.allAtRest = true ∧ State.reset.takes (to1 []) 0 ∧
      (∀ closed : Bool, (kept closed).allAtRest = true ∧ (kept closed).takes (to1 []) 0 ∧
        (kept closed).stc.haltOpen = false ∧ (kept closed).stc.settings.keepSettings = true ∧ (kept closed).advisory ∧
        (kept closed).axs[15].fn = .digitalIn ∧ (kept closed).axs[15].openFault = true ∧
        (kept closed).axs[15].closed = closed) ∧
      (∀ x : Fin 16, ¬((kept true).axs[x].fn = .digitalIn ∧ (kept true).axs[x].closed = false)) := by
  unfold State.takes State.advisory; decide +kernel

theorem witness_RestartAtRestResets_loop :
    ∀ keep : Bool,
      let s := (waiting (put 0 .tripped inRun)).modStc fun c =>
        { c with haltOpen := true, settings := { c.settings with keepSettings := keep } }
      s.allAtRest = true ∧ s.stc.restartPending = true ∧ s.stc.haltOpen = true ∧
        s.pmx.entries[0].cfg = { kind := some .haltLoop, action := .trip, scope := .station, enabled := true } ∧
        s.pmx.firstOut = none ∧ (kept true).pmx.firstOut = none := by decide +kernel

theorem witness_RestartWaitsForRest :
    loaded.takes (to1 []) 0 ∧ loaded.ev = {} ∧
      ∃ a : Fin 8, (loaded.act a).state = .active ∨ (loaded.act a).state = .unloading := by
  unfold State.takes; decide +kernel

/-- After reset every item of the RUN-entry check passes. -/
theorem witness_ModesAndSettings_passes : ∀ item k, ¬State.reset.runFails item k := by
  intro item k h
  rcases h with ⟨-, a, -, h, -⟩ | ⟨-, a, -, h, -⟩ | ⟨-, a, -, ⟨g, h⟩, -⟩ | ⟨-, c, -, h, -⟩ | ⟨-, c, -, h, -⟩ |
    ⟨-, t, -, x, h, -⟩ | ⟨-, z, -, t, h, -⟩
  · revert h; revert a; decide +kernel
  · revert h; revert a; decide +kernel
  · revert h; revert a; revert g; decide +kernel
  · revert h; revert c; decide +kernel
  · revert h; revert c; decide +kernel
  · revert h; revert x; revert t; decide +kernel
  · revert h; revert t; revert z; decide +kernel

/-- With A7 enabled and no window it is item 1 that fails first, at A7. -/
theorem witness_ModesAndSettings_fails :
    let s := put 7 .off State.reset
    s.runFails 1 7 ∧ ∀ i j, s.runFails i j → 1 < i ∨ (1 = i ∧ 7 ≤ j) := by
  refine ⟨.inl ⟨rfl, 7, rfl, by unfold Window.covers; decide +kernel⟩, fun i j h => ?_⟩
  rcases h with ⟨rfl, a, rfl, h, -⟩ | ⟨rfl, -⟩ | ⟨rfl, -⟩ | ⟨rfl, -⟩ | ⟨rfl, -⟩ | ⟨rfl, -⟩ | ⟨rfl, -⟩
  · exact .inr ⟨rfl, by revert h; revert a; decide +kernel⟩
  all_goals exact .inl (by omega)

/-- SAFE with P1 LATCHED. -/
def inSafe1 : State := inSafe.modEntry 1 fun x => { x with st := .latched }

theorem witness_ModesAndSettings :
    State.reset.takes (to1 [1]) 1 ∧ u8 (to1 [1]).payload 0 = 1 ∧ State.reset.stc.mode = .setup ∧
      inRun.takes (to1 [0]) 1 ∧ inRun.stc.mode = .run ∧ u8 (to1 [0]).payload 0 = 0 ∧
      inSafe.takes (to1 [0]) 1 ∧ inSafe.stc.mode = .safe ∧ 2 ≤ u8 (to1 [2]).payload 0 ∧ State.reset.takes (to1 [2]) 1 ∧
      ((put 3 .low inRun).act 3).state ≠ .off ∧ (∀ b : Fin 8, b < 3 → ((put 3 .low inRun).act b).state = .off) ∧
      (∀ a : Fin 8, (inSafe.act a).state = .off) ∧
      inSafe1.takes (to1 [0]) 1 ∧ inSafe1.pmx.entries[1].cfg.scope = .station ∧ inSafe1.pmx.entries[1].st ≠ .quiet ∧
      inSafe1.stc.mode = .safe ∧ (∀ a : Fin 8, (inSafe1.act a).state = .off) ∧
      (∀ d : Fin 40, d < 1 → inSafe1.pmx.entries[d].cfg.scope = .station → inSafe1.pmx.entries[d].st = .quiet) ∧
      inSafe.ev = {} ∧ (∀ e : Fin 40, inSafe.pmx.entries[e].cfg.scope = .station → inSafe.pmx.entries[e].st = .quiet) := by
  unfold State.takes; decide +kernel

theorem witness_ModesAndSettings_settings :
    let p (hi lo : Byte) : List Byte := [31, 1, 0, 0, hi, lo]
    State.reset.takes (to1 (p 0 1)) 6 ∧ u8 (p 0 1) 0 = (31 : Address).toNat ∧ u8 (p 0 1) 1 = true.toNat ∧
      u8 (p 0 1) 2 = false.toNat ∧ u8 (p 0 1) 3 = false.toNat ∧ (1 ≤ u16 (p 0 1) 4 ∧ u16 (p 0 1) 4 ≤ 600) ∧
      u16 (p 2 0x58) 4 = 600 ∧ u16 (p 0 0) 4 = 0 ∧ 600 < u16 (p 2 0x59) 4 := by
  unfold State.takes; decide +kernel

/-- A deflection transducer at slot 9. -/
def deflection9 : State := State.reset.modSlot 9 fun x => { x with fn := .deflection }

theorem witness_SlotCommandsStore :
    let s := State.reset
    let p (low high : Int) (o : Byte) : List Byte := [9] ++ put2 1000 ++ put2 0 ++ put4 low ++ put4 high ++ [o]
    s.takes (to1 [9, 1]) 2 ∧ s.stc.mode = .setup ∧ u8 [9, 1] 0 = (9 : Fin 16).val ∧ u8 [9, 1] 1 = SlotFn.deflection.code ∧
      (9 : Fin 16).val ≤ 9 ∧ s.axs[9].fn ≠ .deflection ∧ s.raised (.auxLimit 9) = false ∧
      u8 [13, 8] 0 = (13 : Fin 16).val ∧ u8 [13, 8] 1 = SlotFn.dumpOut.code ∧ (13 : Fin 16).val ≤ 13 ∧
      u8 [15, 5] 0 = (15 : Fin 16).val ∧ u8 [15, 5] 1 = SlotFn.digitalIn.code ∧ s.axs[15].openFault = false ∧
      u8 [9, 0] 1 = s.axs[9].fn.code ∧
      s.takes (to1 (p (-2000000) 2000000 0)) 14 ∧ s32 (p (-2000000) 2000000 0) 5 = -2000000 ∧
      s32 (p (-2000000) 2000000 0) 9 = 2000000 ∧ u8 (p 1 1 1) 13 = true.toNat ∧ s32 (p 1 1 1) 5 ≤ s32 (p 1 1 1) 9 ∧
      deflection9.takes (to1 (p 1 1 0)) 14 ∧ deflection9.axs[9].fn = .deflection ∧
      deflection9.axs[9].value < s32 (p 1 1 0) 5 := by
  unfold State.takes; decide +kernel

theorem witness_SlotInputsAreTaken :
    let fn (k : SlotFn) (v : Int) (o : Bool) := State.reset.modSlot 3 fun x => { x with fn := k, value := v, openFault := o }
    (fn .supplyPressure 0 false).stc.restartPending = false ∧ (fn .supplyPressure 0 false).axs[3].fn = .supplyPressure ∧
      (fn .none 0 false).settled ∧ (fn .none 0 false).axs[3].fn ≠ .digitalIn ∧ (fn .none 0 false).axs[3].fn ≠ .pendantHold ∧
      (fn .none 0 false).axs[3].fn ≠ .pendantResume ∧
      (fn .digitalIn 0 true).axs[3].fn = .digitalIn ∧ (fn .digitalIn 0 true).axs[3].openFault = true ∧
      (fn .digitalIn 0 true).axs[3].value = (if true then 0 else 1) ∧ (fn .digitalIn 0 true).settled ∧
      (fn .digitalIn 1 true).axs[3].value = (if false then 0 else 1) ∧ (fn .digitalIn 1 true).settled ∧
      (fn .digitalIn 0 false).axs[3].openFault = false ∧ (fn .digitalIn 0 false).settled ∧
      (fn .pendantHold 0 false).axs[3].fn = .pendantHold ∧ (fn .pendantHold 0 false).axs[3].value = 0 ∧
      (fn .pendantHold 0 false).settled ∧ (fn .pendantResume 0 false).axs[3].fn = .pendantResume ∧
      (fn .pendantResume 0 false).axs[3].value = 0 ∧ (fn .pendantResume 0 false).settled ∧
      (fn .pendantHold 1 false).axs[3].value = 1 ∧ (fn .pendantHold 1 false).settled ∧
      (fn .pendantResume 1 false).axs[3].value = 1 ∧ (fn .pendantResume 1 false).settled := by
  unfold State.settled; decide +kernel

theorem witness_PlanCommandsStore :
    let seg : Segment := .loop 46 65535
    let p := put1 47 ++ seg.bytes ++ List.replicate (16 - (put1 47 ++ seg.bytes).length) 0
    let r : Track := { reference := 32767, offset := 999, threshold := 1000 }
    let q (r : Track) : List Byte := put1 7 ++ put1 r.quantity.code ++ put2 r.reference ++ put2 r.offset ++
      putOpt r.deflection ++ put2 r.threshold
    let go := running wave .steady inRun
    inRun.takes (to1 p) 16 ∧ seg.valid 47 ∧ inRun.psq.state.going = false ∧ go.takes (to1 p) 16 ∧ go.psq.state.going = true ∧
      inRun.takes (to1 (put2 60000 ++ put2 10000)) 4 ∧ u16 (put2 60000 ++ put2 10000) 0 ≤ 60000 ∧
      1 ≤ u16 (put2 60000 ++ put2 1) 2 ∧ u16 (put2 60000 ++ put2 10000) 2 ≤ 10000 ∧ 60000 < u16 (put2 60001 ++ put2 0) 0 ∧
      u16 (put2 0 ++ put2 0) 2 = 0 ∧ 10000 < u16 (put2 0 ++ put2 10001) 2 ∧
      State.reset.takes (to1 (q r)) 9 ∧ State.reset.stc.mode = .setup ∧ State.reset.psq.state.going = false ∧
      0 ≤ r.reference ∧ r.reference ≤ 32767 ∧ r.offset ≤ 999 ∧ 500 ≤ r.threshold ∧ r.threshold ≤ 1000 ∧
      go.takes (to1 (q { offset := 999 })) 9 ∧ ({ offset := 999 } : Track).offset ≠ go.psq.tracks[7].offset ∧
      go.stc.mode ≠ .setup ∧ Quantity.stroke ≠ go.psq.tracks[7].quantity ∧
      go.takes (to1 (q { quantity := .stroke })) 9 ∧ go.takes (to1 (q { deflection := some 9 })) 9 ∧
      some 9 ≠ go.psq.tracks[7].deflection ∧ go.takes (to1 (q { reference := 1 })) 9 ∧
      1 ≠ go.psq.tracks[7].reference ∧ go.takes (to1 (put2 60001 ++ put2 0)) 4 := by
  unfold State.takes Segment.valid; decide +kernel

/-- A plan that waits for GO. -/
def waitingGo : State := loaded.modSeq fun q => { q with state := .waitingGo }

/-- A1 enabled and LOW, so that track 1 is lost. -/
def lost1 : State := put 1 .low loaded

/-- A0 ACTIVE with no window enabled. -/
def windowless : State := { loaded with svc := { loaded.svc with windows := Vector.replicate 6 {} } }

theorem witness_StartAndGo_passes :
    loaded.takes (to1 [47, 1]) 2 ∧ loaded.stc.mode = .run ∧ u8 [47, 1] 0 = (47 : Fin 48).val ∧
      u8 [47, 1] 1 = true.toNat ∧ preCheck loaded 47 = none ∧ loaded.psq.state.going = false ∧
      (∀ k : Fin 8, ¬loaded.trackLost k) ∧ loaded.ev = {} ∧ loaded.zoneLaw ∧ loaded.takes (to1 []) 0 ∧
      loaded.psq.state ≠ .waitingGo ∧ waitingGo.takes (to1 []) 0 ∧ waitingGo.psq.state = .waitingGo ∧
      waitingGo.ev = {} := by
  unfold State.takes State.trackLost State.zoneLaw; decide +kernel

theorem witness_StartAndGo_refuses :
    preCheck waitingGo 0 = none ∧ waitingGo.psq.state.going = true ∧ waitingGo.takes (to1 [0, 0]) 2 ∧
      waitingGo.stc.mode = .run ∧ preCheck lost1 0 = none ∧ lost1.trackLost 1 ∧
      (∀ j : Fin 8, j < 1 → ¬lost1.trackLost j) ∧ lost1.psq.state.going = false ∧ lost1.takes (to1 [0, 0]) 2 ∧
      lost1.stc.mode = .run ∧ (preCheck windowless 0).isSome = true ∧ windowless.takes (to1 [0, 0]) 2 ∧
      windowless.stc.mode = .run := by
  unfold State.takes State.trackLost; decide +kernel

theorem witness_StartAndGo_forms :
    State.reset.takes (to1 [0, 0]) 2 ∧ State.reset.stc.mode ≠ .run ∧ loaded.takes (to1 [48, 0]) 2 ∧
      loaded.stc.mode = .run ∧ 48 ≤ u8 [48, 0] 0 ∧ loaded.takes (to1 [0, 2]) 2 ∧ 2 ≤ u8 [0, 2] 1 ∧
      (let lost := lost1.modSeq fun q => { q with state := .waitingGo };
        lost.takes (to1 []) 0 ∧ lost.ev = {} ∧ lost.psq.state = .waitingGo ∧
          (true = true ↔ ∃ k : Fin 8, lost.trackLost k)) := by
  unfold State.takes State.trackLost; decide +kernel

theorem witness_HoldResumeAbort :
    let s := running wave .steady loaded
    s.takes (to1 []) 0 ∧ s.ev = {} ∧ s.psq.state.going = true ∧ (false = true ↔ ∃ k : Fin 8, s.trackLost k) ∧
      (false = true ↔ ∃ e : Fin 40, s.pmx.entries[e].st ≠ .quiet ∧ s.pmx.entries[e].cfg.enabled = true ∧
        s.pmx.entries[e].cfg.action = .hold) ∧
      State.reset.takes (to1 []) 0 ∧ State.reset.ev = {} ∧ State.reset.psq.state.going = false := by
  unfold State.takes State.trackLost; decide +kernel

theorem witness_EnteringASegmentFollowsLoops : ∀ k : Fin 48, (State.reset.psq.plan[k]).valid k.val := by
  intro k
  have : State.reset.psq.plan[k] = .finish := by revert k; decide +kernel
  rw [this]; trivial

theorem witness_LevelSegmentSamples :
    let ramp := running (.ramp false 1000 1) .ramp loaded
    let dwell := running (.dwell true 1 true) .dwell loaded
    State.reset.settled ∧ State.reset.advisory ∧ State.reset.psq.state ≠ .running ∧ State.reset.psq.state ≠ .pausing ∧
      State.reset.psq.state ≠ .holding ∧ ramp.settled ∧ ramp.advisory ∧ ramp.psq.state = .running ∧
      ramp.psq.activity = .ramp ∧ ramp.psq.here = .ramp false 1000 1 ∧ dwell.settled ∧ dwell.advisory ∧
      dwell.psq.state = .running ∧ dwell.psq.activity = .dwell ∧ dwell.psq.here = .dwell true 1 true ∧
      dwell.psq.ctrEnd ≤ dwell.psq.ctr + 1 ∧ dwell.stp.skipped ≤ 255 ∧
      (let full := (shots 24 dwell).modStp fun p => { p with skipped := 255 };
        full.settled ∧ full.advisory ∧ full.psq.state = .running ∧ full.psq.activity = .dwell ∧
          full.psq.here = .dwell true 1 true ∧ full.psq.ctrEnd ≤ full.psq.ctr + 1 ∧ full.stp.snaps.length = 24 ∧
          full.stp.skipped ≤ 255) := by
  unfold State.settled State.advisory; decide +kernel

/-- The wave of A0 in one of its activities. -/
def waving (x : Activity) : State := running wave x loaded

/-- In STEADY one unit of phase before its wrap. -/
def wrapping : State := (waving .steady).modSeq fun q => { q with phase := 19999999 }

/-- For ApproachAndTaperUpSamples and SteadyTaperDownAndPausingSamples. -/
theorem witness_WaveSamples :
    ∀ x : Activity, x = .approach ∨ x = .taperUp ∨ x = .steady ∨ x = .taperDown →
      (waving x).settled ∧ (waving x).advisory ∧ (waving x).psq.state = .running ∧ (waving x).psq.activity = x ∧
        (waving x).psq.here = .cycle false 0 9000 1000 .sine 1 1 := by
  unfold State.settled State.advisory
  intro x h
  rcases h with rfl | rfl | rfl | rfl <;> decide +kernel

/-- For SteadyTaperDownAndPausingSamples: a sample that wraps and one that does not, one that ends STEADY and one that
does not. -/
theorem witness_WaveSamples_wrap :
    (advancePhase (waving .steady).psq.phase 1000).2 = false ∧ (advancePhase wrapping.psq.phase 1000).2 = true ∧
      wrapping.settled ∧ wrapping.advisory ∧ wrapping.psq.state = .running ∧ wrapping.psq.activity = .steady ∧
      1 ≤ wrapping.psq.segCycles + 1 ∧
      (let two := wrapping.modSeq fun q => { q with plan := q.plan.set 0 (.cycle false 0 9000 1000 .sine 2 1) };
        two.psq.here = .cycle false 0 9000 1000 .sine 2 1 ∧ two.settled ∧ two.advisory ∧ two.psq.state = .running ∧
          two.psq.activity = .steady ∧ ¬2 ≤ two.psq.segCycles + 1) := by
  unfold State.settled State.advisory; decide +kernel

/-- The wave at a hold. -/
def stopped (x : SeqState) : State := (waving .steady).modSeq fun q => { q with state := x }

/-- For SteadyTaperDownAndPausingSamples: PAUSING, and HOLDING in a wave. -/
theorem witness_WaveSamples_hold :
    ∀ x : SeqState, x = .pausing ∨ x = .holding →
      (stopped x).settled ∧ (stopped x).advisory ∧ (stopped x).psq.state = x ∧
        (stopped x).psq.activity.isWave = true ∧ (stopped x).psq.here = .cycle false 0 9000 1000 .sine 1 1 := by
  unfold State.settled State.advisory
  intro x h
  rcases h with rfl | rfl <;> decide +kernel

theorem witness_WaveFollowsItsPhase :
    (19999999 < 20000000 ∧ 1000 ≤ 1000) ∧ (19999999 < 20000000 ∧ 999 ≤ 999) ∧ 10000000 ≤ 10000000 ∧
      9999999 < 10000000 := by decide +kernel

theorem witness_SineIsAccurate : 19999999 < 20000000 ∧ 10000 ≤ 10000 := by decide

/-- For SetpointChain, PiLoopFollowsItsSteps and SampleConditionsAreJudged. -/
theorem witness_ControlSamples :
    let man := loaded.modAct 0 fun x => { x with source := .manual }
    let un := (put 1 .unloading loaded).modAct 1 fun x => { x with unload := { x.unload with settleMs := 1 } }
    loaded.settled ∧ loaded.advisory ∧ (loaded.act 1).state = .off ∧ (put 1 .low loaded).settled ∧
      (put 1 .low loaded).advisory ∧ ((put 1 .low loaded).act 1).state = .low ∧ (loaded.act 0).state = .active ∧
      loaded.groupOf 0 = none ∧ (loaded.act 0).source = .sequencer ∧ man.settled ∧ man.advisory ∧
      (man.act 0).source = .manual ∧ (man.act 0).state = .active ∧ (loaded.act 0).cfg.enabled = true ∧
      1 ≤ (loaded.act 0).cfg.followMs ∧ 1 ≤ (loaded.act 0).cfg.stallMs ∧
      ((sampleValues zeros loaded).1.act 0).state.servoRuns = true ∧
      ((sampleValues zeros loaded).1.act 1).state.servoRuns = false ∧
      (man.act 0).present = .force ∧ loaded.psq.tracks[0].quantity = (loaded.act 0).present ∧
      grouped.settled ∧ grouped.advisory ∧ grouped.groupOf 1 = some 0 ∧ (grouped.act 1).state = .active ∧
      un.settled ∧ un.advisory ∧ (un.act 1).state = .unloading ∧ (un.act 1).cfg.enabled = true ∧
      ((after (.controlSample zeros) un).act 1).state = .unloading := by
  unfold State.settled State.advisory; decide +kernel

theorem witness_WindowClampTakesTheNearest :
    let w (a b : Int) : Window := { enabled := true, lower := a, upper := b, acts := 16 }
    let ws : Vector Window 6 := ((Vector.replicate 6 {}).set 1 (w 0 3000)).set 3 (w 5000 6000)
    let inside (h : Int) (i : Fin 6) : Prop := ws[i].lower ≤ h ∧ h ≤ ws[i].upper
    let distance (h : Int) (i : Fin 6) : Int := if h < ws[i].lower then ws[i].lower - h else h - ws[i].upper
    (∃ i : Fin 6, ws[i].covers .force 4 ∧ inside 3000 i) ∧ ws[1].covers .force 4 ∧
      (∀ j : Fin 6, ws[j].covers .force 4 → ¬inside 4000 j) ∧
      (∀ j : Fin 6, ws[j].covers .force 4 →
        distance 4000 1 ≤ distance 4000 j ∧ (distance 4000 1 = distance 4000 j → 1 ≤ j)) ∧
      ∀ i : Fin 6, ¬ws[i].covers .force 5 := by
  unfold Window.covers; decide +kernel

/-- For ApproachAndTaperUpSamples. -/
theorem witness_ApproachSamples :
    1 ≤ 1 ∧ (∀ k : Fin 8, (waving .approach).psq.levels[k] = 0) ∧
      ∃ k : Fin 8, ((waving .approach).modSeq fun q => { q with l0 := Vector.replicate 8 1000 }).psq.l0[k] ≠ 0 := by
  decide +kernel

theorem witness_WindowAndActuatorRecords :
    let w : Window := { lower := -32768, upper := 32767, acts := 255 }
    let c : ActConfig := { enabled := true }
    let k : ActConfig := { enabled := true, quantity := .stroke }
    let p (c : ActConfig) : List Byte := put1 0 ++ c.bytes
    State.reset.takes (to1 (put1 5 ++ w.bytes)) 8 ∧ -32768 ≤ w.lower ∧ w.lower ≤ w.upper ∧ w.upper ≤ 32767 ∧
      State.reset.stc.mode = .setup ∧ inRun.takes (to1 (put1 0 ++ w.bytes)) 8 ∧ inRun.stc.mode ≠ .setup ∧
      loaded.takes (to1 (p k)) 38 ∧ loaded.stc.mode ≠ .setup ∧ k.enabled = (loaded.act 0).cfg.enabled ∧
      k.frame = (loaded.act 0).cfg.frame ∧ k.unloadTarget = (loaded.act 0).cfg.unloadTarget ∧
      k.quantity ≠ (loaded.act 0).cfg.quantity ∧ (loaded.act 0).state = .active ∧
      State.reset.takes (to1 (p c)) 38 ∧ c.quantity = (State.reset.act 0).cfg.quantity ∧ State.reset.ev = {} ∧
      State.reset.psq.state.going = false ∧
      State.reset.takes (to1 (p { c with unloadRate := 0 })) 38 ∧ ({ c with unloadRate := 1 } : ActConfig).unloadRate = 1 ∧
      (put 0 .off State.reset).takes (to1 (p {})) 38 ∧ ((put 0 .off State.reset).act 0).cfg.enabled = true ∧
      inRun.takes (to1 (p c)) 38 ∧ inRun.stc.mode ≠ .setup ∧ c.enabled ≠ (inRun.act 0).cfg.enabled ∧
      inRun.takes (to1 (p { frame := 3 })) 38 ∧ (3 : Fin 4) ≠ (inRun.act 0).cfg.frame ∧
      inRun.takes (to1 (p { unloadTarget := 1 })) 38 ∧ 1 ≠ (inRun.act 0).cfg.unloadTarget := by
  unfold State.takes; decide +kernel

theorem witness_WindowAndActuatorRecords_valid :
    ({ enabled := true } : ActConfig).valid ∧ ({ enabled := true, quantity := .stroke } : ActConfig).valid ∧
      ({ enabled := true, unloadRate := 1 } : ActConfig).valid ∧ ({} : ActConfig).valid ∧
      ({ capacity := 32767, unloadRate := 65535, lowMs := 100, highMs := 10000 } : ActConfig).valid ∧
      ({ frame := 3 } : ActConfig).valid ∧ ({ unloadTarget := 1 } : ActConfig).valid := by
  unfold ActConfig.valid; repeat' apply And.intro
  all_goals decide +kernel

theorem witness_ActuatorSettings :
    let gains (imax rate : Nat) : List Byte := put1 7 ++ put1 Quantity.stroke.code ++ put2 65535 ++ put2 0 ++ put2 imax ++
      put2 rate
    loaded.takes (to1 (gains 10000 1)) 10 ∧ 10000 < 10001 ∧ 32767 < 32768 ∧
      loaded.takes (to1 (gains 10001 0)) 10 ∧ loaded.takes (to1 (gains 10000 32768)) 10 ∧
      loaded.takes (to1 [7, 1, 0x80, 0]) 4 ∧ u8 [7, 1, 0x80, 0] 0 = (7 : Fin 8).val ∧
      u8 [7, 1, 0x80, 0] 1 = Quantity.stroke.code ∧
      grouped.takes (to1 [1, 1]) 2 ∧ u8 [1, 1] 0 = (1 : Fin 8).val ∧ u8 [1, 1] 1 = Source.manual.code ∧
      grouped.groupOf 1 ≠ none ∧ loaded.takes (to1 [1, 1]) 2 ∧ loaded.groupOf 1 = none ∧ loaded.ev = {} ∧
      u8 [0, 1] 1 = Quantity.stroke.code ∧ grouped.takes (to1 [0, 1]) 2 ∧ grouped.groupOf 0 ≠ none ∧
      inRun.takes (to1 [0, 1]) 2 ∧ inRun.groupOf 0 = none ∧ (inRun.act 0).state ≠ .low ∧ (inRun.act 0).state ≠ .active ∧
      (put 0 .low inRun).takes (to1 [0, 1]) 2 ∧ ((put 0 .low inRun).act 0).state = .low ∧
      loaded.takes (to1 [0, 1]) 2 ∧ loaded.groupOf 0 = none ∧ (loaded.act 0).state = .active ∧
      (loaded.act 0).present ≠ .stroke := by
  unfold State.takes; decide +kernel

/-- An entry of action TRIP (P0) or UNLOAD (P1), LATCHED with every actuator in its reach. -/
def restraining (e : Fin 40) (s : State) : State := s.modEntry e fun x => { x with st := .latched, reach := 255 }

theorem witness_ActModeFollowsTheTable_refuses :
    State.reset.takes (to1 [0, 0]) 2 ∧ u8 [0, 0] 0 = (0 : Fin 8).val ∧ ModeTarget.ofCode (u8 [0, 0] 1) = some .low ∧
      State.reset.stc.mode ≠ .run ∧ inRun.takes (to1 [0, 0]) 2 ∧ inRun.stc.mode = .run ∧
      (inRun.act 0).cfg.enabled = false ∧
      (let s := put 1 .tripped (put 0 .off inRun)
      s.takes (to1 [0, 0]) 2 ∧ (s.act 0).cfg.enabled = true ∧ (1 : Fin 8) ≠ 0 ∧
        (s.act 1).cfg.frame = (s.act 0).cfg.frame ∧ (s.act 1).state = .tripped) ∧
      (let s := restraining 1 (put 0 .off inRun)
      s.takes (to1 [0, 0]) 2 ∧ s.pmx.entries[1].st ≠ .quiet ∧ s.pmx.entries[1].reach.getLsbD 0 = true ∧
        s.pmx.entries[1].cfg.acting = .unload ∧ s.pmx.entries[0].st = .quiet) ∧
      (let s := put 0 .unloading inRun
      s.takes (to1 [0, 1]) 2 ∧ ModeTarget.ofCode (u8 [0, 1] 1) = some .active ∧
        (∀ e : Fin 40, s.pmx.entries[e].st = .quiet) ∧ modeTable (s.act 0).state .active = none) ∧
      (let s := restraining 0 (put 0 .tripped inRun)
      s.takes (to1 [0, 2]) 2 ∧ ModeTarget.ofCode (u8 [0, 2] 1) = some .off ∧ (s.act 0).state = .tripped ∧
        s.pmx.entries[0].st ≠ .quiet ∧ s.pmx.entries[0].reach.getLsbD 0 = true ∧
        s.pmx.entries[0].cfg.acting = .trip) := by
  unfold State.takes; decide +kernel

theorem witness_ActModeFollowsTheTable_moves :
    ∀ x : ActState, x = .off ∨ x = .low ∨ x = .active →
      (put 0 x inRun).takes (to1 [0, 1]) 2 ∧ (put 0 x inRun).takes (to1 [0, 2]) 2 ∧ (put 0 x inRun).ev = {} ∧
        (put 0 x inRun).stc.mode = .run ∧ ((put 0 x inRun).act 0).cfg.enabled = true ∧
        (∀ b : Fin 8, ((put 0 x inRun).act b).state ≠ .tripped) ∧
        (∀ e : Fin 40, (put 0 x inRun).pmx.entries[e].st = .quiet) ∧
        (modeTable ((put 0 x inRun).act 0).state .active).isSome = true := by
  unfold State.takes
  intro x h
  rcases h with rfl | rfl | rfl <;> decide +kernel

/-- A member that leaves a group, and an actuator that leaves a RUNNING plan without its track. -/
theorem witness_ActModeFollowsTheTable_leaves :
    (∀ s ∈ [grouped, waving .steady], s.takes (to1 [0, 0]) 2 ∧ s.ev = {} ∧ (s.act 0).state = .active ∧
      ∀ b : Fin 8, (s.act b).derate = s.mergedDerate b) ∧
      grouped.groupOf 0 = some 0 ∧ (waving .steady).psq.state = .running ∧ (waving .steady).lostCause = false ∧
      (after (.actMode (to1 [0, 0])) (waving .steady)).lostCause = true := by
  refine ⟨fun s h => ?_, by decide +kernel⟩
  simp only [List.mem_cons, List.not_mem_nil, or_false] at h
  unfold State.takes
  rcases h with rfl | rfl <;> decide +kernel

theorem witness_PressureTimersExpire :
    let s := put 0 .starting inRun
    let up := s.modAct 0 fun x => { x with toActive := true }
    loaded.settled ∧ (loaded.act 0).state ≠ .starting ∧ (loaded.act 0).state ≠ .raising ∧
      s.settled ∧ (s.act 0).state = .starting ∧ (s.act 0).toActive = false ∧
      up.settled ∧ (up.act 0).state = .starting ∧ (up.act 0).toActive = true ∧ up.stc.mode = .run ∧
      (∀ b : Fin 8, (up.act b).state ≠ .tripped) ∧ (∀ e : Fin 40, up.pmx.entries[e].st = .quiet) ∧
      (put 0 .raising inRun).settled ∧ ((put 0 .raising inRun).act 0).state = .raising := by
  unfold State.settled; decide +kernel

/-- A0 UNLOADING to a destination, with its settle counter one sample before its value or two. -/
def unloadingTo (off : Bool) (settle : Nat) : State :=
  (put 0 .unloading loaded).modAct 0 fun x =>
    { x with destOff := off
             unload := { x.unload with settleMs := 1, timeoutS := 1, timerOn := true, settle := settle } }

theorem witness_UnloadsEnd :
    loaded.settled ∧ loaded.advisory ∧ (loaded.act 0).state ≠ .unloading ∧
      ∀ off : Bool, ∀ n : Fin 2,
        (unloadingTo off n).settled ∧ (unloadingTo off n).advisory ∧ ((unloadingTo off n).act 0).state = .unloading ∧
          ((unloadingTo off n).act 0).unload.timerOn = true ∧ 1 ≤ ((unloadingTo off n).act 0).unload.settleMs ∧
          ((clamp zeros.force[0] (-32768) 32767 - ((unloadingTo off n).act 0).unload.target).natAbs ≤
            ((unloadingTo off n).act 0).unload.tol) ∧
          ((unloadingTo off n).act 0).unload.settle + 1 = n.val + 1 ∧ ((unloadingTo off n).act 0).destOff = off := by
  unfold State.settled State.advisory; decide +kernel

/-- A pending RESTART whose last actuator comes to rest, by the end of its unload or by a trip. -/
theorem witness_RestartAtRestResets_deferred :
    let s := waiting (unloadingTo true 1)
    s.ev = {} ∧ s.advisory ∧ s.stc.restartPending = true ∧ (s.act 0).state = .unloading ∧ (s.act 0).destOff = true ∧
      (∀ b : Fin 8, b ≠ 0 → (s.act b).state = .off) ∧
      (clamp zeros.force[0] (-32768) 32767 - (s.act 0).unload.target).natAbs ≤ (s.act 0).unload.tol ∧
      2 * (s.act 0).unload.settleMs ≤ (s.act 0).unload.settle + 1 ∧ s.stc.haltOpen = false ∧
      s.stc.settings.keepSettings = false ∧ s.raised .haltLoop = false ∧ s.pmx.firstOut = none ∧
      s.pmx.entries[0].cfg = { kind := some .haltLoop, action := .trip, scope := .station, enabled := true } := by
  unfold State.advisory; decide +kernel

theorem witness_GroupStaysWithinItsTotal :
    (grouped.group 0).members.head? = some (0, 500) ∧ ((grouped.group 0).members.map Prod.fst).Nodup ∧
      (∀ m ∈ (grouped.group 0).members, 1 ≤ m.2) ∧ grouped.sharing 0 = (0, 500) :: [(1, 1)] ∧
      (∀ m ∈ grouped.sharing 0, (grouped.act m.1).present = .force ∧ 0 ≤ (grouped.act m.1).derate ∧
        (grouped.act m.1).derate ≤ 1000 ∧ 1 ≤ (grouped.act m.1).cfg.capacity) ∧
      grouped.settled ∧ grouped.advisory := by
  unfold State.settled State.advisory; decide +kernel

theorem witness_GroupStaysWithinItsTotal_law : grouped.groupLaw :=
  ⟨by decide +kernel, by decide +kernel, by decide +kernel⟩

/-- G0 with no handover due, with no ACTIVE member, or with no member that can be chosen. -/
def noDue : State := grouped.modGroup 0 fun g => { g with due := false }
def allOut : State := put 0 .low (put 1 .low grouped)
def allDerated : State := (grouped.modAct 0 fun x => { x with derate := 999 }).modAct 1 fun x => { x with derate := 0 }

theorem witness_SelectionsFollowTheTieOrder :
    (∀ s ∈ [grouped, noDue, allOut, allDerated], s.settled ∧ s.advisory ∧ (s.group 0).members ≠ []) ∧
      allOut.sharing 0 = [] ∧ noDue.sharing 0 ≠ [] ∧ (noDue.group 0).due = false ∧
      (∀ tie : Tie,
        let s := grouped.modGroup 0 fun g => { g with tie := tie, lru := [1, 0] }
        let v := (sampleValues zeros s).1
        s.settled ∧ s.advisory ∧ (s.group 0).members ≠ [] ∧ s.sharing 0 ≠ [] ∧ (s.group 0).due = true ∧
          (∀ a : Fin 8, a = 0 ∨ a = 1 → (s.act a).state = .active ∧ (s.act a).derate = 1000 ∧
            ((v.act a).regs.d.natAbs : Int) < (s.act a).cfg.capacity ∧ (v.act a).regs.d = 0)) ∧
      allDerated.sharing 0 ≠ [] ∧ (allDerated.group 0).due = true ∧
      (∀ a : Fin 8, a ∈ (allDerated.group 0).members.map Prod.fst → (allDerated.act a).derate ≠ 1000) := by
  refine ⟨fun s h => ?_, ?_⟩
  · simp only [List.mem_cons, List.not_mem_nil, or_false] at h
    unfold State.settled State.advisory
    rcases h with rfl | rfl | rfl | rfl <;> decide +kernel
  · unfold State.settled State.advisory
    refine ⟨by decide +kernel, by decide +kernel, by decide +kernel, fun tie => ?_, by decide +kernel, by decide +kernel,
      by decide +kernel⟩
    cases tie <;> decide +kernel

theorem witness_SelectionsFollowTheTieOrder_law :
    (∀ s ∈ [grouped, noDue, allOut, allDerated], s.groupLaw) ∧
      ∀ tie : Tie, (grouped.modGroup 0 fun g => { g with tie := tie, lru := [1, 0] }).groupLaw := by
  refine ⟨fun s h => ?_, fun tie => ?_⟩
  · simp only [List.mem_cons, List.not_mem_nil, or_false] at h
    rcases h with rfl | rfl | rfl | rfl <;> exact ⟨by decide +kernel, by decide +kernel, by decide +kernel⟩
  · cases tie <;> exact ⟨by decide +kernel, by decide +kernel, by decide +kernel⟩

/-- A GROUP_SET of G3 that names members, with a byte in its unused pairs. -/
def groupSet (l : List (Nat × Nat)) (carry tie : Byte) : List Byte :=
  [3, BitVec.ofNat 8 l.length] ++
    (l.flatMap (fun m => put1 m.1 ++ put2 m.2) ++ List.replicate (3 * (4 - l.length)) 0x77#8).take 12 ++ [carry, tie]

/-- The list a GROUP_SET of it would name, and the pairs its bytes give. -/
theorem witness_GroupSetStores :
    let l : List (Nat × Nat) := [(7, 1000), (6, 1)]
    let g : State := { grouped with stc := { grouped.stc with mode := .setup } }
    let s := State.reset
    (∀ l ∈ [[], [(6, 1)], [(7, 1000), (6, 1)], [(8, 1), (6, 1)], [(6, 1), (6, 2)], [(6, 0), (7, 1001)], [(1, 1), (2, 1)]],
      s.takes (to1 (groupSet l 1 1)) 16 ∧ g.takes (to1 (groupSet l 1 1)) 16 ∧
        l.length = u8 (groupSet l 1 1) 1 ∧ ∀ i : Fin 4, i.val < l.length →
          l[i.val]? = some (u8 (groupSet l 1 1) (2 + 3 * i.val), u16 (groupSet l 1 1) (3 + 3 * i.val))) ∧
      s.stc.mode = .setup ∧ s.ev = {} ∧ s.psq.state.going = false ∧ inRun.takes (to1 (groupSet l 0 0)) 16 ∧
      inRun.stc.mode ≠ .setup ∧ u8 (groupSet l 0 0) 0 = (3 : Fin 4).val ∧ u8 (groupSet l 2 0) 14 = 2 ∧
      u8 (groupSet l 0 2) 15 = 2 ∧ u8 (groupSet l 1 1) 14 = true.toNat ∧ u8 (groupSet l 1 1) 15 = Tie.first.code ∧
      4 ≤ u8 (4#8 :: (groupSet l 0 0).tail) 0 ∧ (s.takes (to1 (4#8 :: (groupSet l 0 0).tail)) 16) ∧
      (∀ a : Fin 8, s.groupOf a = none) ∧ ([(6, 1), (7, 1000)] : List (Nat × Nat)).Perm l ∧
      ([6, 7] : List (Fin 8)).Pairwise (· < ·) ∧ g.stc.mode = .setup ∧ g.groupOf 1 ≠ none ∧ g.groupOf 1 ≠ some 3 := by
  unfold State.takes; decide +kernel

/-- Five members cannot stand in the 16 bytes; the pairs that a count of 5 reads run over the flag and the policy. -/
theorem witness_GroupSetStores_five :
    let p : List Byte := [3, 5] ++ List.replicate 14 1#8
    let l : List (Nat × Nat) := [(1, 257), (1, 257), (1, 257), (1, 257), (1, 256 * u8 p 15)]
    State.reset.takes (to1 p) 16 ∧ l.length = u8 p 1 ∧ 4 < l.length ∧
      ∀ i : Fin 5, l[i.val]? = some (u8 p (2 + 3 * i.val), u16 p (3 + 3 * i.val)) := by
  unfold State.takes; decide +kernel

/-- A satellite slot with a record. -/
def sat (x : Fin 4) (f : Sat → Sat) (s : State) : State := s.modSat x f

/-- Slot 3 LIVE, its poll awaiting its answer. -/
def live3 (s : State) : State := sat 3 (fun y => { y with present := true, state := .live, awaiting := true }) s

/-- A valid set of readings, and nothing else. -/
def validSet : SatAnswer :=
  { set := Vector.replicate 16 2000000, valid := true, fresh := false, verdict := none, late := false }

theorem witness_SatelliteCommandsStore :
    let e : Entry := { ch := 15, setting := .filter 2, origin := .posted }
    let full : State := live3 (sat 3 (fun y => { y with posted := List.replicate 8 e }) State.reset)
    let drains : State := live3 (sat 3 (fun y => { y with draining := true }) State.reset)
    let seven : State := live3 (sat 3 (fun y => { y with posted := List.replicate 7 e }) State.reset)
    let p : List Byte := [3, 15, 2, 2]
    inRun.takes (to1 [3, 1, 0, 0]) 4 ∧ inRun.stc.mode ≠ .setup ∧ u8 [3, 1, 0, 0] 0 = (3 : Fin 4).val ∧
      u8 [3, 1, 0, 0] 1 = true.toNat ∧ u8 [3, 0, 0, 0] 1 = false.toNat ∧ State.reset.takes (to1 [3, 1, 0x27, 0x11]) 4 ∧
      10000 < u16 [3, 1, 0x27, 0x11] 2 ∧ u16 [3, 1, 0x27, 0x10] 2 ≤ 10000 ∧ State.reset.stc.mode = .setup ∧
      State.reset.glc[3].present = false ∧ State.reset.glc[3].state = .absent ∧
      (live3 State.reset).takes (to1 [3, 0, 0, 0]) 4 ∧ (live3 State.reset).glc[3].present = true ∧
      (live3 State.reset).glc[3].state = .live ∧ u8 p 1 = (15 : Fin 16).val ∧
      u8 p 2 = (SatSetting.filter 2).field ∧ u8 p 3 = (SatSetting.filter 2).value ∧
      State.reset.takes (to1 p) 4 ∧ drains.takes (to1 p) 4 ∧ drains.glc[3].present = true ∧
      drains.glc[3].draining = true ∧ full.takes (to1 p) 4 ∧ 8 ≤ full.glc[3].posted.length ∧
      full.glc[3].draining = false ∧ seven.takes (to1 p) 4 ∧ seven.glc[3].posted.length < 8 ∧
      State.reset.takes (to1 [3]) 1 ∧ drains.takes (to1 [3]) 1 ∧ seven.takes (to1 [3]) 1 := by
  unfold State.takes; decide +kernel

theorem witness_SatelliteCommandsStore_refuses :
    State.reset.takes (to1 [3, 0, 0, 0]) 4 ∧ (live3 State.reset).takes (to1 [3, 1, 0, 0]) 4 := by
  unfold State.takes; decide +kernel

theorem witness_PollsCountAndLose :
    let two : State := sat 3 (fun y => { y with unanswered := 2 }) (live3 loaded)
    State.reset.glc[3].state = .absent ∧ State.reset.noResetDue ∧ (live3 loaded).glc[3].state ≠ .absent ∧
      (live3 loaded).noResetDue ∧ min 3 ((live3 loaded).glc[3].unanswered + 1) < 3 ∧
      (sat 3 (fun y => { y with state := .seeking, unanswered := 3 }) (live3 loaded)).noResetDue ∧
      two.glc[3].state = .live ∧ two.glc[3].awaiting = true ∧ 2 ≤ two.glc[3].unanswered ∧ two.settled ∧ two.advisory := by
  unfold State.noResetDue State.settled State.advisory; decide +kernel

/-- A posted entry that turns the shunt of channel 15 on. -/
def shuntOn : Entry := { ch := 15, setting := .shunt 1, origin := .posted }

/-- Slot 3 LIVE, or LOST, with an order that its latest poll carried. -/
def carrying (x : SatState) (o : Order) : State :=
  sat 3 (fun y => { y with state := x, inFlight := some o, carried := true }) (live3 loaded)

theorem witness_AnswersMoveTheSlot_carried :
    ∀ o : Order, o = .config shuntOn ∨ o = .reset → ∀ x : SatState, x = .settling ∨ x = .live ∨ x = .lost →
      (carrying x o).settled ∧ (carrying x o).advisory ∧ (carrying x o).glc[3].state = x ∧
        (carrying x o).glc[3].awaiting = true ∧ (carrying x o).glc[3].carried = true ∧
        (carrying x o).glc[3].inFlight = some o := by
  unfold State.settled State.advisory
  intro o h x k
  rcases h with rfl | rfl <;> rcases k with rfl | rfl | rfl <;> decide +kernel

/-- Slot 3 awaiting an answer, with an image that differs from the satellite's defaults, or with the defaults. -/
def plain (x : SatState) (changed : Bool) : State :=
  sat 3 (fun y => { y with
    state := x, image := if changed then y.image.set 0 { y.image[0] with shunt := 1 } else y.image }) (live3 loaded)

theorem witness_AnswersMoveTheSlot :
    State.reset.glc[3].state = .absent ∧ State.reset.noResetDue ∧ validSet.late = false ∧
      ∀ x : SatState, x = .seeking ∨ x = .settling ∨ x = .live ∨ x = .lost → ∀ c : Bool,
        (plain x c).settled ∧ (plain x c).advisory ∧ (plain x c).glc[3].state = x ∧
          (plain x c).glc[3].awaiting = true ∧ (plain x c).glc[3].inFlight = none ∧ (plain x c).glc[3].restore = [] ∧
          (restoration (plain x c).glc[3].image ≠ [] ↔ c = true) := by
  unfold State.noResetDue State.settled State.advisory
  refine ⟨by decide +kernel, by decide +kernel, by decide +kernel, fun x h => ?_⟩
  rcases h with rfl | rfl | rfl | rfl <;> decide +kernel

theorem witness_SettlesAndRestorations :
    let settling (seen : Bool) : State :=
      sat 3 (fun y => { y with state := .settling, settleRunning := true, seen := seen }) loaded
    State.reset.noResetDue ∧ State.reset.glc[3].state ≠ .settling ∧
      ∀ seen : Bool, (settling seen).noResetDue ∧ (settling seen).glc[3].state = .settling ∧
        (settling seen).glc[3].settleRunning = true ∧ (settling seen).glc[3].seen = seen := by
  unfold State.noResetDue; decide +kernel

theorem witness_LiveSetsAreConverted :
    let zero (z : Option (Nat × Int)) : State :=
      (live3 loaded).modChan 63 fun y => { y with cfg := { y.cfg with enabled := true }, zeroing := z }
    validSet.late = false ∧ validSet.valid = true ∧ validSet.fresh = false ∧ validSet.verdict = none ∧
      validSet.set[63 % 16]? = some 2000000 ∧ (63 : Fin 64).val / 16 = (3 : Fin 4).val ∧
      (zero none).settled ∧ (zero none).advisory ∧ (zero none).glc[3].state = .live ∧
      (zero none).glc[3].awaiting = true ∧ (zero none).glc[3].carried = false ∧
      (zero none).stp.chans[63].cfg.enabled = true ∧ (zero none).stp.chans[62].cfg.enabled = false ∧
      (zero none).stp.chans[63].zeroing = none ∧ (zero (some (14, 1))).settled ∧
      (zero (some (14, 1))).stp.chans[63].zeroing = some (14, 1) ∧ 14 < 15 ∧ (zero (some (15, 1))).settled ∧
      (zero (some (15, 1))).advisory ∧ (zero (some (15, 1))).stp.chans[63].zeroing = some (15, 1) ∧ 15 ≤ 15 ∧
      (let leaves := sat 3 (fun y => { y with inFlight := some (.config shuntOn), carried := true }) (zero (some (14, 1)));
        let ans : SatAnswer := { validSet with verdict := some .accepted, fresh := true };
        leaves.settled ∧ leaves.advisory ∧ leaves.glc[3].state = .live ∧ leaves.glc[3].awaiting = true ∧
          ans.late = false ∧ ans.valid = true ∧ (after (.satelliteAnswer 3 ans) leaves).glc[3].state = .settling) := by
  unfold State.settled State.advisory; decide +kernel

/-- Slot 3 awaiting an answer whose set ends the settle, SETTLING with its timer expired or returning with interval 0. -/
theorem witness_LiveSetsAreConverted_settles :
    ∀ x : SatState, x = .settling ∨ x = .seeking ∨ x = .lost →
      let s := sat 3 (fun y => { y with state := x, settleMs := 0 }) (live3 loaded)
      s.settled ∧ s.advisory ∧ s.glc[3].state = x ∧ s.glc[3].awaiting = true ∧ s.glc[3].settleRunning = false ∧
        s.glc[3].settleMs = 0 ∧ s.glc[3].posted = [] ∧ s.glc[3].restore = [] ∧ s.glc[3].inFlight = none ∧
        s.glc[3].draining = false ∧ validSet.fresh = false ∧ validSet.late = false ∧ validSet.valid = true := by
  unfold State.settled State.advisory
  intro x h
  rcases h with rfl | rfl | rfl <;> decide +kernel

theorem witness_ChannelCommandsStore :
    let c (on : Bool) : ChanConfig := { enabled := on, gauge := 3000, hyst := 0 }
    let p (on : Bool) : List Byte := put1 63 ++ (c on).bytes
    let on (s : State) : State := s.modChan 63 fun y => { y with cfg := { y.cfg with enabled := true } }
    let there : State := sat 3 (fun y => { y with present := true, state := .settling }) (on State.reset)
    inRun.takes (to1 (p true)) 26 ∧ inRun.stc.mode ≠ .setup ∧ (c true).enabled ≠ inRun.stp.chans[63].cfg.enabled ∧
      State.reset.takes (to1 (p true)) 26 ∧ State.reset.stc.mode = .setup ∧ State.reset.takes (to1 (p false)) 26 ∧
      (let z : State := (on (live3 inRun)).modChan 63 fun y => { y with zeroing := some (3, 7) };
        z.takes (to1 (p false)) 26 ∧ z.stc.mode ≠ .setup ∧ z.stp.chans[63].zeroing = some (3, 7)) ∧
      State.reset.takes (to1 [0, 63]) 2 ∧ (3 : Fin 4).val = (63 : Fin 64).val / 16 ∧ u8 [0, 63] 0 = 0 ∧
      u8 [0, 63] 1 = (63 : Fin 64).val ∧ State.reset.glc[3].present = false ∧
      (live3 State.reset).takes (to1 [0, 63]) 2 ∧ (live3 State.reset).glc[3].present = true ∧
      (live3 State.reset).stp.chans[63].cfg.enabled = false ∧ there.takes (to1 [0, 63]) 2 ∧
      there.glc[3].present = true ∧ there.stp.chans[63].cfg.enabled = true ∧ there.glc[3].state ≠ .live ∧
      (on (live3 State.reset)).takes (to1 [0, 63]) 2 ∧ (on (live3 State.reset)).glc[3].state = .live ∧
      (on (live3 State.reset)).takes (to1 [1, 3]) 2 ∧ u8 [1, 3] 0 = 1 ∧ u8 [1, 3] 1 = (3 : Fin 4).val ∧
      (live3 State.reset).takes (to1 [1, 3]) 2 ∧
      (∀ k : Fin 64, (live3 State.reset).stp.chans[k].cfg.enabled = false) ∧
      (on (live3 State.reset)).stp.chans[63].cfg.enabled = true := by
  unfold State.takes; decide +kernel

theorem witness_ChannelCommandsStore_valid :
    ∀ on : Bool, ({ enabled := on, gauge := 3000, hyst := 0 } : ChanConfig).valid := by
  unfold ChanConfig.valid; decide +kernel

theorem witness_SnapshotCommandsStore :
    let l : List (Fin 64) := (List.finRange 64).take 32
    let p : List Byte := put1 32 ++ l.flatMap fun c => put1 c.val
    inRun.takes (to1 p) (1 + l.length) ∧ l.length ≤ 32 ∧ l.Nodup ∧ (shots 24 inRun).takes (to1 [7]) 1 ∧
      u8 [7] 0 = (7 : Fin 8).val ∧ 24 ≤ (shots 24 inRun).stp.snaps.length ∧ (shots 23 inRun).takes (to1 [7]) 1 ∧
      (shots 23 inRun).stp.snaps.length < 24 ∧ inRun.takes (to1 []) 0 ∧ inRun.stp.snaps = [] ∧
      (shots 1 inRun).takes (to1 []) 0 ∧ (shots 1 inRun).stp.snaps = shot :: [] ∧ inRun.takes (to1 [255, 0]) 2 ∧
      u8 [255, 0] 0 = 255 ∧ u8 [255, 0] 1 = false.toNat ∧ inRun.takes (to1 [7, 1]) 2 ∧ u8 [7, 1] 0 = (7 : Fin 8).val ∧
      u8 [7, 1] 1 = true.toNat := by
  unfold State.takes; decide +kernel

/-- Track 0 in use with a deflection of 5 less than its stored peak, or of 4. -/
def bent (d : Int) : State :=
  ((loaded.modSeq fun q => { q with tracks := q.tracks.set 0 { q.tracks[0] with deflection := some 15 } }).modSlot 15
    fun x => { x with fn := .deflection, value := d }).modStp
    fun p => { p with stiff := p.stiff.set 0 { peak := some (1, 1000, 100) } }

theorem witness_StiffnessComesAtAValley :
    loaded.ev = {} ∧ loaded.advisory ∧ loaded.inUse 0 = true ∧ loaded.inUse 1 = false ∧
      loaded.trackDeflection 0 = none ∧ (bent 95).ev = {} ∧ (bent 95).advisory ∧ (bent 95).inUse 0 = true ∧
      (bent 95).trackDeflection 0 = some 95 ∧ (bent 95).stp.stiff[0].peak = some (1, 1000, 100) ∧
      5 ≤ (100 - 95 : Int).natAbs ∧ (bent 96).ev = {} ∧ (bent 96).advisory ∧ (bent 96).trackDeflection 0 = some 96 ∧
      (bent 96).stp.stiff[0].peak = some (1, 1000, 100) ∧ (100 - 96 : Int).natAbs < 5 := by
  unfold State.advisory; decide +kernel

/-- AE channel 11 a SENSOR, in a state, with the first hit of an empty queue where it is IN_HIT. -/
def ae (x : AeState) : State :=
  loaded.modAeu fun u => { u with
    chans := vmod u.chans 11 fun y => { y with
      state := x, cfg := { y.cfg with role := .sensor }, hit := { y.hit with hasRecord := decide (x = .inHit) } }
    hits := if x = .inHit then
        [{ ch := 11, arrival := 0, peak := 0, energy := 0, long := false, complete := false
           stamp := { time := 0, cycles := 0, levels := Vector.replicate 8 0, role := .sensor } }]
      else [] }

theorem witness_HitsBeginAndEnd :
    loaded.settled ∧ loaded.advisory ∧ loaded.aeu.chans[11].state = .idle ∧ loaded.aeu.chans[11].cfg.role = .off ∧
      (ae .idle).settled ∧ (ae .idle).advisory ∧ (ae .idle).aeu.chans[11].state = .idle ∧
      (ae .idle).aeu.chans[11].cfg.role ≠ .off ∧ (ae .idle).aeu.event = none ∧ (ae .idle).aeu.hits = [] ∧
      (ae .inHit).settled ∧ (ae .inHit).advisory ∧ (ae .inHit).aeu.chans[11].state = .inHit ∧
      (ae .inHit).aeu.chans[11].hit.hasRecord = true ∧ (ae .inHit).aeu.event = none ∧ (ae .inHit).aeu.hits.length = 1 ∧
      (∀ h ∈ (ae .inHit).aeu.hits, h.ch = 11 ∧ h.complete = false) ∧
      (ae .lockout).settled ∧ (ae .lockout).advisory ∧ (ae .lockout).aeu.chans[11].state = .lockout := by
  unfold State.settled State.advisory; decide +kernel

/-- An event open until hit time 500, of a role. -/
def openEvent (role : AeRole) : OpenEvent :=
  let stamp : Stamp := { time := 0, cycles := 0, levels := Vector.replicate 8 0, role := role }
  { f := 11, s := none, dt := 0, tFirst := 0, windowEnd := 500, hits := 1, maxAmp := 45, energy := 1, long := false
    stamp := stamp }

/-- AE channel 11 IDLE with 64 records queued, the first of them OPEN. -/
def fullHits (e : Option OpenEvent) : State :=
  let stamp : Stamp := { time := 0, cycles := 0, levels := Vector.replicate 8 0, role := .sensor }
  let hit : HitRec := { ch := 0, arrival := 500, peak := 0, energy := 0, long := false, complete := false, stamp := stamp }
  (ae .idle).modAeu fun u => { u with event := e, hits := List.replicate 64 hit }

theorem witness_HitsBeginAndEnd_full :
    ∀ open' : Bool,
      let s := fullHits (if open' then some (openEvent .sensor) else none)
      s.settled ∧ s.advisory ∧ s.aeu.chans[11].state = .idle ∧ s.aeu.chans[11].cfg.role ≠ .off ∧
        decide (s.aeu.hits.length < 64) = false ∧ (∀ r ∈ s.aeu.hits, r.complete = false) ∧
        ((500 : HitTime) - (openEvent .sensor).windowEnd).toInt ≤ 0 := by
  unfold State.settled State.advisory
  intro open'
  cases open' <;> decide +kernel

/-- That event, with a zone 15 that takes it where it is enabled, gated at a level of track 0. -/
def opened (role : AeRole) (zone : Bool) (gate : Int) : State :=
  (loaded.modAeu fun u => { u with event := some (openEvent role) }).modZone 15
    fun z => { z with cfg := { z.cfg with enabled := zone, first := 0xFFF, track := some 0, gate := some gate } }

theorem witness_EventsCloseAndAreLogged_closes :
    State.reset.noResetDue ∧ State.reset.aeu.event = none ∧
      ∀ role : AeRole, role = .sensor ∨ role = .guard → ∀ z : Bool, ∀ g : Fin 2,
        (opened role z g.val).settled ∧ (opened role z g.val).advisory ∧ (opened role z g.val).aeu.hits = [] ∧
          (opened role z g.val).aeu.event = some (openEvent role) ∧ (openEvent role).stamp.role = role ∧
          ((500 : HitTime) - (opened role z g.val).hitClock).toInt = 500 ∧
          ((opened role z g.val).zmn.zones[15].cfg.takes (openEvent role) ↔ z = true) ∧
          (∀ y : Fin 16, y < 15 → ¬(opened role z g.val).zmn.zones[y].cfg.takes (openEvent role)) ∧
          ((g.val : Int) ≤ (openEvent role).stamp.levels[0] ↔ g = 0) := by
  unfold State.noResetDue State.settled State.advisory ZoneConfig.takes openEvent
  refine ⟨by decide +kernel, by decide +kernel, fun role h => ?_⟩
  rcases h with rfl | rfl <;> decide +kernel

/-- That event, with a record of channel 10 queued that arrived at a time, OPEN or COMPLETE. -/
def queued (arrival : HitTime) (complete : Bool) : State :=
  (opened .sensor true 0).modAeu fun u => { u with hits :=
    [{ ch := 10, arrival := arrival, peak := 50, energy := 7, long := true, complete := complete
       stamp := { time := 0, cycles := 0, levels := Vector.replicate 8 0, role := .sensor } }] }

theorem witness_EventsCloseAndAreLogged_queue :
    (∀ x ∈ [(500, false), (500, true), (501, false), (501, true)], (queued x.1 x.2).settled ∧ (queued x.1 x.2).advisory ∧
      (queued x.1 x.2).noResetDue ∧ (queued x.1 x.2).aeu.event = some (openEvent .sensor) ∧
      ((500 : HitTime) - (queued x.1 x.2).hitClock).toInt = 500 ∧
      (queued x.1 x.2).aeu.hits.map (fun r => (r.arrival, r.complete)) = [x]) ∧
    ((500 : HitTime) - (openEvent .sensor).windowEnd).toInt ≤ 0 ∧
      0 < ((501 : HitTime) - (openEvent .sensor).windowEnd).toInt ∧
      ¬0 < ((openEvent .sensor).windowEnd + 1 - (501 + BitVec.ofNat 32 (queued 501 true).aeu.window)).toInt := by
  refine ⟨fun x h => ?_, by decide +kernel⟩
  simp only [List.mem_cons, List.not_mem_nil, or_false] at h
  unfold State.settled State.advisory State.noResetDue
  rcases h with rfl | rfl | rfl | rfl <;> decide +kernel

theorem witness_EventsCloseAndAreLogged_commands :
    let x : AeConfig := { role := .guard, threshold := 20, hdt := 1000, hlt := 0, maxDur := 65535 }
    inRun.takes (to1 [9]) 1 ∧ 8 < u8 [9] 0 ∧ inRun.takes (to1 [8]) 1 ∧ u8 [8] 0 ≤ 8 ∧
      inRun.takes (to1 (put1 11 ++ x.bytes)) 9 ∧ 20 ≤ x.threshold ∧ x.threshold ≤ 99 ∧ 50 ≤ x.hdt ∧ x.hdt ≤ 1000 ∧
      x.hlt ≤ 5000 ∧ 1000 ≤ x.maxDur ∧ x.maxDur ≤ 65535 ∧ inRun.takes (to1 (put1 255 ++ put2 2001)) 3 ∧ 2001 ≤ 65535 ∧
      inRun.takes (to1 (put1 255 ++ put2 2000)) 3 := by
  unfold State.takes; decide +kernel

/-- A zone definition with every field at an end of its range. -/
def widest : ZoneConfig := { enabled := true, bins := 64, dtHigh := 2000, gate := some (-10000) }

theorem witness_ZoneRowsAct :
    let p (c : ZoneConfig) : List Byte := put1 15 ++ c.bytes
    let t (watch alert alarm : Nat) : Thresholds := { watch := watch, alert := alert, alarm := alarm }
    inRun.takes (to1 (p widest)) 28 ∧ inRun.stc.mode ≠ .setup ∧ State.reset.takes (to1 (p widest)) 28 ∧
      State.reset.stc.mode = .setup ∧ State.reset.takes (to1 (put1 16 ++ widest.bytes)) 28 ∧
      16 ≤ u8 (put1 16 ++ widest.bytes) 0 ∧
      State.reset.takes (to1 (p { widest with bins := 65 })) 28 ∧ ¬65 ≤ 64 ∧
      State.reset.takes (to1 (p { widest with gate := some (-32768) })) 28 ∧
      State.reset.takes (to1 (p { widest with dtLow := 65535 })) 28 ∧
      State.reset.takes (to1 (p { widest with counts := t 2 1 0 })) 28 ∧ ((1 : Nat) ≠ 0 ∧ (1 : Nat) < 2) ∧
      State.reset.takes (to1 (p { widest with counts := t 2 0 1 })) 28 ∧
      State.reset.takes (to1 (p { widest with energies := t 2 1 65535 })) 28 ∧
      State.reset.takes (to1 (p { widest with energies := t 0 65535 1 })) 28 ∧ ((1 : Nat) ≠ 0 ∧ (1 : Nat) < 65535) ∧
      inRun.takes (to1 [16, 0]) 2 ∧ 16 ≤ u8 [16, 0] 0 ∧
      inRun.takes (to1 [15, 1]) 2 ∧ u8 [15, 1] 0 = (15 : Fin 16).val ∧ u8 [15, 1] 1 = true.toNat ∧
      u8 [15, 0] 1 = false.toNat := by
  unfold State.takes; decide +kernel

theorem witness_ZoneRowsAct_laws :
    State.reset.zoneLaw ∧ inRun.zoneLaw ∧ State.reset.settled ∧ State.reset.advisory ∧
      State.reset.psq.state ≠ .running ∧ (waving .steady).settled ∧ (waving .steady).advisory := by
  unfold State.zoneLaw State.settled State.advisory; decide +kernel

theorem witness_ZoneRowsAct_valid : widest.valid ∧ ({} : Thresholds).valid :=
  ⟨⟨by decide +kernel, by decide +kernel, fun g h => by cases h; decide, by decide, by decide,
    by unfold Thresholds.valid; decide, by unfold Thresholds.valid; decide⟩, by unfold Thresholds.valid; decide⟩

/-- An entry on FORCE_LIMIT of A7. -/
def onForce (x : Action) : ProtConfig :=
  { kind := some .forceLimit, inst := some 7, action := x, scope := if x = .unload then .station else .actuator
    enabled := true }

/-- FORCE_LIMIT of A7 stands raised, and nothing else. -/
def raised7 : State := raise (.act .forceLimit 7) State.reset

theorem witness_MatrixCommandsAct :
    let p (x : Action) : List Byte := put1 39 ++ (onForce x).bytes
    inRun.takes (to1 (p .note)) 8 ∧ inRun.stc.mode ≠ .setup ∧ State.reset.takes (to1 (p .note)) 8 ∧
      State.reset.stc.mode = .setup ∧ State.reset.takes (to1 (put1 40 ++ (onForce .note).bytes)) 8 ∧
      40 ≤ u8 (put1 40) 0 ∧ u8 (p .note) 0 = (39 : Fin 40).val ∧ State.reset.ev = {} ∧
      State.reset.psq.state.going = false ∧ (∀ a : Fin 8, (State.reset.act a).state = .off) ∧
      State.reset.raised (.act .forceLimit 7) = false ∧
      (∀ x : Action, raised7.takes (to1 (p x)) 8) ∧ raised7.stc.mode = .setup ∧ raised7.ev = {} ∧
      raised7.psq.state.going = false ∧ (∀ a : Fin 8, (raised7.act a).state = .off) ∧
      raised7.raised (.act .forceLimit 7) = true ∧ raised7.raised (.act .forceLimit 6) = false ∧
      (Cond.act .forceLimit 7).kind = .forceLimit ∧ (Cond.act .forceLimit 7).inst = 7 := by
  refine ⟨?_, ?_, ?_, ?_, ?_, ?_, ?_, ?_, ?_, ?_, ?_, fun x => ?_, ?_⟩
  case refine_12 => unfold State.takes; cases x <;> decide +kernel
  all_goals (try unfold State.takes); decide +kernel

/-- P0 given with instance 0, and a value with an action that is no DERATE. -/
theorem witness_MatrixCommandsAct_zero :
    let c : ProtConfig := { kind := some .haltLoop, action := .unload, scope := .station, enabled := true }
    let d : ProtConfig := { c with inst := some 0, value := 5 }
    let p : List Byte := put1 0 ++ d.bytes
    raised7.takes (to1 p) 8 ∧ u8 p 0 = (0 : Fin 40).val ∧ d = { c with inst := d.inst, value := d.value } ∧
      d.inst = some 0 ∧ CondKind.haltLoop.count = 1 ∧ c.action ≠ .derate ∧ u8 p 1 ≠ 255 := by
  unfold State.takes; decide +kernel

/-- A LATCHED entry and an ACTIVE one for PROT_CLEAR. -/
theorem witness_MatrixCommandsAct_clear :
    let st (x : EntryState) : State := State.reset.modEntry 39 fun y =>
      { y with st := x, raised := if x = .active then [7] else [] }
    (∀ x : EntryState, (st x).takes (to1 [39]) 1 ∧ (st x).takes (to1 [255]) 1 ∧ (st x).pmx.entries[39].st = x) ∧
      u8 [39] 0 = (39 : Fin 40).val ∧ u8 [255] 0 = 255 ∧ State.reset.takes (to1 [254]) 1 ∧
      (40 ≤ u8 [254] 0 ∧ u8 [254] 0 ≠ 255) ∧ State.reset.takes (to1 [40]) 1 ∧ State.reset.takes (to1 []) 0 := by
  unfold State.takes
  refine ⟨fun x => ?_, ?_⟩
  · cases x <;> decide +kernel
  · decide +kernel

theorem witness_MatrixCommandsAct_valid :
    (∀ x : Action, (onForce x).valid 39) ∧
      ({ kind := some .haltLoop, action := .unload, scope := .station, enabled := true } : ProtConfig).valid 0 := by
  refine ⟨fun x => ⟨fun i h => ?_, ?_⟩, fun i h => (by cases h), ?_⟩
  · cases h; decide
  · cases x <;> decide +kernel
  · decide +kernel

/-- A frame that gives no entry: kind 200. -/
theorem witness_MatrixCommandsAct_none :
    let p : List Byte := [39, 200, 0, 0, 0, 0, 0, 1]
    State.reset.takes (to1 p) 8 ∧ u8 p 0 = (39 : Fin 40).val ∧ u8 p 1 ≠ 255 ∧
      ∀ d : ProtConfig, p ≠ put1 (39 : Fin 40).val ++ d.bytes := by
  refine ⟨by unfold State.takes; decide +kernel, by decide, by decide, fun d h => ?_⟩
  have h1 : (200#8 : Byte) = (put1 (match d.kind with
      | none => 255
      | some k => k.code)).headD 0 := congrArg (fun l => l.getD 1 0) h
  revert h1
  cases d.kind with
  | none => decide
  | some k => cases k <;> decide

theorem witness_HaltUnloadsOrHolds :
    let p (x : Action) : ProtConfig := { kind := some .broadcastHalt, action := x, scope := .station, enabled := true }
    let held : State := loaded.modEntry 1 fun x => { x with cfg := p .hold }
    loaded.takes (to1 []) 0 ∧ loaded.ev = {} ∧ loaded.raised .broadcastHalt = false ∧
      (∀ e : Fin 40, e ≠ 1 → loaded.pmx.entries[e].cfg.kind ≠ some .broadcastHalt) ∧ loaded.pmx.entries[1].raised = [] ∧
      loaded.pmx.entries[1].cfg = p .unload ∧ (loaded.act 0).state = .active ∧ loaded.stc.mode ≠ .safe ∧
      (waving .steady).psq.state.going = true ∧ (waving .steady).pmx.entries[1].cfg = p .unload ∧
      held.takes (to1 []) 0 ∧ held.ev = {} ∧ held.raised .broadcastHalt = false ∧ held.pmx.entries[1].raised = [] ∧
      held.pmx.entries[1].cfg = p .hold ∧ loaded.pmx.entries[1].st ≠ .active ∧
      (let manual := (waving .steady).modAct 0 fun x => { x with source := .manual };
        manual.takes (to1 []) 0 ∧ manual.ev = {} ∧ manual.raised .broadcastHalt = false ∧
          manual.psq.state.going = true ∧ (∀ k : Fin 8, manual.inUse k = false) ∧
          manual.pmx.entries[1].cfg = p .unload) ∧
      (let trip : State := loaded.modEntry 1 fun x => { x with cfg := p .trip };
        trip.takes (to1 []) 0 ∧ trip.ev = {} ∧ trip.raised .broadcastHalt = false ∧ trip.pmx.entries[1].raised = [] ∧
          trip.pmx.entries[1].cfg = p .trip ∧ (∀ e : Fin 40, e ≠ 1 → trip.pmx.entries[e].cfg.kind ≠ some .broadcastHalt)) ∧
      (let run : State := (waving .steady).modEntry 1 fun x => { x with cfg := p .hold };
        run.psq.state = .running ∧ run.takes (to1 []) 0 ∧ run.ev = {} ∧ run.raised .broadcastHalt = false ∧
          run.pmx.entries[1].cfg = p .hold) := by
  unfold State.takes; decide +kernel

/-- P1 disabled. -/
theorem witness_HaltUnloadsOrHolds_disabled :
    let s : State := loaded.modEntry 1 fun x => { x with cfg := { x.cfg with enabled := false } }
    s.takes (to1 []) 0 ∧ s.ev = {} ∧ s.raised .broadcastHalt = false ∧ s.pmx.entries[1].raised = [] ∧
      s.pmx.entries[1].st ≠ .active ∧ s.pmx.entries[1].cfg.action ≠ .note ∧
      (∀ e : Fin 40, e ≠ 1 → s.pmx.entries[e].cfg.kind ≠ some .broadcastHalt) ∧
      s.pmx.entries[1].cfg =
        { kind := some .broadcastHalt, action := s.pmx.entries[1].cfg.action, scope := .station, enabled := false } := by
  unfold State.takes; decide +kernel

theorem witness_FirstOutStands :
    halted.pmx.firstOut.isSome = true ∧
      exec .replySent halted = .next (finish (replyDone halted)) := ⟨by decide +kernel, rfl⟩

/-- A0 UNLOADING with its timer running, and slot 3 about to be lost. -/
def noticed (x : ProtConfig) : State :=
  (sat 3 (fun y => { y with unanswered := 2 }) (live3 (unloadingTo false 0))).modEntry 39 fun y => { y with cfg := x }

theorem witness_EntryAndTripNotices :
    let u : ProtConfig := { kind := some .unloadTimeout, inst := some 0, action := .trip, scope := .frame, enabled := true }
    let l : ProtConfig := { kind := some .satLost, action := .derate, value := 500, scope := .station, enabled := true }
    let apart (s : State) (e : Fin 40) (c : Cond) : Prop := s.settled ∧ s.raised c = false ∧
      ∀ e' : Fin 40, e' ≠ e → s.pmx.entries[e'].cfg.kind ≠ some c.kind
    apart loaded 0 .haltLoop ∧ loaded.pmx.entries[0].cfg.kind = some .haltLoop ∧
      loaded.pmx.entries[0].cfg.inst = none ∧
      apart (noticed u) 39 (.unloadTimeout 0) ∧ ((noticed u).act 0).state = .unloading ∧
      ((noticed u).act 0).unload.timerOn = true ∧ (noticed u).pmx.entries[39].cfg.inst = some 0 ∧
      (Cond.unloadTimeout 0).inst = 0 ∧ (noticed u).pmx.entries[39].st ≠ .active ∧
      apart (noticed l) 39 (.satLost 3) ∧ (noticed l).glc[3].state = .live ∧ (noticed l).glc[3].awaiting = true ∧
      2 ≤ (noticed l).glc[3].unanswered ∧ (noticed l).pmx.entries[39].cfg.inst = none := by
  unfold State.settled; decide +kernel

/-- For the statements of laws that every command keeps: DriveLawIsKept, StationLawIsKept, GroupLawIsKept,
ZoneLawIsKept, MatrixLawIsKept, QueuesStayBounded. -/
theorem witness_laws :
    State.reset.driveLaw ∧ State.reset.stationLaw ∧ State.reset.groupLaw ∧ State.reset.zoneLaw ∧ State.reset.matrixLaw ∧
      State.reset.queuesBounded ∧ loaded.stationLaw ∧ loaded.zoneLaw ∧ loaded.matrixLaw ∧
      exec .replySent State.reset = .next State.reset := by
  refine ⟨fun a => ⟨?_, ?_, fun q => ?_, ?_⟩, ?_, ⟨?_, ?_, fun g a h => ?_⟩, ?_, ?_, ?_, ?_, ?_, ?_, rfl⟩
  · revert a; decide +kernel
  · revert a; decide +kernel
  · cases q <;> (revert a; decide +kernel)
  · revert a; decide +kernel
  · unfold State.stationLaw; decide +kernel
  · decide +kernel
  · decide +kernel
  · exact absurd h (by revert a; revert g; decide +kernel)
  · unfold State.zoneLaw; decide +kernel
  · unfold State.matrixLaw; decide +kernel
  · unfold State.queuesBounded; decide +kernel
  · unfold State.stationLaw; decide +kernel
  · unfold State.zoneLaw; decide +kernel
  · unfold State.matrixLaw; decide +kernel

end Sys2Proof.Tests
end

/-!
The PI loop of a control sample (R59): the integrator the loop starts from is the one the sample finds, and the registers a
running servo leaves are the five steps of R59 on it.
-/
namespace Sys2Proof.Machine

/-! ### The five steps -/

/-- The five registers of stage 9 stand as R59 forms them from C, the measured value and an integrator. -/
def Actuator.FollowsPi (x : Actuator) (old : Int) : Prop :=
  (x.regs.err, x.regs.p, x.regs.ut, x.regs.a, x.regs.u) =
    piLoop (x.gains x.present) (x.measured x.present) x.regs.c old

/-- What the five registers are; in step 4 the integrator holds at saturation while the error drives further into it. -/
theorem piLoop_steps (g : Gains) (measured c old : Int) :
    let (err, p, ut, a, u) := piLoop g measured c old
    let holds := 10000 ≤ ut.natAbs ∧ err ≠ 0 ∧ (err < 0 ↔ ut < 0)
    err = c - measured ∧
    p = roundDiv (g.kp * err) 256 ∧
    ut = p + roundDiv old 65536 ∧
    (holds → a = old) ∧
    (¬holds → a = clamp (old + g.ki * err) (-(g.imax * 65536)) (g.imax * 65536)) ∧
    u = clamp (p + roundDiv a 65536) (-10000) 10000 := by
  refine ⟨rfl, rfl, rfl, fun hold => if_pos ?_, fun moves => if_neg ?_, rfl⟩
  · simpa [and_assoc] using hold
  · simpa [and_assoc] using moves

/-! ### What comes before stage 9 keeps the integrator -/

/-- The integrator of actuator a, as it stands. -/
def State.integrator (a : Fin 8) (s : State) : Int := (s.act a).regs.a

/-- A change of one actuator that keeps its integrator keeps every one. -/
theorem State.modAct_integrator {f : Actuator → Actuator} (h : ∀ x, (f x).regs.a = x.regs.a) (a b : Fin 8) (s : State) :
    (s.modAct b f).integrator a = s.integrator a := by
  unfold State.integrator
  rw [State.modAct_act]
  split
  · exact h _
  · rfl

theorem State.modGroup_integrator (a : Fin 8) (g : Fin 4) (f : Group → Group) (s : State) :
    (s.modGroup g f).integrator a = s.integrator a := rfl

/-- A selection moves the group and the notice queue, and no actuator (R100 to R102). -/
theorem selectRecipient_act (g : Fin 4) (s : State) (a : Fin 8) : (selectRecipient g s).act a = s.act a := by
  unfold selectRecipient
  dsimp only
  split
  · split <;> rfl
  · rfl

/-- Shares and stage 4 values go to other registers than the integrator (R104). -/
theorem formShares_integrator (g : Fin 4) (lead a : Fin 8) (s : State) :
    (formShares g lead s).integrator a = s.integrator a := by
  unfold formShares
  dsimp only
  rw [State.modGroup_integrator]
  refine foldl_same (State.integrator a) (fun s m => ?_) _ s
  refine State.modAct_integrator (fun y => ?_) a m.1 s
  rfl

theorem groupSample_integrator (a : Fin 8) (g : Fin 4) (s : State) :
    (groupSample g s).integrator a = s.integrator a := by
  unfold groupSample
  split
  · simp only [State.integrator, formHandover, State.modGroup_act, selectRecipient_act]
    exact formShares_integrator ..
  · rfl

theorem readSensors_integrator (r : Readings) (a : Fin 8) (s : State) :
    (readSensors r s).integrator a = s.integrator a := by
  simp [State.integrator, State.act, readSensors]

/-- Stages 1 to 5 pass the integrator on as it stands (R48). -/
theorem demand_integrator (s : State) (a : Fin 8) (x : Actuator) : (demand s a x).1.a = x.regs.a := by
  unfold demand
  cases x.state with
  | active =>
    cases s.groupOf a with
    | some g => rfl
    | none =>
      cases x.source with
      | manual => rfl
      | sequencer => dsimp only; split <;> rfl
  | unloading | low | raising | off | starting | tripped => rfl

@[simp] theorem unloadSample_regs (x : Actuator) : (unloadSample x).regs = x.regs := by
  unfold unloadSample; split <;> rfl

/-! ### Stage 9 of one servo and of the sample -/

theorem loopStages_followsPi (w : Vector Window 6) (a : Fin 8) (r : Regs) (h : Int) (x : Actuator) :
    (loopStages w a r h x).FollowsPi r.a := by
  unfold loopStages Actuator.FollowsPi
  rfl

/-- A running servo's registers follow from the integrator it found (R48, R59). -/
theorem servoSample_followsPi (s : State) (a : Fin 8) (h : (servoSample s a).state.servoRuns = true) :
    (servoSample s a).FollowsPi (s.integrator a) := by
  unfold servoSample at h ⊢
  dsimp only at h ⊢
  split at h
  case isTrue runs =>
    have start : (demand s a (unloadSample (s.act a))).1.a = s.integrator a := by
      rw [demand_integrator, unloadSample_regs]; rfl
    rw [if_pos runs, ← start]
    exact loopStages_followsPi ..
  case isFalse rests => exact absurd h rests

theorem runServos_act (s : State) (a : Fin 8) : (runServos s).act a = servoSample s a := by
  simp [State.act, runServos]

/-- The servo of a control sample starts from the integrator the sample finds: neither the sensors nor the sequencer nor
the load groups write it (R48, R59). -/
theorem sampleValues_followsPi (r : Readings) (s : State) (a : Fin 8)
    (h : ((sampleValues r s).1.act a).state.servoRuns = true) :
    ((sampleValues r s).1.act a).FollowsPi (s.act a).regs.a := by
  unfold sampleValues at h ⊢
  dsimp only at h ⊢
  rw [runServos_act] at h ⊢
  have follows := servoSample_followsPi _ a h
  rw [forAsc_same (State.integrator a) (groupSample_integrator a)] at follows
  have found : (readSensors r (sampleTime s)).integrator a = (s.act a).regs.a := readSensors_integrator r a _
  exact found ▸ follows

/-- Settles O28: stage 9 of a running servo is `piLoop` on the integrator the sample finds, read step by step. -/
theorem piLoopFollowsItsSteps : Obligations.PiLoopFollowsItsSteps := by
  intro r s a v x old g measured holds
  refine ⟨rfl, fun runs => ?_⟩
  have follows : (x.regs.err, x.regs.p, x.regs.ut, x.regs.a, x.regs.u) = piLoop g measured x.regs.c old :=
    sampleValues_followsPi r s a runs
  have steps := piLoop_steps g measured x.regs.c old
  rw [← follows] at steps
  exact steps

end Sys2Proof.Machine

/-!
Delivery (R198): the three deliveries by source, destination, station address and station mask, and what an ignored frame
of any command leaves.
-/
namespace Sys2Proof.Machine

/-! ### The bits clear in the station mask -/

/-- Two words agree under the complement of a mask when they agree in every bit that is clear in the mask. -/
theorem and_not_mask_eq_iff {w : Nat} (x y mask : BitVec w) :
    x &&& ~~~mask = y &&& ~~~mask ↔ ∀ k < w, mask.getLsbD k = false → x.getLsbD k = y.getLsbD k := by
  constructor
  · intro same k hk clear
    have bit := congrArg (BitVec.getLsbD · k) same
    simpa only [BitVec.getLsbD_and, BitVec.getLsbD_not, clear, hk, decide_true, Bool.not_false, Bool.and_true] using bit
  · intro agree
    refine BitVec.eq_of_getLsbD_eq fun k hk => ?_
    rw [BitVec.getLsbD_and, BitVec.getLsbD_and, BitVec.getLsbD_not]
    cases clear : mask.getLsbD k with
    | false => rw [agree k hk clear]
    | true => simp

/-- A destination below 32 is the address of its value. -/
theorem setWidth_eq_address_iff {dst : Byte} (h : dst.toNat < 32) (a : Address) :
    dst.setWidth 5 = a ↔ dst.toNat = a.toNat := by
  rw [← BitVec.toNat_inj, BitVec.toNat_setWidth, Nat.mod_eq_of_lt h]

/-- The test of the station mask, bit by bit of the destination as it came. -/
theorem setWidth_and_not_mask_eq_iff (dst : Byte) (a mask : Address) :
    dst.setWidth 5 &&& ~~~mask = a &&& ~~~mask ↔
      ∀ k < 5, mask.getLsbD k = false → dst.getLsbD k = a.getLsbD k := by
  rw [and_not_mask_eq_iff]
  refine forall₂_congr fun k hk => ?_
  rw [BitVec.getLsbD_setWidth, decide_eq_true hk, Bool.true_and]

/-! ### The three deliveries -/

section
variable {s : State} {f : Frame}

theorem delivery_of_foreign (h : f.src ≠ 0 ∨ 32 ≤ f.dst.toNat) : s.delivery f = .ignored := by
  rw [State.delivery, if_pos h]

/-- What comes from the supervisor to one of the destinations 0 to 31. -/
theorem delivery_of_own (hsrc : f.src = 0) (hlt : f.dst.toNat < 32) :
    s.delivery f =
      if f.dst = 0 then .group
      else if s.stc.address = 0 then .ignored
      else if f.dst.toNat = s.stc.address.toNat then .addressed
      else if f.dst.setWidth 5 &&& ~~~s.stc.settings.mask = s.stc.address &&& ~~~s.stc.settings.mask then .group
      else .ignored := by
  have own : ¬(f.src ≠ 0 ∨ 32 ≤ f.dst.toNat) := by simp [hsrc, hlt]
  simp only [State.delivery, if_neg own, setWidth_eq_address_iff hlt]

theorem delivery_eq_addressed_iff :
    s.delivery f = .addressed ↔ f.src = 0 ∧ f.dst ≠ 0 ∧ f.dst.toNat = s.stc.address.toNat := by
  by_cases foreign : f.src ≠ 0 ∨ 32 ≤ f.dst.toNat
  · rw [delivery_of_foreign foreign]
    refine iff_of_false (by simp) ?_
    rintro ⟨hsrc, -, equal⟩
    have : s.stc.address.toNat < 32 := s.stc.address.isLt
    exact foreign.elim (· hsrc) (by omega)
  · have hsrc : f.src = 0 := not_not.1 (not_or.1 foreign).1
    rw [delivery_of_own hsrc (Nat.not_le.1 (not_or.1 foreign).2)]
    split_ifs with broadcast unset equal masked
    · simp [broadcast]
    · have : f.dst.toNat ≠ 0 := fun zero => broadcast (BitVec.eq_of_toNat_eq zero)
      simp [unset, this]
    · exact iff_of_true rfl ⟨hsrc, broadcast, equal⟩
    · simp [equal]
    · simp [equal]

theorem delivery_eq_group_iff :
    s.delivery f = .group ↔ f.src = 0 ∧ (f.dst = 0 ∨
      (s.stc.address ≠ 0 ∧ f.dst.toNat < 32 ∧ f.dst.toNat ≠ s.stc.address.toNat ∧
        ∀ k < 5, s.stc.settings.mask.getLsbD k = false → f.dst.getLsbD k = s.stc.address.getLsbD k)) := by
  rw [← setWidth_and_not_mask_eq_iff]
  by_cases foreign : f.src ≠ 0 ∨ 32 ≤ f.dst.toNat
  · rw [delivery_of_foreign foreign]
    refine iff_of_false (by simp) ?_
    rintro ⟨hsrc, hdst | ⟨-, hlt, -⟩⟩
    · simp [hsrc, hdst] at foreign
    · exact foreign.elim (· hsrc) (Nat.not_le.2 hlt)
  · have hsrc : f.src = 0 := not_not.1 (not_or.1 foreign).1
    have hlt : f.dst.toNat < 32 := Nat.not_le.1 (not_or.1 foreign).2
    rw [delivery_of_own hsrc hlt]
    by_cases broadcast : f.dst = 0
    · simp [hsrc, broadcast]
    · rw [if_neg broadcast, or_iff_right broadcast]
      split_ifs with unset equal masked
      · simp [unset]
      · simp [equal]
      · exact iff_of_true rfl ⟨hsrc, unset, hlt, equal, masked⟩
      · simp [masked]

end

/-! ### Taking a command frame -/

/-- The five ways in which the row of a command takes its frame. -/
inductive FrameTaking (code : Byte) (f : Frame) : (State → State) → Prop where
  | command (length : List Byte → Nat) (body : List Byte → State → Answer) :
    FrameTaking code f (command code length body f)
  | group (body : State → Answer) : FrameTaking code f (groupCommand code body f)
  | read (body : State → Answer) : FrameTaking code f (readCommand code body f)
  | unknown : FrameTaking code f (unknownCode code f)
  | restart : FrameTaking code f (restartCommand f)

/-- The row of every command takes its frame in one of the five ways, and ends the step there. -/
theorem exec_of_frameOf {i : Instr} {code : Byte} {f : Frame} (h : frameOf i = some (code, f)) :
    ∃ take, FrameTaking code f take ∧ ∀ s, exec i s = stepDone (take s) := by
  cases i with
  | unknownCommandCode => cases h; exact ⟨_, .unknown, fun _ => rfl⟩
  | restart => cases h; exact ⟨_, .restart, fun _ => rfl⟩
  | status | fetch => cases h; exact ⟨_, .read _, fun _ => rfl⟩
  | halt | go | hold | resume => cases h; exact ⟨_, .group _, fun _ => rfl⟩
  | mode | stationSet | assign | slotSet | slotRead | planWrite | planRead | planSet | trackSet | start | abort | seqStatus
  | windowSet | actConfig | actGains | actMode | actControl | actSource | actManual | actStatus | groupSet | groupStatus
  | satPresent | satWrite | satRead | satReset | satStatus | chConfig | chZero | chRead | snapList | snapNow | snapFetch
  | stiffRef | aeChannel | aeChannelWindow | aeFetch | zoneSet | zoneStatus | zoneAck | protEntry | protList | protClear
  | protFirstClear | tripLog => cases h; exact ⟨_, .command _ _, fun _ => rfl⟩
  | _ => cases h

/-- An ignored frame leaves the receiver hunting, and does nothing else, however its command is taken (R198). -/
theorem FrameTaking.of_ignored {code : Byte} {f : Frame} {take : State → State} {s : State} (h : FrameTaking code f take)
    (ignored : s.delivery f = .ignored) : take s = s.received := by
  cases h with
  | command length body => simp only [Machine.command, ignored]
  | group body => simp only [groupCommand, ignored]
  | read body => simp only [readCommand, ignored]
  | unknown => simp only [unknownCode, ignored, ite_self]
  | restart => simp only [restartCommand, received_delivery, ignored]

theorem received_noResetDue {s : State} (h : s.noResetDue) : s.received.noResetDue := h

/-- Settles O4: each delivery by the tests of R198, and an ignored frame by the five ways in which a row takes a frame. -/
theorem deliveryFollowsAddressAndMask : Obligations.DeliveryFollowsAddressAndMask := by
  intro s f
  refine ⟨delivery_eq_addressed_iff, delivery_eq_group_iff, ?_, ?_⟩
  · cases s.delivery f <;> simp
  · intro i code frame ignored noReset
    obtain ⟨take, taking, run⟩ := exec_of_frameOf frame
    rw [run, taking.of_ignored ignored, stepDone_of_noResetDue (received_noResetDue noReset)]
    rfl

end Sys2Proof.Machine

/-!
What an event keeps: the operations an event is made of, named once (`Event.Kept`), so that a property is followed through
the meaning of every row once, and an invariant is proved by giving the operations it stands.
-/
namespace Sys2Proof.Machine

/-! ### The operations of an event -/

/-- The state with other actuators. -/
def State.withActs (v : Vector Actuator 8) (s : State) : State := { s with svc := { s.svc with acts := v } }

/-- The state with another plan sequencer and other SEQ_STATE notices waiting. -/
def State.withPlan (q : Sequencer) (l : List Notice) (s : State) : State :=
  { s with psq := q, ev := { s.ev with seqs := l } }

/-- The state with another notice queue. -/
def State.withNotices (l : List Notice) (lost : Bool) (s : State) : State :=
  { s with sli := { s.sli with notices := l, noticesLost := lost } }

/-- The law of the valve drive and the integrator, for one actuator (R50, R60, R61). -/
def Actuator.driveOk (x : Actuator) : Prop :=
  x.regs.u.natAbs ≤ 10000 ∧
  (x.state = .off ∨ x.state = .starting ∨ x.state = .tripped → x.regs.u = 0) ∧
  (∀ q, 0 ≤ (x.gains q).imax ∧ (x.gains q).imax ≤ 10000) ∧
  x.regs.a.natAbs ≤ (x.gains x.present).imax * 65536

/-- What becomes of an actuator when neither its state nor its frame nor its derate is changed. -/
structure Actuator.Works (x y : Actuator) : Prop where
  state : y.state = x.state
  frame : y.cfg.frame = x.cfg.frame
  derate : y.derate = x.derate
  drive : x.driveOk → y.driveOk

theorem Actuator.Works.rfl' (x : Actuator) : x.Works x := ⟨rfl, rfl, rfl, id⟩

/-- The changes of state that the rules of chapter 4 make, a trip apart (R76 to R82, R84). -/
def State.mayEnter (s : State) (a : Fin 8) : ActState → Prop
  | .off => True
  | .low | .unloading => (s.act a).state.pressurized = true
  | .raising => s.stc.mode = .run ∧ (s.act a).state.pressurized = true
  | .active => (s.act a).state = .raising
  | .starting => s.stc.mode = .run ∧ ∀ b, (s.act b).cfg.frame = (s.act a).cfg.frame → (s.act b).state ≠ .tripped
  | .tripped => False

/-- The lists and the count of a satellite slot are within their capacity (R111, R115, R120). -/
def Sat.bounded (x : Sat) : Prop := x.posted.length ≤ 8 ∧ x.restore.length ≤ 64 ∧ x.unanswered ≤ 3

/-- The lists and the count of the strain processor are within their capacity (R136, R140). -/
def Strain.bounded (x : Strain) : Prop := x.snapList.length ≤ 32 ∧ x.snaps.length ≤ 24 ∧ x.skipped ≤ 255

/-- The lists of the emission unit are within their capacity (R152, R159). -/
def Emission.bounded (x : Emission) : Prop := x.hits.length ≤ 64 ∧ x.log.length ≤ 32

/-- `P`, a property of states between events, and `Q`, one of states in which an event may have formed notices and lowerings
that wait, are kept by the operations an event is made of. -/
structure Event.Kept (P Q : State → Prop) : Prop where
  begin : ∀ {s}, P s → Q s
  flush : ∀ {s}, Q s → P (flush s)
  /-- The sequencer moves. -/
  plan : ∀ q l {s : State}, Q s → Q (s.withPlan q l)
  /-- Actuators work, in their states. -/
  work : ∀ v {s : State}, (∀ a : Fin 8, (s.act a).Works v[a]) → Q s → Q (s.withActs v)
  enter : ∀ a x c {s : State}, s.mayEnter a x → Q s → Q (setActState a x c s)
  clock : ∀ c {s : State}, P s → P { s with clock := c }
  station : ∀ c {s : State}, c.mode = s.stc.mode → P s → P { s with stc := c }
  toRun : ∀ {s : State}, P s → P (s.modStc fun c => { c with mode := .run })
  toSetup : ∀ {s : State}, (∀ a, (s.act a).state = .off) → Q s → Q (s.modStc fun c => { c with mode := .setup })
  notices : ∀ l b {s : State}, (s.sli.notices.length ≤ 32 → l.length ≤ 32) → P s → P (s.withNotices l b)
  slots : ∀ v {s : State}, P s → P { s with axs := v }
  planNow : ∀ q {s : State}, P s → P { s with psq := q }
  workNow : ∀ v {s : State}, (∀ a : Fin 8, (s.act a).Works v[a]) → P s → P (s.withActs v)
  windows : ∀ w {s : State}, P s → P { s with svc := { s.svc with windows := w } }
  config : ∀ a c {s : State}, s.stc.mode = .setup ∨ c.frame = (s.act a).cfg.frame → P s →
    P (s.modAct a fun x => { x with cfg := c })
  groups : ∀ v {s : State}, (s.groupLaw → ({ s with lgu := v } : State).groupLaw) → P s → P { s with lgu := v }
  sats : ∀ v {s : State}, (∀ x : Fin 4, s.glc[x].bounded → v[x].bounded) → P s → P { s with glc := v }
  strain : ∀ y {s : State}, (s.stp.bounded → y.bounded) → P s → P { s with stp := y }
  emission : ∀ u {s : State}, (s.aeu.bounded → u.bounded) → P s → P { s with aeu := u }
  zones : ∀ m {s : State}, P s → P { s with zmn := m }
  raise : ∀ c {s}, P s → P (raise c s)
  lower : ∀ c {s}, P s → P (lower c s)
  lowerIn : ∀ c {s}, Q s → Q (Machine.lower c s)
  storeEntry : ∀ e c {s : State}, s.stc.mode = .setup → P s → P (storeEntry e c s)
  clearEntry : ∀ e {s : State}, P s → P (merge (s.modEntry e ProtEntry.clear))
  clearEntries : ∀ {s : State}, P s → P (merge (s.modPmx fun p => { p with entries := p.entries.map ProtEntry.clear }))

/-- What both branches of a choice keep. -/
theorem keeps_ite {P : State → Prop} {c : Prop} [Decidable c] {x y : State} (hx : P x) (hy : P y) :
    P (if c then x else y) := by
  split <;> assumption

/-! ### Actuators at work -/

theorem Actuator.Works.vmod {f : Actuator → Actuator} {s : State} {a : Fin 8} (h : (s.act a).Works (f (s.act a))) (b : Fin 8) :
    (s.act b).Works (Machine.vmod s.svc.acts a f)[b] := by
  rw [vmod_get]
  by_cases e : a = b
  · subst e; rw [if_pos rfl]; exact h
  · rw [if_neg e]; exact .rfl' _

theorem Actuator.works_bumpless (q : Quantity) (x : Actuator) : x.Works (bumpless q x) := by
  refine ⟨rfl, rfl, rfl, fun ⟨hu, hs, hg, _⟩ => ⟨hu, hs, hg, ?_⟩⟩
  have bound : 0 ≤ (x.gains q).imax * 65536 := by have := (hg q).1; omega
  have := natAbs_clampSym_le bound (x.regs.u * 65536)
  show ((clampSym (x.regs.u * 65536) ((x.gains q).imax * 65536)).natAbs : Int) ≤ (x.gains q).imax * 65536
  omega

theorem Actuator.works_freshHold (x : Actuator) : x.Works (freshHold x) := by
  refine ⟨rfl, rfl, rfl, fun ⟨hu, hs, hg, _⟩ => ⟨hu, hs, hg, ?_⟩⟩
  have := (hg .stroke).1
  show (((0 : Int).natAbs : Nat) : Int) ≤ (x.gains .stroke).imax * 65536
  omega

theorem Actuator.Works.trans {x y z : Actuator} (h : x.Works y) (k : y.Works z) : x.Works z :=
  ⟨k.state.trans h.state, k.frame.trans h.frame, k.derate.trans h.derate, k.drive ∘ h.drive⟩

theorem foldl_keeps {α : Type} {P : State → Prop} {f : State → α → State} {l : List α}
    (h : ∀ s, ∀ x ∈ l, P s → P (f s x)) {s : State} (hs : P s) : P (l.foldl f s) := by
  induction l generalizing s with
  | nil => exact hs
  | cons x l ih =>
    exact ih (fun s y hy => h s y (List.mem_cons_of_mem x hy)) (h s x List.mem_cons_self hs)

/-! ### Lists within their capacity -/

theorem ImageCh.length_diffs_le (c : ImageCh) : c.diffs.length ≤ 4 := by
  unfold ImageCh.diffs
  simp only [List.length_append]
  have one (p : Prop) [Decidable p] (x : SatSetting) : (if p then [] else [x]).length ≤ 1 := by split <;> simp
  have := one (c.excitation = 0) (.excitation c.excitation)
  have := one (c.gain = 0) (.gain c.gain)
  have := one (c.filter = 1) (.filter c.filter)
  have := one (c.shunt = 0) (.shunt c.shunt)
  omega

/-- A restoration list holds at most the four settings of sixteen channels (R120). -/
theorem length_restoration_le (image : Vector ImageCh 16) : (restoration image).length ≤ 64 := by
  have walk (l : List (Fin 16)) : (l.flatMap fun i => image[i].diffs.map fun x =>
      ({ ch := i, setting := x, origin := .restore } : Entry)).length ≤ 4 * l.length := by
    induction l with
    | nil => simp
    | cons i l ih =>
      have := image[i].length_diffs_le
      simp only [List.flatMap_cons, List.length_append, List.length_map, List.length_cons]
      simp only [List.length_flatMap, List.length_map] at ih ⊢
      omega
  exact (walk (List.finRange 16)).trans (by simp)

theorem Sat.bounded_restored {x : Sat} (b : Bool) (h : x.bounded) : (x.restoreFromImage b).bounded :=
  ⟨h.1, length_restoration_le _, h.2.2⟩

theorem Sat.bounded_removeEntry {x : Sat} (e : Entry) (h : x.bounded) : (x.removeEntry e).bounded := by
  obtain ⟨posted, restore, unanswered⟩ := h
  unfold Sat.removeEntry
  split
  · exact ⟨by simp only [List.length_drop]; omega, restore, unanswered⟩
  · exact ⟨posted, by simp only [List.length_drop]; omega, unanswered⟩

/-- What is within its capacity stays within it when one slot's lists do. -/
theorem Sat.bounded_vmod {v : Vector Sat 4} {x : Fin 4} {f : Sat → Sat} (h : v[x].bounded → (f v[x]).bounded) (y : Fin 4)
    (hy : v[y].bounded) : (vmod v x f)[y].bounded := by
  rw [vmod_get]
  by_cases e : x = y
  · subst e; rw [if_pos rfl]; exact h hy
  · rw [if_neg e]; exact hy

/-! ### Groups at work -/

/-- The law of memberships and recipients speaks of members, LRU orders and recipients alone. -/
theorem groupLaw_of_same {s t : State} (hg : ∀ g, (t.group g).members = (s.group g).members ∧ (t.group g).lru = (s.group g).lru ∧
    (t.group g).recipient = (s.group g).recipient)
    (ha : ∀ a, (t.act a).state = (s.act a).state ∧ (t.act a).derate = (s.act a).derate) (h : s.groupLaw) : t.groupLaw := by
  obtain ⟨apart, order, recipient⟩ := h
  refine ⟨fun g k a => ?_, fun g a => ?_, fun g a => ?_⟩
  · rw [(hg g).1, (hg k).1]; exact apart g k a
  · rw [(hg g).1, (hg g).2.1]; exact order g a
  · rw [(hg g).1, (hg g).2.2, State.inShare, (ha a).1, (ha a).2]; exact recipient g a

/-- A group whose values change but not its members, its order and its recipient. -/
theorem groupLaw_modGroup {s : State} {g : Fin 4} {f : Group → Group} (hf : ∀ x, (f x).members = x.members ∧
    (f x).lru = x.lru ∧ (f x).recipient = x.recipient) (h : s.groupLaw) : (s.modGroup g f).groupLaw := by
  refine groupLaw_of_same (s := s) (fun k => ?_) (fun a => ⟨rfl, rfl⟩) h
  rw [State.modGroup_group]
  split
  · exact hf _
  · exact ⟨rfl, rfl, rfl⟩

/-- A candidate of a selection is an IN_SHARE member with derate 1000 (R100). -/
theorem mem_candidates {g : Fin 4} {s : State} {a : Fin 8} {u : Int} (h : (a, u) ∈ candidates g s) :
    (a ∈ (s.group g).lru ∨ a ∈ (s.group g).members.map Prod.fst) ∧ s.inShare a = true ∧ (s.act a).derate = 1000 := by
  unfold candidates at h
  obtain ⟨b, hb, e⟩ := List.mem_map.1 h
  cases e
  obtain ⟨order, eligible⟩ := List.mem_filter.1 hb
  simp only [Bool.and_eq_true, decide_eq_true_eq] at eligible
  refine ⟨?_, eligible.1.1, eligible.1.2⟩
  cases tie : (s.group g).tie <;> simp only [tie] at order
  · exact .inl order
  · exact .inr order

/-- The choice of `lowest` is of the list. -/
theorem lowest_mem {l : List (Fin 8 × Int)} {x : Fin 8 × Int} (h : lowest l = some x) : x ∈ l := by
  have walk (l : List (Fin 8 × Int)) (m : Option (Fin 8 × Int)) (h : l.foldl (fun m x => match m with
      | none => some x
      | some y => if x.2 < y.2 then some x else some y) m = some x) : m = some x ∨ x ∈ l := by
    induction l generalizing m with
    | nil => exact .inl h
    | cons y l ih =>
      rcases ih _ h with e | e
      · cases m with
        | none => cases e; exact .inr List.mem_cons_self
        | some z =>
          dsimp only at e
          split at e <;> cases e
          · exact .inr List.mem_cons_self
          · exact .inl rfl
      · exact .inr (List.mem_cons_of_mem y e)
  rcases walk l none h with e | e
  · cases e
  · exact e

/-- A selection leaves a recipient that R99 allows, and an order of members (R100, R101). -/
theorem groupLaw_select {s : State} {g : Fin 4} {f : Group → Group} (hm : (f (s.group g)).members = (s.group g).members)
    (hl : ∀ a ∈ (f (s.group g)).lru, a ∈ (s.group g).members.map Prod.fst)
    (hr : ∀ a, (f (s.group g)).recipient = some a →
      a ∈ (s.group g).members.map Prod.fst ∧ s.inShare a = true ∧ (s.act a).derate = 1000) (h : s.groupLaw) :
    (s.modGroup g f).groupLaw := by
  obtain ⟨apart, order, recipient⟩ := h
  have members (k : Fin 4) : ((s.modGroup g f).group k).members = (s.group k).members := by
    rw [State.modGroup_group]
    split
    · rename_i e; subst e; exact hm
    · rfl
  refine ⟨fun k j a => ?_, fun k a => ?_, fun k a => ?_⟩
  · rw [members, members]; exact apart k j a
  · rw [members, State.modGroup_group]
    split
    · rename_i e; subst e; exact hl a
    · exact order k a
  · rw [members, State.modGroup_group]
    split
    · rename_i e; subst e; exact hr a
    · exact recipient k a

/-- Under the law of groups an actuator's group is the one it is a member of (R92). -/
theorem groupOf_eq_some_iff {s : State} (h : s.groupLaw) {a : Fin 8} {g : Fin 4} :
    s.groupOf a = some g ↔ a ∈ (s.group g).members.map Prod.fst := by
  have member (k : Fin 4) : ((s.group k).members.any fun m => decide (m.1 = a)) = true ↔ a ∈ (s.group k).members.map Prod.fst := by
    simp only [List.any_eq_true, decide_eq_true_eq, List.mem_map]
  constructor
  · intro e
    exact (member g).1 (List.find?_some (p := fun g => (s.group g).members.any fun m => decide (m.1 = a)) e)
  · intro hg
    cases e : s.groupOf a with
    | none => exact absurd ((member g).2 hg) (List.find?_eq_none.1 e g (List.mem_finRange g))
    | some k => 
      have found := List.find?_some (p := fun g => (s.group g).members.any fun m => decide (m.1 = a)) e
      rw [h.1 k g a ((member k).1 found) hg]

/-- Stages 6 to 9 keep the law of the drive and the integrator (R59 to R61). -/
theorem Actuator.driveOk_loopStages {x : Actuator} (w : Vector Window 6) (a : Fin 8) (r : Regs) (v : Int)
    (hr : r.a = x.regs.a) (runs : x.state.servoRuns = true) (h : x.driveOk) : (loopStages w a r v x).driveOk := by
  obtain ⟨-, -, gains, integrator⟩ := h
  have bound := (gains x.present).1
  refine ⟨natAbs_clampSym_le (m := 10000) (by decide) _, ?_, gains, ?_⟩
  · intro rests
    change x.state = .off ∨ x.state = .starting ∨ x.state = .tripped at rests
    rcases rests with e | e | e <;> rw [e] at runs <;> cases runs
  · obtain ⟨c, hc⟩ : ∃ c, (loopStages w a r v x).regs.a =
        (piLoop (x.gains x.present) (x.measured x.present) c r.a).2.2.2.1 := ⟨_, rfl⟩
    show ((loopStages w a r v x).regs.a.natAbs : Int) ≤ (x.gains x.present).imax * 65536
    rw [hc]
    unfold piLoop
    dsimp only
    split
    · rw [hr]; exact integrator
    · have := natAbs_clampSym_le (m := (x.gains x.present).imax * 65536) (by omega)
        (r.a + (x.gains x.present).ki * (c - x.measured x.present))
      omega

theorem Actuator.works_unloadSample (x : Actuator) : x.Works (unloadSample x) := by
  unfold unloadSample
  split
  · exact ⟨rfl, rfl, rfl, id⟩
  · exact .rfl' _

theorem Actuator.works_servoSample (s : State) (a : Fin 8) : (s.act a).Works (servoSample s a) := by
  refine (Actuator.works_unloadSample _).trans ?_
  unfold servoSample
  dsimp only
  split
  · rename_i runs
    exact ⟨rfl, rfl, rfl, Actuator.driveOk_loopStages _ _ _ _ (demand_integrator ..) runs⟩
  · exact ⟨rfl, rfl, rfl, id⟩

theorem Actuator.works_storeGains {q : Quantity} {g : Gains} (hg : 0 ≤ g.imax ∧ g.imax ≤ 10000) (x : Actuator) :
    x.Works (storeGains q g x) := by
  have parts (hu : x.regs.u.natAbs ≤ 10000)
      (hs : x.state = .off ∨ x.state = .starting ∨ x.state = .tripped → x.regs.u = 0)
      (gains : ∀ q, 0 ≤ (x.gains q).imax ∧ (x.gains q).imax ≤ 10000)
      (ha : x.regs.a.natAbs ≤ (x.gains x.present).imax * 65536) : (storeGains q g x).driveOk := by
    have clamped := natAbs_clampSym_le (m := g.imax * 65536) (by omega) x.regs.a
    cases q <;> cases present : x.present <;>
      simp only [storeGains, present, reduceCtorEq, if_true, if_false] <;>
      refine ⟨hu, hs, fun q => ?_, ?_⟩ <;>
      first
      | (cases q <;> first | exact hg | exact gains .force | exact gains .stroke)
      | (simp only [Actuator.gains, present] at ha ⊢; omega)
  refine ⟨?_, ?_, ?_, fun ⟨hu, hs, gains, ha⟩ => parts hu hs gains ha⟩ <;>
    cases q <;> unfold storeGains <;> dsimp only <;> split <;> rfl

section Sequencing

/-! ### The sequencer (chapter 2) -/

variable {Q : State → Prop} (plan : ∀ q l {s : State}, Q s → Q (s.withPlan q l)) {s : State}
include plan

theorem keeps_modSeq (f : Sequencer → Sequencer) (h : Q s) : Q (s.modSeq f) := plan (f s.psq) s.ev.seqs h

theorem keeps_seqChange (f : Sequencer → Sequencer) (h : Q s) : Q (seqChange f s) :=
  plan (s := s) (f s.psq) _ h

theorem keeps_seqStop (h : Q s) : Q (seqStop s) :=
  keeps_ite (keeps_ite (keeps_seqChange plan _ (keeps_seqChange plan _ h)) (keeps_seqChange plan _ h)) (keeps_seqChange plan _ h)

theorem keeps_seqStopIfHeld (h : Q s) : Q (seqStopIfHeld s) := keeps_ite (keeps_seqStop plan h) h

theorem keeps_addReason (r : HoldReason) (h : Q s) : Q (addReason r s) := keeps_seqStopIfHeld plan (keeps_modSeq plan _ h)

theorem keeps_runFrom (i : Nat) (h : Q s) : Q (runFrom i s) :=
  keeps_ite (keeps_seqChange plan _ (keeps_seqChange plan _ h)) (keeps_seqStopIfHeld plan (keeps_seqChange plan _ h))

theorem keeps_enterNext (h : Q s) : Q (enterNext s) :=
  keeps_ite (keeps_ite (keeps_seqChange plan _ h) (keeps_seqStopIfHeld plan (keeps_modSeq plan _ h))) h

theorem keeps_seqGoOn (h : Q s) : Q (seqGoOn s) := by
  unfold seqGoOn
  dsimp only
  split
  case h_1 => exact keeps_ite (keeps_ite (keeps_runFrom plan _ h) (keeps_seqChange plan _ h)) (keeps_seqChange plan _ h)
  case h_2 => exact keeps_ite (keeps_ite (keeps_runFrom plan _ h) (keeps_seqChange plan _ h)) (keeps_seqChange plan _ h)
  all_goals exact h

theorem keeps_removeReasons (f : HoldSet → HoldSet) (h : Q s) : Q (removeReasons f s) :=
  keeps_ite (keeps_seqGoOn plan (keeps_modSeq plan _ h)) (keeps_modSeq plan _ h)

theorem keeps_seqAbort (h : Q s) : Q (seqAbort s) := keeps_ite (keeps_seqChange plan _ h) h

theorem keeps_seqIdle (h : Q s) : Q (seqIdle s) := keeps_ite (keeps_modSeq plan _ h) (keeps_seqChange plan _ h)

theorem keeps_seqHeld (h : Q s) : Q (seqHeld s) := keeps_ite (keeps_seqChange plan _ h) h

theorem keeps_lostEdge (b : Bool) (h : Q s) : Q (lostEdge b s) := keeps_ite (keeps_addReason plan _ h) h

end Sequencing

/-- An actuator that has entered UNLOADING begins its unload (R80). -/
theorem keeps_enterUnloading {Q : State → Prop} {a : Fin 8} {c : ActCause} {s : State} (b : Bool)
    (work : ∀ v {s : State}, (∀ a : Fin 8, (s.act a).Works v[a]) → Q s → Q (s.withActs v))
    (h : Q (setActState a .unloading c s)) : Q (enterUnloading a b c s) := by
  refine work _ (Actuator.Works.vmod ?_) h
  dsimp only
  split
  · exact (Actuator.works_bumpless .force _).trans ⟨rfl, rfl, rfl, id⟩
  · exact ⟨rfl, rfl, rfl, id⟩

namespace Event.Kept

variable {P Q : State → Prop} (K : Event.Kept P Q) {s : State}
include K

/-! ### The actuators (chapters 3 and 4) -/

theorem modAct {a : Fin 8} {f : Actuator → Actuator} (hf : (s.act a).Works (f (s.act a))) (h : Q s) : Q (s.modAct a f) :=
  K.work _ hf.vmod h

theorem modActNow {a : Fin 8} {f : Actuator → Actuator} (hf : (s.act a).Works (f (s.act a))) (h : P s) :
    P (s.modAct a f) :=
  K.workNow _ hf.vmod h

theorem enterStarting (a : Fin 8) (b : Bool) (may : s.mayEnter a .starting) (h : Q s) : Q (enterStarting a b s) :=
  K.modAct ⟨rfl, rfl, rfl, id⟩ (K.enter a .starting .command may h)

theorem enterRaising (a : Fin 8) (c : ActCause) (may : s.mayEnter a .raising) (h : Q s) : Q (enterRaising a c s) :=
  K.modAct ⟨rfl, rfl, rfl, id⟩ (K.enter a .raising c may h)

theorem enterActive (a : Fin 8) (may : s.mayEnter a .active) (h : Q s) : Q (enterActive a s) := by
  have works (q : Quantity) (x : Actuator) : x.Works (if q = .force then bumpless .force x else x) := by
    split
    · exact Actuator.works_bumpless ..
    · exact .rfl' _
  refine K.enter a .active .timer ?_ (K.modAct (works _ _) h)
  show ((s.modAct a _).act a).state = .raising
  rw [State.modAct_act_same]
  exact (works _ _).state.trans may

theorem enterUnloading (a : Fin 8) (b : Bool) (c : ActCause) (may : s.mayEnter a .unloading) (h : Q s) :
    Q (enterUnloading a b c s) := keeps_enterUnloading b K.work (K.enter a .unloading c may h)

theorem completeUnload (a : Fin 8) (may : s.mayEnter a .low) (h : Q s) : Q (completeUnload a s) := by
  unfold Machine.completeUnload
  split
  · exact K.enter a .off .unloadDone trivial h
  · have works (x : Actuator) : x.Works (bumpless .stroke { x with strokeHold := x.stroke }) :=
      Actuator.Works.trans (y := { x with strokeHold := x.stroke }) ⟨rfl, rfl, rfl, id⟩ (Actuator.works_bumpless ..)
    refine K.enter a .low .unloadDone ?_ (K.modAct (works _) h)
    show ((s.modAct a _).act a).state.pressurized = true
    rw [State.modAct_act_same, (works _).state]
    exact may

theorem actOff (a : Fin 8) (c : ActCause) (h : Q s) : Q (actOff a c s) := by
  unfold Machine.actOff
  split
  case h_4 active => exact K.enterUnloading a true c (by simp [State.mayEnter, active, ActState.pressurized]) h
  case h_5 => exact K.modAct ⟨rfl, rfl, rfl, id⟩ h
  case h_6 | h_7 => exact h
  all_goals exact K.enter a .off c trivial h

/-- ACT_MODE LOW, where its tests have passed (R75, R76). -/
theorem toLow {a : Fin 8} {t : State} (run : s.stc.mode = .run)
    (frame : ∀ b, (s.act b).cfg.frame = (s.act a).cfg.frame → b ≠ a → (s.act b).state ≠ .tripped) (h : Q s)
    (ht : toLow a s = some t) : Q t := by
  unfold Machine.toLow at ht
  split at ht <;> rename_i state <;> cases ht
  · refine K.enterStarting a false ⟨run, fun b hb => ?_⟩ h
    by_cases e : b = a
    · rw [e, state]; decide
    · exact frame b hb e
  · exact K.modAct ⟨rfl, rfl, rfl, id⟩ h
  · exact h
  · exact K.enter a .low .command (by simp [State.mayEnter, state, ActState.pressurized]) h
  · exact K.enterUnloading a false .command (by simp [State.mayEnter, state, ActState.pressurized]) h
  · exact K.modAct ⟨rfl, rfl, rfl, id⟩ h

/-- ACT_MODE ACTIVE, where its tests have passed (R75, R76). -/
theorem toActiveState {a : Fin 8} {t : State} (run : s.stc.mode = .run)
    (frame : ∀ b, (s.act b).cfg.frame = (s.act a).cfg.frame → b ≠ a → (s.act b).state ≠ .tripped) (h : Q s)
    (ht : toActiveState a s = some t) : Q t := by
  unfold Machine.toActiveState at ht
  split at ht <;> rename_i state <;> cases ht
  · refine K.enterStarting a true ⟨run, fun b hb => ?_⟩ h
    by_cases e : b = a
    · rw [e, state]; decide
    · exact frame b hb e
  · exact K.modAct ⟨rfl, rfl, rfl, id⟩ h
  · exact K.enterRaising a .command ⟨run, by simp [state, ActState.pressurized]⟩ h
  · exact h
  · exact h

/-! ### Slots, conditions and walks -/

theorem setTo (c : Cond) (b : Bool) (h : P s) : P (setTo c b s) := keeps_ite (K.raise c h) (K.lower c h)

theorem offer (n : Notice) (h : P s) : P (offer n s) :=
  K.notices _ _ (fun hl => offer_length_le (s := s) (n := n) hl) h

theorem judgeAux (x : Fin 16) (h : P s) : P (judgeAux x s) := K.setTo _ _ h

theorem modSlot (x : Fin 16) (f : Slot → Slot) (h : P s) : P (s.modSlot x f) := K.slots _ h

theorem senseContact (x : Fin 16) (h : P s) : P (senseContact x s) := keeps_ite (K.judgeAux x (K.modSlot x _ h)) h

theorem analogSample (x : Fin 16) (raw : Int) (h : P s) : P (analogSample x raw s) :=
  keeps_ite (K.judgeAux x (K.modSlot x _ h)) h

theorem hold (r : HoldReason) (h : P s) : P (Machine.flush (Machine.addReason r s)) := K.flush (keeps_addReason K.plan r (K.begin h))

theorem edgeEffect (x : Fin 16) (b : Bool) (h : P s) : P (edgeEffect x b s) := by
  unfold Machine.edgeEffect
  split
  · exact keeps_ite (K.setTo _ _ h) h
  · exact keeps_ite (K.hold _ h) h
  · exact keeps_ite (K.flush (keeps_removeReasons K.plan _ (K.begin h))) h
  all_goals exact h

theorem contactEdge (x : Fin 16) (b : Bool) (h : P s) : P (contactEdge x b s) :=
  keeps_ite (K.edgeEffect x b (K.modSlot x _ (K.modSlot x _ h))) (K.modSlot x _ h)

theorem advanceTo (n : Nat) (h : P s) : P (s.advanceTo n) := K.clock _ h

/-! ### The zone monitor (chapter 9) -/

theorem modZone (z : Fin 16) (f : Zone → Zone) (h : P s) : P (s.modZone z f) := K.zones _ h

theorem zoneConditions (z : Fin 16) (old new : Level) (h : P s) : P (zoneConditions z old new s) :=
  keeps_ite (keeps_ite (K.raise _ (keeps_ite (K.raise _ h) h)) (keeps_ite (K.raise _ h) h))
    (keeps_ite (keeps_ite h (K.lower _ h)) (K.lower _ (keeps_ite h (K.lower _ h))))

theorem evaluateZone (c : ZoneCause) (z : Fin 16) (h : P s) : P (evaluateZone c z s) :=
  keeps_ite (K.modZone z _ h) (K.zoneConditions _ _ _ (K.offer _ (K.modZone z _ h)))

theorem evaluateEnabled (c : ZoneCause) (z : Fin 16) (h : P s) : P (evaluateEnabled c z s) :=
  keeps_ite (K.evaluateZone c z h) h

theorem startTick (k : TickKind) (h : P s) : P (startTick k s) := K.zones _ (K.zones _ h)

theorem activityTick (k : TickKind) (h : P s) : P (activityTick k s) :=
  forAsc_keeps P (fun z _ => K.evaluateEnabled .tick z) (K.startTick k h)

theorem zoneEvent (z : Fin 16) (n e : Nat) (h : P s) : P (zoneEvent z n e s) := K.evaluateZone _ _ (K.modZone z _ h)

theorem clearZoneBins (h : P s) : P (clearZoneBins s) :=
  forAsc_keeps P (fun z _ => K.evaluateEnabled .clear z) (K.zones _ h)

theorem binExpiry (h : P s) : P (binExpiry s) :=
  keeps_ite (K.zones _ (K.advanceTo _ h)) (K.activityTick _ (K.advanceTo _ h))

/-! ### The strain processor (chapter 7) -/

theorem modChan (c : Fin 64) (f : Chan → Chan) (h : P s) : P (s.modChan c f) := K.strain _ id h

theorem modStiff (c : Fin 8) (f : Stiff → Stiff) (h : P s) : P (s.modStiff c f) := K.strain _ id h

theorem zeroingStep (c : Fin 64) (raw : Int) (h : P s) : P (zeroingStep c raw s) := by
  unfold Machine.zeroingStep
  split
  · exact h
  · exact keeps_ite (K.modChan _ _ h) (K.offer _ (K.modChan _ _ h))

theorem convert (c : Fin 64) (raw : Int) (h : P s) : P (convert c raw s) :=
  K.zeroingStep _ _ (K.setTo _ _ (K.modChan _ _ h))

theorem convertSet (x : Fin 4) (set : Vector Int 16) (h : P s) : P (convertSet x set s) :=
  foldl_keeps (fun _ c _ hs => keeps_ite (K.convert c _ hs) hs) h

theorem failZeroing (c : Fin 64) (cause : Int) (h : P s) : P (failZeroing c cause s) := by
  unfold Machine.failZeroing
  split
  · exact h
  · exact K.offer _ (K.modChan _ _ h)

theorem offerSnap (r : Snapshot) (h : P s) : P (offerSnap r s) := by
  refine K.strain _ (fun ⟨list, snaps, skipped⟩ => ?_) h
  dsimp only
  split
  · rename_i room
    refine ⟨list, ?_, skipped⟩
    simp only [List.length_append, List.length_singleton]
    exact room
  · exact ⟨list, snaps, satAdd_le⟩

theorem dwellEndTrigger (h : P s) : P (dwellEndTrigger s) :=
  forAsc_keeps P (fun _ _ hs => keeps_ite (K.offerSnap _ hs) hs) h

theorem newStiffness (k : Fin 8) (n : Nat) (h : P s) : P (newStiffness k n s) := by
  unfold Machine.newStiffness
  dsimp only
  split
  · exact K.lower _ (K.modStiff _ _ h)
  · exact K.setTo _ _ (K.modStiff _ _ h)

theorem clearStiffness (k : Fin 8) (h : P s) : P (clearStiffness k s) := K.lower _ (K.modStiff _ _ h)

theorem fillPeak (m : Mark) (h : P s) : P (fillPeak m s) := by
  unfold Machine.fillPeak
  split
  · exact K.modStiff _ _ h
  · exact keeps_ite (K.modStiff _ _ h) h

theorem takeMark (m : Mark) (h : P s) : P (takeMark m s) := by
  unfold Machine.takeMark
  refine keeps_ite h (keeps_ite (K.fillPeak m (keeps_ite (K.offerSnap _ h) h)) (keeps_ite ?_ h))
  have emptied : P (if (valleyStiffness m s).1 then s.modStiff m.track fun x => { x with peak := none } else s) :=
    keeps_ite (K.modStiff _ _ h) h
  dsimp only
  refine K.offerSnap _ ?_
  split
  · exact emptied
  · exact K.newStiffness _ _ emptied

theorem clearAllStiffness (h : P s) : P (clearAllStiffness s) :=
  forAsc_keeps P (fun k _ hs => K.clearStiffness k (K.modStiff k _ hs)) h

/-! ### The gauge link (chapter 6) -/

theorem modSat {x : Fin 4} {f : Sat → Sat} (hf : s.glc[x].bounded → (f s.glc[x]).bounded) (h : P s) : P (s.modSat x f) :=
  K.sats _ (Sat.bounded_vmod hf) h

theorem satChange {x : Fin 4} (c : SatCause) {f : Sat → Sat} (hf : ∀ y : Sat, y.bounded → (f y).bounded) (h : P s) :
    P (satChange x c f s) := by
  have failed : P ((if s.glc[x].state = .live ∧ (satNotice x s.glc[x].state c (s.modSat x f)).glc[x].state ≠ .live then
      (slotChans x).foldl (fun s c => Machine.failZeroing c 0 s) (satNotice x s.glc[x].state c (s.modSat x f))
      else satNotice x s.glc[x].state c (s.modSat x f))) :=
    have noted := K.offer _ (K.modSat (x := x) (hf _) h)
    keeps_ite (foldl_keeps (fun _ c _ hs => K.failZeroing c 0 hs) noted) noted
  exact keeps_ite (K.raise _ failed) (keeps_ite (K.lower _ failed) failed)

theorem toSettling {x : Fin 4} (c : SatCause) {f : Sat → Sat} (hf : ∀ y : Sat, y.bounded → (f y).bounded) (h : P s) :
    P (toSettling x c f s) := K.satChange c hf h

theorem toLive {x : Fin 4} (h : P s) : P (toLive x s) := K.satChange _ (fun _ => id) h

theorem pollTime (x : Fin 4) (h : P s) : P (pollTime x s) := by
  have counted : P ((s.advanceTo s.glc[x].pollAt).modSat x fun y =>
      if y.awaiting then { y with unanswered := min 3 (y.unanswered + 1) } else y) := by
    refine K.modSat (fun hb => ?_) (K.advanceTo _ h)
    split
    · exact ⟨hb.1, hb.2.1, Nat.min_le_left ..⟩
    · exact hb
  exact keeps_ite h (K.modSat id (keeps_ite (K.satChange _ (fun _ => id) counted) counted))

theorem rejectEntry (x : Fin 4) (e : Entry) (h : P s) : P (rejectEntry x e s) :=
  K.offer _ (K.modSat (Sat.bounded_removeEntry e) h)

theorem settleSet (x : Fin 4) (a : SatAnswer) (h : P s) : P (settleSet x a s) :=
  keeps_ite (keeps_ite (K.modSat id h) (K.convertSet _ _ (K.toLive (K.modSat id h)))) h

theorem freshOrInvalid (x : Fin 4) (a : SatAnswer) (h : P s) : P (freshOrInvalid x a s) :=
  keeps_ite (K.toSettling _ (fun _ => Sat.bounded_restored _) h) (keeps_ite (K.toSettling _ (fun _ => id) h) h)

theorem answerAnswering (x : Fin 4) (c : Bool) (a : SatAnswer) (h : P s) : P (answerAnswering x c a s) := by
  have converted : P (if decide (s.glc[x].state = .live) && a.valid then Machine.convertSet x a.set s else s) :=
    keeps_ite (K.convertSet _ _ h) h
  unfold Machine.answerAnswering
  dsimp only
  split
  · exact keeps_ite (K.toSettling _ (fun _ => Sat.bounded_removeEntry _) converted)
      (K.modSat (Sat.bounded_removeEntry _) converted)
  · exact K.toSettling _ (fun _ => Sat.bounded_restored _) converted
  · exact K.freshOrInvalid _ _ (K.rejectEntry _ _ converted)
  · exact keeps_ite (K.freshOrInvalid _ _ converted) (keeps_ite (K.freshOrInvalid _ _ converted) (K.settleSet _ _ converted))

theorem answerReturning (x : Fin 4) (a : SatAnswer) (h : P s) : P (answerReturning x a s) :=
  have settling := K.toSettling (x := x) .answer (f := id) (fun _ => id) h
  keeps_ite (K.toSettling _ (fun _ => Sat.bounded_restored _) settling)
    (keeps_ite (K.toSettling _ (fun _ => Sat.bounded_restored _) settling) (K.settleSet _ _ settling))

theorem takeAnswer (x : Fin 4) (a : SatAnswer) (h : P s) : P (takeAnswer x a s) :=
  have taken : P (s.modSat x fun y =>
      { y with awaiting := false, carried := false, unanswered := 0, lastFresh := a.fresh, lastValid := a.valid }) :=
    K.modSat (fun hb => ⟨hb.1, hb.2.1, Nat.zero_le _⟩) h
  keeps_ite (keeps_ite (K.answerAnswering _ _ _ taken) (K.answerReturning _ _ taken)) h

theorem settleExpiry (x : Fin 4) (h : P s) : P (settleExpiry x s) :=
  have expired : P ((s.advanceTo (s.glc[x].settleStart + s.glc[x].settlePeriod * 1000)).modSat x fun y =>
      { y with settleRunning := false }) := K.modSat id (K.advanceTo _ h)
  keeps_ite (keeps_ite (K.toLive expired) expired) h

/-! ### The emission unit (chapter 8) -/

theorem modAe (c : Fin 12) (f : AeChan → AeChan) (h : P s) : P (s.modAe c f) := K.emission _ id h

theorem closeEvent (e : OpenEvent) (h : P s) : P (closeEvent e s) := by
  have logged : P (s.modAeu fun u => logEvent
      { f := e.f, s := e.s, dt := e.s.map fun _ => e.dt, hits := e.hits, maxAmp := e.maxAmp, energy := e.energy
        zone := (dispose e s).2, disposition := (dispose e s).1, cycles := e.stamp.cycles, time := e.stamp.time
        hitsLost := s.aeu.hitsLost, long := e.long } { u with event := none, hitsLost := false }) := by
    refine K.emission _ (fun ⟨hits, log⟩ => ?_) h
    unfold logEvent
    dsimp only
    split
    · rename_i room
      exact ⟨hits, by simp only [List.length_append, List.length_singleton]; exact room⟩
    · exact ⟨hits, by simp only [List.length_append, List.length_singleton, List.length_drop]; omega⟩
  unfold Machine.closeEvent
  dsimp only
  split
  · exact K.zoneEvent _ _ _ logged
  · exact logged

theorem buildStep {t : State} (ht : buildStep s = some t) (h : P s) : P t := by
  have takes {r : HitRec} {rest : List HitRec} (e : Option OpenEvent) (hits : s.aeu.hits = r :: rest) :
      P (s.modAeu fun u => { u with hits := rest, event := e }) :=
    K.emission _ (fun ⟨hl, log⟩ => ⟨by rw [hits, List.length_cons] at hl; exact Nat.le_of_succ_le hl, log⟩) h
  unfold Machine.buildStep at ht
  split at ht
  · cases ht
  · split at ht <;> cases ht
    exact takes _ ‹_›
  · split at ht <;> cases ht
    exact K.closeEvent _ h
  · split at ht
    · cases ht; exact K.closeEvent _ h
    · split at ht <;> cases ht
      exact takes _ ‹_›

theorem build (n : Nat) (h : P s) : P (build n s) := by
  induction n generalizing s with
  | zero => exact h
  | succ n ih =>
    unfold Machine.build
    split
    · exact h
    · rename_i ht; exact ih (K.buildStep ht h)

theorem buildAll (h : P s) : P (buildAll s) := K.build _ h

theorem advanceToHit (x : HitTime) (h : P s) : P (s.advanceToHit x) := K.advanceTo _ h

theorem updateRecord (c : Fin 12) (f : HitRec → HitRec) (h : P s) : P (s.modAeu (updateRecord c f)) :=
  K.emission _ (fun ⟨hits, log⟩ => ⟨by simpa [Machine.updateRecord] using hits, log⟩) h

theorem beginHit (c : Fin 12) (x : Crossing) (h : P s) : P (beginHit c x s) := by
  refine K.buildAll (K.emission _ (fun ⟨hits, log⟩ => ?_) (K.modAe c _ h))
  dsimp only
  split
  · rename_i room
    exact ⟨by simp only [List.length_append, List.length_singleton]; exact of_decide_eq_true room, log⟩
  · exact ⟨hits, log⟩

theorem joinHit (c : Fin 12) (x : Crossing) (h : P s) : P (joinHit c x s) :=
  keeps_ite (K.updateRecord c _ (K.modAe c _ h)) (K.modAe c _ h)

theorem takeCrossing (c : Fin 12) (x : Crossing) (h : P s) : P (takeCrossing c x s) := by
  have timed := K.advanceToHit x.time h
  unfold Machine.takeCrossing
  dsimp only
  split
  · exact keeps_ite timed (K.beginHit c x timed)
  · exact K.joinHit c x timed
  · exact timed

theorem endHit (c : Fin 12) (long : Bool) (h : P s) : P (endHit c long s) :=
  K.buildAll (keeps_ite (K.updateRecord c _ (K.modAe c _ h)) (K.modAe c _ h))

theorem hdtExpiry (c : Fin 12) (h : P s) : P (hdtExpiry c s) := keeps_ite (K.endHit c _ (K.advanceToHit _ h)) h

theorem durationExpiry (c : Fin 12) (h : P s) : P (durationExpiry c s) := keeps_ite (K.endHit c _ (K.advanceToHit _ h)) h

theorem lockoutExpiry (c : Fin 12) (h : P s) : P (lockoutExpiry c s) := keeps_ite (K.modAe c _ (K.advanceToHit _ h)) h

theorem windowExpiry (h : P s) : P (windowExpiry s) := by
  unfold Machine.windowExpiry
  split
  · exact h
  · exact K.buildAll (K.advanceToHit _ h)

/-! ### The control sample (chapters 2 to 5) -/

theorem modGroup {g : Fin 4} {f : Group → Group} (hf : s.groupLaw → (s.modGroup g f).groupLaw) (h : P s) :
    P (s.modGroup g f) := K.groups _ hf h

theorem formShares (g : Fin 4) (lead : Fin 8) (h : P s) : P (formShares g lead s) :=
  K.modGroup (groupLaw_modGroup fun _ => ⟨rfl, rfl, rfl⟩)
    (foldl_keeps (fun _ _ _ hs => K.modActNow ⟨rfl, rfl, rfl, id⟩ hs) h)

theorem selectRecipient (g : Fin 4) (h : P s) : P (selectRecipient g s) := by
  unfold Machine.selectRecipient
  refine keeps_ite ?_ h
  dsimp only
  split
  · rename_i a u chosen
    obtain ⟨order, share, derate⟩ := mem_candidates (lowest_mem chosen)
    refine K.offer _ (K.modGroup (fun law => ?_) h)
    have member : a ∈ (s.group g).members.map Prod.fst := order.elim (law.2.1 g a) id
    refine groupLaw_select rfl (fun b hb => ?_) (fun b hb => ?_) law
    · rcases List.mem_append.1 hb with hb | hb
      · exact law.2.1 g b (List.mem_filter.1 hb).1
      · rw [List.mem_singleton.1 hb]; exact member
    · cases hb; exact ⟨member, share, derate⟩
  · refine K.offer _ (K.modGroup (fun law => ?_) h)
    exact groupLaw_select rfl (law.2.1 g) (fun b hb => nomatch hb) law

theorem formHandover (g : Fin 4) (h : P s) : P (formHandover g s) := by
  refine K.modGroup (groupLaw_modGroup fun x => ?_) h
  dsimp only
  split <;> exact ⟨rfl, rfl, rfl⟩

theorem groupSample (g : Fin 4) (h : P s) : P (groupSample g s) := by
  unfold Machine.groupSample
  split
  · exact K.formHandover g (K.selectRecipient g (K.modGroup (groupLaw_modGroup fun _ => ⟨rfl, rfl, rfl⟩)
      (K.formShares g _ h)))
  · exact K.modGroup (groupLaw_modGroup fun _ => ⟨rfl, rfl, rfl⟩) h

theorem readSensors (r : Readings) (h : P s) : P (readSensors r s) := by
  refine K.workNow _ (fun a => ?_) h
  rw [Fin.getElem_fin, Vector.getElem_ofFn]
  exact ⟨rfl, rfl, rfl, id⟩

theorem runServos (h : P s) : P (runServos s) := by
  refine K.workNow _ (fun a => ?_) h
  rw [Fin.getElem_fin, Vector.getElem_ofFn]
  exact Actuator.works_servoSample s a

theorem sampleValues (r : Readings) (h : P s) : P (sampleValues r s).1 :=
  K.runServos (forAsc_keeps P (fun g _ => K.groupSample g)
    (K.planNow _ (K.readSensors r (K.clock _ (K.advanceTo _ h)))))

theorem endSegment (o : SeqOut) (h : P s) : P (endSegment o s) := by
  refine K.flush ?_
  have ended : Q (if o.held then Machine.seqHeld (if o.dwellEnd then Machine.dwellEndTrigger s else s)
      else if o.dwellEnd then Machine.dwellEndTrigger s else s) :=
    have begun := K.begin (keeps_ite (K.dwellEndTrigger h) h)
    keeps_ite (keeps_seqHeld K.plan begun) begun
  exact keeps_ite (keeps_enterNext K.plan ended) ended

theorem judgeCond (k : ActCond) (a : Fin 8) (v : State) (h : P s) : P (judgeCond k a v s) := by
  unfold Machine.judgeCond
  split
  · exact h
  · exact K.lower _ h
  · exact keeps_ite (K.lower _ (K.raise _ h)) (K.raise _ h)

theorem doWork (v : State) (w : SampleWork) (h : P s) : P (doWork v s w) := by
  cases w with
  | zone z => exact K.evaluateEnabled _ z h
  | mark m => exact K.takeMark m h
  | cond k a => exact K.judgeCond k a v h
  | completion a =>
    simp only [Machine.doWork]
    split
    · rename_i due
      have unloading : (s.act a).state = .unloading := of_decide_eq_true (Bool.and_eq_true_iff.1 due).2
      exact K.flush (K.completeUnload a (by simp [State.mayEnter, unloading, ActState.pressurized]) (K.begin h))
    · exact h

theorem sampleEvents (first : List SampleItem) (o : SeqOut) (h : P s) : P (sampleEvents first o s) :=
  foldl_keeps (fun _ w _ => K.doWork s w)
    (K.endSegment o (foldl_keeps (fun _ w _ => K.doWork s w) (keeps_ite (K.startTick _ h) h)))

theorem controlSample (r : Readings) (h : P s) : P (controlSample r s) := K.sampleEvents _ _ (K.sampleValues r h)

theorem sampleIf (b : Bool) (r : Readings) (h : P s) : P (sampleIf b r s) := keeps_ite (K.controlSample r h) h

/-! ### The actuators' timers (R77, R78, R83) -/

theorem lowPressureExpiry (a : Fin 8) (h : P s) : P (lowPressureExpiry a s) := by
  unfold Machine.lowPressureExpiry
  split
  · rename_i starting
    have held : Q ((s.advanceTo (s.act a).timerDue).modAct a freshHold) :=
      K.modAct (Actuator.works_freshHold _) (K.begin (K.advanceTo _ h))
    have loaded : (((s.advanceTo (s.act a).timerDue).modAct a freshHold).act a).state.pressurized = true := by
      rw [State.modAct_act_same]
      show (s.act a).state.pressurized = true
      rw [starting]; rfl
    refine K.flush ?_
    split
    · rename_i up
      refine K.enterRaising a .timer ⟨?_, loaded⟩ held
      simp only [mayRaise, Bool.and_eq_true, decide_eq_true_eq] at up
      exact up.2.1.1
    · exact K.enter a .low .timer loaded held
  · exact h

theorem highPressureExpiry (a : Fin 8) (h : P s) : P (highPressureExpiry a s) := by
  unfold Machine.highPressureExpiry
  split
  · rename_i raising
    exact K.flush (K.enterActive a raising (K.begin (K.advanceTo _ h)))
  · exact h

theorem unloadExpiry (a : Fin 8) (h : P s) : P (unloadExpiry a s) :=
  keeps_ite (K.raise _ (K.modActNow ⟨rfl, rfl, rfl, id⟩ (K.advanceTo _ h))) h

/-! ### Resets (section 1.5) -/

theorem afterReset (h : P s) : P (afterReset s) :=
  forAsc_keeps P (fun x _ => K.senseContact x) (keeps_ite (K.raise _ (K.offer _ h)) (K.offer _ h))

theorem restartWait (h : P s) : P (restartWait s) :=
  K.flush (forAsc_keeps Q (fun a _ => K.actOff a .restart) (K.begin (K.station _ (s := s) rfl h)))

end Event.Kept

/-! ### Answers -/

section Answers

variable {P : State → Prop} {s : State}

theorem Answer.keeps_test {b : Bool} {status : Status} {detail : Nat} {rest : Answer} (h : P s)
    (hr : b = true → P (rest.after s)) : P ((Answer.test b (.refuse status detail) rest).after s) := by
  cases b
  · exact h
  · exact hr rfl

theorem Answer.keeps_get {α : Type} {x : Option α} {rest : α → Answer} (h : P s)
    (hr : ∀ a, x = some a → P ((rest a).after s)) : P ((Answer.get x rest).after s) := by
  cases x
  · exact h
  · exact hr _ rfl

theorem Answer.keeps_inSetup {rest : Answer} (h : P s) (hr : s.stc.mode = .setup → P (rest.after s)) :
    P ((Answer.inSetup s rest).after s) :=
  Answer.keeps_test h fun b => hr (of_decide_eq_true b)

@[simp] theorem Answer.after_clamped (first : Option Nat) (payload : List Byte) (t : State) :
    (Answer.clamped first payload t).after s = t := by
  cases first <;> rfl

end Answers

theorem indexOf_eq_some_iff {n k : Nat} {i : Fin n} : indexOf n k = some i ↔ k = i.val := by
  unfold indexOf
  constructor
  · split <;> intro h
    · cases h; rfl
    · cases h
  · rintro rfl
    rw [dif_pos i.isLt]

/-! ### The effects of the commands -/

/-- A change of the state that is made of the operations of events: whatever these keep, it keeps. -/
def Event.Made (f : State → State) : Prop := ∀ {P Q : State → Prop}, Event.Kept P Q → ∀ {s}, P s → P (f s)

/-- The effect of a command with payload p. -/
def effect (body : List Byte → State → Answer) (p : List Byte) (s : State) : State := (body p s).after s

namespace Event

/-! #### Chapter 1 -/

theorem made_enterSetup {P Q : State → Prop} (K : Kept P Q) {s : State} (off : s.notOff = none) (h : P s) : P (enterSetup s) := by
  refine K.flush (keeps_seqIdle K.plan (K.toSetup (fun a => ?_) (K.begin h)))
  simpa using List.find?_eq_none.1 off a (List.mem_finRange a)

theorem made_mode (p : List Byte) : Made (effect modeBody p) := by
  intro P Q K s h
  unfold effect modeBody
  split
  · exact h
  · exact h
  · exact h
  · split
    · exact h
    · exact K.toRun h
  · split
    · exact h
    · exact made_enterSetup K ‹_› h
  · split
    · exact h
    · exact h
    · exact made_enterSetup K ‹_› h
  · exact h

theorem made_stationSet (p : List Byte) : Made (effect stationSetBody p) := fun K _ h =>
  Answer.keeps_test h fun _ => Answer.keeps_get h fun _ _ => Answer.keeps_get h fun _ _ => Answer.keeps_get h fun _ _ => by
    rw [Answer.after_clamped]; exact K.station _ rfl h

theorem made_assign (p : List Byte) : Made (effect assignBody p) := fun K _ h =>
  Answer.keeps_inSetup h fun _ => Answer.keeps_get h fun _ _ => Answer.keeps_get h fun _ _ => Answer.keeps_test h fun _ =>
    keeps_ite h (K.senseContact _ (K.lower _ (K.modSlot _ _ h)))

theorem made_slotSet (p : List Byte) : Made (effect slotSetBody p) := fun K _ h =>
  Answer.keeps_get h fun _ _ => Answer.keeps_test h fun _ => Answer.keeps_test h fun _ => Answer.keeps_get h fun _ _ =>
    K.judgeAux _ (K.modSlot _ _ h)

theorem made_haltAct : Made haltAct := fun K _ h => K.lower _ (K.raise _ h)

theorem made_fetch : Made fun s => (fetchBody s).after s := fun K s h =>
  K.notices (s.sli.notices.drop 1) _ (fun hl => by rw [List.length_drop]; omega) h

/-! #### Chapter 2 -/

theorem made_planWrite (p : List Byte) : Made (effect planWriteBody p) := fun K _ h =>
  Answer.keeps_get h fun _ _ => Answer.keeps_get h fun _ _ => Answer.keeps_test h fun _ => K.planNow _ h

theorem made_planSet (p : List Byte) : Made (effect planSetBody p) := fun K _ h =>
  Answer.keeps_test h fun _ => by rw [Answer.after_clamped]; exact K.planNow _ h

theorem made_trackSet (p : List Byte) : Made (effect trackSetBody p) := fun K _ h =>
  Answer.keeps_test h fun _ => Answer.keeps_get h fun _ _ => Answer.keeps_get h fun _ _ => Answer.keeps_test h fun _ =>
    Answer.keeps_get h fun _ _ => Answer.keeps_test h fun _ => Answer.keeps_test h fun _ => K.planNow _ h

theorem made_startAct (start : Fin 48) (wait : Bool) : Made (startAct start wait) := fun K _ h =>
  have cleared := K.begin (K.clearAllStiffness (K.clearZoneBins (K.planNow _ h)))
  K.flush (keeps_ite (keeps_seqChange K.plan _ cleared) (keeps_runFrom K.plan _ cleared))

theorem made_start (p : List Byte) : Made (effect startBody p) := by
  intro P Q K s h
  refine Answer.keeps_test h fun _ => Answer.keeps_get h fun start _ => Answer.keeps_get h fun wait _ => ?_
  split
  · exact h
  · refine Answer.keeps_test h fun _ => ?_
    split
    · exact h
    · exact made_startAct start wait K h

theorem made_goAct : Made goAct := fun K _ h =>
  keeps_ite (K.flush (keeps_runFrom K.plan _ (keeps_ite (keeps_addReason K.plan _ (K.begin h)) (K.begin h)))) h

theorem made_hold : Made fun s => (holdBody s).after s := fun K _ h => K.hold _ h

theorem made_resume : Made fun s => (resumeBody s).after s := fun K _ h => K.flush (keeps_removeReasons K.plan _ (K.begin h))

theorem made_abort (p : List Byte) : Made (effect abortBody p) := fun K _ h =>
  Answer.keeps_test h fun _ => K.flush (keeps_seqAbort K.plan (K.begin h))

/-! #### Chapters 3 and 4 -/

theorem made_windowSet (p : List Byte) : Made (effect windowSetBody p) := fun K _ h =>
  Answer.keeps_inSetup h fun _ => Answer.keeps_get h fun _ _ => Answer.keeps_get h fun _ _ => Answer.keeps_get h fun _ _ =>
    Answer.keeps_test h fun _ => K.windows _ h

/-- ACT_CONFIG keeps the frame where it changes no structural field (R70). -/
theorem frame_of_not_actStructural {p : List Byte} {s : State} {a : Fin 8} {c : ActConfig} (hs : actStructural p s = false)
    (ha : indexOf 8 (u8 p 0) = some a) (hc : actConfigOf p = some c) : c.frame = (s.act a).cfg.frame := by
  have stored : u8 p 2 = (s.act a).cfg.frame.val := by
    unfold actStructural at hs
    rw [ha] at hs
    simp only [Bool.or_eq_false_iff, decide_eq_false_iff_not, not_not] at hs
    exact hs.1.2
  unfold actConfigOf at hc
  split at hc
  · rename_i frame _ _ named _
    dsimp only at hc
    split at hc <;> cases hc
    exact Fin.ext ((indexOf_eq_some_iff.1 named).symm.trans stored)
  · cases hc

theorem keeps_storeActConfig {P Q : State → Prop} (K : Kept P Q) {s : State} {a : Fin 8} {c : ActConfig}
    (frame : s.stc.mode = .setup ∨ c.frame = (s.act a).cfg.frame) (h : P s) : P (storeActConfig a c s) := by
  have stored := keeps_lostEdge K.plan s.lostCause (K.begin (K.config a c frame h))
  exact K.flush (keeps_ite (foldl_keeps (fun _ k _ hs => K.lowerIn k hs) stored) stored)

theorem made_actConfig (p : List Byte) : Made (effect actConfigBody p) := by
  intro P Q K s h
  refine Answer.keeps_test h fun allowed => Answer.keeps_get h fun a ha => Answer.keeps_get h fun c hc =>
    Answer.keeps_test h fun _ => ?_
  rw [Answer.after_clamped]
  refine keeps_storeActConfig K ?_ h
  rcases Bool.or_eq_true_iff.1 allowed with setup | same
  · exact .inl (of_decide_eq_true setup)
  · exact .inr (frame_of_not_actStructural (by simpa using same) ha hc)

theorem made_actGains (p : List Byte) : Made (effect actGainsBody p) := fun K _ h =>
  Answer.keeps_get h fun _ _ => Answer.keeps_get h fun _ _ => by
    rw [Answer.after_clamped]
    refine K.modActNow (Actuator.works_storeGains ⟨?_, ?_⟩ _) h <;> simp only [clamp] <;> omega

theorem made_actControl (p : List Byte) : Made (effect actControlBody p) := by
  intro P Q K s h
  refine Answer.keeps_get h fun a _ => Answer.keeps_get h fun q _ => Answer.keeps_test h fun _ => ?_
  have works (x : Actuator) : x.Works { x with cfg := { x.cfg with quantity := q } } := ⟨rfl, rfl, rfl, id⟩
  split
  · exact K.modActNow (works _) h
  · refine K.modActNow ?_ h
    dsimp only
    split
    · exact works _
    · exact (works _).trans (Actuator.works_bumpless ..)
  all_goals exact h

theorem made_actSource (p : List Byte) : Made (effect actSourceBody p) := fun K _ h =>
  Answer.keeps_get h fun _ _ => Answer.keeps_get h fun _ _ => Answer.keeps_test h fun _ =>
    K.flush (keeps_lostEdge K.plan _ (K.begin (K.modActNow ⟨rfl, rfl, rfl, id⟩ h)))

theorem made_actManual (p : List Byte) : Made (effect actManualBody p) := fun K _ h =>
  Answer.keeps_get h fun _ _ => Answer.keeps_get h fun q _ => by
    rw [Answer.after_clamped]
    refine K.modActNow ?_ h
    cases q <;> exact ⟨rfl, rfl, rfl, id⟩

theorem keeps_transition {P Q : State → Prop} (K : Kept P Q) {s : State} {x : Option State} (h : P s)
    (hx : ∀ t, x = some t → Q t) : P ((transitionAnswer x).after s) := by
  cases x
  · exact h
  · exact K.flush (hx _ rfl)

theorem keeps_toOff {P Q : State → Prop} (K : Kept P Q) {s : State} (a : Fin 8) (h : P s) : P ((toOff a s).after s) := by
  unfold toOff
  split
  · split
    · exact h
    · exact K.flush (K.enter a .off .command trivial (K.begin h))
  · exact K.flush (K.actOff a .command (K.begin h))

theorem trippedNeighbour_eq_none {a : Fin 8} {s : State} (h : trippedNeighbour a s = none) (b : Fin 8)
    (hb : (s.act b).cfg.frame = (s.act a).cfg.frame) (ne : b ≠ a) : (s.act b).state ≠ .tripped := by
  have := List.find?_eq_none.1 h b (List.mem_finRange b)
  simpa [ne, hb] using this

theorem made_actMode (p : List Byte) : Made (effect actModeBody p) := by
  intro P Q K s h
  refine Answer.keeps_test h fun mode => Answer.keeps_get h fun a _ => Answer.keeps_get h fun target ht => ?_
  have run (ne : target ≠ .off) : s.stc.mode = .run := by
    unfold ModeTarget.ofCode at ht
    split at ht <;> cases ht <;> simp_all
  have loaded (ne : target ≠ .off) : P ((Answer.test (s.act a).cfg.enabled (.state a.val)
      (match trippedNeighbour a s, s.unloadRestraint a with
      | some b, _ => .state b.val
      | none, some e => .state e.val
      | none, none => transitionAnswer (if target = .low then toLow a s else toActiveState a s))).after s) := by
    refine Answer.keeps_test h fun _ => ?_
    split
    · exact h
    · exact h
    · rename_i free _
      have frame := trippedNeighbour_eq_none free
      refine keeps_transition K h fun t move => ?_
      split at move
      · exact K.toLow (run ne) frame (K.begin h) move
      · exact K.toActiveState (run ne) frame (K.begin h) move
  cases target with
  | off => exact keeps_toOff K a h
  | low | active => exact loaded (by decide)

/-! #### Chapter 5 -/

/-- The group record of GROUP_SET meets the law where no other group has one of its members (R92, R101). -/
theorem groupLaw_store {s : State} {g : Fin 4} {members : List (Fin 8 × Nat)} {f : Group → Group}
    (hf : (f (s.group g)).members = members ∧ (∀ a ∈ (f (s.group g)).lru, a ∈ members.map Prod.fst) ∧ (f (s.group g)).recipient = none)
    (apart : ∀ a ∈ members.map Prod.fst, ∀ k, a ∈ (s.group k).members.map Prod.fst → k = g) (h : s.groupLaw) :
    (s.modGroup g f).groupLaw := by
  obtain ⟨disjoint, order, recipient⟩ := h
  obtain ⟨hm, hl, hr⟩ := hf
  have group (k : Fin 4) : (s.modGroup g f).group k = if k = g then f (s.group g) else s.group k := by
    rw [State.modGroup_group]
    by_cases e : g = k
    · subst e; simp
    · rw [if_neg e, if_neg (Ne.symm e)]
  refine ⟨fun j k a => ?_, fun k a => ?_, fun k a => ?_⟩
  · rw [group, group]
    split <;> split <;> intro hj hk
    · simp_all
    · rw [hm] at hj
      exact absurd (apart a hj k hk) ‹_›
    · rw [hm] at hk
      exact absurd (apart a hk j hj) ‹_›
    · exact disjoint j k a hj hk
  · rw [group]
    split
    · rw [hm]; exact hl a
    · exact order k a
  · rw [group]
    split
    · rw [hr]; exact fun e => nomatch e
    · exact recipient k a

theorem keeps_storeGroup {P Q : State → Prop} (K : Kept P Q) {s : State} {g : Fin 4} {members : List (Fin 8 × Nat)} {carry : Bool}
    {tie : Tie} (apart : s.groupLaw → ∀ a ∈ members.map Prod.fst, ∀ k, a ∈ (s.group k).members.map Prod.fst → k = g)
    (h : P s) : P (storeGroup g members carry tie s) := by
  refine K.flush (keeps_lostEdge K.plan _ (K.begin (foldl_keeps (fun _ _ _ hs => K.modActNow ⟨rfl, rfl, rfl, id⟩ hs) ?_)))
  refine K.modGroup (fun law => groupLaw_store (members := members) ?_ (apart law) law) h
  by_cases e : members = []
  · subst e; simp
  · simp [e, Group.clearRecord]

theorem weightsOf_ne_nil_of_mem {l : List (Nat × Nat)} {a : Fin 8} (h : a ∈ (membersOf l).map Prod.fst) : weightsOf l a ≠ [] := by
  intro empty
  obtain ⟨m, hm, rfl⟩ := List.mem_map.1 h
  obtain ⟨b, -, hb⟩ := List.mem_filterMap.1 hm
  obtain ⟨w, hw, rfl⟩ := Option.map_eq_some_iff.1 hb
  rw [empty] at hw
  cases hw

theorem made_groupSet (p : List Byte) : Made (effect groupSetBody p) := by
  intro P Q K s h
  refine Answer.keeps_inSetup h fun _ => Answer.keeps_get h fun g _ => Answer.keeps_test h fun _ => Answer.keeps_test h fun _ => ?_
  split
  · exact h
  split
  · exact h
  refine Answer.keeps_get h fun carry _ => Answer.keeps_get h fun tie _ => ?_
  split
  · exact h
  · rename_i free
    refine keeps_storeGroup K (fun law a ha k hk => ?_) h
    have := List.find?_eq_none.1 free a (List.mem_finRange a)
    rw [(groupOf_eq_some_iff law).2 hk] at this
    simpa [weightsOf_ne_nil_of_mem ha] using this

/-! #### Chapter 6 -/

theorem made_setPresence (x : Fin 4) (on : Bool) (settle : Nat) : Made (setPresence x on settle) := by
  intro P Q K s h
  have set : P (s.modSat x fun y => { y with settleMs := settle }) := K.modSat id h
  unfold setPresence
  dsimp only
  split
  · exact K.satChange _ (fun _ hb => ⟨hb.1, hb.2.1, Nat.zero_le _⟩) set
  · exact K.satChange _ (fun _ _ => ⟨Nat.zero_le _, Nat.zero_le _, Nat.zero_le _⟩) set
  · exact set
  · exact set

theorem made_satPresent (p : List Byte) : Made (effect satPresentBody p) := fun K _ h =>
  Answer.keeps_inSetup h fun _ => Answer.keeps_get h fun _ _ => Answer.keeps_get h fun _ _ => by
    rw [Answer.after_clamped]; exact made_setPresence _ _ _ K h

theorem Sat.bounded_unsee {x : Sat} (h : x.bounded) : x.unsee.bounded := by
  unfold Sat.unsee
  split <;> exact h

theorem made_satWrite (p : List Byte) : Made (effect satWriteBody p) := fun K _ h =>
  Answer.keeps_get h fun _ _ => Answer.keeps_test h fun _ => Answer.keeps_get h fun _ _ => Answer.keeps_get h fun _ _ =>
    Answer.keeps_test h fun _ => Answer.keeps_test h fun room => by
      refine K.modSat (fun ⟨_, restore, unanswered⟩ => Sat.bounded_unsee ⟨?_, restore, unanswered⟩) h
      have := of_decide_eq_true room
      simp only [List.length_append, List.length_singleton, Config.postedCap] at this ⊢
      omega

theorem made_satReset (p : List Byte) : Made (effect satResetBody p) := fun K _ h =>
  Answer.keeps_get h fun _ _ => Answer.keeps_test h fun _ => Answer.keeps_test h fun _ =>
    K.modSat (fun hb => Sat.bounded_unsee hb) h

/-! #### Chapter 7 -/

theorem made_storeChan (c : Fin 64) (f : ChanConfig) : Made (storeChan c f) := fun K _ h =>
  keeps_ite (K.modChan c _ h) (K.lower _ (K.failZeroing c 1 (K.modChan c _ h)))

theorem made_chConfig (p : List Byte) : Made (effect chConfigBody p) := fun K _ h =>
  Answer.keeps_test h fun _ => Answer.keeps_get h fun _ _ => Answer.keeps_get h fun _ _ => made_storeChan _ _ K h

theorem made_chZero (p : List Byte) : Made (effect chZeroBody p) := by
  intro P Q K s h
  unfold effect chZeroBody
  split
  · exact Answer.keeps_get h fun c _ => Answer.keeps_test h fun _ => Answer.keeps_test h fun _ => Answer.keeps_test h fun _ =>
      K.modChan c _ h
  · exact Answer.keeps_get h fun x _ => Answer.keeps_test h fun _ => Answer.keeps_test h fun _ => Answer.keeps_test h fun _ =>
      foldl_keeps (fun _ c _ hs => K.modChan c _ hs) h
  · exact h

theorem made_snapList {p : List Byte} (len : p.length = 1 + u8 p 0) : Made (effect snapListBody p) := by
  intro P Q K s h
  refine Answer.keeps_test h fun room => Answer.keeps_test h fun _ => ?_
  split
  · exact h
  · refine K.strain _ (fun ⟨_, snaps, skipped⟩ => ⟨?_, snaps, skipped⟩) h
    have cap := of_decide_eq_true room
    simp only [Config.snapListCap] at cap
    refine (List.length_filterMap_le ..).trans ?_
    rw [List.length_map, List.length_drop]
    omega

theorem made_snapNow (p : List Byte) : Made (effect snapNowBody p) := fun K _ h =>
  Answer.keeps_get h fun _ _ => Answer.keeps_test h fun _ => K.offerSnap _ h

theorem made_snapFetch (p : List Byte) : Made (effect snapFetchBody p) := fun K _ h =>
  K.strain _ (fun ⟨list, snaps, _⟩ => ⟨list, (List.drop_sublist 1 _).length_le.trans snaps, Nat.zero_le _⟩) h

theorem made_stiffRef (p : List Byte) : Made (effect stiffRefBody p) := fun K _ h =>
  Answer.keeps_get h fun _ _ => Answer.keeps_get h fun _ _ =>
    keeps_ite (foldl_keeps (fun _ t _ hs => K.clearStiffness t hs) h) h

/-! #### Chapter 8 -/

theorem made_aeChannel (p : List Byte) : Made (effect aeChannelBody p) := by
  intro P Q K s h
  unfold effect aeChannelBody
  split
  · exact Answer.keeps_test h fun _ => K.emission _ id h
  · exact Answer.keeps_get h fun c _ => Answer.keeps_get h fun _ _ => Answer.keeps_test h fun _ => K.modAe c _ h

theorem made_aeFetch (p : List Byte) : Made (effect aeFetchBody p) := fun K _ h =>
  Answer.keeps_test h fun _ => K.emission _ (fun ⟨hits, log⟩ => ⟨hits, (List.drop_sublist _ _).length_le.trans log⟩) h

/-! #### Chapter 9 -/

theorem made_zoneSet (p : List Byte) : Made (effect zoneSetBody p) := by
  intro P Q K s h
  refine Answer.keeps_inSetup h fun _ => Answer.keeps_get h fun z _ => Answer.keeps_get h fun c _ => ?_
  split
  · exact h
  · exact h
  · exact K.evaluateZone _ z (K.modZone z _ h)

theorem made_zoneAck (p : List Byte) : Made (effect zoneAckBody p) := fun K _ h =>
  Answer.keeps_get h fun z _ => Answer.keeps_get h fun _ _ => K.evaluateZone _ z (K.modZone z _ h)

/-! #### Chapter 10 -/

theorem made_protEntry (p : List Byte) : Made (effect protEntryBody p) := fun K _ h =>
  Answer.keeps_inSetup h fun setup => Answer.keeps_get h fun e _ => Answer.keeps_get h fun c _ => by
    simp only [Answer.ok, Answer.after]
    exact K.storeEntry e c setup h

theorem made_protClear (p : List Byte) : Made (effect protClearBody p) := by
  intro P Q K s h
  unfold effect protClearBody
  split
  · simp only [clearAll, Answer.after]
    exact K.clearEntries h
  · refine Answer.keeps_get h fun e _ => ?_
    unfold clearOne
    split
    · exact h
    · simp only [Answer.done, Answer.ok, Answer.after]
      exact K.clearEntry e h

end Event

end Sys2Proof.Machine

/-!
Properties that every single operation of the matrix keeps, and what the taking of a frame and the end of a step keep.
-/
namespace Sys2Proof.Machine

/-- The replies held, the error count and the receiver are within their capacity (R196, R197, R202). -/
def Link.bounded (l : Link) : Prop := l.replies.length ≤ 4 ∧ l.linkErrors ≤ 65535 ∧ l.rx.length ≤ 248

/-- A property of states that every operation by which an entry's action is applied keeps by itself (R187 to R190). -/
structure Event.Acted (P : State → Prop) : Prop where
  buffer : ∀ e {s : State}, P s → P { s with ev := e }
  plan : ∀ q {s : State}, P s → P { s with psq := q }
  work : ∀ v {s : State}, (∀ a : Fin 8, (s.act a).Works v[a]) → P s → P (s.withActs v)
  enter : ∀ a x c {s : State}, P s → P (setActState a x c s)
  station : ∀ c {s : State}, P s → P { s with stc := c }

/-- A property of states that every operation of an event keeps by itself, those of the matrix included. -/
structure Event.Fine (P : State → Prop) : Prop extends Event.Acted P where
  derate : ∀ a d {s : State}, d ≤ 1000 → P s → P (writeDerate a d s)
  matrix : ∀ p {s : State}, (s.pmx.tripLog.length ≤ 8 → p.tripLog.length ≤ 8) →
    (∀ r, s.pmx.firstOut = some r → p.firstOut = some r) → P s → P { s with pmx := p }
  notices : ∀ l b {s : State}, (s.sli.notices.length ≤ 32 → l.length ≤ 32) → P s → P (s.withNotices l b)
  clock : ∀ c {s : State}, P s → P { s with clock := c }
  slots : ∀ v {s : State}, P s → P { s with axs := v }
  windows : ∀ w {s : State}, P s → P { s with svc := { s.svc with windows := w } }
  config : ∀ a c {s : State}, P s → P (s.modAct a fun x => { x with cfg := c })
  groups : ∀ v {s : State}, (s.groupLaw → ({ s with lgu := v } : State).groupLaw) → P s → P { s with lgu := v }
  sats : ∀ v {s : State}, (∀ x : Fin 4, s.glc[x].bounded → v[x].bounded) → P s → P { s with glc := v }
  strain : ∀ y {s : State}, (s.stp.bounded → y.bounded) → P s → P { s with stp := y }
  emission : ∀ u {s : State}, (s.aeu.bounded → u.bounded) → P s → P { s with aeu := u }
  zones : ∀ m {s : State}, P s → P { s with zmn := m }

/-! ### The merge -/

theorem mergedDerate_le (s : State) (a : Fin 8) : s.mergedDerate a ≤ 1000 := by
  have walk (l : List (Fin 40)) (m : Int) : l.foldl (fun m e => min m s.pmx.entries[e].cfg.value) m ≤ m := by
    induction l generalizing m with
    | nil => exact le_rfl
    | cons e l ih => exact (ih _).trans (min_le_left ..)
  exact walk _ _

theorem addTrip_tripLog_le {r : TripRec} {p : Protection} (h : p.tripLog.length ≤ 8) : (p.addTrip r).tripLog.length ≤ 8 := by
  have kept : (if p.tripLog.length < Config.tripCap then p.tripLog else p.tripLog.drop 1).length < 8 := by
    split
    · assumption
    · rw [List.length_drop]; omega
  unfold Protection.addTrip
  rw [List.length_append]
  exact kept

theorem addTrip_firstOut {r x : TripRec} {p : Protection} (h : p.firstOut = some x) : (p.addTrip r).firstOut = some x := by
  unfold Protection.addTrip
  rw [h]

namespace Event.Acted

variable {P : State → Prop} (A : Event.Acted P)
include A

theorem withPlan (q : Sequencer) (l : List Notice) {s : State} (h : P s) : P (s.withPlan q l) :=
  A.buffer { s.ev with seqs := l } (A.plan q h)

theorem modAct {s : State} {a : Fin 8} {f : Actuator → Actuator} (hf : (s.act a).Works (f (s.act a))) (h : P s) : P (s.modAct a f) :=
  A.work _ hf.vmod h

theorem unloadAction (a : Fin 8) {s : State} (h : P s) : P (unloadAction a s) := by
  unfold Machine.unloadAction
  split
  · exact keeps_enterUnloading false A.work (A.enter a .unloading .protection h)
  · exact A.enter a .low .protection h
  all_goals exact h

theorem tripAction (a : Fin 8) {s : State} (h : P s) : P (tripAction a s) :=
  keeps_ite (forAsc_keeps P (fun b _ hs => keeps_ite (A.enter b .tripped .frame hs) hs) (A.enter a .tripped .protection h)) h

theorem enterSafe {s : State} (h : P s) : P (enterSafe s) := by
  refine keeps_ite h (forAsc_keeps P (fun a s hs => A.modAct ?_ hs) (keeps_seqAbort A.withPlan (A.station _ h)))
  split <;> exact ⟨rfl, rfl, rfl, id⟩

theorem applyAction (x : ProtConfig) (m : ActSet) {s : State} (h : P s) : P (applyAction x m s) := by
  have walk {f : Fin 8 → State → State} (hf : ∀ a s, P s → P (f a s)) :
      P (forAsc 8 (fun a s => if ActSet.has m a then f a s else s) s) :=
    forAsc_keeps P (fun a _ hs => keeps_ite (hf a _ hs) hs) h
  unfold Machine.applyAction
  split
  · exact h
  · exact h
  · exact keeps_addReason A.withPlan _ h
  · exact keeps_ite (A.enterSafe (walk fun a _ => A.unloadAction a)) (walk fun a _ => A.unloadAction a)
  · exact keeps_ite (A.enterSafe (walk fun a _ => A.tripAction a)) (walk fun a _ => A.tripAction a)

end Event.Acted

namespace Event.Fine

variable {P : State → Prop} (F : Event.Fine P)
include F

theorem offer (n : Notice) {s : State} (h : P s) : P (offer n s) := F.notices _ _ (fun hl => offer_length_le (s := s) (n := n) hl) h

theorem entries (v : Vector ProtEntry 40) {s : State} (h : P s) : P (s.modPmx fun p => { p with entries := v }) :=
  F.matrix _ id (fun _ => id) h

theorem modEntry (e : Fin 40) (f : ProtEntry → ProtEntry) {s : State} (h : P s) : P (s.modEntry e f) := F.matrix _ id (fun _ => id) h

theorem setCond (c : Cond) (b : Bool) {s : State} (h : P s) : P (setCond c b s) := F.matrix _ id (fun _ => id) h

theorem merge {s : State} (h : P s) : P (merge s) :=
  forAsc_keeps P (fun a s hs => keeps_ite hs (F.derate a _ (mergedDerate_le s a) hs)) h

theorem lower (c : Cond) {s : State} (h : P s) : P (lower c s) :=
  keeps_ite (F.merge (F.matrix _ id (fun _ => id) (F.setCond c false h))) h

theorem flush {s : State} (h : P s) : P (flush s) :=
  foldl_keeps (fun _ c _ => F.lower c) (F.buffer _ (foldl_keeps (fun _ n _ => F.offer n) (F.buffer _ h)))

theorem takeRaising (e : Fin 40) (c : Cond) {s : State} (h : P s) : P (takeRaising e c s) := by
  refine keeps_ite (F.applyAction _ _ ?_) h
  have recorded (r : TripRec) {s : State} (h : P s) : P (s.modPmx (Protection.addTrip r)) :=
    F.matrix _ addTrip_tripLog_le (fun _ => addTrip_firstOut) h
  exact keeps_ite (F.offer _ (keeps_ite (recorded _ (F.modEntry e _ h)) (F.modEntry e _ h)))
    (keeps_ite (recorded _ (F.modEntry e _ h)) (F.modEntry e _ h))

theorem raise (c : Cond) {s : State} (h : P s) : P (raise c s) :=
  keeps_ite h (F.flush (F.merge (forAsc_keeps P (fun e _ => F.takeRaising e c) (F.setCond c true h))))

theorem judgeEntry (e : Fin 40) {s : State} (h : P s) : P (judgeEntry e s) := by
  unfold Machine.judgeEntry
  split
  · exact h
  · exact foldl_keeps (fun _ c _ hs => keeps_ite (F.flush (F.merge (F.takeRaising e c hs))) hs) h

/-- What every operation keeps, an event keeps. -/
theorem kept : Event.Kept P P where
  begin := id
  flush := F.flush
  plan := F.withPlan
  work := F.work
  enter a x c _ _ := F.enter a x c
  clock := F.clock
  station _ _ _ h := F.station _ h
  toRun := F.station _
  toSetup _ := F.station _
  notices := F.notices
  slots := F.slots
  planNow := F.plan
  workNow := F.work
  windows := F.windows
  config a c _ _ := F.config a c
  groups := F.groups
  sats := F.sats
  strain := F.strain
  emission := F.emission
  zones := F.zones
  raise := F.raise
  lower := F.lower
  lowerIn := F.lower
  storeEntry e _ _ _ h := F.judgeEntry e (F.merge (F.modEntry e _ h))
  clearEntry e _ h := F.merge (F.modEntry e _ h)
  clearEntries h := F.merge (F.entries _ h)

end Event.Fine

/-! ### A change of an actuator's state (R50, R74, R79, R82) -/

/-- What entering a state makes of an actuator. -/
def Actuator.entered (x : ActState) (y : Actuator) : Actuator :=
  let z := if x = .off ∨ x = .tripped then
    { y with regs := { y.regs with c := 0, a := 0, u := 0 }, follow := 0, stall := 0 } else y
  let z := if y.state = .unloading then { z with unload := { z.unload with timerOn := false } } else z
  { z with state := x, timerStart := 0, timerMs := 0, regs := if x = .starting then { z.regs with u := 0 } else z.regs }

@[simp] theorem Actuator.entered_state (x : ActState) (y : Actuator) : (y.entered x).state = x := rfl

theorem Actuator.entered_cfg (x : ActState) (y : Actuator) : (y.entered x).cfg = y.cfg := by
  unfold entered; dsimp only; split <;> split <;> rfl

theorem Actuator.entered_derate (x : ActState) (y : Actuator) : (y.entered x).derate = y.derate := by
  unfold entered; dsimp only; split <;> split <;> rfl

/-- Two states that differ in the plan and the event's buffer alone. -/
def State.Aside (s t : State) : Prop := ∃ e q, t = { s with ev := e, psq := q }

theorem State.Aside.rfl' {s : State} : s.Aside s := ⟨s.ev, s.psq, rfl⟩

theorem State.Aside.trans {s t u : State} (h : s.Aside t) (k : t.Aside u) : s.Aside u := by
  obtain ⟨_, _, rfl⟩ := h
  obtain ⟨_, _, rfl⟩ := k
  exact ⟨_, _, rfl⟩

theorem State.Aside.modAct {s t : State} (h : s.Aside t) (a : Fin 8) (f : Actuator → Actuator) : (s.modAct a f).Aside (t.modAct a f) := by
  obtain ⟨_, _, rfl⟩ := h
  exact ⟨_, _, rfl⟩

theorem aside_ev (s : State) (e : EventBuffer) : s.Aside { s with ev := e } := ⟨_, _, rfl⟩

theorem aside_lostEdge (b : Bool) (s : State) : s.Aside (lostEdge b s) :=
  keeps_lostEdge (Q := s.Aside) (fun q l t h => h.trans ⟨{ t.ev with seqs := l }, q, rfl⟩) b .rfl'

theorem aside_lowerLater (c : Cond) (s : State) : s.Aside (lowerLater c s) :=
  keeps_ite (P := s.Aside) (aside_ev ..) .rfl'

theorem aside_ite {c : Prop} [Decidable c] {x y x' y' : State} (hx : x.Aside x') (hy : y.Aside y') :
    (if c then x else y).Aside (if c then x' else y') := by
  split <;> assumption

theorem State.Aside.groupMembership {s t : State} (h : s.Aside t) (a : Fin 8) :
    (groupMembership a s).Aside (groupMembership a t) := by
  obtain ⟨e, q, rfl⟩ := h
  unfold Machine.groupMembership
  rw [show ({ s with ev := e, psq := q } : State).groupOf a = s.groupOf a from rfl]
  cases s.groupOf a with
  | none => exact ⟨_, _, rfl⟩
  | some g =>
    exact aside_ite (c := s.short g = true)
      (aside_ite (c := s.inShare a = true)
        (aside_ite (c := (s.group g).recipient = none) ⟨_, _, rfl⟩ ⟨_, _, rfl⟩)
        (aside_ite (c := (s.group g).recipient = some a) ⟨_, _, rfl⟩ ⟨_, _, rfl⟩)) ⟨_, _, rfl⟩

theorem State.modAct_modAct (a : Fin 8) (f g : Actuator → Actuator) (s : State) :
    (s.modAct a f).modAct a g = s.modAct a fun x => g (f x) := by
  have : vmod (vmod s.svc.acts a f) a g = vmod s.svc.acts a fun x => g (f x) := by
    apply Vector.ext
    intro i hi
    simp [vmod]
  simp only [State.modAct, this]

theorem State.modAct_congr {a : Fin 8} {f g : Actuator → Actuator} {s : State} (h : f (s.act a) = g (s.act a)) :
    s.modAct a f = s.modAct a g := by
  have : vmod s.svc.acts a f = vmod s.svc.acts a g := by
    unfold vmod
    exact congrArg (s.svc.acts.set a) h
  simp only [State.modAct, this]

/-- A change of an actuator's state moves the actuator, where it enters or leaves ACTIVE its group's handover record, and
the plan and the event's buffer. -/
theorem aside_setActState (a : Fin 8) (x : ActState) (c : ActCause) (s : State) : State.Aside
    (if (s.act a).state = .active ∨ x = .active then groupMembership a (s.modAct a (Actuator.entered x))
      else s.modAct a (Actuator.entered x)) (setActState a x c s) := by
  have cleared : State.Aside (s.modAct a fun y => if x = .off ∨ x = .tripped then
      { y with regs := { y.regs with c := 0, a := 0, u := 0 }, follow := 0, stall := 0 } else y)
      (if x = .off ∨ x = .tripped then clearRegs a s else s) := by
    split
    · exact (aside_lowerLater ..).trans ((aside_lowerLater ..).trans (aside_lowerLater ..))
    · show State.Aside { s with svc := { s.svc with acts := vmod s.svc.acts a id } } s
      rw [vmod_id]
      exact .rfl'
  have left {s t : State} (h : s.Aside t) (b : Prop) [Decidable b] : State.Aside
      (s.modAct a fun y => if b then { y with unload := { y.unload with timerOn := false } } else y)
      (if b then leaveUnloading a t else t) := by
    split
    · exact (h.modAct a _).trans (aside_lowerLater ..)
    · refine .trans ?_ h
      show State.Aside { s with svc := { s.svc with acts := vmod s.svc.acts a id } } s
      rw [vmod_id]
      exact .rfl'
  have moved := ((left cleared ((s.act a).state = .unloading)).modAct a fun y =>
    { y with state := x, timerStart := 0, timerMs := 0, regs := if x = .starting then { y.regs with u := 0 } else y.regs })
  rw [State.modAct_modAct, State.modAct_modAct, State.modAct_congr (g := Actuator.entered x)
    (by unfold Actuator.entered; dsimp only)] at moved
  have taken := aside_ite (c := (s.act a).state = .active ∨ x = .active) (moved.groupMembership a) moved
  have edged := taken.trans (aside_lostEdge s.lostCause _)
  exact keeps_ite (P := State.Aside _) (edged.trans (aside_ev ..)) edged

theorem groupMembership_eq (a : Fin 8) (s : State) : ∃ v, groupMembership a s = { s with lgu := v } := by
  unfold groupMembership
  cases s.groupOf a with
  | none => exact ⟨_, rfl⟩
  | some g =>
    have either {c : Prop} [Decidable c] {x y : State} (hx : ∃ v, x = { s with lgu := v }) (hy : ∃ v, y = { s with lgu := v }) :
        ∃ v, (if c then x else y) = { s with lgu := v } := by
      split <;> assumption
    exact either (either (either ⟨_, rfl⟩ ⟨_, rfl⟩) (either ⟨_, rfl⟩ ⟨_, rfl⟩)) ⟨_, rfl⟩

/-- A change of an actuator's state touches the actuators, the groups, the plan and the event's buffer alone. -/
theorem keeps_setActState {Q : State → Prop} (buffer : ∀ e {s : State}, Q s → Q { s with ev := e })
    (plan : ∀ q {s : State}, Q s → Q { s with psq := q }) (acts : ∀ v {s : State}, Q s → Q (s.withActs v))
    (groups : ∀ v {s : State}, Q s → Q { s with lgu := v }) (a : Fin 8) (x : ActState) (c : ActCause) {s : State} (h : Q s) :
    Q (setActState a x c s) := by
  obtain ⟨e, q, aside⟩ := aside_setActState a x c s
  obtain ⟨v, member⟩ := groupMembership_eq a (s.modAct a (Actuator.entered x))
  rw [aside, member]
  exact buffer e (plan q (keeps_ite (groups v (acts _ h)) (acts _ h)))

/-- A derate written touches the actuators and the groups alone. -/
theorem keeps_writeDerate {Q : State → Prop} (acts : ∀ v {s : State}, Q s → Q (s.withActs v))
    (groups : ∀ v {s : State}, Q s → Q { s with lgu := v }) (a : Fin 8) (d : Int) {s : State} (h : Q s) :
    Q (writeDerate a d s) := by
  unfold writeDerate
  dsimp only
  split
  · exact acts _ h
  · exact keeps_ite (keeps_ite (keeps_ite (keeps_ite (groups _ (acts _ h)) (groups _ (acts _ h))) (acts _ h))
      (groups _ (acts _ h))) (acts _ h)

/-! ### What the effect of a command leaves of the link -/

/-- What the link holds besides the notices. -/
def State.heldLink (s : State) := (s.sli.replies, s.sli.sendDue, s.sli.linkErrors, s.sli.rx)

theorem fine_heldLink (x) : Event.Fine fun s => s.heldLink = x where
  buffer _ _ h := h
  plan _ _ h := h
  work _ _ _ h := h
  enter a y c _ h := keeps_setActState (Q := fun s => s.heldLink = x) (fun _ _ h => h) (fun _ _ h => h) (fun _ _ h => h) (fun _ _ h => h) a y c h
  derate a d _ _ h := keeps_writeDerate (Q := fun s => s.heldLink = x) (fun _ _ h => h) (fun _ _ h => h) a d h
  matrix _ _ _ _ h := h
  notices _ _ _ _ h := h
  clock _ _ h := h
  station _ _ h := h
  slots _ _ h := h
  windows _ _ h := h
  config _ _ _ h := h
  groups _ _ _ h := h
  sats _ _ _ h := h
  strain _ _ _ h := h
  emission _ _ _ h := h
  zones _ _ h := h

/-- The effect of a command leaves the replies held, the send time, the error count and the receiver as they were. -/
theorem Event.Made.heldLink_eq {f : State → State} (hf : Event.Made f) (s : State) : (f s).heldLink = s.heldLink :=
  hf (fine_heldLink s.heldLink).kept rfl

/-! ### Frames and bytes -/

theorem length_le_of_readFrame_eq_none {l : List Byte} (h : readFrame l = none) : l.length ≤ 246 := by
  unfold readFrame at h
  split at h
  · split at h
    · cases h
    · split at h
      · simp only [List.length_cons]; omega
      · dsimp only at h
        split at h <;> cases h
  · rename_i short
    match l with
    | [] | [_] | [_, _] | [_, _, _] | [_, _, _, _] => simp
    | a :: b :: c :: d :: e :: rest => exact absurd rfl (short a b c d e rest)

theorem length_takeByte_le (held : List Byte) (b : Byte) : (takeByte held b).1.length ≤ 248 := by
  match held with
  | [] => unfold takeByte; dsimp only; split <;> simp
  | [c] => unfold takeByte; dsimp only; split <;> [simp; (split <;> simp)]
  | c :: d :: body =>
    rcases takeByte_frame_cases c d b body with ⟨whole, h⟩ | ⟨_, _, h⟩
    · have := length_le_of_readFrame_eq_none whole
      rw [h]
      simp only [List.length_append, List.length_cons, List.length_nil] at this ⊢
      omega
    · rw [h]; simp

theorem length_takeBytes_le {held : List Byte} (h : held.length ≤ 248) (l : List Byte) : (takeBytes held l).1.length ≤ 248 := by
  induction l generalizing held with
  | nil => exact h
  | cons b l ih => exact ih (length_takeByte_le held b)

/-! ### What taking a frame keeps -/

/-- `P` is kept by the operations of an event, by those of the link, and by what a RESTART clears. -/
structure Event.Taken (P Q : State → Prop) : Prop extends Event.Kept P Q where
  link : ∀ l {s : State}, l.notices = s.sli.notices → l.noticesLost = s.sli.noticesLost → (s.sli.bounded → l.bounded) → P s →
    P { s with sli := l }
  restart : ∀ {s}, P s → P (restartState s)

namespace Event.Taken

variable {P Q : State → Prop} (T : Event.Taken P Q) {s : State}
include T

theorem received (h : P s) : P s.received := T.link _ rfl rfl (fun ⟨replies, errors, _⟩ => ⟨replies, errors, Nat.zero_le _⟩) h

theorem countLinkError (h : P s) : P (countLinkError s) :=
  T.link _ rfl rfl (fun ⟨replies, _, rx⟩ => ⟨replies, satAdd_le, rx⟩) h

theorem receiveBytes (bytes : List Byte) (h : P s) : P (receiveBytes bytes s) :=
  foldl_keeps (fun _ _ _ hs => T.countLinkError hs)
    (T.link _ rfl rfl (fun ⟨replies, errors, rx⟩ => ⟨replies, errors, length_takeBytes_le rx bytes⟩) h)

theorem spacingTimeout (h : P s) : P (spacingTimeout s) :=
  keeps_ite (T.countLinkError (T.received h)) h

theorem replyDone (h : P s) : P (replyDone s) := by
  unfold Machine.replyDone
  split
  · exact h
  · rename_i r rest held
    refine T.link _ rfl rfl (fun ⟨replies, errors, rx⟩ => ⟨?_, errors, rx⟩) (T.advanceTo _ h)
    rw [State.advanceTo_sli, held, List.length_cons] at replies
    exact Nat.le_of_succ_le replies

theorem holdReply (r : Reply) (room : s.sli.replies.length < 4) (h : P s) : P (holdReply r s) := by
  refine T.link _ rfl rfl (fun ⟨_, errors, rx⟩ => ⟨?_, errors, rx⟩) h
  simp only [List.length_append, List.length_singleton]
  omega

theorem addressed {code : Byte} {answer : State → Answer} {f : Frame} (held : ((answer s).after s).sli.replies = s.sli.replies)
    (h : P s) (answered : P ((answer s).after s)) : P (addressed code answer f s) := by
  unfold Machine.addressed
  split
  · exact T.countLinkError h
  · rename_i room
    refine T.holdReply _ ?_ answered
    rw [held]
    exact Nat.lt_of_not_le room

theorem accepted {length : List Byte → Nat} {b : Bool} {body : List Byte → State → Answer} {f : Frame}
    (made : ∀ p, p.length = length p → Made (effect body p)) :
    ((accept length b body f s).after s).sli.replies = s.sli.replies ∧ (P s → P ((accept length b body f s).after s)) := by
  unfold accept
  split
  · exact ⟨rfl, id⟩
  · split
    · exact ⟨rfl, id⟩
    · rename_i len _
      have effect : Made (effect body f.payload) := made f.payload (not_not.1 len)
      exact ⟨congrArg Prod.fst (effect.heldLink_eq s), effect T.toKept⟩

/-- A command whose effect is made of the operations of an event. -/
theorem command {code : Byte} {length : List Byte → Nat} {body : List Byte → State → Answer}
    (made : ∀ p, p.length = length p → Made (effect body p)) (f : Frame) (h : P s) : P (command code length body f s) := by
  unfold Machine.command
  split
  · exact T.received h
  · exact T.received h
  · obtain ⟨held, kept⟩ := T.accepted (b := false) (f := f) (s := s.received) made
    exact T.addressed held (T.received h) (kept (T.received h))

theorem groupCommand {code : Byte} {body : State → Answer} (made : Made fun s => (body s).after s) (f : Frame) (h : P s) :
    P (groupCommand code body f s) := by
  unfold Machine.groupCommand
  split
  · exact T.received h
  · exact keeps_ite (made T.toKept (T.received h)) (T.received h)
  · obtain ⟨held, kept⟩ := T.accepted (b := false) (f := f) (s := s.received) (length := fun _ => 0)
      (body := fun _ s => body s) fun _ _ => made
    exact T.addressed held (T.received h) (kept (T.received h))

theorem readCommand {code : Byte} {body : State → Answer} (made : Made fun s => (body s).after s) (f : Frame) (h : P s) :
    P (readCommand code body f s) := by
  unfold Machine.readCommand
  split
  · exact T.received h
  · exact T.received h
  · obtain ⟨held, kept⟩ := T.accepted (b := true) (f := f) (s := s.received) (length := fun _ => 0)
      (body := fun _ s => body s) fun _ _ => made
    exact T.addressed held (T.received h) (kept (T.received h))

theorem unknownCode (code : Byte) (f : Frame) (h : P s) : P (unknownCode code f s) := by
  unfold Machine.unknownCode
  refine keeps_ite (T.received h) ?_
  split
  · exact T.received h
  · exact T.received h
  · exact T.addressed rfl (T.received h) (T.received h)

theorem restartReset (h : P s) : P (restartReset s) := T.afterReset (T.restart h)

theorem restartAct (h : P s) : P (restartAct s) := keeps_ite (T.restartReset h) (T.restartWait h)

theorem restartCommand (f : Frame) (h : P s) : P (restartCommand f s) := by
  have received := T.received h
  have made : Made fun s => (Answer.done (if s.allAtRest then s else Machine.restartWait s)).after s :=
    fun K _ h => keeps_ite h (K.restartWait h)
  unfold Machine.restartCommand
  dsimp only
  split
  · exact received
  · exact keeps_ite (T.restartAct received) received
  · obtain ⟨held, kept⟩ := T.accepted (b := false) (f := f) (s := s.received) (length := fun _ => 0)
      (body := fun _ s => .done (if s.allAtRest then s else Machine.restartWait s)) fun _ _ => made
    have answered := T.addressed (code := 0x07) (f := f) held received (kept received)
    exact keeps_ite (T.restartReset answered) answered

theorem finish (h : P s) : P (finish s) := keeps_ite (T.restartReset h) h

theorem stepDone {t : State} (h : P s) (step : stepDone s = .next t) : P t := by
  cases step
  exact T.finish h

end Event.Taken

/-! ### What every row keeps -/

/-- A command that reads leaves the state. -/
theorem Event.made_of_reads {f : State → State} (reads : ∀ s, f s = s) : Event.Made f := fun _ s h => (reads s).symm ▸ h

/-- What a command with tests on operands and no effect leaves. -/
theorem Answer.after_test {b : Bool} {status : Status} {detail : Nat} {rest : Answer} {s : State} (h : rest.after s = s) :
    (Answer.test b (.refuse status detail) rest).after s = s :=
  Answer.keeps_test (P := fun t => t = s) rfl fun _ => h

theorem Answer.after_get {α : Type} {x : Option α} {rest : α → Answer} {s : State} (h : ∀ a, (rest a).after s = s) :
    (Answer.get x rest).after s = s :=
  Answer.keeps_get (P := fun t => t = s) rfl fun a _ => h a

section Reading

variable (p : List Byte) (s : State)

theorem effect_slotRead : effect slotReadBody p s = s := Answer.after_get fun _ => rfl
theorem effect_planRead : effect planReadBody p s = s := Answer.after_get fun _ => rfl
theorem effect_seqStatus : effect seqStatusBody p s = s := rfl
theorem effect_actStatus : effect actStatusBody p s = s := Answer.after_get fun _ => rfl
theorem effect_groupStatus : effect groupStatusBody p s = s := Answer.after_get fun _ => rfl
theorem effect_satRead : effect satReadBody p s = s := Answer.after_get fun _ => rfl
theorem effect_satStatus : effect satStatusBody p s = s := Answer.after_get fun _ => rfl
theorem effect_chRead : effect chReadBody p s = s := Answer.after_test rfl
theorem effect_zoneStatus : effect zoneStatusBody p s = s := Answer.after_get fun _ => rfl
theorem effect_protList : effect protListBody p s = s := Answer.after_test rfl
theorem effect_tripLog : effect tripLogBody p s = s := by unfold effect tripLogBody; dsimp only; split <;> rfl

end Reading

open Event in
/-- What the operations of an event, of the link and of a RESTART keep, every row keeps, those three apart that clear the
first-out record, of which only that the clearing keeps it is asked. -/
theorem exec_keeps {P Q : State → Prop} (T : Event.Taken P Q) {i : Instr} {s t : State}
    (cold : ∀ straps, i = .power straps ∨ i = .line straps → ∀ r, P (coldState straps r s))
    (clear : ∀ f, i = .protFirstClear f → ∀ {s}, P s → P (s.modPmx fun p => { p with firstOut := none }))
    (h : P s) (run : exec i s = .next t) : P t := by
  have read {body : List Byte → State → Answer} (reads : ∀ p s, effect body p s = s) (code : Byte) (length : List Byte → Nat)
      (f : Frame) : P (command code length body f s) := T.command (fun p _ => made_of_reads (reads p)) f h
  have taken {body : List Byte → State → Answer} (made : ∀ p, Made (effect body p)) (code : Byte) (length : List Byte → Nat)
      (f : Frame) : P (command code length body f s) := T.command (fun p _ => made p) f h
  cases i with
  | power straps => exact T.stepDone (T.afterReset (cold straps (.inl rfl) _)) run
  | line straps => exact T.stepDone (T.afterReset (cold straps (.inr rfl) _)) run
  | deferredRestart => exact T.stepDone (T.finish h) run
  | haltLoopChange isOpen => exact T.stepDone (T.setTo .haltLoop isOpen (T.station { s.stc with haltOpen := isOpen } rfl h)) run
  | contactEdge slot closed => exact T.stepDone (T.contactEdge _ _ h) run
  | auxiliaryAnalogSample slot raw => exact T.stepDone (T.analogSample _ _ h) run
  | controlSample r => exact T.stepDone (T.controlSample r h) run
  | lowPressureTimerExpiry a => exact T.stepDone (T.lowPressureExpiry a h) run
  | highPressureTimerExpiry a => exact T.stepDone (T.highPressureExpiry a h) run
  | unloadTimerExpiry a => exact T.stepDone (T.unloadExpiry a h) run
  | gaugePoll slot => exact T.stepDone (T.pollTime slot h) run
  | unansweredCountReached slot => exact T.stepDone (keeps_ite (T.pollTime slot h) h) run
  | satelliteAnswer slot ans => exact T.stepDone (T.takeAnswer slot ans h) run
  | settleTimerExpiry slot => exact T.stepDone (T.settleExpiry slot h) run
  | zeroingCompletion ch ans => exact T.stepDone (keeps_ite (T.takeAnswer _ ans h) h) run
  | thresholdCrossing ch x => exact T.stepDone (T.takeCrossing ch x h) run
  | hdtExpiry ch => exact T.stepDone (T.hdtExpiry ch h) run
  | durationExpiry ch => exact T.stepDone (T.durationExpiry ch h) run
  | lockoutExpiry ch => exact T.stepDone (T.lockoutExpiry ch h) run
  | windowTimerExpiry => exact T.stepDone (T.windowExpiry h) run
  | binTimerExpiry => exact T.stepDone (T.binExpiry h) run
  | framingFailure bytes => exact T.stepDone (T.receiveBytes bytes h) run
  | byteSpacingTimeout bytes => exact T.stepDone (T.spacingTimeout (T.receiveBytes bytes h)) run
  | unknownCommandCode code f => exact T.stepDone (T.unknownCode code f h) run
  | replySent => exact T.stepDone (T.replyDone h) run
  | followingCountReached | stallCountReached | countedCycle | steadyEnd | rampEnd | dwellExpiry | approachEnd | taperUpEnd
  | taperDownEnd | pausingEnd | unloadCompletion => exact T.stepDone (T.sampleIf _ _ h) run
  | status f => exact T.stepDone (T.readCommand (made_of_reads fun _ => rfl) f h) run
  | fetch f => exact T.stepDone (T.readCommand made_fetch f h) run
  | restart f => exact T.stepDone (T.restartCommand f h) run
  | halt f => exact T.stepDone (T.groupCommand made_haltAct f h) run
  | go f => exact T.stepDone (T.groupCommand made_goAct f h) run
  | hold f => exact T.stepDone (T.groupCommand made_hold f h) run
  | resume f => exact T.stepDone (T.groupCommand made_resume f h) run
  | slotRead f => exact T.stepDone (read effect_slotRead _ _ f) run
  | planRead f => exact T.stepDone (read effect_planRead _ _ f) run
  | seqStatus f => exact T.stepDone (read effect_seqStatus _ _ f) run
  | actStatus f => exact T.stepDone (read effect_actStatus _ _ f) run
  | groupStatus f => exact T.stepDone (read effect_groupStatus _ _ f) run
  | satRead f => exact T.stepDone (read effect_satRead _ _ f) run
  | satStatus f => exact T.stepDone (read effect_satStatus _ _ f) run
  | chRead f => exact T.stepDone (read effect_chRead _ _ f) run
  | zoneStatus f => exact T.stepDone (read effect_zoneStatus _ _ f) run
  | protList f => exact T.stepDone (read effect_protList _ _ f) run
  | tripLog f => exact T.stepDone (read effect_tripLog _ _ f) run
  | mode f => exact T.stepDone (taken made_mode _ _ f) run
  | stationSet f => exact T.stepDone (taken made_stationSet _ _ f) run
  | assign f => exact T.stepDone (taken made_assign _ _ f) run
  | slotSet f => exact T.stepDone (taken made_slotSet _ _ f) run
  | planWrite f => exact T.stepDone (taken made_planWrite _ _ f) run
  | planSet f => exact T.stepDone (taken made_planSet _ _ f) run
  | trackSet f => exact T.stepDone (taken made_trackSet _ _ f) run
  | start f => exact T.stepDone (taken made_start _ _ f) run
  | abort f => exact T.stepDone (taken made_abort _ _ f) run
  | windowSet f => exact T.stepDone (taken made_windowSet _ _ f) run
  | actConfig f => exact T.stepDone (taken made_actConfig _ _ f) run
  | actGains f => exact T.stepDone (taken made_actGains _ _ f) run
  | actMode f => exact T.stepDone (taken made_actMode _ _ f) run
  | actControl f => exact T.stepDone (taken made_actControl _ _ f) run
  | actSource f => exact T.stepDone (taken made_actSource _ _ f) run
  | actManual f => exact T.stepDone (taken made_actManual _ _ f) run
  | groupSet f => exact T.stepDone (taken made_groupSet _ _ f) run
  | satPresent f => exact T.stepDone (taken made_satPresent _ _ f) run
  | satWrite f => exact T.stepDone (taken made_satWrite _ _ f) run
  | satReset f => exact T.stepDone (taken made_satReset _ _ f) run
  | chConfig f => exact T.stepDone (taken made_chConfig _ _ f) run
  | chZero f => exact T.stepDone (taken made_chZero _ _ f) run
  | snapList f => exact T.stepDone (T.command (fun _ len => made_snapList len) f h) run
  | snapNow f => exact T.stepDone (taken made_snapNow _ _ f) run
  | snapFetch f => exact T.stepDone (taken made_snapFetch _ _ f) run
  | stiffRef f => exact T.stepDone (taken made_stiffRef _ _ f) run
  | aeChannel f => exact T.stepDone (taken made_aeChannel _ _ f) run
  | aeChannelWindow f => exact T.stepDone (taken made_aeChannel _ _ f) run
  | aeFetch f => exact T.stepDone (taken made_aeFetch _ _ f) run
  | zoneSet f => exact T.stepDone (taken made_zoneSet _ _ f) run
  | zoneAck f => exact T.stepDone (taken made_zoneAck _ _ f) run
  | protEntry f => exact T.stepDone (taken made_protEntry _ _ f) run
  | protClear f => exact T.stepDone (taken made_protClear _ _ f) run
  | protFirstClear f =>
    refine T.stepDone ?_ run
    rcases command_cases 0x63 (fun _ => 0) protFirstClearBody f s with ⟨_, e⟩ | ⟨_, _, e⟩ | ⟨_, room, a, ha, e⟩ <;> rw [e]
    · exact T.received h
    · exact T.countLinkError (T.received h)
    · subst ha
      unfold accept
      split
      · exact T.holdReply _ room (T.received h)
      · split
        · exact T.holdReply _ room (T.received h)
        · exact T.holdReply _ room (clear f rfl (T.received h))

end Sys2Proof.Machine

/-!
The invariants that are followed through every row by `exec_keeps`: the waiting commands, the first-out record, the drive
and integrator bounds, the law of groups, and the capacities.
-/
namespace Sys2Proof.Machine

/-! ### The waiting commands -/

theorem fine_pending (l : List Instr) : Event.Fine fun s => s.pending = l where
  buffer _ _ h := h
  plan _ _ h := h
  work _ _ _ h := h
  enter a y c _ h := keeps_setActState (Q := fun s => s.pending = l) (fun _ _ h => h) (fun _ _ h => h) (fun _ _ h => h)
    (fun _ _ h => h) a y c h
  derate a d _ _ h := keeps_writeDerate (Q := fun s => s.pending = l) (fun _ _ h => h) (fun _ _ h => h) a d h
  matrix _ _ _ _ h := h
  notices _ _ _ _ h := h
  clock _ _ h := h
  station _ _ h := h
  slots _ _ h := h
  windows _ _ h := h
  config _ _ _ h := h
  groups _ _ _ h := h
  sats _ _ _ h := h
  strain _ _ _ h := h
  emission _ _ _ h := h
  zones _ _ h := h

theorem restartState_pending (s : State) : (restartState s).pending = s.pending := by
  unfold restartState; dsimp only; split <;> rfl

/-- Settles O2: every row ends a step, and no operation reaches the waiting commands. -/
theorem everyCommandIsTaken : Obligations.EveryCommandIsTaken := by
  intro i s
  have ends : ∃ t, exec i s = .next t := by cases i <;> exact ⟨_, rfl⟩
  obtain ⟨t, run⟩ := ends
  exact ⟨t, run, exec_keeps
    { (fine_pending s.pending).kept with link := fun _ _ _ _ _ h => h, restart := fun h => (restartState_pending _).trans h }
    (fun _ _ _ => rfl) (fun _ _ _ h => h) rfl run⟩

/-! ### The first-out record (R193) -/

theorem fine_firstOut (r : TripRec) : Event.Fine fun s => s.pmx.firstOut = some r where
  buffer _ _ h := h
  plan _ _ h := h
  work _ _ _ h := h
  enter a y c _ h := keeps_setActState (Q := fun s => s.pmx.firstOut = some r) (fun _ _ h => h) (fun _ _ h => h)
    (fun _ _ h => h) (fun _ _ h => h) a y c h
  derate a d _ _ h := keeps_writeDerate (Q := fun s => s.pmx.firstOut = some r) (fun _ _ h => h) (fun _ _ h => h) a d h
  matrix _ _ _ stands h := stands r h
  notices _ _ _ _ h := h
  clock _ _ h := h
  station _ _ h := h
  slots _ _ h := h
  windows _ _ h := h
  config _ _ _ h := h
  groups _ _ _ h := h
  sats _ _ _ h := h
  strain _ _ _ h := h
  emission _ _ _ h := h
  zones _ _ h := h

theorem restartState_firstOut (s : State) : (restartState s).pmx.firstOut = s.pmx.firstOut := by
  unfold restartState; dsimp only; split <;> rfl

/-- Settles O56: a trip record taken keeps a first-out record that stands, and a RESTART keeps it. -/
theorem firstOutStands : Obligations.FirstOutStands := by
  intro i s t r stands run cold clear
  refine exec_keeps
    { (fine_firstOut r).kept with link := fun _ _ _ _ _ h => h, restart := fun h => (restartState_firstOut _).trans h }
    (fun straps e => ?_) (fun f e => absurd e (clear f)) stands run
  exact e.elim (fun e => absurd e (cold straps).1) fun e => absurd e (cold straps).2

/-! ### The valve drive and the integrator (R50, R59 to R61) -/

theorem setActState_act (a : Fin 8) (x : ActState) (c : ActCause) (s : State) (b : Fin 8) :
    (setActState a x c s).act b = (s.modAct a (Actuator.entered x)).act b := by
  obtain ⟨_, _, aside⟩ := aside_setActState a x c s
  obtain ⟨_, member⟩ := groupMembership_eq a (s.modAct a (Actuator.entered x))
  rw [aside, member]
  exact keeps_ite (P := fun t => t.act b = (s.modAct a (Actuator.entered x)).act b) rfl rfl

theorem writeDerate_act (a : Fin 8) (d : Int) (s : State) (b : Fin 8) :
    (writeDerate a d s).act b = (s.modAct a fun x => { x with derate := d }).act b := by
  have either {c : Prop} [Decidable c] {x y : State} := keeps_ite (c := c) (x := x) (y := y)
    (P := fun t => t.act b = (s.modAct a fun x => { x with derate := d }).act b)
  unfold writeDerate
  dsimp only
  split
  · rfl
  · exact either (either (either (either rfl rfl) rfl) rfl) rfl

theorem Actuator.driveOk_entered {x : ActState} {y : Actuator} (h : y.driveOk) : (y.entered x).driveOk := by
  obtain ⟨drive, -, gains, integrator⟩ := h
  have gains' : ∀ q, (y.entered x).gains q = y.gains q := by
    intro q
    unfold entered; dsimp only; split <;> split <;> rfl
  have present' : (y.entered x).present = y.present := by
    unfold entered; dsimp only; split <;> split <;> rfl
  have integrator' : (y.entered x).regs.a = if x = .off ∨ x = .tripped then 0 else y.regs.a := by
    unfold entered; cases x <;> by_cases w : y.state = .unloading <;> simp [w]
  have drive' : (y.entered x).regs.u = if x = .off ∨ x = .starting ∨ x = .tripped then 0 else y.regs.u := by
    unfold entered; cases x <;> by_cases w : y.state = .unloading <;> simp [w]
  have bound := (gains y.present).1
  refine ⟨?_, ?_, fun q => by rw [gains']; exact gains q, ?_⟩
  · rw [drive']; split <;> [decide; exact drive]
  · intro rests
    rw [drive']; exact if_pos rests
  · rw [gains', present', integrator']
    split
    · show (((0 : Int).natAbs : Nat) : Int) ≤ _
      omega
    · exact integrator

theorem State.driveLaw_modAct {s : State} {a : Fin 8} {f : Actuator → Actuator} (hf : (s.act a).driveOk → (f (s.act a)).driveOk)
    (h : s.driveLaw) : (s.modAct a f).driveLaw := by
  intro b
  rw [State.modAct_act]
  split
  · rename_i e; subst e; exact hf (h a)
  · exact h b

theorem fine_driveLaw : Event.Fine State.driveLaw where
  buffer _ _ h := h
  plan _ _ h := h
  work _ _ works h a := (works a).drive (h a)
  enter a x c s h b := by
    rw [setActState_act]; exact State.driveLaw_modAct Actuator.driveOk_entered h b
  derate a d s _ h b := by
    rw [writeDerate_act]; exact State.driveLaw_modAct id h b
  matrix _ _ _ _ h := h
  notices _ _ _ _ h := h
  clock _ _ h := h
  station _ _ h := h
  slots _ _ h := h
  windows _ _ h := h
  config _ _ _ h := State.driveLaw_modAct id h
  groups _ _ _ h := h
  sats _ _ _ h := h
  strain _ _ _ h := h
  emission _ _ _ h := h
  zones _ _ h := h

/-- An actuator at its defaults, its gains apart. -/
theorem Actuator.driveOk_of_still {x : Actuator} (u : x.regs.u = 0) (a : x.regs.a = 0)
    (gains : ∀ q, 0 ≤ (x.gains q).imax ∧ (x.gains q).imax ≤ 10000) : x.driveOk := by
  refine ⟨by rw [u]; decide, fun _ => u, gains, ?_⟩
  have := (gains x.present).1
  rw [a]
  show (((0 : Int).natAbs : Nat) : Int) ≤ _
  omega

theorem driveOk_defaultActs (a : Fin 8) : defaultActs[a].driveOk := by
  simp only [defaultActs, Fin.getElem_fin, Vector.getElem_ofFn]
  exact Actuator.driveOk_of_still rfl rfl fun q => by cases q <;> simp [Actuator.gains]

theorem driveLaw_restartState {s : State} (h : s.driveLaw) : (restartState s).driveLaw := by
  intro a
  by_cases keep : s.stc.settings.keepSettings = true
  · have : (restartState s).act a = (s.act a).restart := by
      simp [restartState, keep, State.act]
    rw [this]
    exact Actuator.driveOk_of_still rfl rfl (h a).2.2.1
  · have : (restartState s).act a = defaultActs[a] := by
      simp [restartState, keep, State.act]
    rw [this]
    exact driveOk_defaultActs a

/-- Settles O29: stages 6 to 9 clamp the drive and the integrator, an entry to OFF, STARTING or TRIPPED clears the drive, and
new gains clamp the integrator. -/
theorem driveLawIsKept : Obligations.DriveLawIsKept := by
  intro i s t h run
  refine exec_keeps { fine_driveLaw.kept with link := fun _ _ _ _ _ h => h, restart := driveLaw_restartState }
    (fun _ _ _ a => driveOk_defaultActs a) (fun _ _ _ h => h) h run

/-! ### Groups and recipients (R92, R98, R99, R101) -/

/-- The law stands where members and orders stand and every recipient was one, is IN_SHARE and has derate 1000. -/
theorem groupLaw_of_recipients {s t : State} (hm : ∀ g, (t.group g).members = (s.group g).members ∧ (t.group g).lru = (s.group g).lru)
    (hr : ∀ g a, (t.group g).recipient = some a → (s.group g).recipient = some a)
    (ha : ∀ g a, (t.group g).recipient = some a → t.inShare a = true ∧ (t.act a).derate = 1000) (h : s.groupLaw) : t.groupLaw := by
  obtain ⟨apart, order, recipient⟩ := h
  refine ⟨fun g k a => ?_, fun g a => ?_, fun g a e => ⟨?_, ha g a e⟩⟩
  · rw [(hm g).1, (hm k).1]; exact apart g k a
  · rw [(hm g).1, (hm g).2]; exact order g a
  · rw [(hm g).1]; exact (recipient g a (hr g a e)).1

theorem groupLaw_aside {s t : State} (aside : s.Aside t) (h : s.groupLaw) : t.groupLaw := by
  obtain ⟨_, _, rfl⟩ := aside
  exact h

/-- A group whose recipient stands or is cleared. -/
structure Group.Eased (x y : Group) : Prop where
  members : y.members = x.members
  lru : y.lru = x.lru
  recipient : ∀ a, y.recipient = some a → x.recipient = some a

/-- Every group's recipient stands or is cleared, with members and order. -/
def State.Eased (s t : State) : Prop := ∀ g, (s.group g).Eased (t.group g)

theorem State.Eased.rfl' {s : State} : s.Eased s := fun _ => ⟨rfl, rfl, fun _ => id⟩

theorem State.eased_modGroup {s t : State} (h : s.Eased t) {g : Fin 4} {f : Group → Group} (hf : ∀ x : Group, x.Eased (f x)) :
    s.Eased (t.modGroup g f) := by
  intro k
  obtain ⟨members, lru, recipient⟩ := h k
  rw [State.modGroup_group]
  split
  · obtain ⟨members', lru', recipient'⟩ := hf (t.group k)
    exact ⟨members'.trans members, lru'.trans lru, fun a e => recipient a (recipient' a e)⟩
  · exact ⟨members, lru, recipient⟩

theorem Group.eased_makeDue (r : HandReasons) (x : Group) : x.Eased (x.makeDue r) := ⟨rfl, rfl, fun _ => id⟩

theorem Group.eased_released (r : HandReasons) (x : Group) : x.Eased (Group.makeDue r { x with recipient := none }) :=
  ⟨rfl, rfl, fun _ e => nomatch e⟩

theorem Group.eased_clearRecord (x : Group) : x.Eased x.clearRecord := ⟨rfl, rfl, fun _ e => nomatch e⟩

theorem eased_groupMembership (a : Fin 8) (s : State) : s.Eased (groupMembership a s) := by
  have either {c : Prop} [Decidable c] {x y : State} := keeps_ite (P := s.Eased) (c := c) (x := x) (y := y)
  unfold groupMembership
  split
  · exact .rfl'
  · exact either (either (either (State.eased_modGroup .rfl' (Group.eased_makeDue _)) .rfl')
      (either (State.eased_modGroup .rfl' (Group.eased_released _)) .rfl')) (State.eased_modGroup .rfl' Group.eased_clearRecord)

theorem eased_writeDerate (a : Fin 8) (d : Int) (s : State) : s.Eased (writeDerate a d s) := by
  have either {c : Prop} [Decidable c] {x y : State} := keeps_ite (P := s.Eased) (c := c) (x := x) (y := y)
  have written : s.Eased (s.modAct a fun x => { x with derate := d }) := .rfl'
  unfold writeDerate
  dsimp only
  split
  · exact written
  · exact either (either (either (either (State.eased_modGroup written (Group.eased_released _))
      (State.eased_modGroup written (Group.eased_makeDue _))) written) (State.eased_modGroup written Group.eased_clearRecord))
      written

theorem State.modGroup_group_same (s : State) (g : Fin 4) (f : Group → Group) : (s.modGroup g f).group g = f (s.group g) := by
  rw [State.modGroup_group, if_pos rfl]

/-- A recipient that leaves IN_SHARE leaves the record (R98, R99). -/
theorem recipient_groupMembership {a : Fin 8} {g : Fin 4} {s : State} (hg : s.groupOf a = some g) (out : s.inShare a = false) :
    ((groupMembership a s).group g).recipient ≠ some a := by
  unfold groupMembership
  rw [hg]
  dsimp only
  rw [out]
  split
  · rw [if_neg Bool.false_ne_true]
    split
    · rw [State.modGroup_group_same]; exact fun e => nomatch e
    · assumption
  · rw [State.modGroup_group_same]; exact fun e => nomatch e

/-- A recipient whose derate falls leaves the record (R98, R99). -/
theorem recipient_writeDerate {a : Fin 8} {d : Int} {g : Fin 4} {s : State} (hg : s.groupOf a = some g) (share : s.inShare a = true)
    (falls : d < (s.act a).derate) : ((writeDerate a d s).group g).recipient ≠ some a := by
  have share' : (s.modAct a fun x => { x with derate := d }).inShare a = true := by
    rw [State.inShare, State.modAct_act_same]; exact share
  unfold writeDerate
  dsimp only
  rw [State.modAct_groupOf, hg]
  dsimp only
  rw [if_pos share', if_pos falls]
  split
  · split
    · rw [State.modGroup_group_same]; exact fun e => nomatch e
    · rename_i other
      rw [State.modGroup_group_same]; exact other
  · rw [State.modGroup_group_same]; exact fun e => nomatch e

theorem groupLaw_setActState (a : Fin 8) (x : ActState) (c : ActCause) {s : State} (h : s.groupLaw) :
    (setActState a x c s).groupLaw := by
  refine groupLaw_aside (aside_setActState a x c s) ?_
  have share (b : Fin 8) : (s.modAct a (Actuator.entered x)).inShare b = if a = b then decide (x = .active) else s.inShare b := by
    rw [State.inShare, State.modAct_act]
    split <;> rfl
  have derate (b : Fin 8) : ((s.modAct a (Actuator.entered x)).act b).derate = (s.act b).derate := by
    rw [State.modAct_act]
    split
    · exact Actuator.entered_derate ..
    · rfl
  obtain ⟨-, -, recipient⟩ := id h
  by_cases moves : (s.act a).state = .active ∨ x = .active
  · rw [if_pos moves]
    have eased : s.Eased (groupMembership a (s.modAct a (Actuator.entered x))) := fun g =>
      eased_groupMembership a (s.modAct a (Actuator.entered x)) g
    obtain ⟨_, member⟩ := groupMembership_eq a (s.modAct a (Actuator.entered x))
    refine groupLaw_of_recipients (fun g => ⟨(eased g).members, (eased g).lru⟩) (fun g b => (eased g).recipient b) (fun g b e => ?_) h
    obtain ⟨among, inShare, full⟩ := recipient g b ((eased g).recipient b e)
    have shares : (s.modAct a (Actuator.entered x)).inShare b = true := by
      by_contra out
      have ab : a = b := by
        by_contra ne
        rw [share, if_neg ne] at out
        exact out inShare
      subst ab
      exact recipient_groupMembership (s := s.modAct a (Actuator.entered x)) ((groupOf_eq_some_iff h).2 among) (by simpa using out) e
    have same : (groupMembership a (s.modAct a (Actuator.entered x))).act b = (s.modAct a (Actuator.entered x)).act b := by
      rw [member]; rfl
    rw [State.inShare, same]
    exact ⟨shares, (derate b).trans full⟩
  · rw [if_neg moves]
    obtain ⟨left, right⟩ := not_or.1 moves
    refine groupLaw_of_recipients (s := s) (fun _ => ⟨rfl, rfl⟩) (fun _ _ => id) (fun g b e => ?_) h
    obtain ⟨-, inShare, full⟩ := recipient g b e
    refine ⟨?_, (derate b).trans full⟩
    rw [share]
    split
    · rename_i ab
      subst ab
      exact absurd (of_decide_eq_true inShare) left
    · exact inShare

theorem groupLaw_writeDerate (a : Fin 8) {d : Int} {s : State} (hd : d ≤ 1000) (h : s.groupLaw) : (writeDerate a d s).groupLaw := by
  have eased := eased_writeDerate a d s
  obtain ⟨-, -, recipient⟩ := id h
  refine groupLaw_of_recipients (fun g => ⟨(eased g).members, (eased g).lru⟩) (fun g b => (eased g).recipient b) (fun g b e => ?_) h
  obtain ⟨among, inShare, full⟩ := recipient g b ((eased g).recipient b e)
  rw [State.inShare, writeDerate_act, State.modAct_act]
  by_cases ab : a = b
  · subst ab
    rw [if_pos rfl]
    refine ⟨inShare, ?_⟩
    by_contra derated
    exact recipient_writeDerate ((groupOf_eq_some_iff h).2 among) inShare
      (by rw [full]; exact lt_of_le_of_ne hd derated) e
  · rw [if_neg ab]
    exact ⟨inShare, full⟩

theorem fine_groupLaw : Event.Fine State.groupLaw where
  buffer _ _ h := h
  plan _ _ h := h
  work _ s works h := groupLaw_of_same (s := s) (fun _ => ⟨rfl, rfl, rfl⟩) (fun a => ⟨(works a).state, (works a).derate⟩) h
  enter a x c _ := groupLaw_setActState a x c
  derate a _ _ hd := groupLaw_writeDerate a hd
  matrix _ _ _ _ h := h
  notices _ _ _ _ h := h
  clock _ _ h := h
  station _ _ h := h
  slots _ _ h := h
  windows _ _ h := h
  config a _ s h := groupLaw_of_same (s := s) (fun _ => ⟨rfl, rfl, rfl⟩)
    (fun b => by rw [State.modAct_act]; split <;> exact ⟨rfl, rfl⟩) h
  groups _ _ keep h := keep h
  sats _ _ _ h := h
  strain _ _ _ h := h
  emission _ _ _ h := h
  zones _ _ h := h

theorem groupLaw_of_default {s : State} (h : ∀ g, s.group g = {}) : s.groupLaw := by
  refine ⟨fun g k a => ?_, fun g a => ?_, fun g a => ?_⟩ <;> rw [h] <;> exact fun e => nomatch e

theorem groupLaw_restartState {s : State} (h : s.groupLaw) : (restartState s).groupLaw := by
  obtain ⟨apart, -, -⟩ := h
  by_cases keep : s.stc.settings.keepSettings = true
  · have group (g : Fin 4) : (restartState s).group g = (s.group g).restart := by
      simp [restartState, keep, State.group]
    refine ⟨fun g k a => ?_, fun g a => ?_, fun g a => ?_⟩
    · rw [group, group]; exact apart g k a
    · rw [group]; exact id
    · rw [group]; exact fun e => nomatch e
  · exact groupLaw_of_default fun g => by simp [restartState, keep, State.group]

/-- Settles O41: a member that leaves IN_SHARE or whose derate falls leaves the record, a selection takes an IN_SHARE member
with derate 1000, and GROUP_SET takes no member of another group. -/
theorem groupLawIsKept : Obligations.GroupLawIsKept := by
  intro i s t h run
  refine exec_keeps { fine_groupLaw.kept with link := fun _ _ _ _ _ h => h, restart := groupLaw_restartState }
    (fun _ _ _ => groupLaw_of_default fun g => by simp [coldState, State.group]) (fun _ _ _ h => h) h run

/-! ### Capacities (R111, R115, R120, R136, R140, R152, R159, R192, R197, R202, R205) -/

/-- Every queue, log and saturating count is within its capacity. -/
def State.withinCaps (s : State) : Prop :=
  s.sli.notices.length ≤ 32 ∧ s.sli.bounded ∧ (∀ x : Fin 4, s.glc[x].bounded) ∧ s.stp.bounded ∧ s.aeu.bounded ∧
    s.pmx.tripLog.length ≤ 8

theorem queuesBounded_iff (s : State) : s.queuesBounded ↔ s.ev = {} ∧ s.withinCaps := by
  unfold State.queuesBounded State.withinCaps Link.bounded Sat.bounded Strain.bounded Emission.bounded
  tauto

theorem fine_withinCaps : Event.Fine State.withinCaps where
  buffer _ _ h := h
  plan _ _ h := h
  work _ _ _ h := h
  enter a y c _ h := keeps_setActState (Q := State.withinCaps) (fun _ _ h => h) (fun _ _ h => h) (fun _ _ h => h)
    (fun _ _ h => h) a y c h
  derate a d _ _ h := keeps_writeDerate (Q := State.withinCaps) (fun _ _ h => h) (fun _ _ h => h) a d h
  matrix _ _ log _ := fun ⟨notices, link, sats, strain, emission, trips⟩ => ⟨notices, link, sats, strain, emission, log trips⟩
  notices _ _ _ room := fun ⟨notices, rest⟩ => ⟨room notices, rest⟩
  clock _ _ h := h
  station _ _ h := h
  slots _ _ h := h
  windows _ _ h := h
  config _ _ _ h := h
  groups _ _ _ h := h
  sats _ _ keep := fun ⟨notices, link, sats, rest⟩ => ⟨notices, link, fun x => keep x (sats x), rest⟩
  strain _ _ keep := fun ⟨notices, link, sats, strain, rest⟩ => ⟨notices, link, sats, keep strain, rest⟩
  emission _ _ keep := fun ⟨notices, link, sats, strain, emission, trips⟩ => ⟨notices, link, sats, strain, keep emission, trips⟩
  zones _ _ h := h

theorem merge_ev (s : State) : (merge s).ev = s.ev :=
  forAsc_keeps (fun t => t.ev = s.ev) (fun a _ h => keeps_ite (P := fun t => t.ev = s.ev) h
    (keeps_writeDerate (Q := fun t => t.ev = s.ev) (fun _ _ h => h) (fun _ _ h => h) a _ h)) rfl

theorem lower_ev (c : Cond) (s : State) : (lower c s).ev = s.ev :=
  keeps_ite (P := fun t => t.ev = s.ev) (merge_ev _) rfl

/-- The end of an event leaves nothing formed and waiting. -/
theorem flush_ev (s : State) : (flush s).ev = {} := by
  have offered (l : List Notice) (t : State) (h : t.ev.acts = [] ∧ t.ev.seqs = []) :
      (l.foldl (fun s n => offer n s) t).ev.acts = [] ∧ (l.foldl (fun s n => offer n s) t).ev.seqs = [] :=
    foldl_keeps (P := fun t => t.ev.acts = [] ∧ t.ev.seqs = []) (f := fun s n => offer n s) (fun _ _ _ h => h) h
  unfold flush
  refine foldl_keeps (P := fun t => t.ev = {}) (fun _ c _ h => (lower_ev c _).trans h) ?_
  obtain ⟨acts, seqs⟩ := offered ((List.finRange 8).flatMap (fun a => (s.ev.acts.filter fun x => x.1 = a).map Prod.snd) ++ s.ev.seqs)
    { s with ev := { s.ev with acts := [], seqs := [] } } ⟨rfl, rfl⟩
  unfold flushNotices
  dsimp only
  rw [acts, seqs]

/-- Between two events nothing is formed and waiting. -/
theorem kept_ev : Event.Kept (fun s => s.ev = {}) fun _ => True where
  begin _ := trivial
  flush _ := flush_ev _
  plan _ _ _ _ := trivial
  work _ _ _ _ := trivial
  enter _ _ _ _ _ _ := trivial
  clock _ _ h := h
  station _ _ _ h := h
  toRun h := h
  toSetup _ _ := trivial
  notices _ _ _ _ h := h
  slots _ _ h := h
  planNow _ _ h := h
  workNow _ _ _ h := h
  windows _ _ h := h
  config _ _ _ _ h := h
  groups _ _ _ h := h
  sats _ _ _ h := h
  strain _ _ _ h := h
  emission _ _ _ h := h
  zones _ _ h := h
  raise _ _ h := keeps_ite (P := fun t => t.ev = {}) h (flush_ev _)
  lower c s h := (lower_ev c s).trans h
  lowerIn _ _ _ := trivial
  storeEntry e c s _ h := by
    unfold storeEntry judgeEntry
    split
    · exact (merge_ev _).trans h
    · exact foldl_keeps (P := fun t => t.ev = {}) (fun _ _ _ h => keeps_ite (P := fun t => t.ev = {}) (flush_ev _) h)
        ((merge_ev _).trans h)
  clearEntry _ _ h := (merge_ev _).trans h
  clearEntries h := (merge_ev _).trans h

theorem restartState_ev (s : State) : (restartState s).ev = {} := by
  unfold restartState; dsimp only; split <;> rfl

theorem Sat.bounded_restart (x : Sat) : x.restart.bounded := by
  unfold Sat.restart
  dsimp only
  split <;> exact ⟨Nat.zero_le _, Nat.zero_le _, Nat.zero_le _⟩

theorem Sat.bounded_default : Sat.bounded {} := ⟨Nat.zero_le _, Nat.zero_le _, Nat.zero_le _⟩

theorem withinCaps_restartState {s : State} (h : s.withinCaps) : (restartState s).withinCaps := by
  obtain ⟨-, link, -, ⟨list, -, -⟩, -, trips⟩ := h
  unfold restartState
  dsimp only
  split
  · refine ⟨Nat.zero_le _, link, fun x => ?_, ⟨list, Nat.zero_le _, Nat.zero_le _⟩, ⟨Nat.zero_le _, Nat.zero_le _⟩, trips⟩
    show (s.glc.map Sat.restart)[x].bounded
    rw [Fin.getElem_fin, Vector.getElem_map]
    exact Sat.bounded_restart _
  · refine ⟨Nat.zero_le _, link, fun x => ?_, ⟨Nat.zero_le _, Nat.zero_le _, Nat.zero_le _⟩, ⟨Nat.zero_le _, Nat.zero_le _⟩, trips⟩
    show (Vector.replicate 4 ({} : Sat))[x].bounded
    rw [Fin.getElem_fin, Vector.getElem_replicate]
    exact Sat.bounded_default

theorem withinCaps_coldState (straps : Address) (r : ResetRecord) (s : State) : (coldState straps r s).withinCaps := by
  refine ⟨Nat.zero_le _, ⟨Nat.zero_le _, Nat.zero_le _, Nat.zero_le _⟩, fun x => ?_,
    ⟨Nat.zero_le _, Nat.zero_le _, Nat.zero_le _⟩, ⟨Nat.zero_le _, Nat.zero_le _⟩, Nat.zero_le _⟩
  show (Vector.replicate 4 ({} : Sat))[x].bounded
  rw [Fin.getElem_fin, Vector.getElem_replicate]
  exact Sat.bounded_default

/-- Settles O59: each list grows where it has room alone, and every event ends with its notices queued and its lowerings
taken. -/
theorem queuesStayBounded : Obligations.QueuesStayBounded := by
  intro i s t h run
  rw [queuesBounded_iff] at h ⊢
  obtain ⟨empty, caps⟩ := h
  have room : ∀ l {s : State}, (s.sli.bounded → l.bounded) → l.notices = s.sli.notices → s.withinCaps →
      ({ s with sli := l } : State).withinCaps :=
    fun l s keep same ⟨notices, link, rest⟩ => ⟨by rw [← same] at notices; exact notices, keep link, rest⟩
  exact ⟨exec_keeps { kept_ev with link := fun _ _ _ _ _ h => h, restart := fun _ => restartState_ev _ }
      (fun _ _ _ => rfl) (fun _ _ _ h => h) empty run,
    exec_keeps { fine_withinCaps.kept with link := fun _ _ same _ keep => room _ keep same, restart := withinCaps_restartState }
      (fun straps _ r => withinCaps_coldState straps r s) (fun _ _ _ h => h) caps run⟩

/-! ### Zones -/

/-- A station whose zone 0 stands latched at ALERT, with ZONE_ALERT raised, and with the lowering of that condition waiting in
the event's buffer. -/
def waitingLowering : State :=
  let s := setCond (.zoneAlert 0) true State.reset
  let s := s.modZone 0 fun z => { z with cfg := { z.cfg with enabled := true }, latched := .alert, displayed := .alert }
  { s with ev := { lowers := [.zoneAlert 0] } }

theorem zoneLaw_waitingLowering : waitingLowering.zoneLaw := by
  unfold State.zoneLaw
  decide +kernel

/-- Refutes O53: the law does not ask that nothing waits in the event's buffer. Where a lowering of ZONE_ALERT waits there, the
next event that is whole takes it, and the condition no longer stands as the displayed level says. -/
theorem not_zoneLawIsKept : ¬ Obligations.ZoneLawIsKept := by
  intro h
  have opened : exec (.haltLoopChange true) waitingLowering =
      .next (finish (raise .haltLoop (waitingLowering.modStc fun c => { c with haltOpen := true }))) := rfl
  obtain ⟨-, -, -, -, alert, -⟩ := h _ _ _ zoneLaw_waitingLowering opened 0
  exact absurd alert (by decide +kernel)

/-! ### Steps and the reset -/

/-- Settles O1. -/
theorem stepRunsTheFrontCommand : Obligations.StepRunsTheFrontCommand := by
  refine ⟨fun s c rest waits => ?_, fun s empty => ?_⟩
  · unfold step
    rw [waits]
  · unfold step
    rw [empty]
    simp only [State.tick, State.advanceTo, max_eq_right (Nat.le_succ _), empty]

/-- Settles O60, by evaluation, law by law. -/
theorem resetMeetsEveryLaw : Obligations.ResetMeetsEveryLaw := by
  have queues : State.reset.queuesBounded := by unfold State.queuesBounded; decide +kernel
  have station : State.reset.stationLaw := by unfold State.stationLaw; decide +kernel
  have matrix : State.reset.matrixLaw := by unfold State.matrixLaw; decide +kernel
  have zones : State.reset.zoneLaw := by unfold State.zoneLaw; decide +kernel
  have groups : State.reset.groupLaw := groupLaw_of_default (by decide +kernel)
  refine ⟨queues, driveOk_defaultActs, station, matrix, zones, groups, rfl, rfl, rfl, ?_, ?_, ?_, ?_, rfl⟩ <;> decide +kernel

end Sys2Proof.Machine

/-!
The law of entries and merged derates (R180, R182 to R187, R195): a merge makes every derate what the entries give, and
nothing else of an event reaches a derate or an entry.
-/
namespace Sys2Proof.Machine

/-- The entries' own part of the law: ACTIVE exactly while something in it stands raised, and QUIET reaches nothing. -/
def ProtEntry.sound (x : ProtEntry) : Prop := (x.st = .active ↔ x.raised ≠ []) ∧ (x.st = .quiet → x.reach = 0)

def State.entriesSound (s : State) : Prop := ∀ e : Fin 40, s.pmx.entries[e].sound

theorem mergedDerate_congr {s t : State} (h : t.pmx = s.pmx) (a : Fin 8) : t.mergedDerate a = s.mergedDerate a := by
  unfold State.mergedDerate State.entriesOn
  rw [h]

theorem matrixLaw_of_same {s t : State} (hp : t.pmx = s.pmx) (hd : ∀ a, (t.act a).derate = (s.act a).derate) (h : s.matrixLaw) :
    t.matrixLaw := by
  obtain ⟨entries, derates⟩ := h
  refine ⟨fun e => ?_, fun a => ?_⟩
  · rw [hp]; exact entries e
  · rw [hd, mergedDerate_congr hp]; exact derates a

/-! ### The merge -/

theorem setActState_pmx (a : Fin 8) (x : ActState) (c : ActCause) (s : State) : (setActState a x c s).pmx = s.pmx :=
  keeps_setActState (Q := fun t => t.pmx = s.pmx) (fun _ _ h => h) (fun _ _ h => h) (fun _ _ h => h) (fun _ _ h => h) a x c rfl

theorem writeDerate_pmx (a : Fin 8) (d : Int) (s : State) : (writeDerate a d s).pmx = s.pmx :=
  keeps_writeDerate (Q := fun t => t.pmx = s.pmx) (fun _ _ h => h) (fun _ _ h => h) a d rfl

/-- The merge writes every derate that is not what the entries give, and leaves the rest of every actuator and the matrix. -/
theorem merge_act (s : State) (a : Fin 8) : (merge s).act a = { s.act a with derate := s.mergedDerate a } := by
  have walk (l : List (Fin 8)) (t : State) (ht : t.pmx = s.pmx) (b : Fin 8) :
      (l.foldl (fun s a => if s.mergedDerate a = (s.act a).derate then s else writeDerate a (s.mergedDerate a) s) t).act b =
        if b ∈ l then { t.act b with derate := s.mergedDerate b } else t.act b := by
    induction l generalizing t with
    | nil => rfl
    | cons a l ih =>
      rw [List.foldl_cons]
      split
      · rename_i same
        rw [ih t ht]
        by_cases ab : b = a
        · subst ab
          rw [mergedDerate_congr ht] at same
          rw [if_pos List.mem_cons_self, same]
          exact ite_self _
        · simp [ab]
      · rw [ih _ ((writeDerate_pmx ..).trans ht), writeDerate_act, State.modAct_act, mergedDerate_congr ht]
        by_cases ab : a = b
        · subst ab
          simp
        · simp [ab, Ne.symm ab]
  exact (walk (List.finRange 8) s rfl a).trans (if_pos (List.mem_finRange a))

theorem merge_pmx (s : State) : (merge s).pmx = s.pmx :=
  forAsc_keeps (fun t => t.pmx = s.pmx) (fun _ _ h => keeps_ite (P := fun t => t.pmx = s.pmx) h ((writeDerate_pmx ..).trans h)) rfl

theorem matrixLaw_merge {s : State} (h : s.entriesSound) : (merge s).matrixLaw := by
  refine ⟨fun e => ?_, fun a => ?_⟩
  · rw [merge_pmx]; exact h e
  · rw [merge_act, mergedDerate_congr (merge_pmx s)]

/-! ### Entries -/

theorem ProtEntry.sound_quiet (c : ProtConfig) : ProtEntry.sound { cfg := c } := ⟨⟨(nomatch ·), fun h => absurd rfl h⟩, fun _ => rfl⟩

theorem ProtEntry.sound_clear {x : ProtEntry} (h : x.sound) : x.clear.sound := by
  unfold clear
  split
  · exact ⟨⟨(nomatch ·), fun h => absurd rfl h⟩, fun _ => rfl⟩
  · exact h

theorem ProtEntry.sound_lower {x : ProtEntry} (c : Cond) (h : x.sound) : (x.lower c).sound := by
  obtain ⟨active, quiet⟩ := h
  unfold lower
  split
  · rename_i stands
    dsimp only
    split
    · split
      · exact ⟨⟨(nomatch ·), fun h => absurd rfl h⟩, fun _ => rfl⟩
      · exact ⟨⟨(nomatch ·), fun h => absurd rfl h⟩, (nomatch ·)⟩
    · rename_i left
      have raised : x.raised ≠ [] := by
        intro e
        rw [e] at stands
        simp at stands
      have now := active.2 raised
      exact ⟨⟨fun _ e => left (List.isEmpty_iff.2 e), fun _ => now⟩, fun e => absurd (now.symm.trans e) (by decide)⟩
  · exact ⟨active, quiet⟩

theorem entriesSound_modEntry {s : State} {e : Fin 40} {f : ProtEntry → ProtEntry} (hf : s.pmx.entries[e].sound → (f s.pmx.entries[e]).sound)
    (h : s.entriesSound) : (s.modEntry e f).entriesSound := by
  intro k
  show (vmod s.pmx.entries e f)[k].sound
  rw [vmod_get]
  split
  · rename_i ek; subst ek; exact hf (h e)
  · exact h k

theorem entriesSound_map {s : State} {f : ProtEntry → ProtEntry} (hf : ∀ x : ProtEntry, x.sound → (f x).sound) (h : s.entriesSound) :
    (s.modPmx fun p => { p with entries := p.entries.map f }).entriesSound := by
  intro k
  show (s.pmx.entries.map f)[k].sound
  rw [Fin.getElem_fin, Vector.getElem_map]
  exact hf _ (h k)

/-! ### A raising -/

theorem acted_pmx (p : Protection) : Event.Acted fun s => s.pmx = p where
  buffer _ _ h := h
  plan _ _ h := h
  work _ _ _ h := h
  enter _ _ _ _ h := (setActState_pmx ..).trans h
  station _ _ h := h

theorem applyAction_pmx (x : ProtConfig) (m : ActSet) (s : State) : (applyAction x m s).pmx = s.pmx :=
  (acted_pmx s.pmx).applyAction x m rfl

theorem entriesSound_takeRaising (e : Fin 40) (c : Cond) {s : State} (h : s.entriesSound) : (takeRaising e c s).entriesSound := by
  have taken {r : ActSet} : (s.modEntry e fun x => { x with st := .active, raised := insertAsc c.inst x.raised, reach := x.reach ||| r }).entriesSound :=
    entriesSound_modEntry (fun _ => ⟨⟨fun _ => insertAsc_ne_nil _ _, fun _ => rfl⟩, (nomatch ·)⟩) h
  unfold takeRaising
  refine keeps_ite ?_ h
  dsimp only
  intro k
  rw [applyAction_pmx]
  split <;> split <;> exact taken k

theorem matrixLaw_lower (c : Cond) {s : State} (h : s.matrixLaw) : (lower c s).matrixLaw :=
  keeps_ite (matrixLaw_merge (entriesSound_map (s := setCond c false s) (fun _ => ProtEntry.sound_lower c) h.1)) h

theorem matrixLaw_flush {s : State} (h : s.matrixLaw) : (flush s).matrixLaw :=
  foldl_keeps (fun _ c _ => matrixLaw_lower c)
    (foldl_keeps (P := State.matrixLaw) (f := fun s n => offer n s) (fun _ _ _ h => h) h)

theorem matrixLaw_raise (c : Cond) {s : State} (h : s.matrixLaw) : (raise c s).matrixLaw :=
  keeps_ite h (matrixLaw_flush (matrixLaw_merge
    (forAsc_keeps State.entriesSound (fun e _ => entriesSound_takeRaising e c) (s := setCond c true s) h.1)))

theorem matrixLaw_storeEntry (e : Fin 40) (c : ProtConfig) {s : State} (h : s.matrixLaw) : (storeEntry e c s).matrixLaw := by
  have stored : (merge (s.modEntry e fun _ => { cfg := c })).matrixLaw :=
    matrixLaw_merge (entriesSound_modEntry (fun _ => ProtEntry.sound_quiet c) h.1)
  unfold storeEntry judgeEntry
  split
  · exact stored
  · exact foldl_keeps (fun _ c _ hs => keeps_ite (matrixLaw_flush (matrixLaw_merge (entriesSound_takeRaising e c hs.1))) hs) stored

theorem kept_matrixLaw : Event.Kept State.matrixLaw State.matrixLaw where
  begin := id
  flush := matrixLaw_flush
  plan _ _ _ h := h
  work _ _ works := matrixLaw_of_same rfl fun a => (works a).derate
  enter a x c s _ := matrixLaw_of_same (setActState_pmx a x c s) fun b => by
    rw [setActState_act, State.modAct_act]
    split
    · exact Actuator.entered_derate ..
    · rfl
  clock _ _ h := h
  station _ _ _ h := h
  toRun h := h
  toSetup _ h := h
  notices _ _ _ _ h := h
  slots _ _ h := h
  planNow _ _ h := h
  workNow _ _ works := matrixLaw_of_same rfl fun a => (works a).derate
  windows _ _ h := h
  config a _ s _ := matrixLaw_of_same (s := s) rfl fun b => by rw [State.modAct_act]; split <;> rfl
  groups _ _ _ h := h
  sats _ _ _ h := h
  strain _ _ _ h := h
  emission _ _ _ h := h
  zones _ _ h := h
  raise := matrixLaw_raise
  lower := matrixLaw_lower
  lowerIn := matrixLaw_lower
  storeEntry e c _ _ := matrixLaw_storeEntry e c
  clearEntry _ _ h := matrixLaw_merge (entriesSound_modEntry ProtEntry.sound_clear h.1)
  clearEntries h := matrixLaw_merge (entriesSound_map (fun _ => ProtEntry.sound_clear) h.1)

/-! ### Resets -/

/-- With every entry QUIET and every derate 1000 the law stands. -/
theorem matrixLaw_of_quiet {s : State} (he : ∀ e : Fin 40, ∃ c, s.pmx.entries[e] = { cfg := c }) (ha : ∀ a, (s.act a).derate = 1000) :
    s.matrixLaw := by
  refine ⟨fun e => ?_, fun a => ?_⟩
  · obtain ⟨c, hc⟩ := he e
    rw [hc]; exact ProtEntry.sound_quiet c
  · have none : s.entriesOn a (fun x => x = .derate) = [] := by
      unfold State.entriesOn
      refine List.filter_eq_nil_iff.2 fun e _ => ?_
      obtain ⟨c, hc⟩ := he e
      rw [hc]
      simp
    rw [ha, State.mergedDerate, none]
    rfl

theorem defaultEntries_quiet (e : Fin 40) : ∃ c, ({} : Protection).entries[e] = { cfg := c } := by
  refine ⟨({} : Protection).entries[e].cfg, ?_⟩
  revert e
  decide +kernel

theorem derate_defaultActs (a : Fin 8) : defaultActs[a].derate = 1000 := by
  simp [defaultActs]

theorem matrixLaw_restartState (s : State) : (restartState s).matrixLaw := by
  by_cases keep : s.stc.settings.keepSettings = true
  · refine matrixLaw_of_quiet (fun e => ⟨s.pmx.entries[e].cfg, ?_⟩) fun a => ?_
    · simp [restartState, keep, ProtEntry.restart]
    · simp [restartState, keep, State.act, Actuator.restart]
  · refine matrixLaw_of_quiet (fun e => ?_) fun a => ?_
    · simpa [restartState, keep] using defaultEntries_quiet e
    · simpa [restartState, keep, State.act] using derate_defaultActs a

/-- Settles O57: a raising, a lowering and a clearing keep the entries sound and end in a merge, which makes every derate what
the entries give. -/
theorem matrixLawIsKept : Obligations.MatrixLawIsKept := by
  intro i s t h run
  exact exec_keeps { kept_matrixLaw with link := fun _ _ _ _ _ h => h, restart := fun _ => matrixLaw_restartState _ }
    (fun _ _ _ => matrixLaw_of_quiet defaultEntries_quiet derate_defaultActs) (fun _ _ _ h => h) h run

end Sys2Proof.Machine

/-!
The law of modes and frames (R6 to R8, R86, R89): each change of state that chapter 4 makes keeps it, and a trip keeps it
once the dump of its frame is whole.
-/
namespace Sys2Proof.Machine

/-- The law speaks of the mode, the actuators' states and their frames alone. -/
structure State.SameStates (s t : State) : Prop where
  mode : t.stc.mode = s.stc.mode
  state : ∀ a, (t.act a).state = (s.act a).state
  frame : ∀ a, (t.act a).cfg.frame = (s.act a).cfg.frame

theorem State.SameStates.rfl' {s : State} : s.SameStates s := ⟨rfl, fun _ => rfl, fun _ => rfl⟩

theorem stationLaw_of_same {s t : State} (h : s.SameStates t) (law : s.stationLaw) : t.stationLaw := by
  obtain ⟨setup, safe, frames⟩ := law
  refine ⟨fun m a => ?_, fun m a => ?_, fun a b => ?_⟩
  · rw [h.state]; exact setup (h.mode.symm.trans m) a
  · rw [h.state]; exact safe (h.mode.symm.trans m) a
  · rw [h.state, h.state, h.frame, h.frame]; exact frames a b

/-! ### Changes of state -/

theorem setActState_stc (a : Fin 8) (x : ActState) (c : ActCause) (s : State) : (setActState a x c s).stc = s.stc :=
  keeps_setActState (Q := fun t => t.stc = s.stc) (fun _ _ h => h) (fun _ _ h => h) (fun _ _ h => h) (fun _ _ h => h) a x c rfl

theorem setActState_state (a : Fin 8) (x : ActState) (c : ActCause) (s : State) (b : Fin 8) :
    ((setActState a x c s).act b).state = if a = b then x else (s.act b).state := by
  rw [setActState_act, State.modAct_act]
  split <;> rfl

theorem setActState_frame (a : Fin 8) (x : ActState) (c : ActCause) (s : State) (b : Fin 8) :
    ((setActState a x c s).act b).cfg.frame = (s.act b).cfg.frame := by
  rw [setActState_act, State.modAct_act]
  split
  · rw [Actuator.entered_cfg]
  · rfl

/-- Each change of state of chapter 4, a trip apart, keeps the law. -/
theorem stationLaw_enter (a : Fin 8) (x : ActState) (c : ActCause) {s : State} (may : s.mayEnter a x) (law : s.stationLaw) :
    (setActState a x c s).stationLaw := by
  obtain ⟨setup, safe, frames⟩ := law
  refine ⟨fun m b => ?_, fun m b => ?_, fun p q => ?_⟩
  · rw [setActState_stc] at m
    have off := setup m
    rw [setActState_state]
    split
    · cases x <;> simp_all [State.mayEnter, ActState.pressurized]
    · exact off b
  · rw [setActState_stc] at m
    rw [setActState_state]
    split
    · have := safe m a
      cases x <;> simp_all [State.mayEnter]
    · exact safe m b
  · rw [setActState_state, setActState_state, setActState_frame, setActState_frame]
    intro same tripped
    have xt : x ≠ .tripped := fun e => by subst e; exact may
    split at tripped
    · exact absurd tripped xt
    · split
      · rename_i aq
        subst aq
        have rest := frames p a same tripped
        cases x with
        | off => exact .inr rfl
        | starting => exact absurd tripped (may.2 p same)
        | low | unloading => rcases rest with e | e <;> simp [State.mayEnter, e, ActState.pressurized] at may
        | raising => rcases rest with e | e <;> simp [State.mayEnter, e, ActState.pressurized] at may
        | active => rcases rest with e | e <;> simp [State.mayEnter, e] at may
        | tripped => exact absurd rfl xt
      · exact frames p q same tripped

theorem sameStates_modAct {a : Fin 8} {f : Actuator → Actuator} {s t : State} (h : s.SameStates t)
    (hf : (f (t.act a)).state = (t.act a).state ∧ (f (t.act a)).cfg.frame = (t.act a).cfg.frame) : s.SameStates (t.modAct a f) := by
  refine ⟨h.mode, fun b => ?_, fun b => ?_⟩ <;> rw [State.modAct_act] <;> split
  · rename_i e; subst e; exact hf.1.trans (h.state a)
  · exact h.state b
  · rename_i e; subst e; exact hf.2.trans (h.frame a)
  · exact h.frame b

/-! ### What the matrix leaves of the states -/

theorem merge_stc (s : State) : (merge s).stc = s.stc :=
  forAsc_keeps (fun t => t.stc = s.stc) (fun a _ h => keeps_ite (P := fun t => t.stc = s.stc) h
    (keeps_writeDerate (Q := fun t => t.stc = s.stc) (fun _ _ h => h) (fun _ _ h => h) a _ h)) rfl

theorem sameStates_merge (s : State) : s.SameStates (merge s) :=
  ⟨congrArg StationControl.mode (merge_stc s), fun a => by rw [merge_act], fun a => by rw [merge_act]⟩

theorem State.SameStates.trans {s t u : State} (h : s.SameStates t) (k : t.SameStates u) : s.SameStates u :=
  ⟨k.mode.trans h.mode, fun a => (k.state a).trans (h.state a), fun a => (k.frame a).trans (h.frame a)⟩

theorem State.SameStates.of_merge {s t : State} (h : s.SameStates t) : s.SameStates (merge t) := h.trans (sameStates_merge t)

theorem sameStates_lower (c : Cond) (s : State) : s.SameStates (lower c s) := by
  unfold lower
  split
  · exact State.SameStates.of_merge ⟨rfl, fun _ => rfl, fun _ => rfl⟩
  · exact .rfl'

theorem sameStates_flush (s : State) : s.SameStates (flush s) := by
  have noticed : s.SameStates (flushNotices s) :=
    foldl_keeps (P := s.SameStates) (f := fun s n => offer n s) (fun _ _ _ h => ⟨h.mode, h.state, h.frame⟩)
      ⟨rfl, fun _ => rfl, fun _ => rfl⟩
  exact foldl_keeps (P := s.SameStates) (fun _ c _ h => h.trans (sameStates_lower c _))
    ⟨noticed.mode, noticed.state, noticed.frame⟩

/-! ### Walks over the actuators -/

/-- What the step at each index brings about and no step undoes, stands after the walk. -/
theorem forAsc_all {n : Nat} {f : Fin n → State → State} (R : Fin n → State → Prop) (brings : ∀ i s, R i (f i s))
    (stands : ∀ i j s, R j s → R j (f i s)) (s : State) (i : Fin n) : R i (forAsc n f s) := by
  have walk (l : List (Fin n)) (s : State) (h : i ∈ l ∨ R i s) : R i (l.foldl (fun s i => f i s) s) := by
    induction l generalizing s with
    | nil => exact h.elim (fun h => nomatch h) id
    | cons j l ih =>
      refine ih _ ?_
      rcases h with h | h
      · rcases List.mem_cons.1 h with e | h
        · subst e; exact .inr (brings i s)
        · exact .inl h
      · exact .inr (stands j i s h)
  exact walk _ s (.inl (List.mem_finRange i))

theorem sameStates_unloading (a : Fin 8) (b : Bool) (c : ActCause) (s : State) :
    (setActState a .unloading c s).SameStates (enterUnloading a b c s) := by
  refine sameStates_modAct .rfl' ?_
  dsimp only
  split <;> exact ⟨rfl, rfl⟩

/-- A protection UNLOAD keeps the law, and leaves its actuator neither RAISING nor ACTIVE (R84). -/
theorem stationLaw_unloadAction (a : Fin 8) {s : State} (law : s.stationLaw) : (unloadAction a s).stationLaw := by
  unfold unloadAction
  split
  · rename_i active
    exact stationLaw_of_same (sameStates_unloading ..)
      (stationLaw_enter a .unloading _ (by simp [State.mayEnter, active, ActState.pressurized]) law)
  · rename_i raising
    exact stationLaw_enter a .low _ (by simp [State.mayEnter, raising, ActState.pressurized]) law
  all_goals exact law

theorem unloadAction_state (a : Fin 8) (s : State) (b : Fin 8) : ((unloadAction a s).act b).state =
    if a = b then (match (s.act b).state with
      | .active => .unloading
      | .raising => .low
      | x => x) else (s.act b).state := by
  unfold unloadAction
  split
  · rw [(sameStates_unloading ..).state, setActState_state]
    split
    · rename_i active e; subst e; rw [active]
    · rfl
  · rw [setActState_state]
    split
    · rename_i raising e; subst e; rw [raising]
    · rfl
  all_goals
    split
    · rename_i x e; subst e; rw [x]
    · rfl

/-! ### Trips and the dump of a frame (R86, R89) -/

/-- One actuator of a frame that is dumped (R89). -/
def dumpOne (F : Fin 4) (b : Fin 8) (s : State) : State :=
  if decide ((s.act b).cfg.frame = F) && (s.act b).state.pressurized then setActState b .tripped .frame s else s

/-- What the dump of a frame makes of a state: the pressurized actuators of the frame are TRIPPED. -/
structure Dumped (F : Fin 4) (p : Fin 8 → Prop) (s t : State) : Prop where
  mode : t.stc.mode = s.stc.mode
  frame : ∀ b, (t.act b).cfg.frame = (s.act b).cfg.frame
  hit : ∀ b, p b → (s.act b).cfg.frame = F → (s.act b).state.pressurized = true → (t.act b).state = .tripped
  missed : ∀ b, ¬(p b ∧ (s.act b).cfg.frame = F ∧ (s.act b).state.pressurized = true) → (t.act b).state = (s.act b).state

theorem dumped_dumpOne (F : Fin 4) (a : Fin 8) (s : State) : Dumped F (· = a) s (dumpOne F a s) := by
  unfold dumpOne
  split
  · rename_i hits
    simp only [Bool.and_eq_true, decide_eq_true_eq] at hits
    refine ⟨congrArg StationControl.mode (setActState_stc ..), setActState_frame a .tripped .frame s, ?_, ?_⟩
    · rintro b rfl - -
      rw [setActState_state, if_pos rfl]
    · intro b other
      rw [setActState_state, if_neg]
      rintro rfl
      exact other ⟨rfl, hits⟩
  · rename_i spares
    refine ⟨rfl, fun _ => rfl, ?_, fun _ _ => rfl⟩
    rintro b rfl frame loaded
    simp [frame, loaded] at spares

theorem dumped_forAsc (F : Fin 4) (s : State) : Dumped F (fun _ => True) s (forAsc 8 (dumpOne F) s) := by
  have walk (l : List (Fin 8)) (s : State) : Dumped F (· ∈ l) s (l.foldl (fun s b => dumpOne F b s) s) := by
    induction l generalizing s with
    | nil => exact ⟨rfl, fun _ => rfl, fun _ h => (nomatch h), fun _ _ => rfl⟩
    | cons a l ih =>
      have one := dumped_dumpOne F a s
      have rest := ih (dumpOne F a s)
      refine ⟨rest.mode.trans one.mode, fun b => (rest.frame b).trans (one.frame b), fun b mem frame loaded => ?_, fun b none => ?_⟩
      · by_cases ba : b = a
        · have tripped := one.hit b ba frame loaded
          rw [List.foldl_cons, rest.missed b (by rw [tripped]; exact fun h => nomatch h.2.2)]
          exact tripped
        · have same := one.missed b fun h => ba h.1
          exact rest.hit b ((List.mem_cons.1 mem).resolve_left ba) ((one.frame b).trans frame) (by rw [same]; exact loaded)
      · have same := one.missed b fun h => none ⟨List.mem_cons.2 (.inl h.1), h.2⟩
        refine (rest.missed b fun h => none ⟨List.mem_cons.2 (.inr h.1), ?_⟩).trans same
        rw [one.frame, same] at h
        exact h.2
  have all := walk (List.finRange 8) s
  unfold forAsc
  exact ⟨all.mode, all.frame, fun b _ => all.hit b (List.mem_finRange b), fun b h => all.missed b fun k => h ⟨trivial, k.2⟩⟩

/-- A protection TRIP dumps the frame of a pressurized actuator (R86, R89). -/
theorem tripAction_dumps {a : Fin 8} {s : State} (loaded : (s.act a).state.pressurized = true) :
    Dumped (s.act a).cfg.frame (fun _ => True) s (tripAction a s) := by
  have dumped := dumped_forAsc (s.act a).cfg.frame (setActState a .tripped .protection s)
  have whole : tripAction a s = forAsc 8 (dumpOne (s.act a).cfg.frame) (setActState a .tripped .protection s) := by
    unfold tripAction
    rw [if_pos loaded]
    rfl
  rw [whole]
  have state := setActState_state a .tripped .protection s
  refine ⟨dumped.mode.trans (congrArg StationControl.mode (setActState_stc ..)),
    fun b => (dumped.frame b).trans (setActState_frame ..), fun b _ frame pressurized => ?_, fun b spared => ?_⟩
  · by_cases ab : a = b
    · rw [dumped.missed b (by rw [state, if_pos ab]; exact fun h => nomatch h.2.2), state, if_pos ab]
    · exact dumped.hit b trivial ((setActState_frame ..).trans frame) (by rw [state, if_neg ab]; exact pressurized)
  · have ab : a ≠ b := by rintro rfl; exact spared ⟨trivial, rfl, loaded⟩
    refine (dumped.missed b ?_).trans (by rw [state, if_neg ab])
    rw [setActState_frame, state, if_neg ab]
    exact spared

theorem ActState.not_pressurized_iff {x : ActState} : x.pressurized = false ↔ x = .off ∨ x = .tripped := by
  cases x <;> simp [pressurized]

theorem stationLaw_dumped {F : Fin 4} {s t : State} (h : Dumped F (fun _ => True) s t) (law : s.stationLaw) : t.stationLaw := by
  obtain ⟨setup, safe, frames⟩ := law
  have resting (b : Fin 8) (frame : (s.act b).cfg.frame = F) : (t.act b).state = .tripped ∨ (t.act b).state = .off := by
    cases loaded : (s.act b).state.pressurized
    · rw [h.missed b fun k => by rw [loaded] at k; exact nomatch k.2.2]
      exact (ActState.not_pressurized_iff.1 loaded).symm
    · exact .inl (h.hit b trivial frame loaded)
  have either (b : Fin 8) : (t.act b).state = .tripped ∧ (s.act b).state.pressurized = true ∨ (t.act b).state = (s.act b).state := by
    by_cases hit : True ∧ (s.act b).cfg.frame = F ∧ (s.act b).state.pressurized = true
    · exact .inl ⟨h.hit b trivial hit.2.1 hit.2.2, hit.2.2⟩
    · exact .inr (h.missed b hit)
  refine ⟨fun m b => ?_, fun m b => ?_, fun a b => ?_⟩
  · rw [h.mode] at m
    rcases either b with ⟨-, loaded⟩ | same
    · rw [setup m b] at loaded; cases loaded
    · rw [same]; exact setup m b
  · rw [h.mode] at m
    rcases either b with ⟨tripped, -⟩ | same
    · rw [tripped]; decide
    · rw [same]; exact safe m b
  · rw [h.frame, h.frame]
    intro same tripped
    by_cases frame : (s.act b).cfg.frame = F
    · exact resting b frame
    · rw [h.missed b fun k => frame k.2.1]
      have old : (s.act a).state = .tripped := by
        rw [← h.missed a fun k => frame (same.symm.trans k.2.1)]; exact tripped
      exact frames a b same old

theorem stationLaw_tripAction (a : Fin 8) {s : State} (law : s.stationLaw) : (tripAction a s).stationLaw := by
  cases loaded : (s.act a).state.pressurized
  · have same : tripAction a s = s := by
      unfold tripAction
      rw [loaded]; rfl
    rw [same]; exact law
  · exact stationLaw_dumped (tripAction_dumps loaded) law

/-- A TRIP leaves its actuator without pressure, and puts none under pressure. -/
theorem tripAction_rests (a : Fin 8) (s : State) (b : Fin 8) (h : a = b ∨ (s.act b).state.pressurized = false) :
    ((tripAction a s).act b).state.pressurized = false := by
  cases loaded : (s.act a).state.pressurized
  · have same : tripAction a s = s := by
      unfold tripAction
      rw [loaded]; rfl
    rw [same]
    exact h.elim (fun e => e ▸ loaded) id
  · have dumped := tripAction_dumps loaded
    rcases h with rfl | resting
    · rw [dumped.hit a trivial rfl loaded]; rfl
    · rw [dumped.missed b fun k => by rw [resting] at k; exact nomatch k.2.2]; exact resting

/-! ### SAFE (R7) -/

theorem sameStates_enterSafe (s : State) : (s.modStc fun c => { c with mode := .safe }).SameStates (enterSafe s) := by
  unfold enterSafe
  split
  · rename_i safe
    exact ⟨safe, fun _ => rfl, fun _ => rfl⟩
  · have aborted : (s.modStc fun c => { c with mode := .safe }).SameStates
        (seqAbort (s.modStc fun c => { c with mode := .safe })) :=
      keeps_seqAbort (Q := State.SameStates _) (fun _ _ _ h => ⟨h.mode, h.state, h.frame⟩) .rfl'
    refine forAsc_keeps (f := fun a s => s.modAct a fun x => if x.state = .starting then { x with toActive := false } else x)
      _ (fun a t h => sameStates_modAct h ?_) aborted
    split <;> exact ⟨rfl, rfl⟩

theorem stationLaw_enterSafe {s : State} (rest : ∀ a, (s.act a).state ≠ .raising ∧ (s.act a).state ≠ .active) (law : s.stationLaw) :
    (enterSafe s).stationLaw := by
  exact stationLaw_of_same (sameStates_enterSafe s) ⟨(nomatch ·), fun _ => rest, law.2.2⟩

theorem ActSet.has_all (a : Fin 8) : ActSet.has (actSetOf fun _ => true) a = true := by
  revert a; decide

/-- The application of an action keeps the law: one of STATION scope reaches every actuator, so that SAFE is entered with
none RAISING or ACTIVE (R7, R189, R190). -/
theorem stationLaw_applyAction {x : ProtConfig} {m : ActSet} (reach : x.scope = .station → m = actSetOf fun _ => true) {s : State}
    (law : s.stationLaw) : (applyAction x m s).stationLaw := by
  have walk {f : Fin 8 → State → State} (hf : ∀ a s, s.stationLaw → (f a s).stationLaw) :
      (forAsc 8 (fun a s => if ActSet.has m a then f a s else s) s).stationLaw :=
    forAsc_keeps State.stationLaw (fun a _ hs => keeps_ite (hf a _ hs) hs) law
  unfold applyAction
  split
  · exact law
  · exact law
  · exact keeps_addReason (Q := State.stationLaw) (fun _ _ _ h => h) _ law
  · dsimp only
    split
    · rename_i station
      refine stationLaw_enterSafe (fun a => ?_) (walk fun a _ => stationLaw_unloadAction a)
      refine forAsc_all (fun a s => (s.act a).state ≠ .raising ∧ (s.act a).state ≠ .active) (fun a s => ?_) (fun a b s h => ?_) s a
      · rw [reach station, if_pos (ActSet.has_all a), unloadAction_state, if_pos rfl]
        cases (s.act a).state <;> simp
      · rw [reach station, if_pos (ActSet.has_all a), unloadAction_state]
        split
        · cases (s.act b).state <;> simp
        · exact h
    · exact walk fun a _ => stationLaw_unloadAction a
  · dsimp only
    split
    · rename_i station
      refine stationLaw_enterSafe (fun a => ?_) (walk fun a _ => stationLaw_tripAction a)
      have rests : ((forAsc 8 (fun a s => if ActSet.has m a then tripAction a s else s) s).act a).state.pressurized = false := by
        refine forAsc_all (fun a s => (s.act a).state.pressurized = false) (fun a s => ?_) (fun a b s h => ?_) s a
        · rw [reach station, if_pos (ActSet.has_all a)]; exact tripAction_rests a s a (.inl rfl)
        · rw [reach station, if_pos (ActSet.has_all a)]; exact tripAction_rests a s b (.inr h)
      rcases ActState.not_pressurized_iff.1 rests with e | e <;> rw [e] <;> decide
    · exact walk fun a _ => stationLaw_tripAction a

theorem stationLaw_takeRaising (e : Fin 40) (c : Cond) {s : State} (law : s.stationLaw) : (takeRaising e c s).stationLaw := by
  unfold takeRaising
  refine keeps_ite (stationLaw_applyAction (fun station => ?_) ?_) law
  · rw [station]; rfl
  · split <;> split <;> exact law

theorem stationLaw_raise (c : Cond) {s : State} (law : s.stationLaw) : (raise c s).stationLaw :=
  keeps_ite law (stationLaw_of_same (.trans (sameStates_merge _) (sameStates_flush _))
    (forAsc_keeps State.stationLaw (fun e _ => stationLaw_takeRaising e c) (s := setCond c true s) law))

theorem stationLaw_storeEntry (e : Fin 40) (c : ProtConfig) {s : State} (law : s.stationLaw) : (storeEntry e c s).stationLaw := by
  have stored : (merge (s.modEntry e fun _ => { cfg := c })).stationLaw :=
    stationLaw_of_same (s := s.modEntry e fun _ => { cfg := c }) (sameStates_merge _) law
  unfold storeEntry judgeEntry
  split
  · exact stored
  · exact foldl_keeps (fun _ c _ hs => keeps_ite
      (stationLaw_of_same (.trans (sameStates_merge _) (sameStates_flush _)) (stationLaw_takeRaising e c hs)) hs) stored

/-- In SETUP, with every actuator OFF, a frame may change. -/
theorem stationLaw_config {a : Fin 8} {c : ActConfig} {s : State} (may : s.stc.mode = .setup ∨ c.frame = (s.act a).cfg.frame)
    (law : s.stationLaw) : (s.modAct a fun x => { x with cfg := c }).stationLaw := by
  have state (b : Fin 8) : ((s.modAct a fun x => { x with cfg := c }).act b).state = (s.act b).state := by
    rw [State.modAct_act]; split <;> rfl
  rcases may with mode | frame
  · have off := law.1 mode
    refine ⟨fun _ b => (state b).trans (off b), fun m => ?_, fun p q _ tripped => .inr ((state q).trans (off q))⟩
    rw [State.modAct_stc, mode] at m
    cases m
  · exact stationLaw_of_same (sameStates_modAct .rfl' ⟨rfl, frame⟩) law

theorem stationLaw_works {v : Vector Actuator 8} {s : State} (works : ∀ a : Fin 8, (s.act a).Works v[a]) (law : s.stationLaw) :
    (s.withActs v).stationLaw :=
  stationLaw_of_same (s := s) ⟨rfl, fun a => (works a).state, fun a => (works a).frame⟩ law

theorem kept_stationLaw : Event.Kept State.stationLaw State.stationLaw where
  begin := id
  flush := stationLaw_of_same (sameStates_flush _)
  plan _ _ _ h := h
  work _ _ := stationLaw_works
  enter a x c _ := stationLaw_enter a x c
  clock _ _ h := h
  station _ s mode law := stationLaw_of_same (s := s) ⟨mode, fun _ => rfl, fun _ => rfl⟩ law
  toRun law := ⟨(nomatch ·), (nomatch ·), law.2.2⟩
  toSetup off _ := ⟨fun _ => off, (nomatch ·), fun _ b _ _ => .inr (off b)⟩
  notices _ _ _ _ h := h
  slots _ _ h := h
  planNow _ _ h := h
  workNow _ _ := stationLaw_works
  windows _ _ h := h
  config _ _ _ := stationLaw_config
  groups _ _ _ h := h
  sats _ _ _ h := h
  strain _ _ _ h := h
  emission _ _ _ h := h
  zones _ _ h := h
  raise := stationLaw_raise
  lower c s := stationLaw_of_same (sameStates_lower c s)
  lowerIn c s := stationLaw_of_same (sameStates_lower c s)
  storeEntry e c _ _ := stationLaw_storeEntry e c
  clearEntry e s law := stationLaw_of_same (s := s.modEntry e ProtEntry.clear) (sameStates_merge _) law
  clearEntries {s} law := stationLaw_of_same (s := s.modPmx fun p => { p with entries := p.entries.map ProtEntry.clear })
    (sameStates_merge _) law

/-! ### Resets -/

theorem stationLaw_of_off {s : State} (mode : s.stc.mode = .setup) (off : ∀ a, (s.act a).state = .off) : s.stationLaw :=
  ⟨fun _ => off, fun m => absurd (mode.symm.trans m) (by decide), fun _ b _ _ => .inr (off b)⟩

theorem state_defaultActs (a : Fin 8) : defaultActs[a].state = .off := by
  simp [defaultActs]

theorem stationLaw_restartState (s : State) : (restartState s).stationLaw := by
  by_cases keep : s.stc.settings.keepSettings = true
  · exact stationLaw_of_off (by simp [restartState, keep]) fun a => by
      simp [restartState, keep, State.act, Actuator.restart]
  · exact stationLaw_of_off (by simp [restartState, keep]) fun a => by
      simpa [restartState, keep, State.act] using state_defaultActs a

/-- Settles O36: each change of state of chapter 4 is made where the law allows it, a trip dumps its frame whole, and SAFE is
entered with every actuator reached. -/
theorem stationLawIsKept : Obligations.StationLawIsKept := by
  intro i s t h run
  exact exec_keeps { kept_stationLaw with link := fun _ _ _ _ _ h => h, restart := fun _ => stationLaw_restartState _ }
    (fun _ _ _ => stationLaw_of_off rfl state_defaultActs) (fun _ _ _ h => h) h run

end Sys2Proof.Machine

/-!
The wave, the window clamp and the manifolds: the operations of a control sample that name no event (R18, R34, R37, R57,
R88).
-/
namespace Sys2Proof.Machine

/-! ### The wave (R34, R37) -/

/-- A common factor of dividend and divisor does not change a rounded quotient. -/
theorem roundDiv_mul_mul_left {c : Int} (hc : 0 < c) (a b : Int) : roundDiv (c * a) (c * b) = roundDiv a b := by
  have hn : 0 < c.natAbs := by omega
  have hq : (2 * (c * a).natAbs + (c * b).natAbs) / (2 * (c * b).natAbs) =
      (2 * a.natAbs + b.natAbs) / (2 * b.natAbs) := by
    rw [Int.natAbs_mul, Int.natAbs_mul,
      show 2 * (c.natAbs * a.natAbs) + c.natAbs * b.natAbs = c.natAbs * (2 * a.natAbs + b.natAbs) by ring,
      show 2 * (c.natAbs * b.natAbs) = c.natAbs * (2 * b.natAbs) by ring, Nat.mul_div_mul_left _ _ hn]
  have hs (x : Int) : decide (c * x < 0) = decide (x < 0) := by
    rw [decide_eq_decide, mul_neg_iff]; omega
  unfold roundDiv
  rw [hq, hs, hs]

theorem waveAt_den_pos (shape : Shape) (p : Nat) : 0 < (waveAt shape p).2 := by
  cases shape <;> simp [waveAt]

theorem waveLevel_triangle (mean : Int) (amp p : Nat) :
    waveLevel mean amp .triangle p =
      if p < 5000000 then roundDiv (mean * 5000000 + amp * p) 5000000
      else if p < 15000000 then roundDiv (mean * 5000000 + amp * (10000000 - p)) 5000000
      else roundDiv (mean * 5000000 + amp * (p - 20000000)) 5000000 := by
  have quarter (x : Int) : roundDiv (4 * x) 20000000 = roundDiv x 5000000 :=
    roundDiv_mul_mul_left (c := 4) (by decide) x 5000000
  simp only [waveLevel, waveAt]
  split
  · rw [← quarter]; congr 1; ring
  · split
    · rw [← quarter]; congr 1; ring
    · rw [← quarter]; congr 1; ring

theorem waveLevel_zero (mean : Int) (shape : Shape) (p : Nat) : waveLevel mean 0 shape p = mean := by
  unfold waveLevel
  simpa using roundDiv_mul mean (waveAt_den_pos shape p)

/-- Where the wave value is 1 or -1 the level lies an amplitude from the mean. -/
theorem waveLevel_of_unit {shape : Shape} {p : Nat} {sign : Int} (h : (waveAt shape p).1 = sign * (waveAt shape p).2)
    (mean : Int) (amp : Nat) : waveLevel mean amp shape p = mean + amp * sign := by
  simp only [waveLevel]
  rw [show mean * (waveAt shape p).2 + (amp : Int) * (waveAt shape p).1 =
    (mean + amp * sign) * (waveAt shape p).2 by rw [h]; ring]
  exact roundDiv_mul _ (waveAt_den_pos shape p)

theorem waveAt_peak (shape : Shape) : (waveAt shape 5000000).1 = 1 * (waveAt shape 5000000).2 := by
  cases shape
  · rw [one_mul]; rfl
  · rfl

theorem waveAt_valley (shape : Shape) : (waveAt shape 15000000).1 = -1 * (waveAt shape 15000000).2 := by
  cases shape
  · rw [neg_one_mul]; rfl
  · rfl

/-- The second quarter mirrors the first. -/
theorem sineAt_mirror {p : Nat} (h : p ≤ 10000000) : sineAt p = sineAt (10000000 - p) := by
  rcases Nat.lt_trichotomy p 5000000 with hp | hp | hp
  · by_cases h0 : p = 0
    · subst h0; simp [sineAt, sineQuarter]
    · have h1 : ¬10000000 - p < 5000000 := by omega
      have h2 : 10000000 - p < 10000000 := by omega
      have h3 : 10000000 - (10000000 - p) = p := by omega
      simp only [sineAt, hp, h1, h2, h3, if_true, if_false]
  · subst hp; rfl
  · by_cases ht : p = 10000000
    · subst ht; simp [sineAt, sineQuarter]
    · have h1 : ¬p < 5000000 := by omega
      have h2 : p < 10000000 := by omega
      have h3 : 10000000 - p < 5000000 := by omega
      simp only [sineAt, h1, h2, h3, if_true, if_false]

/-- The second half is the first one below 0. -/
theorem sineAt_half {p : Nat} (h : p < 10000000) : sineAt (p + 10000000) = -sineAt p := by
  have h1 : ¬p + 10000000 < 5000000 := by omega
  have h2 : ¬p + 10000000 < 10000000 := by omega
  unfold sineAt
  rw [if_neg h1, if_neg h2]
  by_cases hp : p < 5000000
  · rw [if_pos (by omega), if_pos hp, Nat.add_sub_cancel]
  · rw [if_neg (by omega), if_neg hp, if_pos h, show 20000000 - (p + 10000000) = 10000000 - p by omega]

theorem advancePhase_eq {p freq : Nat} (hp : p < 20000000) (hf : freq ≤ 1000) :
    advancePhase p freq = ((p + 100 * freq) % 20000000, decide (20000000 ≤ p + 100 * freq)) := by
  unfold advancePhase Config.cycle
  dsimp only
  split
  · rename_i h
    rw [Prod.mk.injEq, eq_comm (a := true), decide_eq_true_eq]
    omega
  · rename_i h
    rw [Prod.mk.injEq, eq_comm (a := false), decide_eq_false_iff_not]
    omega

/-- A point lies `x - before` ahead, counted forward around the cycle. -/
theorem crosses_iff {before step x : Nat} (hb : before < 20000000) (hs : step < 20000000) (hx : x < 20000000) :
    crosses before step x = true ↔ ∃ j, 0 < j ∧ j ≤ step ∧ (before + j) % 20000000 = x := by
  rw [crosses, Bool.and_eq_true, decide_eq_true_iff, decide_eq_true_iff,
    show Config.cycle = 20000000 from rfl]
  constructor
  · rintro ⟨h1, h2⟩
    exact ⟨_, h1, h2, by omega⟩
  · rintro ⟨j, h1, h2, h3⟩
    have : (x + 20000000 - before) % 20000000 = j := by omega
    omega

/-- Settles O24. -/
theorem waveFollowsItsPhase : Obligations.WaveFollowsItsPhase := by
  unfold Obligations.WaveFollowsItsPhase
  refine ⟨fun _ _ => advancePhase_eq, fun p offset _ _ => ?_, fun mean amp p _ => waveLevel_triangle mean amp p,
    fun _ => sineAt_mirror, fun _ => sineAt_half, rfl, rfl, waveLevel_zero, fun mean amp shape => ⟨?_, ?_⟩,
    fun _ _ _ => crosses_iff⟩
  · rw [trackPhase, Nat.mul_comm]; rfl
  · rw [waveLevel_of_unit (waveAt_peak shape), mul_one]
  · rw [waveLevel_of_unit (waveAt_valley shape)]; ring

/-! ### The window clamp (R57) -/

theorem mem_coveringWindows (w : Vector Window 6) (q : Quantity) (a : Fin 8) (i : Fin 6) :
    i ∈ coveringWindows w q a ↔ w[i].covers q a := by
  simp [coveringWindows, Window.covers, ActSet.has, and_assoc]

theorem Window.holds_iff (w : Window) (v : Int) : w.holds v = true ↔ w.lower ≤ v ∧ v ≤ w.upper := by
  simp [Window.holds]

/-- `j` is the first element of an ascending list at the least distance. -/
def firstNearest (w : Vector Window 6) (v : Int) (l : List (Fin 6)) (j : Fin 6) : Prop :=
  j ∈ l ∧ ∀ i ∈ l, w[j].distance v ≤ w[i].distance v ∧ (w[j].distance v = w[i].distance v → j ≤ i)

theorem firstNearest_unique {w : Vector Window 6} {v : Int} {l : List (Fin 6)} {i j : Fin 6}
    (hi : firstNearest w v l i) (hj : firstNearest w v l j) : i = j := by
  obtain ⟨h1, h2⟩ := hi.2 j hj.1
  obtain ⟨h3, h4⟩ := hj.2 i hi.1
  have he := le_antisymm h1 h3
  exact le_antisymm (h2 he) (h4 he.symm)

theorem nearest_concat (w : Vector Window 6) (v : Int) (l : List (Fin 6)) (i : Fin 6) :
    nearest w v (l ++ [i]) =
      match nearest w v l with
      | none => some i
      | some j => if w[i].distance v < w[j].distance v then some i else some j := by
  simp only [nearest, List.foldl_append]; rfl

/-- The walk over an ascending list keeps the first of the nearest. -/
theorem nearest_spec (w : Vector Window 6) (v : Int) (l : List (Fin 6)) (h : l.Pairwise (· < ·)) :
    (l = [] ∧ nearest w v l = none) ∨ ∃ j, nearest w v l = some j ∧ firstNearest w v l j := by
  induction l using List.reverseRecOn with
  | nil => exact .inl ⟨rfl, rfl⟩
  | append_singleton l i ih =>
    obtain ⟨hl, -, hi⟩ := List.pairwise_append.1 h
    refine .inr ?_
    rw [nearest_concat]
    rcases ih hl with ⟨rfl, hn⟩ | ⟨j, hn, hm, hj⟩
    · exact ⟨i, by rw [hn], by simp [firstNearest]⟩
    · rw [hn]
      by_cases hd : w[i].distance v < w[j].distance v
      · refine ⟨i, if_pos hd, by simp, fun k hk => ?_⟩
        rcases List.mem_append.1 hk with hk | hk
        · obtain ⟨h1, -⟩ := hj k hk
          exact ⟨by omega, fun he => by omega⟩
        · rw [List.mem_singleton.1 hk]; exact ⟨le_refl _, fun _ => le_refl _⟩
      · refine ⟨j, if_neg hd, by simp [hm], fun k hk => ?_⟩
        rcases List.mem_append.1 hk with hk | hk
        · exact hj k hk
        · rw [List.mem_singleton.1 hk]
          exact ⟨by omega, fun _ => (hi j hm i (by simp)).le⟩

theorem coveringWindows_pairwise (w : Vector Window 6) (q : Quantity) (a : Fin 8) :
    (coveringWindows w q a).Pairwise (· < ·) :=
  (List.pairwise_lt_finRange 6).filter _

/-- Settles O27. -/
theorem windowClampTakesTheNearest : Obligations.WindowClampTakesTheNearest := by
  unfold Obligations.WindowClampTakesTheNearest
  intro w q a h inside distance
  have hany : ((coveringWindows w q a).any fun i => w[i].holds h) = true ↔ ∃ i, w[i].covers q a ∧ inside i := by
    simp only [List.any_eq_true, mem_coveringWindows, Window.holds_iff]; exact Iff.rfl
  refine ⟨fun hin => ?_, fun i hc hout hi => ?_, fun hnone => ?_⟩
  · rw [windowClamp, if_pos (hany.2 hin)]
  · have hno : ¬((coveringWindows w q a).any fun i => w[i].holds h) = true :=
      fun hh => (hany.1 hh).elim fun j hj => hout j hj.1 hj.2
    have hmine : firstNearest w h (coveringWindows w q a) i :=
      ⟨(mem_coveringWindows w q a i).2 hc, fun j hj => hi j ((mem_coveringWindows w q a j).1 hj)⟩
    rw [windowClamp, if_neg hno]
    rcases nearest_spec w h _ (coveringWindows_pairwise w q a) with ⟨he, -⟩ | ⟨j, hn, hj⟩
    · exact absurd hmine.1 (by simp [he])
    · rw [hn, firstNearest_unique hj hmine]
  · have he : coveringWindows w q a = [] :=
      List.eq_nil_iff_forall_not_mem.2 fun i hi => hnone i ((mem_coveringWindows w q a i).1 hi)
    simp [windowClamp, he, nearest]

/-! ### Manifolds and outputs (R18, R88) -/

theorem State.frameHas_iff (s : State) (f : Fin 4) (p : ActState → Bool) :
    s.frameHas f p = true ↔ ∃ a : Fin 8, (s.act a).cfg.frame = f ∧ p (s.act a).state = true := by
  simp [State.frameHas]

theorem State.manifold_dump_iff (s : State) (f : Fin 4) :
    s.manifold f = .dump ↔ ∃ a : Fin 8, (s.act a).cfg.frame = f ∧ (s.act a).state = .tripped := by
  have h := s.frameHas_iff f (fun x => x = .tripped)
  simp only [decide_eq_true_eq] at h
  rw [← h, State.manifold]
  split
  · simp_all
  · split <;> [skip; split] <;> simp_all

theorem State.outputLevel_dumpOut (s : State) :
    s.outputLevel .dumpOut = true ↔ ∃ a : Fin 8, (s.act a).state = .tripped := by
  simp [State.outputLevel, State.manifold_dump_iff]

theorem State.outputLevel_beaconOut (s : State) :
    s.outputLevel .beaconOut = true ↔ ∃ a : Fin 8, (s.act a).state ≠ .off := by
  simp [State.outputLevel]

theorem flagValue_iff {b : Bool} {p : Prop} (h : b = true ↔ p) :
    ((if b then (1 : Int) else 0) = 1 ↔ p) ∧ ((if b then (1 : Int) else 0) = 0 ↔ ¬p) := by
  cases b <;> simp_all

/-- Settles O37. -/
theorem manifoldsFollowTheFrame : Obligations.ManifoldsFollowTheFrame := by
  unfold Obligations.ManifoldsFollowTheFrame
  intro s f inFrame tripped high low
  have ht : s.frameHas f (fun x => x = .tripped) = true ↔ tripped := by
    rw [s.frameHas_iff]; simp only [decide_eq_true_eq]; exact Iff.rfl
  have hh : s.frameHas f (fun x => x = .raising ∨ x = .active ∨ x = .unloading) = true ↔ high := by
    rw [s.frameHas_iff]; simp only [decide_eq_true_eq]; exact Iff.rfl
  have hl : s.frameHas f (fun x => x = .starting ∨ x = .low) = true ↔ low := by
    rw [s.frameHas_iff]; simp only [decide_eq_true_eq]; exact Iff.rfl
  have hm : s.manifold f = if tripped then .dump else if high then .high else if low then .low else .closed := by
    simp only [State.manifold, ht, hh, hl]
  refine ⟨?_, ?_, ?_, ?_, rfl, rfl, rfl, rfl, fun x => ⟨fun hx => ?_, fun hx => ?_⟩⟩
  iterate 4
    rw [hm]
    by_cases h1 : tripped
    · simp [h1]
    · by_cases h2 : high
      · simp [h1, h2]
      · by_cases h3 : low <;> simp [h1, h2, h3]
  · rw [State.slotValue, hx, ← not_exists]
    exact flagValue_iff s.outputLevel_dumpOut
  · rw [State.slotValue, hx]
    have := flagValue_iff s.outputLevel_beaconOut
    rwa [not_exists, forall_congr' fun a => not_not] at this

end Sys2Proof.Machine

/-!
Entering a segment: every chain of LOOPs at one event ends (R30, R39, R40); and the window pre-check (R28).
-/
namespace Sys2Proof.Machine

/-! ### Entering a segment (R30, R39, R40) -/

/-- A bound of the LOOPs still to follow from segment i, while every LOOP from m up to i reads 0: on the way up from the
lowest segment visited, m, and on the way down, where the LOOP at i reads 0 as well and has to be taken. -/
def chainBound (m i : Nat) (down : Bool) : Nat := if down then 100 * m + i else 100 * m + 98 - i

/-- A chain of LOOPs ends: after a LOOP is taken the loops above the lowest segment visited read 0, so that they lead further
down, and below it at last. -/
theorem enters_enterFrom (n : Nat) : ∀ (m i : Nat) (down : Bool) (q : Sequencer), (∀ k : Fin 48, (q.plan[k]).valid k.val) →
    m ≤ i → i ≤ 48 ∨ m = i → (down = true → i < 48) →
    (∀ k : Fin 48, m ≤ k.val → (k.val < i ∨ down = true ∧ k.val = i) → q.loops[k] = 0) →
    48 ≤ i ∧ 0 < n ∨ chainBound m i down < n → Enters i q (enterFrom n i q) := by
  induction n with
  | zero => intro m i down q hv hm hi hd hz hn; omega
  | succ n ih =>
    intro m i down q hv hm hi hd hz hn
    unfold enterFrom
    by_cases h : i < 48
    · rw [dif_pos h]
      have hval := hv ⟨i, h⟩
      change (q.plan[i]).valid i at hval
      have hn : chainBound m i down < n + 1 := by omega
      split
      · rename_i hold level ms hp
        exact .ramp ⟨i, h⟩ q hold level ms hp
      · rename_i hold ms snap hp
        exact .dwell ⟨i, h⟩ q hold ms snap hp
      · rename_i hold mean a f shape count interval hp
        unfold enterCycle
        by_cases hl : q.levels.all (fun l => decide (l = mean)) = true
        · rw [if_pos hl]
          refine .taper ⟨i, h⟩ q hold mean a f shape count interval hp fun k => ?_
          simpa using (Vector.all_eq_true.1 hl) k.val k.isLt
        · rw [if_neg hl]
          refine .approach ⟨i, h⟩ q hold mean a f shape count interval 0 hp ?_
          by_contra hno
          refine hl (Vector.all_eq_true.2 fun k hk => ?_)
          have := not_exists.1 hno ⟨k, hk⟩
          simpa using this
      · rename_i target times hp
        rw [hp] at hval
        obtain ⟨htarget, htimes, -⟩ := hval
        split
        · rename_i hmore
          refine .again ⟨i, h⟩ q _ target times hp hmore ?_
          by_cases ht : m ≤ target.val
          · refine ih m target.val true _ hv ht (.inl (by omega)) (fun _ => by omega) (fun k hk hki => ?_) (.inr ?_)
            · have hne : i ≠ k.val := by omega
              show (q.loops.set i (q.loops[i] + 1))[k.val] = 0
              rw [Vector.getElem_set_ne _ _ hne]
              exact hz k hk (.inl (by omega))
            · cases down <;> simp only [chainBound] at hn ⊢ <;> simp at hn ⊢ <;> omega
          · refine ih target.val target.val false _ hv (le_refl _) (.inr rfl) (fun hf => nomatch hf) (fun k hk hki => ?_)
              (.inr ?_)
            · have : ¬(k.val < target.val) := by omega
              simp [this] at hki
            · cases down <;> simp only [chainBound] at hn ⊢ <;> simp at hn ⊢ <;> omega
        · rename_i hfull
          have hup : down = false := by
            by_contra hdown
            have : q.loops[i] = 0 := hz ⟨i, h⟩ hm (.inr ⟨by simpa using hdown, rfl⟩)
            omega
          subst hup
          refine .passed ⟨i, h⟩ q _ target times hp (Nat.le_of_not_lt hfull) ?_
          refine ih m (i + 1) false _ hv (by omega) (.inl (by omega)) (fun hf => nomatch hf) (fun k hk hki => ?_) (.inr ?_)
          · show (q.loops.set i 0)[k.val] = 0
            rw [Vector.getElem_set]
            split
            · rfl
            · have : k.val < i := by simp at hki; omega
              exact hz k hk (.inl this)
          · simp only [chainBound] at hn ⊢; simp at hn ⊢; omega
      · rename_i hp
        unfold planEnd
        have hc : (q.plan[i]).count = 0 := by rw [hp]; rfl
        change Enters i q { q with state := .done, activity := .none, segment := ⟨i, h⟩, heldCount := (q.plan[i]).count
                                   hold := { q.hold with segment := false, lost := false } }
        rw [hc]
        exact .finish ⟨i, h⟩ q hp
    · rw [dif_neg h]
      exact .past i q (by omega)

/-- Settles O20. -/
theorem enteringASegmentFollowsLoops : Obligations.EnteringASegmentFollowsLoops := by
  unfold Obligations.EnteringASegmentFollowsLoops
  intro i q hv
  refine enters_enterFrom loopFuel i i false q hv (le_refl _) (.inr rfl) (fun hf => nomatch hf) (fun k hk hki => ?_) ?_
  · simp at hki; omega
  · have hfuel : 10000 < loopFuel := by norm_num [loopFuel]
    by_cases h : 48 ≤ i
    · exact .inl ⟨h, by omega⟩
    · exact .inr (by simp only [chainBound]; simp; omega)

/-! ### The window pre-check (R28) -/

theorem valueCovered_iff (s : State) (a : Fin 8) (q : Quantity) (v : Int) :
    valueCovered s a q v = true ↔
      ∃ i : Fin 6, s.svc.windows[i].covers q a ∧ s.svc.windows[i].lower ≤ v ∧ v ≤ s.svc.windows[i].upper := by
  simp only [valueCovered, List.any_eq_true, mem_coveringWindows, Window.holds_iff]

theorem preCheckLevel_eq_none_iff (s : State) (t : Fin 8) (level : Int) :
    preCheckLevel s t level = none ↔ s.levelCovered t level := by
  unfold preCheckLevel State.levelCovered
  simp only [← valueCovered_iff]
  cases s.groupOf t with
  | none => simp
  | some g => simp

/-- The beginning of an ascending list ends before the first element without the property. -/
theorem mem_takeWhile_of_pairwise {n : Nat} {p : Fin n → Bool} {l : List (Fin n)} (h : l.Pairwise (· < ·)) (i : Fin n) :
    i ∈ l.takeWhile p ↔ i ∈ l ∧ ∀ j ∈ l, j ≤ i → p j = true := by
  induction l with
  | nil => simp
  | cons x l ih =>
    obtain ⟨hx, hl⟩ := List.pairwise_cons.1 h
    by_cases hp : p x = true
    · rw [List.takeWhile_cons_of_pos hp, List.mem_cons, List.mem_cons, ih hl]
      constructor
      · rintro (rfl | ⟨hi, hj⟩)
        · exact ⟨.inl rfl, fun j hj hji => (List.mem_cons.1 hj).elim (fun e => e ▸ hp)
            fun hj => absurd (hx j hj) (not_lt.2 hji)⟩
        · exact ⟨.inr hi, fun j hm hji => (List.mem_cons.1 hm).elim (fun e => e ▸ hp) fun hm => hj j hm hji⟩
      · rintro ⟨rfl | hi, hj⟩
        · exact .inl rfl
        · exact .inr ⟨hi, fun j hm => hj j (List.mem_cons_of_mem _ hm)⟩
    · rw [List.takeWhile_cons_of_neg hp]
      constructor
      · intro hi; exact absurd hi (by simp)
      · rintro ⟨hi, hj⟩
        refine absurd (hj x (by simp) ?_) hp
        rcases List.mem_cons.1 hi with rfl | hi
        · exact le_refl _
        · exact (hx i hi).le

theorem mem_visited (q : Sequencer) (start i : Fin 48) :
    i ∈ visited q start ↔ start ≤ i ∧ ∀ j : Fin 48, start ≤ j → j ≤ i → q.plan[j] ≠ .finish := by
  unfold visited
  rw [mem_takeWhile_of_pairwise ((List.pairwise_lt_finRange 48).filter _)]
  simp only [List.mem_filter, List.mem_finRange, true_and, decide_eq_true_eq]
  exact Iff.rfl

theorem preCheck_eq_none_iff (s : State) (start : Fin 48) :
    preCheck s start = none ↔
      (∀ t, s.inUse t = true → preCheckLevel s t s.psq.levels[t] = none) ∧
      ∀ i ∈ visited s.psq start, ∀ t, s.inUse t = true → ∀ l ∈ s.psq.plan[i].extremes, preCheckLevel s t l = none := by
  simp [preCheck, List.head?_eq_none_iff, List.filterMap_eq_nil_iff, List.flatMap_eq_nil_iff]

/-- The extreme levels of a segment pass as R28 lists them. -/
theorem forall_extremes_iff (P : Int → Prop) (x : Segment) :
    (∀ l ∈ x.extremes, P l) ↔
      match x with
      | .ramp _ level _ => P level
      | .cycle _ mean a _ _ _ _ => P (mean - a) ∧ P (mean + a)
      | .dwell .. | .loop .. | .finish => True := by
  cases x <;> simp [Segment.extremes]

/-- Settles O17. -/
theorem preCheckCoversEveryLevel : Obligations.PreCheckCoversEveryLevel := by
  unfold Obligations.PreCheckCoversEveryLevel
  intro s start
  simp only [preCheck_eq_none_iff, preCheckLevel_eq_none_iff]
  constructor
  · rintro ⟨hp, hl⟩ t ht
    exact ⟨hp t ht, fun i hi hj =>
      (forall_extremes_iff (s.levelCovered t) _).1 (hl i ((mem_visited s.psq start i).2 ⟨hi, hj⟩) t ht)⟩
  · intro h
    refine ⟨fun t ht => (h t ht).1, fun i hi t ht => ?_⟩
    obtain ⟨hs, hj⟩ := (mem_visited s.psq start i).1 hi
    exact (forall_extremes_iff (s.levelCovered t) _).2 ((h t ht).2 i hs hj)

end Sys2Proof.Machine

/-!
The link: how each row takes its frame (R198 to R202), group deliveries (R199), the notice queue and FETCH (R205 to R207),
and replies leaving (R202).
-/
namespace Sys2Proof.Machine

/-! ### The rows of frames (R198 to R201) -/

/-- How the row of a frame takes it: as a command, as one of the five of R199, as one that is taken while a restart is
pending, or as a command code that is unknown. -/
inductive Taking (f : Frame) : Instr → Byte → (State → State) → Prop where
  | command {i : Instr} {code : Byte} {length : List Byte → Nat} (body : List Byte → State → Answer)
      (len : requestLength i = some (length f.payload)) (five : groupExecuted i = false)
      (reads : i ≠ .status f ∧ i ≠ .fetch f) (known : catalogue.contains code.toNat = true) :
      Taking f i code (command code length body f)
  | group {i : Instr} {code : Byte} (body : State → Answer) (made : Event.Made fun s => (body s).after s)
      (len : requestLength i = some 0) (five : groupExecuted i = true ∧ i ≠ .restart f)
      (reads : i ≠ .status f ∧ i ≠ .fetch f) (known : catalogue.contains code.toNat = true) :
      Taking f i code (groupCommand code body f)
  | read {i : Instr} {code : Byte} (body : State → Answer) (len : requestLength i = some 0)
      (five : groupExecuted i = false) (reads : i = .status f ∨ i = .fetch f)
      (known : catalogue.contains code.toNat = true) : Taking f i code (readCommand code body f)
  | restart : Taking f (.restart f) 0x07 (restartCommand f)
  | unknown (code : Byte) : Taking f (.unknownCommandCode code f) code (unknownCode code f)

theorem aeChannelLength_eq (p : List Byte) : aeChannelLength p = if p.head? = some 0xFF#8 then 3 else 9 := by
  cases p with
  | nil => rfl
  | cons b p =>
    have : u8 (b :: p) 0 = 255 ↔ b = 0xFF#8 := by
      rw [← BitVec.toNat_inj]; exact Iff.rfl
    simp only [aeChannelLength, this, List.head?_cons, Option.some.injEq]

theorem snapListLength_eq (p : List Byte) : 1 + u8 p 0 = 1 + (p.headD 0).toNat := by
  cases p <;> rfl

/-- Every command that arrives as a frame is taken in one of these ways. -/
theorem taking_of_frameOf {i : Instr} {code : Byte} {f : Frame} (h : frameOf i = some (code, f)) :
    ∃ act, Taking f i code act ∧ ∀ s, exec i s = stepDone (act s) := by
  cases i with
  | unknownCommandCode c g => cases h; exact ⟨_, .unknown _, fun _ => rfl⟩
  | restart g => cases h; exact ⟨_, .restart, fun _ => rfl⟩
  | status g => cases h; exact ⟨_, .read statusBody rfl rfl (.inl rfl) rfl, fun _ => rfl⟩
  | fetch g => cases h; exact ⟨_, .read fetchBody rfl rfl (.inr rfl) rfl, fun _ => rfl⟩
  | halt g =>
    cases h
    exact ⟨_, .group (fun s => .done (haltAct s)) Event.made_haltAct rfl ⟨rfl, nofun⟩ ⟨nofun, nofun⟩ rfl, fun _ => rfl⟩
  | go g =>
    cases h
    exact ⟨_, .group (fun s => .done (goAct s)) Event.made_goAct rfl ⟨rfl, nofun⟩ ⟨nofun, nofun⟩ rfl, fun _ => rfl⟩
  | hold g =>
    cases h; exact ⟨_, .group holdBody Event.made_hold rfl ⟨rfl, nofun⟩ ⟨nofun, nofun⟩ rfl, fun _ => rfl⟩
  | resume g =>
    cases h; exact ⟨_, .group resumeBody Event.made_resume rfl ⟨rfl, nofun⟩ ⟨nofun, nofun⟩ rfl, fun _ => rfl⟩
  | aeChannel g | aeChannelWindow g =>
    cases h
    exact ⟨_, .command (length := aeChannelLength) aeChannelBody (congrArg some (aeChannelLength_eq _).symm) rfl
      ⟨nofun, nofun⟩ rfl, fun _ => rfl⟩
  | snapList g =>
    cases h
    exact ⟨_, .command (length := fun p => 1 + u8 p 0) snapListBody (congrArg some (snapListLength_eq _).symm) rfl
      ⟨nofun, nofun⟩ rfl, fun _ => rfl⟩
  | mode g | stationSet g | assign g | slotSet g | slotRead g | planWrite g | planRead g | planSet g | trackSet g
  | start g | abort g | seqStatus g | windowSet g | actConfig g | actGains g | actMode g | actControl g
  | actSource g | actManual g | actStatus g | groupSet g | groupStatus g | satPresent g | satWrite g | satRead g
  | satReset g | satStatus g | chConfig g | chZero g | chRead g | snapNow g | snapFetch g | stiffRef g | aeFetch g
  | zoneSet g | zoneStatus g | zoneAck g | protEntry g | protList g | protClear g | protFirstClear g | tripLog g =>
    cases h
    refine ⟨_, ?_, fun _ => rfl⟩
    exact .command _ rfl rfl ⟨nofun, nofun⟩ rfl
  | _ => cases h

/-! ### What an addressed frame is answered (R200 to R202) -/

variable {s u : State} {f : Frame} {code : Byte} {status : Status} {detail : Nat}

theorem addressed_of_refuse {answer : State → Answer} (room : s.sli.replies.length < 4)
    (h : answer s.received = .refuse status detail) :
    addressed code answer f s.received = s.replied code f status detail [] := by
  simp only [addressed, Config.replyCap, received_sli, Nat.not_le.2 room, if_false, h, State.replied, List.append_nil]
  rfl

/-- A command that leaves `u`, the receiver apart, which hunts since the frame was whole. -/
theorem addressed_of_take {answer : State → Answer} {p : List Byte} (room : s.sli.replies.length < 4)
    (h : answer s.received = .take status detail p u.received) :
    addressed code answer f s.received = u.replied code f status detail p := by
  simp only [addressed, Config.replyCap, received_sli, Nat.not_le.2 room, if_false, h]
  rfl

theorem addressed_of_full {answer : State → Answer} (full : 4 ≤ s.sli.replies.length) :
    addressed code answer f s.received =
      { s with sli := { s.sli with rx := [], linkErrors := min (s.sli.linkErrors + 1) 65535 } } := by
  have full : Config.replyCap ≤ s.received.sli.replies.length := full
  rw [addressed, if_pos full, countLinkError_eq, received_sli]
  rfl

theorem noResetDue_replied {p : List Byte} (h : u.noResetDue) : (u.replied code f status detail p).noResetDue := h

/-- A frame that is taken, and refused by its command's own tests. -/
theorem command_refused {n : Nat} {length : List Byte → Nat} {body : List Byte → State → Answer} (h : s.takes f n)
    (hn : length f.payload = n) (hb : body f.payload s.received = .refuse status detail) :
    stepDone (command code length body f s) = .next (s.replied code f status detail []) := by
  have : command code length body f s = s.replied code f status detail [] := by
    rw [command_of_takes h hn, hb, State.replied, List.append_nil]; rfl
  rw [this]
  exact stepDone_of_noResetDue (noResetDue_replied (.inl h.2.2.1))

/-- A frame that is taken and executed. -/
theorem command_taken {n : Nat} {length : List Byte → Nat} {body : List Byte → State → Answer} {p : List Byte}
    (h : s.takes f n) (hn : length f.payload = n) (hb : body f.payload s.received = .take status detail p u.received)
    (hu : u.stc.restartPending = false) :
    stepDone (command code length body f s) = .next (u.replied code f status detail p) := by
  rw [command_of_takes h hn, hb]
  exact stepDone_of_noResetDue (.inl hu)

/-- One of the five of R199, addressed and executed. -/
theorem groupCommand_taken {body : State → Answer} {p : List Byte} (h : s.takes f 0)
    (hb : body s.received = .take status detail p u.received) (hu : u.stc.restartPending = false) :
    stepDone (groupCommand code body f s) = .next (u.replied code f status detail p) := by
  rw [groupCommand_of_takes h, hb]
  exact stepDone_of_noResetDue (.inl hu)

/-- STATUS and FETCH are taken while a restart is pending as well. -/
theorem readCommand_taken {body : State → Answer} {p : List Byte} (hd : s.delivery f = .addressed) (hp : f.payload = [])
    (room : s.sli.replies.length < 4) (hb : body s.received = .take status detail p u.received) (hu : u.noResetDue) :
    stepDone (readCommand code body f s) = .next (u.replied code f status detail p) := by
  have : readCommand code body f s = u.replied code f status detail p := by
    simp only [readCommand, hd]
    exact addressed_of_take room (by simp [accept, hp, hb])
  rw [this]
  exact stepDone_of_noResetDue hu

/-! ### Group deliveries (R199) -/

/-- A group delivery does nothing for what is not one of the five, with a payload, or while a restart is pending. -/
theorem taking_dropped {i : Instr} {act : State → State} (h : Taking f i code act) (hd : s.delivery f = .group)
    (hdrop : groupExecuted i = false ∨ f.payload ≠ [] ∨ s.stc.restartPending = true ∨
      (i = .restart f ∧ s.stc.settings.acceptGroupRestart = false)) : act s = s.received := by
  cases h with
  | command body len five => simp only [command, hd]
  | read body len five => simp only [readCommand, hd]
  | unknown => simp [unknownCode, hd]
  | group body made len five reads =>
    obtain ⟨five, other⟩ := five
    have : ¬(f.payload = [] ∧ s.stc.restartPending = false) := by
      rintro ⟨h1, h2⟩
      rcases hdrop with h | h | h | ⟨h, -⟩
      · rw [five] at h; cases h
      · exact h h1
      · rw [h2] at h; cases h
      · exact other h
    simp only [groupCommand, hd, if_neg this]
  | restart =>
    have : ¬(f.payload = [] ∧ s.received.stc.restartPending = false ∧
        s.received.stc.settings.acceptGroupRestart = true) := by
      rintro ⟨h1, h2, h3⟩
      rcases hdrop with h | h | h | ⟨-, h⟩
      · cases h
      · exact h h1
      · rw [received_stc, h] at h2; cases h2
      · rw [received_stc, h] at h3; cases h3
    simp only [restartCommand, received_delivery, hd, if_neg this]

theorem replies_of_heldLink {s t : State} (h : t.heldLink = s.heldLink) : t.sli.replies = s.sli.replies := congrArg Prod.fst h

/-- What a reset's first events keep of the link. -/
theorem afterReset_heldLink (s : State) : (afterReset s).heldLink = s.heldLink :=
  Event.Kept.afterReset (P := fun t => t.heldLink = s.heldLink) (fine_heldLink s.heldLink).kept (Eq.refl s.heldLink)

theorem restartState_replies (s : State) : (restartState s).sli.replies = s.sli.replies := by
  unfold restartState; dsimp only; split <;> rfl

theorem restartReset_replies (s : State) : (restartReset s).sli.replies = s.sli.replies := by
  rw [restartReset, replies_of_heldLink (afterReset_heldLink (restartState s)), restartState_replies]

theorem restartWait_heldLink (s : State) : (restartWait s).heldLink = s.heldLink :=
  Event.Kept.restartWait (P := fun t => t.heldLink = s.heldLink) (fine_heldLink s.heldLink).kept (Eq.refl s.heldLink)

theorem finish_replies (s : State) : (finish s).sli.replies = s.sli.replies := by
  unfold finish
  split
  · exact restartReset_replies s
  · rfl

/-- No group delivery is answered. -/
theorem taking_group_replies {i : Instr} {act : State → State} (h : Taking f i code act) (hd : s.delivery f = .group) :
    (act s).sli.replies = s.sli.replies := by
  cases h with
  | command body len five => simp only [command, hd]; rfl
  | read body len five => simp only [readCommand, hd]; rfl
  | unknown => simp only [unknownCode, hd, ite_self]; rfl
  | group body made len five reads =>
    simp only [groupCommand, hd]
    split
    · exact replies_of_heldLink (s := s.received) (made.heldLink_eq s.received)
    · rfl
  | restart =>
    simp only [restartCommand, received_delivery, hd]
    split
    · unfold restartAct
      split
      · exact restartReset_replies s.received
      · exact replies_of_heldLink (s := s.received) (restartWait_heldLink s.received)
    · rfl

end Sys2Proof.Machine

/-!
The statements of chapter 11 about the notice queue, acceptance, replies and group deliveries.
-/
namespace Sys2Proof.Machine

/-! ### The notice queue (R205 to R207) -/

/-- The newest element with a property, where there is one, leaves the list. -/
theorem eraseLastP_eq {α : Type} {p : α → Bool} {l : List α} (h : ∃ x ∈ l, p x = true) :
    ∃ pre x post, l = pre ++ x :: post ∧ p x = true ∧ (∀ y ∈ post, p y = false) ∧ eraseLastP p l = pre ++ post := by
  obtain ⟨y, hy, hp⟩ := h
  obtain ⟨x, l₁, l₂, h1, h2, h3, h4⟩ := List.exists_of_eraseP (List.mem_reverse.2 hy) hp
  refine ⟨l₂.reverse, x, l₁.reverse, ?_, h2, fun z hz => by simpa using h1 z (List.mem_reverse.1 hz), ?_⟩
  · rw [← List.reverse_reverse l, h3]; simp
  · rw [eraseLastP, h4]; simp

theorem offer_eq (n : Notice) (s : State) :
    offer n s = { s with sli := { s.sli with
      notices := queueOffer s.sli.notices n
      noticesLost := s.sli.noticesLost || decide (32 ≤ s.sli.notices.length) } } := rfl

theorem queueOffer_of_room {q : List Notice} (h : q.length < 32) (n : Notice) : queueOffer q n = q ++ [n] := if_pos h

theorem queueOffer_of_full {q : List Notice} (h : q.length = 32) (n : Notice) :
    queueOffer q n = if n.kind = .trip ∧ (∃ m ∈ q, m.kind ≠ .trip) then
      eraseLastP (fun m => m.kind ≠ .trip) q ++ [n] else q := by
  rw [queueOffer, if_neg (by rw [h]; decide)]
  simp only [List.any_eq_true, decide_eq_true_eq]

theorem execFetch_of_queue {f : Frame} {s u : State} {p : List Byte} (hd : s.delivery f = .addressed) (hp : f.payload = [])
    (room : s.sli.replies.length < 4) (due : s.noResetDue) (hb : fetchBody s.received = .ok p u.received)
    (hu : u = { s with sli := u.sli }) : exec (.fetch f) s = .next (u.answered 0x70 f p) := by
  have due : u.noResetDue := by rw [hu]; exact due
  exact readCommand_taken hd hp room hb due

/-- Settles O7. -/
theorem noticesAreQueuedAndFetched : Obligations.NoticesAreQueuedAndFetched := by
  unfold Obligations.NoticesAreQueuedAndFetched
  refine ⟨fun n s => ⟨fun room => ?_, fun full => ⟨fun trip other => ?_, fun none => ?_⟩⟩,
    fun f s hd hp room due => ⟨fun n rest hq => ?_, fun hq => ?_⟩⟩
  · rw [offer_eq, queueOffer_of_room room, decide_eq_false (by omega), Bool.or_false]
  · obtain ⟨pre, m, post, hl, hm, hpost, he⟩ :=
      eraseLastP_eq (p := fun m : Notice => decide (m.kind ≠ .trip)) (by simpa using other)
    refine ⟨pre, m, post, hl, by simpa using hm, fun x hx => by simpa using hpost x hx, ?_⟩
    rw [offer_eq, queueOffer_of_full full, if_pos ⟨trip, other⟩, he, decide_eq_true (by omega), Bool.or_true]
  · have : ¬(n.kind = .trip ∧ ∃ m ∈ s.sli.notices, m.kind ≠ .trip) := by
      rintro ⟨h1, m, h2, h3⟩
      exact none.elim (fun h => h h1) fun h => h3 (h m h2)
    rw [offer_eq, queueOffer_of_full full, if_neg this, decide_eq_true (by omega), Bool.or_true]
  · refine execFetch_of_queue hd hp room due ?_ rfl
    have : rest.isEmpty = decide (rest = []) := by cases rest <;> rfl
    simp only [fetchBody, received_sli, hq, List.drop_one, List.tail_cons, List.head?_cons, Option.getD_some, this,
      decide_eq_true_eq]
    rfl
  · refine execFetch_of_queue hd hp room due ?_ rfl
    simp only [fetchBody, received_sli, hq, List.drop_nil, List.head?_nil, Option.getD_none]
    rfl

/-! ### Acceptance and replies (R197, R200, R202) -/

theorem addressed_accept_form {length : List Byte → Nat} {b : Bool} {body : List Byte → State → Answer} {code : Byte} {f : Frame}
    {s : State} (room : s.sli.replies.length < 4) (hl : f.payload.length ≠ length f.payload) :
    addressed code (accept length b body f) f s.received = s.replied code f .refusedForm 65535 [] :=
  addressed_of_refuse room (by simp [accept, hl, Config.noDetail])

theorem addressed_accept_pending {length : List Byte → Nat} {body : List Byte → State → Answer} {code : Byte} {f : Frame}
    {s : State} (room : s.sli.replies.length < 4) (hl : f.payload.length = length f.payload)
    (pending : s.stc.restartPending = true) :
    addressed code (accept length false body f) f s.received = s.replied code f .refusedState 65535 [] :=
  addressed_of_refuse room (by simp [accept, hl, pending, Config.noDetail])

/-- A RESTART that is not taken is answered like any command. -/
theorem restartCommand_untaken {f : Frame} {s : State} (hd : s.delivery f = .addressed)
    (h : f.payload ≠ [] ∨ s.stc.restartPending = true ∨ 4 ≤ s.sli.replies.length) :
    restartCommand f s = addressed 0x07
      (accept (fun _ => 0) false (fun _ s => .done (if s.allAtRest then s else restartWait s)) f) f s.received := by
  have : ¬((decide (f.payload = []) && !s.stc.restartPending && decide (s.sli.replies.length < Config.replyCap)) = true ∧
      s.received.allAtRest = true) := by
    rintro ⟨h1, -⟩
    simp only [Config.replyCap, Bool.and_eq_true, decide_eq_true_eq, Bool.not_eq_true'] at h1
    rcases h with h | h | h
    · exact h h1.1.1
    · rw [h1.1.2] at h; cases h
    · exact absurd (of_decide_eq_true h1.2) (Nat.not_lt.2 h)
  simp only [restartCommand, received_delivery, hd, received_stc, received_sli]
  exact if_neg this

/-- An addressed frame of the wrong length (R200). -/
theorem taking_wrongLength {i : Instr} {code : Byte} {f : Frame} {act : State → State} {s : State} (h : Taking f i code act)
    (hd : s.delivery f = .addressed) (room : s.sli.replies.length < 4) {n : Nat} (hn : requestLength i = some n)
    (hl : f.payload.length ≠ n) : act s = s.replied code f .refusedForm 65535 [] := by
  cases h with
  | command body len =>
    rw [len] at hn; cases hn
    simp only [command, hd]; exact addressed_accept_form room hl
  | group body made len =>
    rw [len] at hn; cases hn
    simp only [groupCommand, hd]; exact addressed_accept_form room hl
  | read body len =>
    rw [len] at hn; cases hn
    simp only [readCommand, hd]; exact addressed_accept_form room hl
  | restart =>
    cases hn
    rw [restartCommand_untaken hd (.inl (by simpa using hl))]
    exact addressed_accept_form room hl
  | unknown => cases hn

/-- An addressed frame of the right length while a restart is pending (R200). -/
theorem taking_pending {i : Instr} {code : Byte} {f : Frame} {act : State → State} {s : State} (h : Taking f i code act)
    (hd : s.delivery f = .addressed) (room : s.sli.replies.length < 4) (hl : requestLength i = some f.payload.length)
    (pending : s.stc.restartPending = true) (hs : i ≠ .status f) (hf : i ≠ .fetch f) :
    act s = s.replied code f .refusedState 65535 [] := by
  cases h with
  | command body len =>
    rw [len] at hl
    simp only [command, hd]; exact addressed_accept_pending room (Option.some.inj hl).symm pending
  | group body made len =>
    rw [len] at hl
    simp only [groupCommand, hd]; exact addressed_accept_pending room (Option.some.inj hl).symm pending
  | read body len five reads => exact (reads.elim hs hf).elim
  | restart =>
    rw [restartCommand_untaken hd (.inr (.inl pending))]
    exact addressed_accept_pending room (Option.some.inj hl).symm pending
  | unknown => cases hl

theorem unknownCode_addressed {code : Byte} {f : Frame} {s : State} (hd : s.delivery f = .addressed)
    (hc : catalogue.contains code.toNat = false) :
    unknownCode code f s = addressed code (fun _ => .refuse .refusedForm Config.noDetail) f s.received := by
  rw [unknownCode, hc, if_neg (by decide), hd]

/-- An addressed frame that finds four replies held (R202). -/
theorem taking_full {i : Instr} {code : Byte} {f : Frame} {act : State → State} {s : State} (h : Taking f i code act)
    (hd : s.delivery f = .addressed) (full : 4 ≤ s.sli.replies.length)
    (hi : requestLength i ≠ none ∨ catalogue.contains code.toNat = false) :
    act s = { s with sli := { s.sli with rx := [], linkErrors := min (s.sli.linkErrors + 1) 65535 } } := by
  cases h with
  | command => simp only [command, hd]; exact addressed_of_full full
  | group => simp only [groupCommand, hd]; exact addressed_of_full full
  | read => simp only [readCommand, hd]; exact addressed_of_full full
  | restart => rw [restartCommand_untaken hd (.inr (.inr full))]; exact addressed_of_full full
  | unknown =>
    have hc : catalogue.contains code.toNat = false := hi.elim (fun h => (h rfl).elim) id
    rw [unknownCode_addressed hd hc]; exact addressed_of_full full

/-- Settles O6. -/
theorem commandsAreAcceptedAndRepliesLeave : Obligations.CommandsAreAcceptedAndRepliesLeave := by
  unfold Obligations.CommandsAreAcceptedAndRepliesLeave
  refine ⟨fun i code f s hi hd due => ?_, fun s r rest due hr => ?_, fun n => ?_⟩
  · obtain ⟨act, taking, run⟩ := taking_of_frameOf hi
    refine ⟨fun room => ⟨fun n hn hl => ?_, fun hc => ?_, fun hl pending hs hf => ?_⟩, fun full hc => ?_⟩
    · rw [run, taking_wrongLength taking hd room hn hl]
      exact stepDone_of_noResetDue (noResetDue_replied due)
    · show stepDone (unknownCode code f s) = _
      rw [unknownCode_addressed hd hc, addressed_of_refuse room rfl]
      exact stepDone_of_noResetDue (noResetDue_replied due)
    · rw [run, taking_pending taking hd room hl pending hs hf]
      exact stepDone_of_noResetDue (noResetDue_replied due)
    · rw [run, taking_full taking hd full hc]
      exact stepDone_of_noResetDue (s := { s with sli := _ }) due
  · show stepDone (replyDone s) = _
    rw [replyDone, hr]
    exact stepDone_of_noResetDue (s := { s with clock := _, sli := _ }) due
  · unfold sendTime; omega

end Sys2Proof.Machine

/-!
Group deliveries of the five commands, and RESTART by group and by address (R10, R11, R199).
-/
namespace Sys2Proof.Machine

theorem outer_restartPending {s t : State} (h : t.outer = s.outer) : t.stc.restartPending = s.stc.restartPending :=
  congrArg (fun x => x.2.2.2.2.2.2.2.2.1.2.2.2.1) h

theorem rx_of_heldLink {s t : State} (h : t.heldLink = s.heldLink) : t.sli.rx = s.sli.rx :=
  congrArg (fun x => x.2.2.2) h

/-- A receiver that hunts is not changed by the end of a frame. -/
theorem received_of_rx {t : State} (h : t.sli.rx = []) : t.received = t := by
  show { t with sli := { t.sli with rx := [] } } = t
  rw [← h]

/-! ### The outer blocks under the five commands -/

theorem haltAct_outer (s : State) : (haltAct s).outer = s.outer := by simp [haltAct]

theorem goAct_outer (s : State) : (goAct s).outer = s.outer := by
  unfold goAct
  split
  · dsimp only; split <;> simp
  · rfl

theorem restartWait_stc (s : State) : (restartWait s).stc = { s.stc with restartPending := true } := by
  have off (a : Fin 8) (s : State) : (actOff a .restart s).stc = s.stc := by
    unfold actOff
    split
    · exact setActState_stc ..
    · exact setActState_stc ..
    · exact setActState_stc ..
    · exact setActState_stc ..
    · rfl
    · rfl
    · rfl
  have flushed (s : State) : (flush s).stc = s.stc := by
    unfold flush
    refine (foldl_same State.stc (fun s c => ?_) _ _).trans
      (foldl_same (f := fun s n => offer n s) State.stc (fun _ _ => rfl) _ { s with ev := _ })
    unfold lower
    split
    · rw [merge_stc]; rfl
    · rfl
  rw [restartWait, flushed]
  exact forAsc_same State.stc off _

/-! ### A group delivery and an addressed frame do the same (R199) -/

section

variable {f g : Frame} {s u : State}

/-- One of the five, by group and by address. -/
theorem groupCommand_both {code : Byte} {body : State → Answer} {p : List Byte} (tf : s.takesByGroup f) (tg : s.takes g 0)
    (made : Event.Made fun s => (body s).after s) (hb : body s.received = .ok p u) (keep : u.outer = s.received.outer) :
    stepDone (groupCommand code body f s) = .next u ∧
      stepDone (groupCommand code body g s) = .next (u.answered code g p) := by
  have pending : u.stc.restartPending = false := (outer_restartPending keep).trans tg.2.2.1
  have hunts : u.received = u := by
    have := made.heldLink_eq s.received
    rw [hb] at this
    exact received_of_rx (rx_of_heldLink (s := s.received) this)
  constructor
  · rw [groupCommand_of_group tf, hb]
    exact stepDone_of_noResetDue (.inl pending)
  · exact groupCommand_taken tg (hb.trans (by rw [hunts]; rfl)) pending

/-- RESTART delivered to a group that accepts it. -/
theorem restartCommand_of_group (tf : s.takesByGroup f) (accepts : s.stc.settings.acceptGroupRestart = true) :
    restartCommand f s = restartAct s.received := by
  obtain ⟨h1, h2, h3⟩ := tf
  simp only [restartCommand, received_delivery, h1, received_stc, h2, h3, accepts, and_self, if_true]

/-- RESTART addressed to the station: its reply is formed before the reset. -/
theorem restartCommand_of_takes (tg : s.takes g 0)
    (hb : (if s.received.allAtRest then s.received else restartWait s.received) = u.received) :
    restartCommand g s = if s.allAtRest = true then restartReset (u.answered 0x07 g []) else u.answered 0x07 g [] := by
  obtain ⟨h1, h2, h3, h4⟩ := tg
  have hp : g.payload = [] := List.eq_nil_of_length_eq_zero h2
  have ha : addressed 0x07 (accept (fun _ => 0) false
      (fun _ s => .done (if s.allAtRest then s else restartWait s)) g) g s.received = u.answered 0x07 g [] :=
    addressed_of_take h4 (by simp only [accept, hp, List.length_nil, received_stc, h3, Answer.done, Answer.ok, hb]; rfl)
  have ht : (decide (g.payload = []) && !s.stc.restartPending && decide (s.sli.replies.length < Config.replyCap)) = true := by
    rw [hp, h3, decide_eq_true (show s.sli.replies.length < Config.replyCap from h4)]; rfl
  have hr : s.received.allAtRest = s.allAtRest := rfl
  simp only [restartCommand, received_delivery, h1, received_stc, received_sli, ha, hr]
  exact if_congr ⟨fun h => h.2, fun h => ⟨ht, h⟩⟩ rfl rfl

end

/-! ### Loaded actuators and a RESTART (R10) -/

/-- What the internal unload of a RESTART makes of the states. -/
theorem actOff_state (a : Fin 8) (c : ActCause) (s : State) (b : Fin 8) : ((actOff a c s).act b).state =
    if a = b then (match (s.act b).state with
      | .starting | .low | .raising => .off
      | .active => .unloading
      | .off => .off
      | .unloading => .unloading
      | .tripped => .tripped) else (s.act b).state := by
  by_cases e : a = b
  · subst e
    rw [if_pos rfl, actOff]
    cases h : (s.act a).state
    case active =>
      rw [(sameStates_unloading a true c s).state, setActState_state, if_pos rfl]
    case unloading => simp [h]
    case off | tripped => exact h
    case starting | low | raising => exact (setActState_state ..).trans (if_pos rfl)
  · rw [if_neg e, actOff]
    cases h : (s.act a).state
    case active =>
      rw [(sameStates_unloading a true c s).state, setActState_state, if_neg e]
    case unloading => rw [State.modAct_act_other _ _ e]
    case off | tripped => rfl
    case starting | low | raising => exact (setActState_state ..).trans (if_neg e)

theorem restartWait_state (s : State) (a : Fin 8) : ((restartWait s).act a).state =
    match (s.act a).state with
    | .starting | .low | .raising => .off
    | .active => .unloading
    | .off => .off
    | .unloading => .unloading
    | .tripped => .tripped := by
  have walk (l : List (Fin 8)) (hl : l.Nodup) (t : State) :
      ((l.foldl (fun s a => actOff a .restart s) t).act a).state =
        if a ∈ l then (match (t.act a).state with
          | .starting | .low | .raising => .off
          | .active => .unloading
          | .off => .off
          | .unloading => .unloading
          | .tripped => .tripped) else (t.act a).state := by
    induction l generalizing t with
    | nil => rfl
    | cons b l ih =>
      obtain ⟨hb, hl⟩ := List.nodup_cons.1 hl
      rw [List.foldl_cons, ih hl, actOff_state]
      by_cases e : b = a
      · subst e; simp [hb]
      · have : a ≠ b := fun h => e h.symm
        simp [e, this]
  rw [restartWait, (sameStates_flush _).state a, forAsc, walk _ (List.nodup_finRange 8), if_pos (List.mem_finRange a)]
  rfl

theorem allAtRest_iff (s : State) : s.allAtRest = true ↔ ∀ a, (s.act a).state = .off ∨ (s.act a).state = .tripped := by
  unfold State.allAtRest
  simp only [List.all_eq_true, List.mem_finRange, true_imp_iff]
  refine forall_congr' fun a => ?_
  cases (s.act a).state <;> simp [ActState.atRest]

/-- After the internal unload all are at rest unless one was ACTIVE or UNLOADING. -/
theorem allAtRest_restartWait (s : State) :
    (restartWait s).allAtRest = true ↔ ¬∃ a : Fin 8, (s.act a).state = .active ∨ (s.act a).state = .unloading := by
  rw [allAtRest_iff, not_exists]
  refine forall_congr' fun a => ?_
  rw [restartWait_state]
  cases (s.act a).state <;> simp

theorem setTo_restartPending (c : Cond) (b : Bool) (s : State) : (setTo c b s).stc.restartPending = s.stc.restartPending :=
  outer_restartPending (setTo_outer c b s)

theorem senseContact_restartPending (x : Fin 16) (s : State) :
    (senseContact x s).stc.restartPending = s.stc.restartPending := by
  unfold senseContact judgeAux
  split
  · rw [setTo_restartPending]; rfl
  · rfl

theorem afterReset_restartPending (s : State) : (afterReset s).stc.restartPending = s.stc.restartPending := by
  have looped (t : State) : (if t.stc.haltOpen then raise .haltLoop t else t).stc.restartPending = t.stc.restartPending := by
    split
    · exact outer_restartPending (raise_outer .haltLoop t)
    · rfl
  have sensed (t : State) : (forAsc 16 senseContact t).stc.restartPending = t.stc.restartPending :=
    forAsc_same (fun t => t.stc.restartPending) senseContact_restartPending t
  rw [afterReset, sensed, looped]
  rfl

theorem restartState_restartPending (s : State) : (restartState s).stc.restartPending = false := by
  unfold restartState; dsimp only; split <;> rfl

/-- Once the reset of a RESTART is made, none is due. -/
theorem noResetDue_restartReset (s : State) : (restartReset s).noResetDue := by
  have h : (restartReset s).stc.restartPending = false := by
    rw [restartReset, afterReset_restartPending, restartState_restartPending]
  exact .inl h

/-- Settles O5. -/
theorem groupDeliveriesExecuteFiveCommands : Obligations.GroupDeliveriesExecuteFiveCommands := by
  unfold Obligations.GroupDeliveriesExecuteFiveCommands
  refine ⟨fun i code f s t hi hd run => ?_, fun i code f s hi hd due hdrop => ?_, fun f g s tf tg => ?_,
    fun f g s tf tg accepts => ?_⟩
  · obtain ⟨act, taking, h⟩ := taking_of_frameOf hi
    rw [h] at run
    cases run
    exact (finish_replies _).trans (taking_group_replies taking hd)
  · obtain ⟨act, taking, h⟩ := taking_of_frameOf hi
    rw [h, taking_dropped taking hd hdrop]
    exact stepDone_of_noResetDue (s := s.received) due
  · exact ⟨⟨_, groupCommand_both tf tg Event.made_haltAct rfl (haltAct_outer _)⟩,
      ⟨_, groupCommand_both tf tg Event.made_goAct rfl (goAct_outer _)⟩,
      ⟨_, _, groupCommand_both tf tg Event.made_hold rfl (by simp)⟩,
      ⟨_, _, groupCommand_both tf tg Event.made_resume rfl (by simp)⟩⟩
  · obtain ⟨u, hu⟩ : ∃ u, u = if s.received.allAtRest then s.received else restartWait s.received := ⟨_, rfl⟩
    have link : u.heldLink = s.received.heldLink := by
      rw [hu]
      split
      · rfl
      · exact restartWait_heldLink s.received
    have hunts : u.received = u := received_of_rx (rx_of_heldLink (s := s.received) link)
    have hg := restartCommand_of_takes tg (hu.symm.trans hunts.symm)
    have hf := restartCommand_of_group tf accepts
    refine ⟨u, replies_of_heldLink (s := s.received) link, fun rest => hu.trans (if_pos rest), ?_⟩
    show (if _ then _ ∧ stepDone (restartCommand f s) = _ ∧ stepDone (restartCommand g s) = _
      else stepDone (restartCommand f s) = _ ∧ stepDone (restartCommand g s) = _)
    rw [hf, hg]
    by_cases rest : s.allAtRest = true
    · have none : ¬∃ a : Fin 8, (s.act a).state = .active ∨ (s.act a).state = .unloading := by
        rintro ⟨a, ha⟩
        rcases (allAtRest_iff s).1 rest a with h | h <;> simp [h] at ha
      have hu : u = s.received := hu.trans (if_pos rest)
      rw [if_neg none, if_pos rest, restartAct, if_pos (show s.received.allAtRest = true from rest), ← hu]
      exact ⟨stepDone_of_noResetDue (noResetDue_restartReset _), stepDone_of_noResetDue (noResetDue_restartReset _)⟩
    · have hu : u = restartWait s.received := hu.trans (if_neg rest)
      have stc : u.stc = { s.stc with restartPending := true } := by rw [hu, restartWait_stc]; rfl
      have pending : u.stc.restartPending = true := by rw [stc]
      have resting : u.allAtRest = true ↔
          ¬∃ a : Fin 8, (s.act a).state = .active ∨ (s.act a).state = .unloading := by
        rw [hu]; exact allAtRest_restartWait s.received
      rw [if_neg rest, restartAct, if_neg (show ¬s.received.allAtRest = true from rest), ← hu]
      by_cases loaded : ∃ a : Fin 8, (s.act a).state = .active ∨ (s.act a).state = .unloading
      · have due : u.noResetDue := .inr (by simpa using mt resting.1 (not_not.2 loaded))
        rw [if_pos loaded]
        exact ⟨stc, stepDone_of_noResetDue due, stepDone_of_noResetDue (noResetDue_replied due)⟩
      · have now := resting.2 loaded
        have reset (t : State) (h1 : t.stc.restartPending = true) (h2 : t.allAtRest = true) :
            stepDone t = .next (restartReset t) := by rw [stepDone, finish, if_pos ⟨h1, h2⟩]
        rw [if_neg loaded]
        exact ⟨reset u pending now, reset (u.answered 0x07 g []) pending now⟩

end Sys2Proof.Machine

/-!
The receiver: how the bytes of a frame are held, and how a frame ends (R196, R197, R202, R211).
-/
namespace Sys2Proof.Machine

/-! ### Frames that are not whole, and whole ones (R196, R211) -/

/-- The bytes of a frame after its marker. -/
def afterMarker (code : Byte) (f : Frame) (hi lo : Byte) : List Byte := frameBody code f ++ [hi, lo]

theorem afterMarker_length (code : Byte) (f : Frame) (hi lo : Byte) :
    (afterMarker code f hi lo).length = f.payload.length + 7 := by
  simp [afterMarker, frameBody]

theorem lengthByte {n : Nat} (h : n ≤ 240) : (BitVec.ofNat 8 n).toNat = n := by
  rw [BitVec.toNat_ofNat]; omega

/-- A frame is not whole while a byte of it is missing. -/
theorem readFrame_take {code : Byte} {f : Frame} {hi lo : Byte} (hl : f.payload.length ≤ 240) {k : Nat}
    (hk : k < f.payload.length + 7) : readFrame ((afterMarker code f hi lo).take k) = none := by
  match k with
  | 0 | 1 | 2 | 3 | 4 => rfl
  | n + 5 =>
    have ht : (afterMarker code f hi lo).take (n + 5) = f.dst :: f.src :: code :: f.tag ::
        BitVec.ofNat 8 f.payload.length :: (f.payload ++ [hi, lo]).take n := rfl
    rw [ht, readFrame, lengthByte hl, if_neg (by omega), if_pos]
    rw [List.length_take, List.length_append]
    simp only [List.length_cons, List.length_nil]
    omega

/-- A whole frame is sound or not by its CRC. -/
theorem readFrame_whole {code : Byte} {f : Frame} {hi lo : Byte} (hl : f.payload.length ≤ 240) :
    readFrame (afterMarker code f hi lo) =
      some (if hi ++ lo = crc16 (frameBody code f) then .whole code f else .badCrc) := by
  have hb : afterMarker code f hi lo = f.dst :: f.src :: code :: f.tag ::
      BitVec.ofNat 8 f.payload.length :: (f.payload ++ [hi, lo]) := rfl
  have ht : (f.payload ++ [hi, lo]).take f.payload.length = f.payload := by simp
  have h1 : (f.payload ++ [hi, lo]).getD f.payload.length 0 = hi := by simp
  have h2 : (f.payload ++ [hi, lo]).getD (f.payload.length + 1) 0 = lo := by simp
  rw [hb, readFrame, lengthByte hl, if_neg (by omega), if_neg (by simp), ht, h1, h2]
  exact (apply_ite some _ _ _).symm

/-! ### Bytes after a marker (R196) -/

theorem takeBytes_cons (held : List Byte) (b : Byte) (l : List Byte) :
    takeBytes held (b :: l) = ((takeBytes (takeByte held b).1 l).1,
      (takeByte held b).2.toList ++ (takeBytes (takeByte held b).1 l).2) := rfl

/-- While the frame is not whole its bytes are held. -/
theorem takeBytes_held (a b : Byte) (m : List Byte) : ∀ pre : List Byte,
    (∀ k, 0 < k → k ≤ m.length → readFrame (pre ++ m.take k) = none) →
    takeBytes (a :: b :: pre) m = (a :: b :: (pre ++ m), []) := by
  induction m with
  | nil => intro pre _; rw [List.append_nil]; rfl
  | cons c m ih =>
    intro pre h
    have first : readFrame (pre ++ [c]) = none := h 1 (by omega) (by simp)
    have hc : takeByte (a :: b :: pre) c = (a :: b :: (pre ++ [c]), none) := by simp [takeByte, first]
    have rest := ih (pre ++ [c]) fun k hk hm => by
      have := h (k + 1) (by omega) (by simpa using hm)
      simpa using this
    rw [takeBytes_cons, hc, rest]
    simp

/-- The byte that makes the frame whole ends it. -/
theorem takeBytes_ends (a b : Byte) {l : List Byte} {x : FrameEnd} (h : readFrame l = some x)
    (short : ∀ k < l.length, readFrame (l.take k) = none) : takeBytes [a, b] l = ([], [x]) := by
  rcases List.eq_nil_or_concat l with rfl | ⟨m, c, rfl⟩
  · cases h
  · rw [List.concat_eq_append] at h short ⊢
    have held := takeBytes_held a b m [] fun k _ hk => by
      have := short k (by simp; omega)
      rwa [List.take_append_of_le_length hk] at this
    rw [takeBytes_append, held, List.nil_append, takeBytes_cons]
    simp [takeByte, h, takeBytes]

/-- A hunting receiver, or one that holds a lone C5h, takes the marker. -/
theorem takeBytes_marker {held : List Byte} (h : held.length ≤ 1) (l : List Byte) :
    takeBytes held (0xC5#8 :: 0x3A#8 :: l) = takeBytes [0xC5#8, 0x3A#8] l := by
  match held, h with
  | [], _ => rfl
  | [_], _ => rfl

theorem takeBytes_frame {held : List Byte} (h : held.length ≤ 1) {code : Byte} {f : Frame} (hi lo : Byte)
    (hl : f.payload.length ≤ 240) : takeBytes held (0xC5#8 :: 0x3A#8 :: afterMarker code f hi lo) =
      ([], [if hi ++ lo = crc16 (frameBody code f) then .whole code f else .badCrc]) := by
  rw [takeBytes_marker h]
  refine takeBytes_ends _ _ (readFrame_whole hl) fun k hk => ?_
  rw [afterMarker_length] at hk
  exact readFrame_take hl hk

theorem extract_append (x : BitVec 16) : x.extractLsb' 8 8 ++ x.extractLsb' 0 8 = x := by
  apply BitVec.eq_of_getLsbD_eq
  intro i hi
  rw [BitVec.getLsbD_append]
  by_cases h : i < 8
  · simp [h]
  · have : i - 8 < 8 := by omega
    simp [h, this]
    congr 1; omega

theorem encodeFrame_eq (code : Byte) (f : Frame) : encodeFrame code f = 0xC5#8 :: 0x3A#8 ::
    afterMarker code f ((crc16 (frameBody code f)).extractLsb' 8 8) ((crc16 (frameBody code f)).extractLsb' 0 8) := rfl

/-- A sound frame is received. -/
theorem takeBytes_encodeFrame {held : List Byte} (h : held.length ≤ 1) {code : Byte} {f : Frame}
    (hl : f.payload.length ≤ 240) : takeBytes held (encodeFrame code f) = ([], [.whole code f]) := by
  rw [encodeFrame_eq, takeBytes_frame h _ _ hl, if_pos (extract_append _)]

/-- The first bytes of a sound frame are held. -/
theorem takeBytes_take_encodeFrame {code : Byte} {f : Frame} (hl : f.payload.length ≤ 240) {k : Nat} (h2 : 2 ≤ k)
    (hk : k < (encodeFrame code f).length) :
    takeBytes [] ((encodeFrame code f).take k) = ((encodeFrame code f).take k, []) := by
  obtain ⟨n, rfl⟩ : ∃ n, k = n + 2 := ⟨k - 2, by omega⟩
  rw [encodeFrame_eq] at hk ⊢
  simp only [List.length_cons, afterMarker_length] at hk
  rw [List.take_succ_cons, List.take_succ_cons, takeBytes_marker (by simp)]
  refine takeBytes_held _ _ _ [] fun j hj hm => ?_
  rw [List.nil_append, List.take_take]
  exact readFrame_take hl (by omega)

theorem takeBytes_junk {junk : List Byte} (h : 0xC5#8 ∉ junk) : takeBytes [] junk = ([], []) := by
  induction junk with
  | nil => rfl
  | cons b l ih =>
    rw [List.mem_cons, not_or] at h
    have hb : takeByte [] b = ([], none) := by simp [takeByte, Ne.symm h.1]
    rw [takeBytes_cons, hb, ih h.2]
    rfl

theorem takeBytes_badLength (dst src code tag : Byte) {length : Byte} (h : 240 < length.toNat) :
    takeBytes [] [0xC5#8, 0x3A#8, dst, src, code, tag, length] = ([], [.badLength]) := by
  rw [takeBytes_marker (by simp)]
  refine takeBytes_ends _ _ (by simp [readFrame, h]) fun k hk => ?_
  match k, hk with
  | 0, _ | 1, _ | 2, _ | 3, _ | 4, _ => rfl

/-! ### Link errors (R197) -/

/-- The error count after n more errors: it saturates, and with no error it stays. -/
def errorsAfter (count n : Nat) : Nat := if n = 0 then count else min (count + n) 65535

theorem countLinkErrors_errorsAfter {α : Type} (l : List α) (s : State) :
    l.foldl (fun s _ => countLinkError s) s =
      { s with sli := { s.sli with linkErrors := errorsAfter s.sli.linkErrors l.length } } := by
  cases l with
  | nil => rfl
  | cons x l =>
    rw [List.foldl_cons, countLinkErrors_eq _ _ (by rw [countLinkError_eq]; exact Nat.min_le_right _ _), countLinkError_eq]
    have : min 65535 (min (s.sli.linkErrors + 1) 65535 + l.length) = errorsAfter s.sli.linkErrors (x :: l).length := by
      rw [errorsAfter, if_neg (by simp), List.length_cons]; omega
    simp only [State.modLink, this]

theorem failed_eq (x : FrameEnd) : x.failed = decide (x = .badLength ∨ x = .badCrc) := by
  cases x <;> simp [FrameEnd.failed]

theorem receiveBytes_of_takeBytes {s : State} {bytes held : List Byte} {ends : List FrameEnd}
    (h : takeBytes s.sli.rx bytes = (held, ends)) :
    receiveBytes bytes s = { s with sli := { s.sli with
      rx := held
      linkErrors := errorsAfter s.sli.linkErrors (ends.filter fun x => x = .badLength ∨ x = .badCrc).length } } := by
  have hf : ends.filter FrameEnd.failed = ends.filter fun x => x = .badLength ∨ x = .badCrc :=
    List.filter_congr fun x _ => failed_eq x
  rw [receiveBytes, h, countLinkErrors_errorsAfter, hf]
  rfl

theorem spacingTimeout_eq (s : State) : spacingTimeout s = { s with sli := { s.sli with
    rx := if 2 ≤ s.sli.rx.length then [] else s.sli.rx
    linkErrors := errorsAfter s.sli.linkErrors (if 2 ≤ s.sli.rx.length then 1 else 0) } } := by
  unfold spacingTimeout
  split
  · rw [countLinkError_eq]; rfl
  · rfl

theorem errorsAfter_errorsAfter (count n m : Nat) (h : m ≤ 1) :
    errorsAfter (errorsAfter count n) m = errorsAfter count (n + m) := by
  unfold errorsAfter
  split <;> split <;> split <;> omega

/-- Settles O3. -/
theorem framesAreReceived : Obligations.FramesAreReceived := by
  unfold Obligations.FramesAreReceived
  refine ⟨fun i code f held hi hw hl => ?_, fun _ => takeBytes_junk, fun b => ?_,
    fun dst src code tag length => takeBytes_badLength dst src code tag, fun code f hi lo hl hc => ?_,
    fun code f k hl => takeBytes_take_encodeFrame hl, fun s bytes held ends due ht => ?_, fun s r hl => ⟨⟨_, _, rfl⟩, ?_⟩⟩
  · simp only [Instr.wf, hi, frameWf, Bool.and_eq_true, decide_eq_true_eq] at hw
    exact ⟨by rw [encodeCommand, hi]; rfl, hw.2, takeBytes_encodeFrame hl hw.1⟩
  · rw [takeBytes_cons]
    by_cases h1 : b = 0x3A#8
    · subst h1; rfl
    · by_cases h2 : b = 0xC5#8
      · subst h2; rfl
      · simp [takeByte, h1, h2, takeBytes]
  · rw [show 0xC5#8 :: 0x3A#8 :: (frameBody code f ++ [hi, lo]) = 0xC5#8 :: 0x3A#8 :: afterMarker code f hi lo from rfl,
      takeBytes_frame (by simp) hi lo hl, if_neg hc]
  · have received := receiveBytes_of_takeBytes ht
    refine ⟨?_, ?_⟩
    · show stepDone (receiveBytes bytes s) = _
      rw [received]
      exact stepDone_of_noResetDue (s := { s with sli := _ }) due
    · show stepDone (spacingTimeout (receiveBytes bytes s)) = _
      rw [received, spacingTimeout_eq]
      dsimp only
      rw [errorsAfter_errorsAfter _ _ _ (by split <;> omega)]
      exact stepDone_of_noResetDue (s := { s with sli := _ }) due
  · exact takeBytes_encodeFrame (by simp) hl

end Sys2Proof.Machine

/-!
The sequencer's changes of state as the statements spell them: the sequencer each leaves, and the SEQ_STATE notices it
forms (R26, R29, R30, R41 to R46).
-/
namespace Sys2Proof.Machine

/-! ### Notices that an event has formed (R74, R205) -/

theorem noted_append (s : State) (l m : List Notice) : s.noted (l ++ m) = (s.noted l).noted m := List.foldl_append

theorem noted_ev (s : State) (l : List Notice) : (s.noted l).ev = s.ev :=
  foldl_same State.ev (f := fun t n => offer n t) (fun _ _ => rfl) l s

/-- With SEQ_STATE notices alone waiting, the end of the event queues them. -/
theorem flush_of_seqs {t : State} {l : List Notice} (h : t.ev = { seqs := l }) :
    flush t = ({ t with ev := {} } : State).noted l := by
  have queued : flushNotices t = ({ t with ev := {} } : State).noted l := by
    unfold flushNotices; rw [h]; rfl
  have e : (({ t with ev := {} } : State).noted l).ev = {} := noted_ev _ l
  unfold flush
  rw [queued]
  generalize ({ t with ev := {} } : State).noted l = u at e
  show u.ev.lowers.foldl (fun s c => lower c s) { u with ev := { u.ev with lowers := [] } } = u
  rw [e]
  show { u with ev := {} } = u
  rw [← e]

theorem flush_withPlan {s : State} (h : s.ev = {}) (q : Sequencer) (l : List Notice) :
    flush (s.withPlan q l) = ({ s with psq := q } : State).noted l := by
  rw [flush_of_seqs (t := s.withPlan q l) (l := l) (by simp only [State.withPlan, h])]
  show ({ s with psq := q, ev := {} } : State).noted l = _
  rw [← h]

/-- The same where nothing was waiting before the change. -/
theorem flush_withPlan_append {s : State} (h : s.ev = {}) (q : Sequencer) (l : List Notice) :
    flush (s.withPlan q (s.ev.seqs ++ l)) = ({ s with psq := q } : State).noted l := by
  have : s.ev.seqs ++ l = l := by rw [h]; rfl
  rw [this, flush_withPlan h]

theorem flush_withPlan_seqs {s : State} (h : s.ev = {}) (q : Sequencer) :
    flush (s.withPlan q s.ev.seqs) = { s with psq := q } := by
  have : s.ev.seqs = [] := by rw [h]
  rw [this]
  exact flush_withPlan h q []

theorem HoldSet.code_eq_bits (h : HoldSet) : h.code = h.bits := by
  obtain ⟨a, b, c, d, e⟩ := h
  cases a <;> cases b <;> cases c <;> cases d <;> cases e <;> rfl

/-! ### Changes of state (R26) -/

variable (s : State)

theorem seqNotice_eq (prev : SeqState) (s : State) :
    seqNotice prev s = s.withPlan s.psq (s.ev.seqs ++ [s.psq.note s.time prev]) := by
  simp only [seqNotice, State.notice, HoldSet.code_eq_bits]
  rfl

theorem seqChange_eq (f : Sequencer → Sequencer) :
    seqChange f s = s.withPlan (f s.psq) (s.ev.seqs ++ [(f s.psq).note s.time s.psq.state]) := by
  rw [seqChange, seqNotice_eq]; rfl

@[simp] theorem withPlan_psq (q : Sequencer) (l : List Notice) : (s.withPlan q l).psq = q := rfl
@[simp] theorem withPlan_seqs (q : Sequencer) (l : List Notice) : (s.withPlan q l).ev.seqs = l := rfl
@[simp] theorem withPlan_time (q : Sequencer) (l : List Notice) : (s.withPlan q l).time = s.time := rfl
@[simp] theorem withPlan_withPlan (q r : Sequencer) (l m : List Notice) : (s.withPlan q l).withPlan r m = s.withPlan r m := rfl
@[simp] theorem modSeq_withPlan (q : Sequencer) (l : List Notice) (f : Sequencer → Sequencer) :
    (s.withPlan q l).modSeq f = s.withPlan (f q) l := rfl

theorem modSeq_eq (f : Sequencer → Sequencer) : s.modSeq f = s.withPlan (f s.psq) s.ev.seqs := rfl

/-- M of R43: the samples a pause from the present amplitude takes. -/
def Sequencer.pauseLength (q : Sequencer) : Nat :=
  if q.amplitude = 0 then 0 else (roundDiv ((q.taper * q.amp : Nat) : Int) (q.amplitude : Nat)).toNat

/-- PAUSING begins (R43). -/
def Sequencer.pausing (q : Sequencer) : Sequencer :=
  { q with state := .pausing, pauseAmp := q.amp, ctr := 0, ctrEnd := q.pauseLength, peaks := Vector.replicate 8 none }

theorem Sequencer.stopped_of_level {q : Sequencer} (h : q.activity.isWave = false) :
    q.stopped = { q with state := .holding } := by
  rw [Sequencer.stopped, if_neg (by rw [h]; decide)]

theorem Sequencer.stopped_of_pause {q : Sequencer} (h : q.activity.isWave = true) (hm : q.pauseLength ≠ 0) :
    q.stopped = q.pausing := by
  rw [Sequencer.stopped, if_pos h]; exact if_neg hm

theorem Sequencer.stopped_of_no_pause {q : Sequencer} (h : q.activity.isWave = true) (hm : q.pauseLength = 0) :
    q.stopped = { q.pausing with state := .holding, amp := 0 } := by
  rw [Sequencer.stopped, if_pos h, Sequencer.pausing, hm]; exact if_pos hm

theorem Sequencer.stopNotes_of_level {q : Sequencer} (h : q.activity.isWave = false) (time : Nat) :
    q.stopNotes time = [({ q with state := .holding } : Sequencer).note time .running] := by
  rw [Sequencer.stopNotes, Sequencer.stopped_of_level h]
  exact if_neg fun hh => by rw [h] at hh; exact nomatch hh.2

theorem Sequencer.stopNotes_of_pause {q : Sequencer} (h : q.activity.isWave = true) (hm : q.pauseLength ≠ 0) (time : Nat) :
    q.stopNotes time = [q.pausing.note time .running] := by
  rw [Sequencer.stopNotes, Sequencer.stopped_of_pause h hm]
  exact if_neg fun hh => nomatch hh.1

theorem Sequencer.stopNotes_of_no_pause {q : Sequencer} (h : q.activity.isWave = true) (hm : q.pauseLength = 0)
    (time : Nat) : q.stopNotes time = [q.pausing.note time .running,
      ({ q.pausing with state := .holding, amp := 0 } : Sequencer).note time .pausing] := by
  rw [Sequencer.stopNotes, Sequencer.stopped_of_no_pause h hm]
  exact if_pos ⟨rfl, h⟩

/-- The sequencer stops (R42, R43). -/
theorem seqStop_eq {s : State} (h : s.psq.state = .running) :
    seqStop s = s.withPlan s.psq.stopped (s.ev.seqs ++ s.psq.stopNotes s.time) := by
  by_cases hw : s.psq.activity.isWave = true
  · have pauses : seqStop s = if s.psq.pauseLength = 0 then
        seqChange (fun q => { q with state := .holding, amp := 0 }) (seqChange Sequencer.pausing s)
        else seqChange Sequencer.pausing s := by rw [seqStop, if_pos hw]; rfl
    by_cases hm : s.psq.pauseLength = 0
    · rw [pauses, if_pos hm, Sequencer.stopped_of_no_pause hw hm, Sequencer.stopNotes_of_no_pause hw hm, seqChange_eq,
        seqChange_eq, h]
      simp only [withPlan_psq, withPlan_seqs, withPlan_time, withPlan_withPlan, List.append_assoc]
      rfl
    · rw [pauses, if_neg hm, Sequencer.stopped_of_pause hw hm, Sequencer.stopNotes_of_pause hw hm, seqChange_eq, h]
  · have hw : s.psq.activity.isWave = false := by simpa using hw
    rw [Sequencer.stopped_of_level hw, Sequencer.stopNotes_of_level hw, seqStop, if_neg (by rw [hw]; decide), seqChange_eq, h]

theorem seqStopIfHeld_of_held {s : State} (h : s.psq.state = .running) (hh : s.psq.hold.any = true) :
    seqStopIfHeld s = s.withPlan s.psq.stopped (s.ev.seqs ++ s.psq.stopNotes s.time) := by
  rw [seqStopIfHeld, if_pos ⟨h, hh⟩, seqStop_eq h]

theorem seqStopIfHeld_of_free {s : State} (hh : ¬s.psq.hold.any = true) : seqStopIfHeld s = s := if_neg fun h => hh h.2

theorem seqStopIfHeld_of_not_running {s : State} (h : s.psq.state ≠ .running) : seqStopIfHeld s = s :=
  if_neg fun hh => h hh.1

/-- Entering a segment ends the plan or leaves the state. -/
theorem enterFrom_state (n i : Nat) (q : Sequencer) : (enterFrom n i q).state = .done ∨ (enterFrom n i q).state = q.state := by
  induction n generalizing i q with
  | zero => exact .inr rfl
  | succ n ih =>
    unfold enterFrom
    split
    · split
      · exact .inr rfl
      · exact .inr rfl
      · refine .inr ?_
        unfold enterCycle beginTaperUp beginSteady
        dsimp only
        split
        · split <;> rfl
        · rfl
      · split <;> exact ih ..
      · exact .inl rfl
    · exact .inl rfl

theorem runFrom_eq (i : Nat) : runFrom i s = s.withPlan (s.psq.run i) (s.ev.seqs ++ s.psq.runNotes s.time i) := by
  unfold runFrom
  simp only [Sequencer.run, Sequencer.runNotes, Sequencer.afterEntry]
  generalize hq : enterFrom loopFuel i { s.psq with state := .running } = q
  by_cases hd : q.state = .done
  · simp only [hd, if_true, seqChange_eq, withPlan_psq, withPlan_seqs, withPlan_time, withPlan_withPlan,
      List.append_assoc]
    rfl
  · have hr : q.state = .running := by
      have := enterFrom_state loopFuel i { s.psq with state := .running }
      rw [hq] at this
      exact this.resolve_left hd
    rw [if_neg hd, if_neg hd, if_neg hd, seqChange_eq]
    by_cases hh : q.hold.any = true
    · rw [if_pos hh, if_pos hh, seqStopIfHeld_of_held (s := s.withPlan q _) hr hh]
      simp only [withPlan_psq, withPlan_seqs, withPlan_time, withPlan_withPlan, List.append_assoc]
      rfl
    · rw [if_neg hh, if_neg hh, seqStopIfHeld_of_free (s := s.withPlan q _) hh]

theorem enterNext_eq {s : State} (h : s.psq.state = .running) :
    enterNext s = s.withPlan s.psq.next (s.ev.seqs ++ s.psq.nextNotes s.time) := by
  unfold enterNext
  rw [if_pos h]
  simp only [Sequencer.next, Sequencer.nextNotes, Sequencer.afterEntry]
  generalize hq : enterFrom loopFuel (s.psq.segment.val + 1) s.psq = q
  by_cases hd : q.state = .done
  · simp only [hd, if_true, seqChange_eq, h]
  · have hr : q.state = .running := by
      have := enterFrom_state loopFuel (s.psq.segment.val + 1) s.psq
      rw [hq, h] at this
      exact this.resolve_left hd
    rw [if_neg hd, if_neg hd, if_neg hd, modSeq_eq]
    by_cases hh : q.hold.any = true
    · rw [if_pos hh, if_pos hh, seqStopIfHeld_of_held (s := s.withPlan q _) hr hh]
      simp only [withPlan_psq, withPlan_seqs, withPlan_time, withPlan_withPlan]
    · rw [if_neg hh, if_neg hh, seqStopIfHeld_of_free (s := s.withPlan q _) hh, List.append_nil]

/-! ### Reasons of the hold-reason set (R41 to R45) -/

theorem HoldSet.any_put (h : HoldSet) (r : HoldReason) : (h.put true r).any = true := by
  cases r <;> simp [HoldSet.put, HoldSet.any]

/-- A reason that is added stops a RUNNING sequencer. -/
theorem addReason_eq (r : HoldReason) : addReason r s =
    if s.psq.state = .running then
      s.withPlan { s.psq with hold := s.psq.hold.put true r }.stopped
        (s.ev.seqs ++ { s.psq with hold := s.psq.hold.put true r }.stopNotes s.time)
    else s.withPlan { s.psq with hold := s.psq.hold.put true r } s.ev.seqs := by
  unfold addReason
  split
  · rename_i h
    exact seqStopIfHeld_of_held (s := s.modSeq _) h (HoldSet.any_put ..)
  · rename_i h
    exact seqStopIfHeld_of_not_running (s := s.modSeq _) h

/-- Going on at an event (R44). -/
theorem seqGoOn_eq : seqGoOn s = s.withPlan s.psq.goesOn (s.ev.seqs ++ s.psq.goNotes s.time) := by
  have up : (if s.psq.amplitude = 0 then s.psq.taper
      else (roundDiv ((s.psq.taper * s.psq.amp : Nat) : Int) (s.psq.amplitude : Nat)).toNat) =
      s.psq.taperAt s.psq.amp := by rw [Sequencer.taperAt, Nat.cast_mul]
  unfold seqGoOn
  dsimp only
  rw [up]
  cases h : s.psq.state with
  | idle | waitingGo | running | done | aborted =>
    simp only [Sequencer.goesOn, Sequencer.goNotes, Sequencer.goesPast, h, Bool.false_eq_true, if_false, reduceCtorEq,
      or_self, List.append_nil]
    rfl
  | holding =>
    by_cases hw : s.psq.activity.isWave = true
    · by_cases hc : s.psq.count ≤ s.psq.segCycles
      · simp only [Sequencer.goesOn, Sequencer.goNotes, Sequencer.goesPast, h, hw, hc, if_true, decide_true,
          Bool.and_self, runFrom_eq]
      · simp only [Sequencer.goesOn, Sequencer.goNotes, Sequencer.goesPast, h, hw, hc, if_true, if_false, decide_false,
          Bool.and_false, Bool.false_eq_true, true_or, seqChange_eq]
    · simp only [Sequencer.goesOn, Sequencer.goNotes, Sequencer.goesPast, h, hw, Bool.false_and, Bool.false_eq_true,
        if_false, true_or, if_true, seqChange_eq]
  | pausing =>
    by_cases hd : s.psq.activity = .taperDown
    · have down : (if s.psq.amplitude = 0 then s.psq.taper
          else (roundDiv (s.psq.taper * ((s.psq.amplitude : Int) - s.psq.amp)) (s.psq.amplitude : Nat)).toNat) =
          s.psq.taperAt ((s.psq.amplitude : Int) - s.psq.amp) := rfl
      by_cases hk : s.psq.taper ≤ s.psq.taperAt ((s.psq.amplitude : Int) - s.psq.amp)
      · simp only [Sequencer.goesOn, Sequencer.goNotes, Sequencer.goesPast, h, hd, if_true, down, hk, decide_true,
          Bool.and_self, runFrom_eq]
      · simp only [Sequencer.goesOn, Sequencer.goNotes, Sequencer.goesPast, h, hd, if_true, down, hk, if_false,
          decide_true, decide_false, Bool.and_false, Bool.false_eq_true, or_true, seqChange_eq]
    · simp only [Sequencer.goesOn, Sequencer.goNotes, Sequencer.goesPast, h, hd, if_false, decide_false, Bool.false_and,
        Bool.false_eq_true, or_true, if_true, seqChange_eq]
      rfl

theorem removeReasons_eq (f : HoldSet → HoldSet) : removeReasons f s =
    if s.psq.hold.any = true ∧ (f s.psq.hold).any = false then
      s.withPlan { s.psq with hold := f s.psq.hold }.goesOn
        (s.ev.seqs ++ { s.psq with hold := f s.psq.hold }.goNotes s.time)
    else s.withPlan { s.psq with hold := f s.psq.hold } s.ev.seqs := by
  unfold removeReasons
  dsimp only
  split
  · rename_i h
    rw [seqGoOn_eq]
    exact (if_pos h).symm
  · rename_i h
    exact (if_neg h).symm

/-! ### The lost cause (R41) -/

theorem sharing_isEmpty_iff (g : Fin 4) :
    (s.sharing g).isEmpty = true ↔ ∀ m ∈ (s.group g).members, (s.act m.1).state ≠ .active := by
  simp [State.sharing, State.inShare]

/-- Whether a track in use is without an ACTIVE actuator (R27, R41). -/
def State.lostAt (s : State) (k : Fin 8) : Bool :=
  s.inUse k && match s.groupOf k with
    | none => !s.inShare k
    | some g => (s.sharing g).isEmpty

theorem lostAt_iff (k : Fin 8) : s.lostAt k = true ↔ s.trackLost k := by
  unfold State.lostAt State.trackLost
  rw [Bool.and_eq_true]
  refine and_congr_right fun _ => ?_
  cases s.groupOf k with
  | none => simp [State.inShare]
  | some g => simpa using sharing_isEmpty_iff s g

theorem lostCause_iff : s.lostCause = true ↔ ∃ k, s.trackLost k := by
  have : s.lostCause = (List.finRange 8).any s.lostAt := rfl
  rw [this]
  simp [List.any_eq_true, lostAt_iff]

/-- The first of an ascending walk. -/
theorem find?_finRange_eq_some {n : Nat} {p : Fin n → Bool} {k : Fin n} (hk : p k = true)
    (least : ∀ j, j < k → p j = false) : (List.finRange n).find? p = some k := by
  rw [List.find?_eq_some_iff_append]
  obtain ⟨l, m, hl⟩ := List.append_of_mem (List.mem_finRange k)
  refine ⟨hk, l, m, hl, fun j hj => ?_⟩
  have sorted := List.pairwise_lt_finRange n
  rw [hl, List.pairwise_append] at sorted
  simpa using least j (sorted.2.2 j hj k (by simp))

theorem find?_finRange_eq_none {n : Nat} {p : Fin n → Bool} (h : ∀ k, p k = false) : (List.finRange n).find? p = none :=
  List.find?_eq_none.2 fun k _ => by simp [h k]

end Sys2Proof.Machine

/-!
MODE and STATION_SET (R4 to R8, R14), HOLD, RESUME and ABORT (R41 to R46).
-/
namespace Sys2Proof.Machine

/-! ### Small facts about operands (R201, R209) -/

theorem flagOf_toNat (b : Bool) : flagOf b.toNat = some b := by cases b <;> rfl

theorem indexOf_val {n : Nat} (i : Fin n) : indexOf n i.val = some i := by rw [indexOf, dif_pos i.isLt]

theorem indexOf_eq {n k : Nat} (i : Fin n) (h : k = i.val) : indexOf n k = some i := by rw [h, indexOf_val]

theorem indexOf_none {n k : Nat} (h : n ≤ k) : indexOf n k = none := by rw [indexOf, dif_neg (by omega)]

theorem noted_received (s : State) (l : List Notice) : (s.noted l).received = s.received.noted l := by
  induction l generalizing s with
  | nil => rfl
  | cons n l ih => exact ih (offer n s)

theorem noted_stc (s : State) (l : List Notice) : (s.noted l).stc = s.stc :=
  foldl_same State.stc (f := fun t n => offer n t) (fun _ _ => rfl) l s

/-! ### The RUN-entry check (R5) -/

theorem covered_iff (s : State) (a : Fin 8) (q : Quantity) (p : Window → Bool) :
    s.covered a q p = true ↔ ∃ i : Fin 6, s.svc.windows[i].covers q a ∧ p s.svc.windows[i] = true := by
  simp only [State.covered, List.any_eq_true, mem_coveringWindows]

theorem groupOf_isSome_iff (s : State) (a : Fin 8) :
    (s.groupOf a).isSome = true ↔ ∃ g : Fin 4, a ∈ (s.group g).members.map Prod.fst := by
  simp [State.groupOf, List.find?_isSome, List.any_eq_true]

theorem chanSlot_eq_iff (c : Fin 64) (x : Fin 4) : chanSlot c = x ↔ x.val = c.val / 16 := by
  rw [Fin.ext_iff, eq_comm]; exact Iff.rfl

theorem mem_indexes {n : Nat} (p : Fin n → Bool) (k : Nat) :
    k ∈ ((List.finRange n).filter p).map Fin.val ↔ ∃ a : Fin n, a.val = k ∧ p a = true := by
  simp [and_comm]

/-- The objects an item finds are those that fail it. -/
theorem mem_runItem (s : State) (item k : Nat) : k ∈ runItem s item ↔ s.runFails item k := by
  match item with
  | 1 =>
    refine (mem_indexes _ k).trans ?_
    simp only [State.runFails, true_and, Nat.reduceEqDiff, false_and, or_false]
    refine exists_congr fun a => and_congr_right fun _ => ?_
    simp only [Bool.and_eq_true, Bool.not_eq_true', ← Bool.not_eq_true, covered_iff, and_true]
  | 2 =>
    refine (mem_indexes _ k).trans ?_
    simp only [State.runFails, true_and, Nat.reduceEqDiff, false_and, or_false, false_or]
    refine exists_congr fun a => and_congr_right fun _ => ?_
    simp only [Bool.and_eq_true, Bool.not_eq_true', ← Bool.not_eq_true, covered_iff, Window.holds_iff]
  | 3 =>
    refine (mem_indexes _ k).trans ?_
    simp only [State.runFails, true_and, Nat.reduceEqDiff, false_and, or_false, false_or]
    refine exists_congr fun a => and_congr_right fun _ => ?_
    simp only [Bool.and_eq_true, Bool.not_eq_true', ← Bool.not_eq_true, groupOf_isSome_iff, decide_eq_true_eq]
  | 4 =>
    refine (mem_indexes _ k).trans ?_
    simp only [State.runFails, true_and, Nat.reduceEqDiff, false_and, or_false, false_or]
    refine exists_congr fun c => and_congr_right fun _ => ?_
    rw [Bool.and_eq_true, Bool.not_eq_true']
    refine and_congr_right fun _ => ⟨fun h => ⟨chanSlot c, rfl, h⟩, ?_⟩
    rintro ⟨x, hx, h⟩
    obtain rfl := (chanSlot_eq_iff c x).2 hx
    exact h
  | 5 =>
    refine (mem_indexes _ k).trans ?_
    simp only [State.runFails, true_and, Nat.reduceEqDiff, false_and, or_false, false_or]
    refine exists_congr fun c => and_congr_right fun _ => ?_
    rw [Bool.and_eq_true]
    refine and_congr_right fun _ => ?_
    cases s.stp.chans[c].cfg.tempSlot <;> simp
  | 6 =>
    refine (mem_indexes _ k).trans ?_
    simp only [State.runFails, true_and, Nat.reduceEqDiff, false_and, or_false, false_or]
    refine exists_congr fun t => and_congr_right fun _ => ?_
    cases s.psq.tracks[t].deflection <;> simp
  | 7 =>
    refine (mem_indexes _ k).trans ?_
    simp only [State.runFails, true_and, Nat.reduceEqDiff, false_and, false_or]
    refine exists_congr fun z => and_congr_right fun _ => ?_
    cases s.zmn.zones[z].cfg.track <;> simp
  | 0 | _ + 8 => simp [runItem, State.runFails]

theorem runItem_lt {s : State} {item k : Nat} (h : k ∈ runItem s item) : k < 256 ∧ item ∈ [1, 2, 3, 4, 5, 6, 7] := by
  rw [mem_runItem] at h
  have : k < 64 ∧ item ∈ [1, 2, 3, 4, 5, 6, 7] := by
    rcases h with ⟨rfl, a, h, -⟩ | ⟨rfl, a, h, -⟩ | ⟨rfl, a, h, -⟩ | ⟨rfl, a, h, -⟩ | ⟨rfl, a, h, -⟩ | ⟨rfl, a, h, -⟩ |
      ⟨rfl, a, h, -⟩ <;> exact ⟨by omega, by decide⟩
  exact ⟨by omega, this.2⟩

theorem indexes_pairwise {n : Nat} (p : Fin n → Bool) :
    (((List.finRange n).filter p).map Fin.val).Pairwise (· < ·) :=
  List.pairwise_map.2 ((List.pairwise_lt_finRange n).filter p)

theorem runItem_pairwise (s : State) (item : Nat) : (runItem s item).Pairwise (· < ·) := by
  match item with
  | 1 | 2 | 3 | 4 | 5 | 6 | 7 => exact indexes_pairwise _
  | 0 | _ + 8 => exact .nil

/-- The details of the failures, in the order of the check. -/
def runDetails (s : State) : List Nat := [1, 2, 3, 4, 5, 6, 7].flatMap fun item => (runItem s item).map fun i => item * 256 + i

theorem mem_runDetails (s : State) (d : Nat) : d ∈ runDetails s ↔ ∃ item k, s.runFails item k ∧ d = item * 256 + k := by
  simp only [runDetails, List.mem_flatMap, List.mem_map]
  constructor
  · rintro ⟨item, -, k, hk, rfl⟩
    exact ⟨item, k, (mem_runItem s item k).1 hk, rfl⟩
  · rintro ⟨item, k, h, rfl⟩
    have hk := (mem_runItem s item k).2 h
    exact ⟨item, (runItem_lt hk).2, k, hk, rfl⟩

theorem runDetails_pairwise (s : State) : (runDetails s).Pairwise (· < ·) := by
  refine List.pairwise_flatMap.2 ⟨fun item _ => ?_, ?_⟩
  · exact List.pairwise_map.2 ((runItem_pairwise s item).imp fun h => by omega)
  · have ascending : [1, 2, 3, 4, 5, 6, 7].Pairwise (· < ·) := by decide
    refine ascending.imp fun {i j} hij d hd e he => ?_
    obtain ⟨k, hk, rfl⟩ := List.mem_map.1 hd
    obtain ⟨l, -, rfl⟩ := List.mem_map.1 he
    have := (runItem_lt hk).1
    omega

theorem runCheck_none {s : State} (h : ∀ item k, ¬s.runFails item k) : runCheck s = none := by
  have : runDetails s = [] := List.eq_nil_iff_forall_not_mem.2 fun d hd => by
    obtain ⟨item, k, hf, -⟩ := (mem_runDetails s d).1 hd
    exact h item k hf
  exact List.head?_eq_none_iff.2 this

/-- The first failure in the order of items, and of objects within an item, gives the detail. -/
theorem runCheck_some {s : State} {item k : Nat} (h : s.runFails item k)
    (first : ∀ i j, s.runFails i j → item < i ∨ (item = i ∧ k ≤ j)) : runCheck s = some (item * 256 + k) := by
  have hm : item * 256 + k ∈ runDetails s := (mem_runDetails s _).2 ⟨item, k, h, rfl⟩
  have sorted := runDetails_pairwise s
  show (runDetails s).head? = _
  cases hl : runDetails s with
  | nil => rw [hl] at hm; cases hm
  | cons d l =>
    have hd : d ∈ runDetails s := by rw [hl]; exact List.mem_cons_self
    rw [hl] at hm sorted
    obtain ⟨i, j, hf, rfl⟩ := (mem_runDetails s d).1 hd
    have hk := (runItem_lt ((mem_runItem s item k).2 h)).1
    rcases List.mem_cons.1 hm with e | hm
    · rw [List.head?_cons, e]
    · have := (List.pairwise_cons.1 sorted).1 _ hm
      have := first i j hf
      omega

/-! ### MODE (R4 to R8) -/

/-- The sequencer at the station's entry to SETUP (R46). -/
def Sequencer.idled (q : Sequencer) : Sequencer :=
  { q with
    state := .idle, activity := .none, segment := 0, phase := 0, amp := 0
    levels := Vector.replicate 8 0, peaks := Vector.replicate 8 none
    hold := { q.hold with segment := false, lost := false } }

theorem enterSetup_eq {s t : State} (h : s.ev = {})
    (ht : t = { s with stc := { s.stc with mode := .setup }, psq := s.psq.idled }) :
    enterSetup s = if s.psq.state = .idle then t else t.noted [t.psq.note s.time s.psq.state] := by
  subst ht
  unfold enterSetup seqIdle
  dsimp only
  split
  · rename_i hi
    exact (flush_of_empty (s := (s.modStc fun c => { c with mode := .setup }).modSeq Sequencer.idled) h).trans (if_pos hi).symm
  · rename_i hi
    rw [seqChange_eq, flush_withPlan (s := s.modStc fun c => { c with mode := .setup }) h]
    refine Eq.trans ?_ (if_neg hi).symm
    rw [State.modStc_ev, h]
    rfl

theorem notOff_some {s : State} {a : Fin 8} (h : (s.act a).state ≠ .off) (least : ∀ b : Fin 8, b < a → (s.act b).state = .off) :
    s.notOff = some a :=
  find?_finRange_eq_some (by simpa using h) fun b hb => by simpa using least b hb

theorem notOff_none {s : State} (h : ∀ a : Fin 8, (s.act a).state = .off) : s.notOff = none :=
  find?_finRange_eq_none fun a => by simpa using h a

theorem stationEntry_some {s : State} {e : Fin 40} (hs : s.pmx.entries[e].cfg.scope = .station)
    (hq : s.pmx.entries[e].st ≠ .quiet)
    (least : ∀ d : Fin 40, d < e → s.pmx.entries[d].cfg.scope = .station → s.pmx.entries[d].st = .quiet) :
    s.stationEntry = some e :=
  find?_finRange_eq_some (by rw [hs, decide_eq_true rfl, decide_eq_true hq]; rfl) fun d hd => by
    by_cases h : s.pmx.entries[d].cfg.scope = .station
    · rw [decide_eq_false (not_not.2 (least d hd h)), Bool.and_false]
    · rw [decide_eq_false h, Bool.false_and]

theorem stationEntry_none {s : State} (h : ∀ e : Fin 40, s.pmx.entries[e].cfg.scope = .station → s.pmx.entries[e].st = .quiet) :
    s.stationEntry = none :=
  find?_finRange_eq_none fun e => by
    by_cases hs : s.pmx.entries[e].cfg.scope = .station
    · rw [decide_eq_false (not_not.2 (h e hs)), Bool.and_false]
    · rw [decide_eq_false hs, Bool.false_and]

section

variable {p : List Byte} {s : State}

theorem modeBody_run_of_setup (hp : u8 p 0 = 1) (hm : s.stc.mode = .setup) :
    modeBody p s = match runCheck s with
      | some d => .state d
      | none => .done (s.modStc fun c => { c with mode := .run }) := by simp only [modeBody, hp, hm] <;> rfl

theorem modeBody_repeated (h : (u8 p 0 = 1 ∧ s.stc.mode = .run) ∨ (u8 p 0 = 0 ∧ s.stc.mode = .setup)) :
    modeBody p s = .done s := by
  rcases h with ⟨hp, hm⟩ | ⟨hp, hm⟩ <;> simp only [modeBody, hp, hm]

theorem modeBody_run_of_safe (hp : u8 p 0 = 1) (hm : s.stc.mode = .safe) : modeBody p s = .mode := by
  simp only [modeBody, hp, hm]

theorem modeBody_unknown (hp : 2 ≤ u8 p 0) : modeBody p s = .range := by
  obtain ⟨n, hn⟩ : ∃ n, u8 p 0 = n + 2 := ⟨u8 p 0 - 2, by omega⟩
  unfold modeBody
  rw [hn]
  cases s.stc.mode <;> rfl

theorem modeBody_setup_loaded (hp : u8 p 0 = 0) (hm : s.stc.mode ≠ .setup) {a : Fin 8} (h : s.notOff = some a) :
    modeBody p s = .state (8 * 256 + a.val) := by
  cases hs : s.stc.mode with
  | setup => exact absurd hs hm
  | run => simp only [modeBody, hp, hs, h]
  | safe => simp only [modeBody, hp, hs, h]

theorem modeBody_setup_blocked (hp : u8 p 0 = 0) (hm : s.stc.mode = .safe) {e : Fin 40} (h : s.notOff = none)
    (he : s.stationEntry = some e) : modeBody p s = .state (9 * 256 + e.val) := by
  simp only [modeBody, hp, hm, h, he]

theorem modeBody_setup (hp : u8 p 0 = 0) (hm : s.stc.mode ≠ .setup) (h : s.notOff = none)
    (he : s.stc.mode = .safe → s.stationEntry = none) : modeBody p s = .done (enterSetup s) := by
  cases hs : s.stc.mode with
  | setup => exact absurd hs hm
  | run => simp only [modeBody, hp, hs, h]
  | safe => simp only [modeBody, hp, hs, h, he hs]

end

/-! ### STATION_SET (R14, R201) -/

theorem clamp_eq_max_min {lo hi : Nat} (h : lo ≤ hi) (x : Nat) : (clamp x lo hi).toNat = max lo (min hi x) := by
  unfold clamp; split
  · omega
  · split <;> omega

theorem clamp_ne_iff {lo hi : Nat} (x : Nat) : decide (clamp x lo hi ≠ x) = decide (x < lo ∨ hi < x) := by
  rw [decide_eq_decide]
  unfold clamp; split
  · omega
  · split <;> omega

theorem stationSetBody_eq {p : List Byte} {mask : Address} {group keep attention : Bool} (h0 : u8 p 0 = mask.toNat)
    (h1 : u8 p 1 = group.toNat) (h2 : u8 p 2 = keep.toNat) (h3 : u8 p 3 = attention.toNat) (s : State) :
    stationSetBody p s = .clamped (if u16 p 4 < 1 ∨ 600 < u16 p 4 then some 4 else none) []
      { s with stc := { s.stc with settings :=
        { mask := mask, acceptGroupRestart := group, keepSettings := keep, attentionEnable := attention
          binTime := max 1 (min 600 (u16 p 4)) } } } := by
  have hm : u8 p 0 ≤ 31 := by rw [h0]; omega
  have bits : BitVec.ofNat 5 (u8 p 0) = mask := by rw [h0, BitVec.ofNat_toNat, BitVec.setWidth_eq]
  have bin : (clamp (u16 p 4) 1 600).toNat = max 1 (min 600 (u16 p 4)) := clamp_eq_max_min (by decide) _
  have off : firstClamped [(decide (clamp (u16 p 4) 1 600 ≠ u16 p 4), 4)] =
      if u16 p 4 < 1 ∨ 600 < u16 p 4 then some 4 else none := by
    rw [show decide (clamp (u16 p 4) 1 600 ≠ u16 p 4) = _ from clamp_ne_iff (lo := 1) (hi := 600) (u16 p 4)]
    by_cases h : u16 p 4 < 1 ∨ 600 < u16 p 4
    · rw [decide_eq_true h, if_pos h]; rfl
    · rw [decide_eq_false h, if_neg h]; rfl
  simp only [stationSetBody, Answer.test, decide_eq_true hm, if_true, h1, h2, h3, flagOf_toNat, Answer.get, bits, off, bin]
  rfl

/-- Settles O13. -/
theorem modesAndSettings : Obligations.ModesAndSettings := by
  unfold Obligations.ModesAndSettings
  refine ⟨fun f s ht => ⟨fun hp hm none => ?_, fun hp hm item k hf first => ?_, fun h => ?_, fun hp hm => ?_, fun hp => ?_,
    fun hp hm => ⟨fun a ha least => ?_, fun off => ⟨fun e hs hscope hst least => ?_, fun ev quiet t t_eq => ?_⟩⟩⟩,
    fun f s mask group keep attention ht h0 h1 h2 h3 => ?_⟩
  · refine command_taken ht rfl ?_ ht.2.2.1
    rw [modeBody_run_of_setup (s := s.received) hp hm, runCheck_none (s := s.received) none]; rfl
  · refine command_refused ht rfl ?_
    rw [modeBody_run_of_setup (s := s.received) hp hm, runCheck_some (s := s.received) hf first]; rfl
  · exact command_taken ht rfl (modeBody_repeated (s := s.received) h) ht.2.2.1
  · exact command_refused ht rfl (modeBody_run_of_safe (s := s.received) hp hm)
  · exact command_refused ht rfl (modeBody_unknown hp)
  · exact command_refused ht rfl (modeBody_setup_loaded (s := s.received) hp hm (notOff_some ha least))
  · exact command_refused ht rfl (modeBody_setup_blocked (s := s.received) hp hs (notOff_none off)
      (stationEntry_some hscope hst least))
  · have pending : t.stc.restartPending = false := by rw [t_eq]; exact ht.2.2.1
    refine command_taken ht rfl (p := []) ((modeBody_setup (s := s.received) hp hm (notOff_none off)
      fun h => stationEntry_none (quiet h)).trans ?_) (by split <;> simpa only [noted_stc] using pending)
    rw [enterSetup_eq (s := s.received) (t := t.received) ev (by rw [t_eq]; rfl), Answer.done]
    split
    · rename_i hi; rw [if_pos (show s.psq.state = .idle from hi)]; rfl
    · rename_i hi; rw [if_neg (show ¬s.psq.state = .idle from hi), noted_received]; rfl
  · intro t
    have stored (off : Option Nat) (h : (if u16 f.payload 4 < 1 ∨ 600 < u16 f.payload 4 then some 4 else none) = off) :
        stationSetBody f.payload s.received = .clamped off [] t.received := by
      rw [stationSetBody_eq h0 h1 h2 h3, h]; rfl
    exact ⟨by simp [State.attention, t], fun hlo hhi => command_taken ht rfl (stored none (if_neg (by omega))) ht.2.2.1,
      fun hout => command_taken ht rfl (stored (some 4) (if_pos (by omega))) ht.2.2.1⟩

end Sys2Proof.Machine

/-!
The receiver has no part in a raising, a lowering and what these bring about: each gives the same with other bytes held
(R177, R182, R183, R196).
-/
namespace Sys2Proof.Machine

/-- The state with other bytes held by the receiver. -/
def State.withRx (l : List Byte) (s : State) : State := { s with sli := { s.sli with rx := l } }

section

variable (l : List Byte) (s : State)

/-! ### What is read -/

@[simp] theorem withRx_act (a : Fin 8) : (s.withRx l).act a = s.act a := rfl
@[simp] theorem withRx_stc : (s.withRx l).stc = s.stc := rfl
@[simp] theorem withRx_psq : (s.withRx l).psq = s.psq := rfl
@[simp] theorem withRx_pmx : (s.withRx l).pmx = s.pmx := rfl
@[simp] theorem withRx_ev : (s.withRx l).ev = s.ev := rfl
@[simp] theorem withRx_time : (s.withRx l).time = s.time := rfl
@[simp] theorem withRx_clock : (s.withRx l).clock = s.clock := rfl
@[simp] theorem withRx_group (g : Fin 4) : (s.withRx l).group g = s.group g := rfl
@[simp] theorem withRx_groupOf (a : Fin 8) : (s.withRx l).groupOf a = s.groupOf a := rfl
@[simp] theorem withRx_inShare (a : Fin 8) : (s.withRx l).inShare a = s.inShare a := rfl
@[simp] theorem withRx_short (g : Fin 4) : (s.withRx l).short g = s.short g := rfl
@[simp] theorem withRx_lostCause : (s.withRx l).lostCause = s.lostCause := rfl
@[simp] theorem withRx_raised (c : Cond) : (s.withRx l).raised c = s.raised c := rfl
@[simp] theorem withRx_mergedDerate (a : Fin 8) : (s.withRx l).mergedDerate a = s.mergedDerate a := rfl
@[simp] theorem withRx_instReach (x : Scope) (c : Cond) : instReach x c (s.withRx l) = instReach x c s := rfl
@[simp] theorem withRx_tripRecord (e : Fin 40) (c : Cond) : tripRecord e c (s.withRx l) = tripRecord e c s := rfl
@[simp] theorem withRx_entryNotice (e : Fin 40) (x : ProtConfig) (c : Cond) (m : ActSet) :
    entryNotice e x c m (s.withRx l) = entryNotice e x c m s := rfl
@[simp] theorem withRx_notice (k : NoticeKind) (n : Nat) (v1 v2 v3 v4 : Int) :
    (s.withRx l).notice k n v1 v2 v3 v4 = s.notice k n v1 v2 v3 v4 := rfl

/-! ### Named updates -/

@[simp] theorem withRx_modAct (a : Fin 8) (f : Actuator → Actuator) : (s.withRx l).modAct a f = (s.modAct a f).withRx l := rfl
@[simp] theorem withRx_modGroup (g : Fin 4) (f : Group → Group) : (s.withRx l).modGroup g f = (s.modGroup g f).withRx l := rfl
@[simp] theorem withRx_modStc (f : StationControl → StationControl) : (s.withRx l).modStc f = (s.modStc f).withRx l := rfl
@[simp] theorem withRx_modPmx (f : Protection → Protection) : (s.withRx l).modPmx f = (s.modPmx f).withRx l := rfl
@[simp] theorem withRx_modEntry (e : Fin 40) (f : ProtEntry → ProtEntry) :
    (s.withRx l).modEntry e f = (s.modEntry e f).withRx l := rfl
@[simp] theorem withRx_setCond (c : Cond) (b : Bool) : setCond c b (s.withRx l) = (setCond c b s).withRx l := rfl
@[simp] theorem withRx_offer (n : Notice) : offer n (s.withRx l) = (offer n s).withRx l := rfl
@[simp] theorem withRx_seqChange (f : Sequencer → Sequencer) : seqChange f (s.withRx l) = (seqChange f s).withRx l := rfl

/-- A choice that does not look at the receiver. -/
theorem ite_withRx {l : List Byte} {p q : Prop} [Decidable p] [Decidable q] {x y x' y' : State} (h : p ↔ q)
    (hx : x' = x.withRx l) (hy : y' = y.withRx l) : (if p then x' else y') = (if q then x else y).withRx l := by
  subst hx hy
  rw [apply_ite (State.withRx l)]
  exact if_congr h rfl rfl

theorem forAsc_withRx {n : Nat} {f : Fin n → State → State} (h : ∀ i s, f i (s.withRx l) = (f i s).withRx l) :
    forAsc n f (s.withRx l) = (forAsc n f s).withRx l := by
  unfold forAsc
  induction List.finRange n generalizing s with
  | nil => rfl
  | cons i m ih => rw [List.foldl_cons, h, ih, List.foldl_cons]

theorem foldl_withRx {α : Type} {f : State → α → State} (h : ∀ s x, f (s.withRx l) x = (f s x).withRx l) (m : List α) :
    m.foldl f (s.withRx l) = (m.foldl f s).withRx l := by
  induction m generalizing s with
  | nil => rfl
  | cons x m ih => rw [List.foldl_cons, h, ih, List.foldl_cons]

/-! ### The sequencer (chapter 2) -/

theorem withRx_addReason (r : HoldReason) : addReason r (s.withRx l) = (addReason r s).withRx l := by
  rw [addReason_eq, addReason_eq]
  exact ite_withRx Iff.rfl rfl rfl

theorem withRx_seqAbort : seqAbort (s.withRx l) = (seqAbort s).withRx l := ite_withRx Iff.rfl rfl rfl

/-! ### Actuators and groups (chapters 4 and 5) -/

theorem withRx_groupMembership (a : Fin 8) : groupMembership a (s.withRx l) = (groupMembership a s).withRx l := by
  unfold groupMembership
  rw [withRx_groupOf]
  cases s.groupOf a with
  | none => rfl
  | some g => exact ite_withRx Iff.rfl (ite_withRx Iff.rfl (ite_withRx Iff.rfl rfl rfl) (ite_withRx Iff.rfl rfl rfl)) rfl

theorem withRx_writeDerate (a : Fin 8) (d : Int) : writeDerate a d (s.withRx l) = (writeDerate a d s).withRx l := by
  simp only [writeDerate, withRx_modAct, withRx_groupOf]
  cases (s.modAct a fun x => { x with derate := d }).groupOf a with
  | none => rfl
  | some g =>
    exact ite_withRx Iff.rfl (ite_withRx Iff.rfl (ite_withRx Iff.rfl (ite_withRx Iff.rfl rfl rfl) rfl) rfl) rfl

theorem withRx_lostEdge (b : Bool) : lostEdge b (s.withRx l) = (lostEdge b s).withRx l :=
  ite_withRx Iff.rfl (withRx_addReason ..) rfl

theorem withRx_lowerLater (c : Cond) : lowerLater c (s.withRx l) = (lowerLater c s).withRx l := ite_withRx Iff.rfl rfl rfl

theorem withRx_clearRegs (a : Fin 8) : clearRegs a (s.withRx l) = (clearRegs a s).withRx l := by
  simp only [clearRegs, withRx_modAct, withRx_lowerLater]

theorem withRx_leaveUnloading (a : Fin 8) : leaveUnloading a (s.withRx l) = (leaveUnloading a s).withRx l := by
  simp only [leaveUnloading, withRx_modAct, withRx_lowerLater]

theorem withRx_setActState (a : Fin 8) (x : ActState) (c : ActCause) :
    setActState a x c (s.withRx l) = (setActState a x c s).withRx l := by
  have cleared : (if x = .off ∨ x = .tripped then clearRegs a (s.withRx l) else s.withRx l) =
      (if x = .off ∨ x = .tripped then clearRegs a s else s).withRx l :=
    ite_withRx Iff.rfl (withRx_clearRegs ..) rfl
  have left (t : State) : (if (s.act a).state = .unloading then leaveUnloading a (t.withRx l) else t.withRx l) =
      (if (s.act a).state = .unloading then leaveUnloading a t else t).withRx l :=
    ite_withRx Iff.rfl (withRx_leaveUnloading ..) rfl
  have joined (t : State) : (if (s.act a).state = .active ∨ x = .active then groupMembership a (t.withRx l)
      else t.withRx l) = (if (s.act a).state = .active ∨ x = .active then groupMembership a t else t).withRx l :=
    ite_withRx Iff.rfl (withRx_groupMembership ..) rfl
  simp only [setActState, withRx_act, withRx_lostCause, cleared, left, withRx_modAct, joined, withRx_lostEdge]
  exact ite_withRx Iff.rfl rfl rfl

theorem withRx_enterUnloading (a : Fin 8) (b : Bool) (c : ActCause) :
    enterUnloading a b c (s.withRx l) = (enterUnloading a b c s).withRx l := by
  simp only [enterUnloading, withRx_setActState, withRx_modAct, withRx_clock]

theorem withRx_unloadAction (a : Fin 8) : unloadAction a (s.withRx l) = (unloadAction a s).withRx l := by
  simp only [unloadAction, withRx_act]
  cases (s.act a).state with
  | active => exact withRx_enterUnloading ..
  | raising => exact withRx_setActState ..
  | off | starting | low | unloading | tripped => rfl

theorem withRx_tripAction (a : Fin 8) : tripAction a (s.withRx l) = (tripAction a s).withRx l := by
  refine ite_withRx Iff.rfl ?_ rfl
  rw [withRx_setActState]
  exact forAsc_withRx l _ fun b s => ite_withRx Iff.rfl (withRx_setActState ..) rfl

theorem withRx_enterSafe : enterSafe (s.withRx l) = (enterSafe s).withRx l := by
  refine ite_withRx Iff.rfl rfl ?_
  rw [withRx_modStc, withRx_seqAbort]
  exact forAsc_withRx l _ fun _ _ => rfl

/-! ### The matrix (chapter 10) -/

theorem withRx_merge : merge (s.withRx l) = (merge s).withRx l :=
  forAsc_withRx l s fun a s => ite_withRx Iff.rfl rfl (withRx_writeDerate l s a _)

theorem withRx_applyAction (x : ProtConfig) (m : ActSet) :
    applyAction x m (s.withRx l) = (applyAction x m s).withRx l := by
  have safe (t : State) : (if x.scope = .station then enterSafe (t.withRx l) else t.withRx l) =
      (if x.scope = .station then enterSafe t else t).withRx l := ite_withRx Iff.rfl (withRx_enterSafe ..) rfl
  have unloads := forAsc_withRx l s (n := 8) (f := fun a s => if ActSet.has m a then unloadAction a s else s)
    fun a s => ite_withRx Iff.rfl (withRx_unloadAction ..) rfl
  have trips := forAsc_withRx l s (n := 8) (f := fun a s => if ActSet.has m a then tripAction a s else s)
    fun a s => ite_withRx Iff.rfl (withRx_tripAction ..) rfl
  unfold applyAction
  cases x.acting with
  | note | derate => rfl
  | hold => exact withRx_addReason ..
  | unload => simp only [unloads, safe]
  | trip => simp only [trips, safe]

theorem withRx_takeRaising (e : Fin 40) (c : Cond) : takeRaising e c (s.withRx l) = (takeRaising e c s).withRx l := by
  have acted (x : ProtConfig) (m : ActSet) (p : Prop) [Decidable p] (t u : State) (h : u = t.withRx l) :
      applyAction x m (if p then offer (entryNotice e x c m u) u else u) =
        (applyAction x m (if p then offer (entryNotice e x c m t) t else t)).withRx l := by
    subst h
    rw [← withRx_applyAction]
    exact congrArg (applyAction x m) (ite_withRx Iff.rfl rfl rfl)
  exact ite_withRx Iff.rfl (acted _ _ _ _ _ (ite_withRx Iff.rfl rfl rfl)) rfl

theorem withRx_lower (c : Cond) : lower c (s.withRx l) = (lower c s).withRx l :=
  ite_withRx Iff.rfl
    (withRx_merge l ((setCond c false s).modPmx fun p => { p with entries := p.entries.map (ProtEntry.lower c) })) rfl

theorem withRx_flush : flush (s.withRx l) = (flush s).withRx l := by
  have queued : flushNotices (s.withRx l) = (flushNotices s).withRx l := by
    unfold flushNotices
    exact foldl_withRx l { s with ev := { s.ev with acts := [], seqs := [] } } (f := fun s n => offer n s) (fun _ _ => rfl) _
  unfold flush
  rw [queued]
  exact foldl_withRx l { flushNotices s with ev := { (flushNotices s).ev with lowers := [] } } (f := fun s c => lower c s)
    (fun s c => withRx_lower l s c) _

theorem withRx_raise (c : Cond) : raise c (s.withRx l) = (raise c s).withRx l := by
  refine ite_withRx Iff.rfl rfl ?_
  rw [withRx_setCond, forAsc_withRx l _ fun e s => withRx_takeRaising l s e c, withRx_merge, withRx_flush]

end

theorem received_raise (c : Cond) (s : State) : raise c s.received = (raise c s).received := withRx_raise [] s c

theorem received_lower (c : Cond) (s : State) : lower c s.received = (lower c s).received := withRx_lower [] s c

end Sys2Proof.Machine

/-!
HOLD, RESUME and ABORT (R41 to R46), and the auxiliary slots' commands and inputs (R15 to R19).
-/
namespace Sys2Proof.Machine

/-! ### Reasons put in and taken out at an event (R41 to R45) -/

theorem Sequencer.stopped_hold (q : Sequencer) : q.stopped.hold = q.hold := by
  unfold Sequencer.stopped
  dsimp only
  split
  · split
    · split <;> rfl
    · split <;> rfl
  · rfl

theorem noted_psq (s : State) (l : List Notice) : (s.noted l).psq = s.psq :=
  foldl_same State.psq (f := fun t n => offer n t) (fun _ _ => rfl) l s

theorem flush_addReason {s : State} (h : s.ev = {}) (r : HoldReason) : flush (addReason r s) =
    if s.psq.state = .running then
      ({ s with psq := { s.psq with hold := s.psq.hold.put true r }.stopped } : State).noted
        ({ s.psq with hold := s.psq.hold.put true r }.stopNotes s.time)
    else { s with psq := { s.psq with hold := s.psq.hold.put true r } } := by
  rw [addReason_eq]
  split
  · exact flush_withPlan_append h _ _
  · exact flush_withPlan_seqs h _

theorem flush_removeReasons {s : State} (h : s.ev = {}) (f : HoldSet → HoldSet) : flush (removeReasons f s) =
    if s.psq.hold.any = true ∧ (f s.psq.hold).any = false then
      ({ s with psq := { s.psq with hold := f s.psq.hold }.goesOn } : State).noted
        ({ s.psq with hold := f s.psq.hold }.goNotes s.time)
    else { s with psq := { s.psq with hold := f s.psq.hold } } := by
  rw [removeReasons_eq]
  split
  · exact flush_withPlan_append h _ _
  · exact flush_withPlan_seqs h _

theorem flush_seqAbort {s : State} (h : s.ev = {}) (hg : s.psq.state.going = true) {q : Sequencer}
    (hq : q = { s.psq with
      state := .aborted, activity := .none, peaks := Vector.replicate 8 none, heldCount := s.psq.count
      hold := { s.psq.hold with segment := false, lost := false } }) :
    flush (seqAbort s) = ({ s with psq := q } : State).noted [q.note s.time s.psq.state] := by
  subst hq
  rw [seqAbort, if_pos hg, seqChange_eq]
  exact flush_withPlan_append h _ _

/-- An entry applies an action other than NOTE where it is enabled with it. -/
theorem ProtConfig.acting_eq_iff {x : Action} (h : x ≠ .note) (c : ProtConfig) :
    c.acting = x ↔ c.enabled = true ∧ c.action = x := by
  unfold ProtConfig.acting
  cases c.enabled with
  | true => simp
  | false => simpa using h.symm

theorem holdStands_iff (s : State) : s.holdStands = true ↔ ∃ e : Fin 40, s.pmx.entries[e].st ≠ .quiet ∧
    s.pmx.entries[e].cfg.enabled = true ∧ s.pmx.entries[e].cfg.action = .hold := by
  simp only [State.holdStands, List.any_eq_true, List.mem_finRange, true_and, Bool.and_eq_true, decide_eq_true_eq,
    ProtConfig.acting_eq_iff (x := .hold) (by decide)]

theorem eq_of_iff_true {b c : Bool} {p : Prop} (hb : b = true ↔ p) (hc : c = true ↔ p) : b = c := by
  rw [Bool.eq_iff_iff, hb, hc]

/-- Settles O19. -/
theorem holdResumeAbort : Obligations.HoldResumeAbort := by
  unfold Obligations.HoldResumeAbort
  intro f s ht ev
  have pending := ht.2.2.1
  refine ⟨?_, fun lost hlost held hheld => ?_, fun hg => ?_, fun hg => command_refused ht rfl ?_⟩
  · intro q
    have acts : flush (addReason .operator s.received) =
        (if s.psq.state = .running then ({ s with psq := q.stopped } : State).noted (q.stopNotes s.time)
          else { s with psq := q }).received := by
      rw [flush_addReason (s := s.received) ev, apply_ite State.received, noted_received]; rfl
    have hold : (flush (addReason .operator s.received)).psq.hold.code = q.hold.bits := by
      rw [acts, HoldSet.code_eq_bits, received_psq]
      split
      · rw [noted_psq]; exact congrArg HoldSet.bits (Sequencer.stopped_hold q)
      · rfl
    refine groupCommand_taken ht ?_ (by split <;> simpa only [noted_stc] using pending)
    rw [holdBody, hold, acts]; rfl
  · have hl : s.lostCause = lost := eq_of_iff_true (lostCause_iff s) hlost
    have hh : s.holdStands = held := eq_of_iff_true (holdStands_iff s) hheld
    intro h q
    have set : resumeSet s.received s.psq.hold = h := by
      show ({ s.psq.hold with
        operator := false, segment := false, protection := s.psq.hold.protection && s.holdStands
        lost := s.psq.hold.lost && s.lostCause } : HoldSet) = _
      rw [hl, hh]
    have acts : flush (removeReasons (resumeSet s.received) s.received) =
        (if s.psq.hold.any = true ∧ h.any = false then ({ s with psq := q.goesOn } : State).noted (q.goNotes s.time)
          else { s with psq := q }).received := by
      rw [flush_removeReasons (s := s.received) ev, received_psq, set, apply_ite State.received, noted_received]; rfl
    refine groupCommand_taken ht ?_ (by split <;> simpa only [noted_stc] using pending)
    rw [resumeBody, received_psq, set, acts, HoldSet.code_eq_bits]; rfl
  · intro q
    have acts : flush (seqAbort s.received) =
        (({ s with psq := q } : State).noted [q.note s.time s.psq.state]).received := by
      rw [flush_seqAbort (s := s.received) ev hg (q := q) rfl, noted_received]; rfl
    refine command_taken ht rfl ?_ (by simpa only [noted_stc] using pending)
    rw [abortBody, received_psq, hg, acts]; rfl
  · rw [abortBody, received_psq, hg]; rfl

/-! ### ASSIGN and SLOT_SET (R15, R16, R19) -/

theorem SlotFn.ofCode_code (fn : SlotFn) : SlotFn.ofCode fn.code = some fn := by cases fn <;> rfl

theorem SlotFn.isAnalog_iff (fn : SlotFn) : fn.isAnalog = true ↔
    fn = .deflection ∨ fn = .crackGauge ∨ fn = .temperature ∨ fn = .supplyPressure := by
  cases fn <;> simp [SlotFn.isAnalog]

theorem SlotFn.isContact_iff (fn : SlotFn) : fn.isContact = true ↔
    fn = .digitalIn ∨ fn = .pendantHold ∨ fn = .pendantResume := by
  cases fn <;> simp [SlotFn.isContact]

theorem SlotFn.takenBy_of {fn : SlotFn} {x : Fin 16}
    (ha : fn = .deflection ∨ fn = .crackGauge ∨ fn = .temperature ∨ fn = .supplyPressure → x.val ≤ 9)
    (ho : fn = .dumpOut ∨ fn = .beaconOut → x.val ≤ 13) : fn.takenBy x = true := by
  cases fn <;> simp [SlotFn.takenBy] at ha ho ⊢ <;> assumption

theorem auxStands_iff (y : Slot) : auxStands y = true ↔
    ((y.fn = .deflection ∨ y.fn = .crackGauge ∨ y.fn = .temperature ∨ y.fn = .supplyPressure) ∧
      (y.value < y.low ∨ y.high < y.value)) ∨
    (y.fn = .digitalIn ∧ y.openFault = true ∧ y.value = 0) := by
  unfold auxStands
  by_cases ha : y.fn.isAnalog = true
  · have hd : y.fn ≠ .digitalIn := by intro e; rw [e] at ha; cases ha
    rw [if_pos ha, ← SlotFn.isAnalog_iff]
    simp [ha, hd]
  · rw [if_neg ha, ← SlotFn.isAnalog_iff]
    simp [ha, and_assoc]

theorem modSlot_axs_same (s : State) (x : Fin 16) (f : Slot → Slot) : (s.modSlot x f).axs[x] = f s.axs[x] :=
  (vmod_get ..).trans (if_pos rfl)

theorem judgeAux_eq (x : Fin 16) (s : State) :
    judgeAux x s = if auxStands s.axs[x] then raise (.auxLimit x) s else lower (.auxLimit x) s := rfl

theorem modSlot_modSlot (s : State) (x : Fin 16) (f g : Slot → Slot) : (s.modSlot x f).modSlot x g = s.modSlot x (g ∘ f) := by
  simp [State.modSlot, vmod]

theorem modSlot_congr {s : State} {x : Fin 16} {f g : Slot → Slot} (h : f s.axs[x] = g s.axs[x]) :
    s.modSlot x f = s.modSlot x g := by
  simp only [State.modSlot, vmod, h]

/-- A slot that is given a function senses its contact where the function is a contact's. -/
theorem senseContact_assigned {s : State} {x : Fin 16} {fn : SlotFn} (low : s.raised (.auxLimit x) = false)
    (quiet : ¬(fn = .digitalIn ∧ s.axs[x].openFault = true ∧ s.axs[x].closed = false)) :
    senseContact x (lower (.auxLimit x) (s.modSlot x fun y => { y with fn := fn, value := 0 })) =
      s.modSlot x fun y =>
        { y with fn := fn
                 value := if (fn = .digitalIn ∨ fn = .pendantHold ∨ fn = .pendantResume) ∧ y.closed = true then 1 else 0 } := by
  rw [lower_of_lowered (s := s.modSlot x fun y => { y with fn := fn, value := 0 }) low, senseContact, modSlot_axs_same]
  dsimp only
  by_cases hc : fn.isContact = true
  · have hc' := (SlotFn.isContact_iff fn).1 hc
    rw [if_pos hc, modSlot_modSlot]
    have same : (s.modSlot x ((fun y => { y with value := contactValue y.closed }) ∘ fun y => { y with fn := fn, value := 0 })) =
        s.modSlot x fun y =>
          { y with fn := fn
                   value := if (fn = .digitalIn ∨ fn = .pendantHold ∨ fn = .pendantResume) ∧ y.closed = true then 1
                            else 0 } := by
      refine modSlot_congr ?_
      simp only [Function.comp_apply, hc', true_and, contactValue]
    rw [same, judgeAux_eq, modSlot_axs_same, if_neg]
    · exact lower_of_lowered low
    · rw [auxStands_iff]
      dsimp only
      rintro (⟨ha, -⟩ | ⟨hd, ho, hv⟩)
      · rcases hc' with rfl | rfl | rfl <;> simp at ha
      · refine quiet ⟨hd, ho, ?_⟩
        by_contra h
        rw [if_pos ⟨hc', by simpa using h⟩] at hv
        cases hv
  · rw [if_neg hc]
    refine modSlot_congr ?_
    rw [SlotFn.isContact_iff] at hc
    rw [if_neg fun h => hc h.1]

/-- Settles O14. -/
theorem slotCommandsStore : Obligations.SlotCommandsStore := by
  unfold Obligations.SlotCommandsStore
  refine ⟨fun f s x fn ht hm h0 h1 ha ho => ?_, fun f s x openFault out ht h0 hlo hle hhi h13 hout => ?_⟩
  · have passed : assignBody f.payload s.received = .done (if s.axs[x].fn = fn then s.received
        else senseContact x (lower (.auxLimit x) (s.received.modSlot x fun y => { y with fn := fn, value := 0 }))) := by
      simp only [assignBody, Answer.inSetup, Answer.test, received_stc, hm, decide_true, if_true, indexOf_eq x h0, h1,
        SlotFn.ofCode_code, Answer.get, SlotFn.takenBy_of ha ho, received_axs]
      rfl
    refine ⟨fun same => command_taken ht rfl ?_ ht.2.2.1, fun new low quiet => command_taken ht rfl ?_ ht.2.2.1⟩
    · rw [passed, if_pos same]; rfl
    · rw [passed, if_neg new, senseContact_assigned (s := s.received) low quiet]; rfl
  · intro t
    have range : (inRange (-2000000) 2000000 (s32 f.payload 5) && inRange (-2000000) 2000000 (s32 f.payload 9)) = true := by
      simp only [inRange, Bool.and_eq_true, decide_eq_true_eq]; omega
    have stands : auxStands t.received.axs[x] = out := by
      refine eq_of_iff_true (p := _) ?_ hout
      rw [auxStands_iff, received_axs, modSlot_axs_same]
    have body : slotSetBody f.payload s.received =
        .done (if out then raise (.auxLimit x) t.received else lower (.auxLimit x) t.received) := by
      rw [slotSetBody, indexOf_eq x h0, h13, range, decide_eq_true hle, flagOf_toNat, ← stands]
      exact congrArg Answer.done (judgeAux_eq x t.received)
    rw [received_raise, received_lower, ← apply_ite State.received] at body
    refine command_taken ht rfl body ?_
    have outer : (if out then raise (.auxLimit x) t else lower (.auxLimit x) t).outer = t.outer := setTo_outer _ out t
    exact (outer_restartPending outer).trans ht.2.2.1

/-! ### Samples and edges of the inputs (R17, R19) -/

theorem clamp_eq_max_min_int {lo hi : Int} (h : lo ≤ hi) (x : Int) : clamp x lo hi = max lo (min hi x) := by
  unfold clamp; split
  · omega
  · split <;> omega

theorem contactEdge_of_other {s : State} {x : Fin 16} (h : s.axs[x].fn.isContact = false) (closed : Bool) :
    contactEdge x closed s = s.modSlot x fun y => { y with closed := closed } := by
  unfold contactEdge
  exact if_neg fun hh => by rw [h] at hh; exact nomatch hh.1

theorem contactEdge_same {s : State} {x : Fin 16} {closed : Bool} (h : s.axs[x].value = contactValue closed) :
    contactEdge x closed s = s.modSlot x fun y => { y with closed := closed } := by
  unfold contactEdge
  exact if_neg fun hh => hh.2 h

theorem contactEdge_edge {s : State} {x : Fin 16} {closed : Bool} (hc : s.axs[x].fn.isContact = true)
    (h : s.axs[x].value ≠ contactValue closed) : contactEdge x closed s =
      edgeEffect x closed (s.modSlot x fun y => { y with closed := closed, value := contactValue closed }) := by
  unfold contactEdge
  refine (if_pos ⟨hc, h⟩).trans ?_
  rw [modSlot_modSlot]
  rfl

/-- Settles O15. -/
theorem slotInputsAreTaken : Obligations.SlotInputsAreTaken := by
  unfold Obligations.SlotInputsAreTaken
  refine ⟨fun s x raw pending ha => ?_, fun s x closed settled => ?_⟩
  · intro v v' t
    have analog := (SlotFn.isAnalog_iff _).2 ha
    have value : analogValue s.axs[x] raw = v' := by
      unfold analogValue
      dsimp only
      rw [clamp_eq_max_min_int (by decide)]
    have stored : (s.modSlot x fun y => { y with value := analogValue y raw }) = t :=
      modSlot_congr (by rw [value])
    have stands : auxStands t.axs[x] = decide (v' < s.axs[x].low ∨ s.axs[x].high < v') := by
      refine eq_of_iff_true (p := v' < s.axs[x].low ∨ s.axs[x].high < v') ?_ decide_eq_true_iff
      rw [auxStands_iff, modSlot_axs_same]
      dsimp only
      have hd : s.axs[x].fn ≠ .digitalIn := by rcases ha with h | h | h | h <;> rw [h] <;> decide
      simp only [ha, hd, true_and, false_and, or_false]
    have judged : judgeAux x t = if v' < s.axs[x].low ∨ s.axs[x].high < v' then raise (.auxLimit x) t
        else lower (.auxLimit x) t := by
      rw [judgeAux_eq, stands]
      exact if_congr decide_eq_true_iff rfl rfl
    show stepDone (analogSample x raw s) = _
    rw [analogSample, if_pos analog, stored, ← judged]
    exact stepDone_of_noResetDue (.inl ((outer_restartPending (setTo_outer ..)).trans pending))
  · obtain ⟨ev, pending⟩ := settled
    intro t u
    have done (v : State) (hv : contactEdge x closed s = v) (hp : v.stc.restartPending = s.stc.restartPending) :
        exec (.contactEdge x closed) s = .next v := by
      show stepDone (contactEdge x closed s) = _
      rw [hv]; exact stepDone_of_noResetDue (.inl (hp.trans pending))
    have slot (v : Int) (h : s.axs[x].value = v) : (s.modSlot x fun y => { y with closed := closed }) =
        s.modSlot x fun y => { y with closed := closed, value := v } := modSlot_congr (by rw [← h])
    have value : contactValue closed = if closed then 1 else 0 := rfl
    have fn : u.axs[x].fn = s.axs[x].fn := by rw [modSlot_axs_same]
    have faulty : u.axs[x].openFault = s.axs[x].openFault := by rw [modSlot_axs_same]
    have edge (hc : s.axs[x].fn.isContact = true) (h : s.axs[x].value ≠ contactValue closed) :
        contactEdge x closed s = edgeEffect x closed u := contactEdge_edge hc h
    refine ⟨fun h1 h2 h3 => done t (contactEdge_of_other ?_ closed) rfl, fun hf ho => ?_, fun hf ho hv => ?_,
      fun hf hv hc => ?_, fun hf hv hc => ?_, fun hf hv hc => ?_⟩
    · rw [← Bool.not_eq_true, SlotFn.isContact_iff]
      exact fun h => h.elim h1 fun h => h.elim h2 h3
    · refine done u ?_ rfl
      by_cases hv : s.axs[x].value = contactValue closed
      · rw [contactEdge_same hv, slot _ hv]; rfl
      · rw [edge (by rw [hf]; rfl) hv, edgeEffect, fn, hf]
        show (if u.axs[x].openFault = true then _ else u) = u
        rw [faulty, ho]; rfl
    · have hv : s.axs[x].value ≠ contactValue closed := by rw [hv, value]; cases closed <;> decide
      refine done _ ?_ ?_
      · rw [edge (by rw [hf]; rfl) hv, edgeEffect, fn, hf]
        show (if u.axs[x].openFault = true then setTo (.auxLimit x) (!closed) u else u) = _
        rw [faulty, if_pos ho]
        cases closed <;> rfl
      · split
        · exact outer_restartPending (s := u) (lower_outer _ u)
        · exact outer_restartPending (s := u) (raise_outer _ u)
    · subst hc
      have contact : s.axs[x].fn.isContact = true := (SlotFn.isContact_iff _).2 (.inr hf)
      refine done u ?_ rfl
      rw [edge contact (by rw [hv, value]; decide), edgeEffect, fn]
      rcases hf with hf | hf <;> rw [hf] <;> rfl
    · subst hc
      intro q
      refine done _ ?_ ?_
      · rw [edge (by rw [hf]; rfl) (by rw [hv, value]; decide), edgeEffect, fn, hf]
        exact flush_addReason (s := u) ev .pendant
      · split
        · rw [noted_stc]; rfl
        · rfl
    · subst hc
      intro q
      refine done _ ?_ ?_
      · rw [edge (by rw [hf]; rfl) (by rw [hv, value]; decide), edgeEffect, fn, hf]
        exact flush_removeReasons (s := u) ev _
      · split
        · rw [noted_stc]; rfl
        · rfl

end Sys2Proof.Machine

/-!
Fields of request payloads: what a field reads where the bytes that write it stand (R209); and PLAN_WRITE, PLAN_SET and
TRACK_SET (R21, R23, R25).
-/
namespace Sys2Proof.Machine

/-! ### Fields (R209) -/

section

variable {p : List Byte} {i : Nat} {x : Int} {n : Nat}

/-- The bytes that write x as a two-byte field stand at an offset. -/
def Holds2 (p : List Byte) (i : Nat) (x : Int) : Prop :=
  p.getD i 0 = BitVec.ofInt 8 (x / 256) ∧ p.getD (i + 1) 0 = BitVec.ofInt 8 x

/-- The bytes that write x as a four-byte field stand at an offset. -/
def Holds4 (p : List Byte) (i : Nat) (x : Int) : Prop := Holds2 p i (x / 65536) ∧ Holds2 p (i + 2) x

theorem u8_of (h : p.getD i 0 = BitVec.ofInt 8 x) : u8 p i = (x % 256).toNat := by
  rw [u8, h, BitVec.toNat_ofInt]; rfl

theorem u8_nat (h : p.getD i 0 = BitVec.ofInt 8 n) (hn : n < 256) : u8 p i = n := by
  rw [u8_of h]; omega

theorem u8_flag {b : Bool} (h : p.getD i 0 = BitVec.ofInt 8 (if b then 1 else 0)) : u8 p i = b.toNat := by
  rw [u8_of h]; cases b <;> rfl

theorem u16_of (h : Holds2 p i x) : u16 p i = (x % 65536).toNat := by
  obtain ⟨h1, h2⟩ := h
  rw [u16, u8_of h1, u8_of h2]; omega

theorem u16_nat (h : Holds2 p i n) (hn : n < 65536) : u16 p i = n := by
  rw [u16_of h]; omega

theorem s16_of (h : Holds2 p i x) (lo : -32768 ≤ x) (hi : x ≤ 32767) : s16 p i = x := by
  rw [s16, u16_of h]; split <;> omega

theorem u32_of (h : Holds4 p i x) : u32 p i = (x % 4294967296).toNat := by
  obtain ⟨h1, h2⟩ := h
  rw [u32, u16_of h1, u16_of h2]; omega

theorem u32_nat (h : Holds4 p i n) (hn : n < 4294967296) : u32 p i = n := by
  rw [u32_of h]; omega

theorem s32_of (h : Holds4 p i x) (lo : -2147483648 ≤ x) (hi : x ≤ 2147483647) : s32 p i = x := by
  rw [s32, u32_of h]; split <;> omega

end

theorem putOpt_eq {n : Nat} (o : Option (Fin n)) : putOpt o = put1 (optCode o) := by cases o <;> rfl

theorem optCode_lt {n : Nat} (hn : n ≤ 255) (o : Option (Fin n)) : optCode o < 256 := by
  cases o with
  | none => exact Nat.lt_succ_self 255
  | some k => exact lt_of_lt_of_le k.isLt (by omega)

theorem optIndexOf_optCode {n : Nat} (hn : n ≤ 255) (o : Option (Fin n)) : optIndexOf n (optCode o) = some o := by
  cases o with
  | none => rfl
  | some k =>
    have : k.val ≠ 255 := by omega
    rw [optIndexOf, optCode, if_neg this, indexOf_val]; rfl

theorem optCode_inj {n : Nat} (hn : n ≤ 255) {a b : Option (Fin n)} : optCode a = optCode b ↔ a = b := by
  constructor
  · intro h
    have := optIndexOf_optCode hn a
    rw [h, optIndexOf_optCode hn b] at this
    exact (Option.some.inj this).symm
  · rintro rfl; rfl

theorem Quantity.ofCode_code (q : Quantity) : Quantity.ofCode q.code = some q := by cases q <;> rfl

theorem Quantity.code_inj {a b : Quantity} : a.code = b.code ↔ a = b := by cases a <;> cases b <;> decide

theorem Shape.ofCode_code (x : Shape) : Shape.ofCode x.code = some x := by cases x <;> rfl

theorem inRange_of {lo hi x : Int} (h1 : lo ≤ x) (h2 : x ≤ hi) : inRange lo hi x = true := by
  rw [inRange, decide_eq_true h1, decide_eq_true h2]; rfl

/-! ### Answers (R200, R201) -/

theorem Answer.test_of {b : Bool} (h : b = true) (fail rest : Answer) : Answer.test b fail rest = rest := if_pos h

theorem Answer.test_of_not {b : Bool} (h : b = false) (fail rest : Answer) : Answer.test b fail rest = fail :=
  if_neg (by rw [h]; decide)

theorem Answer.get_some {α : Type} {x : Option α} {a : α} (h : x = some a) (rest : α → Answer) : Answer.get x rest = rest a := by
  rw [h]; rfl

theorem Answer.inSetup_of {s : State} (h : s.stc.mode = .setup) (rest : Answer) : Answer.inSetup s rest = rest :=
  if_pos (decide_eq_true h)

theorem Answer.inSetup_of_not {s : State} (h : s.stc.mode ≠ .setup) (rest : Answer) : Answer.inSetup s rest = .mode :=
  if_neg (by rw [decide_eq_true_iff]; exact h)

/-! ### PLAN_WRITE (R23) -/

/-- A valid segment record is read as it was written. -/
theorem segmentOf_bytes (own : Fin 48) (seg : Segment) (pad : List Byte) (h : seg.valid own.val) :
    segmentOf own.val (put1 own.val ++ seg.bytes ++ pad) = some seg := by
  obtain ⟨p, hp⟩ : ∃ p, p = put1 own.val ++ seg.bytes ++ pad := ⟨_, rfl⟩
  rw [← hp]
  cases seg with
  | ramp hold level ms =>
    obtain ⟨l1, l2, m1, m2⟩ := h
    have f1 : u8 p 1 = 0 := by rw [hp]; rfl
    have f2 : u8 p 2 = hold.toNat := by rw [hp]; exact u8_flag rfl
    have f3 : s16 p 3 = level := by rw [hp]; exact s16_of ⟨rfl, rfl⟩ (by omega) (by omega)
    have f5 : u32 p 5 = ms := by rw [hp]; exact u32_nat ⟨⟨rfl, rfl⟩, rfl, rfl⟩ (by omega)
    have times : inRange 1 3600000 (ms : Int) = true := inRange_of (by omega) (by omega)
    simp only [segmentOf, f1, f2, f3, f5, flagOf_toNat, inRange_of l1 l2, times]
    rfl
  | dwell hold ms snap =>
    obtain ⟨m1, m2⟩ := h
    have f1 : u8 p 1 = 1 := by rw [hp]; rfl
    have f2 : u8 p 2 = hold.toNat := by rw [hp]; exact u8_flag rfl
    have f3 : u32 p 3 = ms := by rw [hp]; exact u32_nat ⟨⟨rfl, rfl⟩, rfl, rfl⟩ (by omega)
    have f7 : u8 p 7 = snap.toNat := by rw [hp]; exact u8_flag rfl
    have times : inRange 1 86400000 (ms : Int) = true := inRange_of (by omega) (by omega)
    simp only [segmentOf, f1, f2, f3, f7, flagOf_toNat, times]
    rfl
  | cycle hold mean a freq shape count interval =>
    obtain ⟨a1, l1, l2, q1, q2, c1, c2, i1⟩ := h
    have f1 : u8 p 1 = 2 := by rw [hp]; rfl
    have f2 : u8 p 2 = hold.toNat := by rw [hp]; exact u8_flag rfl
    have f3 : s16 p 3 = mean := by rw [hp]; exact s16_of ⟨rfl, rfl⟩ (by omega) (by omega)
    have f5 : u16 p 5 = a := by rw [hp]; exact u16_nat ⟨rfl, rfl⟩ (by omega)
    have f7 : u16 p 7 = freq := by rw [hp]; exact u16_nat ⟨rfl, rfl⟩ (by omega)
    have f9 : u8 p 9 = shape.code := by rw [hp]; exact u8_nat rfl (by cases shape <;> decide)
    have f10 : u32 p 10 = count := by rw [hp]; exact u32_nat ⟨⟨rfl, rfl⟩, rfl, rfl⟩ (by omega)
    have f14 : u16 p 14 = interval := by rw [hp]; exact u16_nat ⟨rfl, rfl⟩ (by omega)
    have means : inRange (-10000) 10000 mean = true := inRange_of (by omega) (by omega)
    have amplitudes : inRange 0 10000 (a : Int) = true := inRange_of (by omega) (by omega)
    have lows : inRange (-10000) 10000 (mean - a) = true := inRange_of (by omega) (by omega)
    have highs : inRange (-10000) 10000 (mean + a) = true := inRange_of (by omega) (by omega)
    have freqs : inRange 1 1000 (freq : Int) = true := inRange_of (by omega) (by omega)
    have counts : inRange 1 16777215 (count : Int) = true := inRange_of (by omega) (by omega)
    simp only [segmentOf, f1, f2, f3, f5, f7, f9, f10, f14, flagOf_toNat, Shape.ofCode_code, means, amplitudes, lows, highs,
      freqs, counts]
    rfl
  | loop t r =>
    obtain ⟨t1, r1, r2⟩ := h
    have f1 : u8 p 1 = 3 := by rw [hp]; rfl
    have f2 : u8 p 2 = 0 := by rw [hp]; rfl
    have f3 : u8 p 3 = t.val := by rw [hp]; exact u8_nat rfl (by omega)
    have f4 : u16 p 4 = r := by rw [hp]; exact u16_nat ⟨rfl, rfl⟩ (by omega)
    have rounds : inRange 1 65535 (r : Int) = true := inRange_of (by omega) (by omega)
    have flag : flagOf 0 = some false := rfl
    simp only [segmentOf, f1, f2, f3, f4, flag, indexOf_val, decide_eq_true t1, rounds]
    rfl
  | finish =>
    have f1 : u8 p 1 = 4 := by rw [hp]; rfl
    have f2 : u8 p 2 = 0 := by rw [hp]; rfl
    have flag : flagOf 0 = some false := rfl
    simp only [segmentOf, f1, f2, flag]

theorem planWriteBody_bytes {p : List Byte} {i : Fin 48} {seg : Segment} {pad : List Byte}
    (hp : p = put1 i.val ++ seg.bytes ++ pad) (h : seg.valid i.val) (s : State) :
    planWriteBody p s = .test s.psq.state.writable (.state Config.noDetail)
      (.done { s with psq := { s.psq with plan := s.psq.plan.set i seg } }) := by
  have f0 : u8 p 0 = i.val := by rw [hp]; exact u8_nat rfl (by omega)
  rw [planWriteBody, f0, hp, Answer.get_some (indexOf_val i), Answer.get_some (segmentOf_bytes i seg pad h)]
  rfl

/-! ### PLAN_SET (R25) -/

theorem planSetBody_eq (p : List Byte) (s : State) :
    planSetBody p s = .test s.psq.state.writable (.state Config.noDetail)
      (.clamped (if 60000 < u16 p 0 then some 0 else if u16 p 2 < 1 ∨ 10000 < u16 p 2 then some 2 else none) []
        { s with psq := { s.psq with taperMs := min 60000 (u16 p 0), approachRate := max 1 (min 10000 (u16 p 2)) } }) := by
  have taper : (clamp (u16 p 0) 0 60000).toNat = min 60000 (u16 p 0) :=
    (clamp_eq_max_min (lo := 0) (hi := 60000) (by decide) _).trans (by omega)
  have rate : (clamp (u16 p 2) 1 10000).toNat = max 1 (min 10000 (u16 p 2)) := clamp_eq_max_min (by decide) _
  have off : firstClamped [(decide (clamp (u16 p 0) 0 60000 ≠ u16 p 0), 0), (decide (clamp (u16 p 2) 1 10000 ≠ u16 p 2), 2)] =
      if 60000 < u16 p 0 then some 0 else if u16 p 2 < 1 ∨ 10000 < u16 p 2 then some 2 else none := by
    rw [show decide (clamp (u16 p 0) 0 60000 ≠ u16 p 0) = _ from clamp_ne_iff (lo := 0) (hi := 60000) (u16 p 0),
      show decide (clamp (u16 p 2) 1 10000 ≠ u16 p 2) = _ from clamp_ne_iff (lo := 1) (hi := 10000) (u16 p 2)]
    have h0 : (u16 p 0 < 0 ∨ 60000 < u16 p 0) ↔ 60000 < u16 p 0 := by omega
    rw [decide_eq_decide.2 h0]
    by_cases h1 : 60000 < u16 p 0
    · rw [decide_eq_true h1, if_pos h1]; rfl
    · rw [decide_eq_false h1, if_neg h1]
      by_cases h2 : u16 p 2 < 1 ∨ 10000 < u16 p 2
      · rw [decide_eq_true h2, if_pos h2]; rfl
      · rw [decide_eq_false h2, if_neg h2]; rfl
  simp only [planSetBody, off, taper, rate]
  rfl

/-! ### TRACK_SET (R21) -/

/-- TRACK_SET of the bytes of a record. -/
theorem trackSetBody_bytes {p : List Byte} {t : Fin 8} {r : Track}
    (hp : p = put1 t.val ++ put1 r.quantity.code ++ put2 r.reference ++ put2 r.offset ++ putOpt r.deflection ++
      put2 r.threshold)
    (h1 : 0 ≤ r.reference) (h2 : r.reference ≤ 32767) (h3 : r.offset ≤ 999) (h4 : 500 ≤ r.threshold) (h5 : r.threshold ≤ 1000)
    (s : State) :
    trackSetBody p s =
      .test (decide (s.stc.mode = .setup ∨ (r.quantity = s.psq.tracks[t].quantity ∧
        r.reference = s.psq.tracks[t].reference ∧ r.deflection = s.psq.tracks[t].deflection))) .mode
      (.test (decide (r.offset = s.psq.tracks[t].offset) || s.psq.state.writable) (.state Config.noDetail)
        (.done { s with psq := { s.psq with tracks := s.psq.tracks.set t r } })) := by
  rw [putOpt_eq] at hp
  have f0 : u8 p 0 = t.val := by rw [hp]; exact u8_nat rfl (by omega)
  have f1 : u8 p 1 = r.quantity.code := by rw [hp]; exact u8_nat rfl (by cases r.quantity <;> decide)
  have f2 : (u16 p 2 : Int) = r.reference := by
    have : u16 p 2 = (r.reference % 65536).toNat := by rw [hp]; exact u16_of ⟨rfl, rfl⟩
    omega
  have f4 : u16 p 4 = r.offset := by rw [hp]; exact u16_nat ⟨rfl, rfl⟩ (by omega)
  have f6 : u8 p 6 = optCode r.deflection := by rw [hp]; exact u8_nat rfl (optCode_lt (by decide) _)
  have f7 : u16 p 7 = r.threshold := by rw [hp]; exact u16_nat ⟨rfl, rfl⟩ (by omega)
  have first : inRange 0 32767 r.reference = true := inRange_of h1 h2
  have second : inRange 0 999 (r.offset : Int) = true := inRange_of (by omega) (by omega)
  have third : inRange 500 1000 (r.threshold : Int) = true := inRange_of (by omega) (by omega)
  have structural : (decide (s.stc.mode = .setup) || !trackStructural p s) =
      decide (s.stc.mode = .setup ∨ (r.quantity = s.psq.tracks[t].quantity ∧
        r.reference = s.psq.tracks[t].reference ∧ r.deflection = s.psq.tracks[t].deflection)) := by
    simp only [trackStructural, f0, indexOf_val, f1, f2, f6, ne_eq, Quantity.code_inj, optCode_inj (show 16 ≤ 255 by decide)]
    rw [Bool.eq_iff_iff]
    simp [and_assoc]
  rw [trackSetBody, structural, f0, Answer.get_some (indexOf_val t), f1, Answer.get_some (Quantity.ofCode_code _), f2, f4,
    Answer.test_of (b := inRange 0 32767 r.reference && _) (by rw [first, second]; rfl), f6,
    Answer.get_some (optIndexOf_optCode (by decide) _), f7, Answer.test_of third]
  rfl

/-- Settles O16. -/
theorem planCommandsStore : Obligations.PlanCommandsStore := by
  unfold Obligations.PlanCommandsStore
  refine ⟨fun f s i seg pad ht hp valid => ⟨fun hg => ?_, fun hg => ?_⟩, fun f s ht => ?_, fun f s t r ht hp r1 r2 o1 d1 d2 => ?_⟩
  · refine command_taken ht rfl ((planWriteBody_bytes hp valid _).trans (Answer.test_of ?_ _ _)) ht.2.2.1
    show (!s.psq.state.going) = true; rw [hg]; rfl
  · refine command_refused ht rfl ((planWriteBody_bytes hp valid _).trans (Answer.test_of_not ?_ _ _))
    show (!s.psq.state.going) = false; rw [hg]; rfl
  · intro t
    have stored (hg : s.psq.state.going = false) {off : Option Nat}
        (h : (if 60000 < u16 f.payload 0 then some 0 else
          if u16 f.payload 2 < 1 ∨ 10000 < u16 f.payload 2 then some 2 else none) = off) :
        planSetBody f.payload s.received = .clamped off [] t.received := by
      rw [planSetBody_eq, Answer.test_of (by show (!s.psq.state.going) = true; rw [hg]; rfl), h]; rfl
    refine ⟨fun hg => command_refused ht rfl ((planSetBody_eq _ _).trans (Answer.test_of_not ?_ _ _)), fun hg =>
      ⟨fun h1 h2 h3 => ?_, fun h1 => ?_, fun h1 h2 => ?_⟩⟩
    · show (!s.psq.state.going) = false; rw [hg]; rfl
    · exact command_taken ht rfl (stored hg ((if_neg (by omega)).trans (if_neg (by omega)))) ht.2.2.1
    · exact command_taken ht rfl (stored hg (if_pos h1)) ht.2.2.1
    · exact command_taken ht rfl (stored hg ((if_neg (by omega)).trans (if_pos (by omega)))) ht.2.2.1
  · intro same
    have body := trackSetBody_bytes hp r1 r2 o1 d1 d2 s.received
    refine ⟨fun hm => ⟨fun ho => ?_, fun ho hg => ?_⟩, fun hm hs => ?_⟩
    · refine command_taken ht rfl (body.trans ((Answer.test_of (decide_eq_true hm) _ _).trans (Answer.test_of ?_ _ _))) ht.2.2.1
      show (decide (r.offset = s.psq.tracks[t].offset) || !s.psq.state.going) = true
      rcases ho with ho | ho
      · rw [decide_eq_true ho]; rfl
      · rw [ho]; exact Bool.or_true _
    · refine command_refused ht rfl
        (body.trans ((Answer.test_of (decide_eq_true hm) _ _).trans (Answer.test_of_not ?_ _ _)))
      show (decide (r.offset = s.psq.tracks[t].offset) || !s.psq.state.going) = false
      rw [decide_eq_false ho, hg]; rfl
    · exact command_refused ht rfl (body.trans (Answer.test_of_not (decide_eq_false (not_or.2 ⟨hm, hs⟩)) _ _))

end Sys2Proof.Machine

/-!
Notices as an event forms them, and raisings and lowerings where no entry does more than NOTE or DERATE: what they leave
unchanged, and the ENTRY notices they form (R171, R177, R182, R183, R187, R191, R205).
-/
namespace Sys2Proof.Machine

/-! ### Notices of an event (R205, R206) -/

/-- The notice queue of a link after notices have been offered to it. -/
def Link.queued (x : Link) (l : List Notice) : Link :=
  l.foldl (fun x n => { x with notices := queueOffer x.notices n
                               noticesLost := x.noticesLost || decide (Config.noticeCap ≤ x.notices.length) }) x

theorem noted_eq (s : State) (l : List Notice) : s.noted l = { s with sli := s.sli.queued l } := by
  induction l generalizing s with
  | nil => rfl
  | cons n l ih => exact ih (offer n s)

/-- Two links hold the same notices. -/
def Link.Same (x y : Link) : Prop := y.notices = x.notices ∧ y.noticesLost = x.noticesLost

theorem Link.Same.queued {x y : Link} (h : x.Same y) (l : List Notice) : (x.queued l).Same (y.queued l) := by
  induction l generalizing x y with
  | nil => exact h
  | cons n l ih =>
    obtain ⟨hn, hl⟩ := h
    exact ih ⟨congrArg (queueOffer · n) hn, by show (y.noticesLost || _) = (x.noticesLost || _); rw [hn, hl]⟩

theorem Link.queued_append (x : Link) (l m : List Notice) : x.queued (l ++ m) = (x.queued l).queued m := List.foldl_append

theorem noted_iff {s t : State} {l : List Notice} : Noted s t l ↔ (s.sli.queued l).Same t.sli := by
  rw [Noted, noted_eq]; rfl

section

variable {s t u : State} {p : Notice → Bool} {l m : List Notice}

theorem Noted.trans (h : Noted s t l) (k : Noted t u m) : Noted s u (l ++ m) := by
  rw [noted_iff] at *
  rw [Link.queued_append]
  obtain ⟨hn, hl⟩ := h.queued m
  obtain ⟨kn, kl⟩ := k
  exact ⟨kn.trans hn, kl.trans hl⟩

theorem Noted.forms (h : Noted s t l) (p : Notice → Bool) : Forms s t p (l.filter p) := ⟨l, rfl, h⟩

/-- The notices of an event, with none left out. -/
theorem Forms.noted (hp : ∀ n, p n = true) (h : Forms s t p l) : Noted s t l := by
  obtain ⟨all, hall, h⟩ := h
  rw [List.filter_eq_self.2 fun n _ => hp n] at hall
  exact hall ▸ h

theorem Forms.trans (h : Forms s t p l) (k : Forms t u p m) : Forms s u p (l ++ m) := by
  obtain ⟨a, rfl, h⟩ := h
  obtain ⟨b, rfl, k⟩ := k
  exact ⟨a ++ b, List.filter_append .., Noted.trans h k⟩

/-- No notice formed: the queue stands. -/
theorem Noted.of_same (h : s.sli.Same t.sli) : Noted s t [] := noted_iff.2 h

theorem Noted.of_sli (h : t.sli = s.sli) : Noted s t [] := Noted.of_same ⟨by rw [h], by rw [h]⟩

theorem Forms.of_sli (h : t.sli = s.sli) : Forms s t p [] := (Noted.of_sli h).forms p

theorem Noted.noted (s : State) (l : List Notice) : Noted s (s.noted l) l := ⟨rfl, rfl⟩

theorem Forms.noted_of (hl : ∀ n ∈ l, p n = true) : Forms s (s.noted l) p l := by
  have := (Noted.noted s l).forms p
  rwa [List.filter_eq_self.2 hl] at this

theorem Forms.offer (n : Notice) (s : State) : Forms s (offer n s) p (if p n then [n] else []) := by
  have := (Noted.noted s [n]).forms p
  rwa [List.filter_cons, List.filter_nil] at this

/-- An event that ends in the same queue. -/
theorem Forms.congr (h : Forms s t p l) (k : u.sli = t.sli) : Forms s u p l := by
  have := h.trans (Forms.of_sli k)
  rwa [List.append_nil] at this

theorem Noted.congr (h : Noted s t l) (k : u.sli = t.sli) : Noted s u l := by
  have := h.trans (Noted.of_sli k)
  rwa [List.append_nil] at this

end

/-! ### What a raising that moves nothing changes (R186, R187, R191) -/

/-- The state with other actuators, groups, matrix and notice queue. -/
def State.advisedTo (v : Vector Actuator 8) (g : Vector Group 4) (p : Protection) (l : List Notice) (lost : Bool) (s : State) :
    State :=
  { s with svc := { s.svc with acts := v }, lgu := g, pmx := p, sli := { s.sli with notices := l, noticesLost := lost } }

/-- Derates are written, handover records and entries move, and notices are formed: nothing else. -/
structure State.Moved (s t : State) : Prop where
  rest : ∃ v g p l lost, t = s.advisedTo v g p l lost
  act : ∀ a, ∃ d, t.act a = { s.act a with derate := d }
  group : ∀ g, ∃ r x y d, t.group g = { s.group g with recipient := r, selTime := x, reasons := y, due := d }
  entry : ∀ e : Fin 40, t.pmx.entries[e].cfg = s.pmx.entries[e].cfg

theorem State.Moved.rfl' {s : State} : s.Moved s :=
  ⟨⟨_, _, _, _, _, rfl⟩, fun _ => ⟨_, rfl⟩, fun _ => ⟨_, _, _, _, rfl⟩, fun _ => rfl⟩

theorem State.Moved.trans {s t u : State} (h : s.Moved t) (k : t.Moved u) : s.Moved u where
  rest := by
    obtain ⟨_, _, _, _, _, rfl⟩ := h.rest
    obtain ⟨_, _, _, _, _, rfl⟩ := k.rest
    exact ⟨_, _, _, _, _, rfl⟩
  act a := by
    obtain ⟨_, ha⟩ := h.act a
    obtain ⟨d, ka⟩ := k.act a
    exact ⟨d, by rw [ka, ha]⟩
  group g := by
    obtain ⟨_, _, _, _, hg⟩ := h.group g
    obtain ⟨r, x, y, d, kg⟩ := k.group g
    exact ⟨r, x, y, d, by rw [kg, hg]⟩
  entry e := (k.entry e).trans (h.entry e)

section

variable {s t : State} (h : s.Moved t)
include h

theorem State.Moved.psq : t.psq = s.psq := by obtain ⟨_, _, _, _, _, rfl⟩ := h.rest; rfl
theorem State.Moved.stc : t.stc = s.stc := by obtain ⟨_, _, _, _, _, rfl⟩ := h.rest; rfl
theorem State.Moved.ev : t.ev = s.ev := by obtain ⟨_, _, _, _, _, rfl⟩ := h.rest; rfl
theorem State.Moved.clock : t.clock = s.clock := by obtain ⟨_, _, _, _, _, rfl⟩ := h.rest; rfl
theorem State.Moved.zmn : t.zmn = s.zmn := by obtain ⟨_, _, _, _, _, rfl⟩ := h.rest; rfl
theorem State.Moved.stp : t.stp = s.stp := by obtain ⟨_, _, _, _, _, rfl⟩ := h.rest; rfl
theorem State.Moved.axs : t.axs = s.axs := by obtain ⟨_, _, _, _, _, rfl⟩ := h.rest; rfl
theorem State.Moved.aeu : t.aeu = s.aeu := by obtain ⟨_, _, _, _, _, rfl⟩ := h.rest; rfl
theorem State.Moved.glc : t.glc = s.glc := by obtain ⟨_, _, _, _, _, rfl⟩ := h.rest; rfl
theorem State.Moved.time : t.time = s.time := by obtain ⟨_, _, _, _, _, rfl⟩ := h.rest; rfl
theorem State.Moved.replies : t.sli.replies = s.sli.replies := by obtain ⟨_, _, _, _, _, rfl⟩ := h.rest; rfl

theorem State.Moved.state (a : Fin 8) : (t.act a).state = (s.act a).state := by obtain ⟨d, ha⟩ := h.act a; rw [ha]

theorem State.Moved.advisory (ha : s.advisory) : t.advisory := by
  intro e; rw [h.entry e]; exact ha e

/-- The same of states that differ alike in what may have changed before: zones, the plan, the strain processor. -/
theorem State.Moved.withZmn (m : Zones) : ({ s with zmn := m } : State).Moved { t with zmn := m } := by
  obtain ⟨⟨v, g, p, l, lost, rfl⟩, act, group, entry⟩ := h
  exact ⟨⟨v, g, p, l, lost, rfl⟩, act, group, entry⟩

end

theorem moved_offer (n : Notice) (s : State) : s.Moved (offer n s) :=
  ⟨⟨_, _, _, _, _, rfl⟩, fun _ => ⟨_, rfl⟩, fun _ => ⟨_, _, _, _, rfl⟩, fun _ => rfl⟩

/-- What moves where no entry does more than NOTE or DERATE: of notices, ENTRY alone. -/
structure State.Advised (s t : State) : Prop extends s.Moved t where
  notes : ∃ l, (∀ n ∈ l, n.kind = .entry) ∧ Noted s t l

theorem State.Advised.rfl' {s : State} : s.Advised s := ⟨.rfl', [], nofun, Noted.of_sli rfl⟩

theorem State.Advised.trans {s t u : State} (h : s.Advised t) (k : t.Advised u) : s.Advised u where
  toMoved := h.toMoved.trans k.toMoved
  notes := by
    obtain ⟨l, hl, h⟩ := h.notes
    obtain ⟨m, hm, k⟩ := k.notes
    exact ⟨l ++ m, fun n hn => (List.mem_append.1 hn).elim (hl n) (hm n), h.trans k⟩

theorem State.Advised.forms {s t : State} (h : s.Advised t) {p : Notice → Bool} (hp : ∀ n, n.kind = .entry → p n = false) :
    Forms s t p [] := by
  obtain ⟨l, hl, noted⟩ := h.notes
  have := noted.forms p
  rwa [List.filter_eq_nil_iff.2 fun n hn => by rw [hp n (hl n hn)]; decide] at this

/-! ### Lowerings (R183, R186) -/

theorem advised_modGroup {s : State} (g : Fin 4) {f : Group → Group}
    (hf : ∀ x : Group, ∃ r t y d, f x = { x with recipient := r, selTime := t, reasons := y, due := d }) :
    s.Advised (s.modGroup g f) := by
  refine ⟨⟨⟨_, _, _, _, _, rfl⟩, fun _ => ⟨_, rfl⟩, fun k => ?_, fun _ => rfl⟩, [], nofun, Noted.of_sli rfl⟩
  rw [State.modGroup_group]
  split
  · rename_i e; subst e; exact hf _
  · exact ⟨_, _, _, _, rfl⟩

theorem advised_writeDerate (a : Fin 8) (d : Int) (s : State) : s.Advised (writeDerate a d s) := by
  have either {c : Prop} [Decidable c] {x y : State} := keeps_ite (P := s.Advised) (c := c) (x := x) (y := y)
  have written : s.Advised (s.modAct a fun x => { x with derate := d }) := by
    refine ⟨⟨⟨_, _, _, _, _, rfl⟩, fun b => ?_, fun _ => ⟨_, _, _, _, rfl⟩, fun _ => rfl⟩, [], nofun, Noted.of_sli rfl⟩
    rw [State.modAct_act]
    split
    · rename_i e; subst e; exact ⟨_, rfl⟩
    · exact ⟨_, rfl⟩
  unfold writeDerate
  dsimp only
  split
  · exact written
  · exact either (either (either (either (written.trans (advised_modGroup _ fun x => ⟨_, _, _, _, rfl⟩))
      (written.trans (advised_modGroup _ fun x => ⟨_, _, _, _, rfl⟩))) written)
      (written.trans (advised_modGroup _ fun x => ⟨_, _, _, _, rfl⟩))) written

theorem advised_merge (s : State) : s.Advised (merge s) :=
  forAsc_keeps s.Advised (fun _ _ h => keeps_ite (P := s.Advised) h (h.trans (advised_writeDerate ..))) .rfl'

theorem ProtEntry.lower_cfg (c : Cond) (x : ProtEntry) : (x.lower c).cfg = x.cfg := by
  unfold ProtEntry.lower
  dsimp only
  split
  · split
    · split <;> rfl
    · rfl
  · rfl

theorem advised_modPmx {s : State} {f : Protection → Protection} (h : ∀ e : Fin 40, (f s.pmx).entries[e].cfg = s.pmx.entries[e].cfg) :
    s.Advised (s.modPmx f) :=
  ⟨⟨⟨_, _, _, _, _, rfl⟩, fun _ => ⟨_, rfl⟩, fun _ => ⟨_, _, _, _, rfl⟩, h⟩, [], nofun, Noted.of_sli rfl⟩

theorem merge_sli (s : State) : (merge s).sli = s.sli :=
  forAsc_keeps (fun t => t.sli = s.sli) (fun a _ h => keeps_ite (P := fun t => t.sli = s.sli) h
    (keeps_writeDerate (Q := fun t => t.sli = s.sli) (fun _ _ h => h) (fun _ _ h => h) a _ h)) rfl

/-- A lowering forms no notice. -/
theorem lower_sli (c : Cond) (s : State) : (lower c s).sli = s.sli := keeps_ite (P := fun t => t.sli = s.sli) (merge_sli _) rfl

theorem advised_lower (c : Cond) (s : State) : s.Advised (lower c s) :=
  keeps_ite (P := s.Advised) ((advised_modPmx (s := s) (f := fun p => { p with cond := p.cond.set c.slot false }) fun _ => rfl).trans
    ((advised_modPmx (s := setCond c false s) fun e => by
      show (s.pmx.entries.map (ProtEntry.lower c))[e].cfg = s.pmx.entries[e].cfg
      rw [Fin.getElem_fin, Vector.getElem_map]; exact ProtEntry.lower_cfg ..).trans
      (advised_merge _))) .rfl'

/-! ### Raisings (R182, R187, R191) -/

/-- The condition is neither of the two whose entries an advisory matrix leaves free. -/
def Cond.advisory (c : Cond) : Prop := c.kind ≠ .haltLoop ∧ c.kind ≠ .broadcastHalt

theorem acting_of_matches {s : State} (h : s.advisory) {c : Cond} (hc : c.advisory) {e : Fin 40}
    (hm : s.pmx.entries[e].cfg.matches c = true) :
    s.pmx.entries[e].cfg.acting = .note ∨ s.pmx.entries[e].cfg.acting = .derate := by
  have kind : s.pmx.entries[e].cfg.kind = some c.kind := by
    simp only [ProtConfig.matches, Bool.and_eq_true, decide_eq_true_eq] at hm
    exact hm.1
  obtain ⟨halt, broadcast⟩ := hc
  rcases h e with h | h | h | h
  · exact .inl h
  · exact .inr h
  · exact absurd (Option.some.inj (kind.symm.trans h)) halt
  · exact absurd (Option.some.inj (kind.symm.trans h)) broadcast

/-- An entry that acts as NOTE or DERATE takes a raising: its record and, where it was not ACTIVE, its ENTRY notice. -/
theorem takeRaising_eq {s : State} {e : Fin 40} (c : Cond)
    (h : s.pmx.entries[e].cfg.acting = .note ∨ s.pmx.entries[e].cfg.acting = .derate)
    (hm : s.pmx.entries[e].cfg.matches c = true) :
    takeRaising e c s =
      (let x := s.pmx.entries[e]
       let t := s.modEntry e fun y =>
         { y with st := .active, raised := insertAsc c.inst y.raised, reach := y.reach ||| instReach x.cfg.scope c s }
       if x.st ≠ .active then offer (entryNotice e x.cfg c (instReach x.cfg.scope c s) t) t else t) := by
  unfold takeRaising
  rcases h with h | h <;> simp only [hm, if_true, h, applyAction, reduceCtorEq, if_false, decide_eq_true_eq]

theorem entryNotice_kind {e : Fin 40} {x : ProtConfig} (c : Cond) (r : ActSet) (s : State) (h : x.acting ≠ .trip) :
    (entryNotice e x c r s).kind = .entry := by
  unfold entryNotice; rw [if_neg h]; rfl

theorem advised_modEntry {s : State} (e : Fin 40) {f : ProtEntry → ProtEntry} (h : ∀ x, (f x).cfg = x.cfg) :
    s.Advised (s.modEntry e f) := by
  refine advised_modPmx fun k => ?_
  show (vmod s.pmx.entries e f)[k].cfg = _
  rw [vmod_get]
  split
  · rename_i i; subst i; exact h _
  · rfl

theorem advised_offer {s : State} {n : Notice} (h : n.kind = .entry) : s.Advised (offer n s) :=
  ⟨moved_offer n s, [n], by simpa using h, rfl, rfl⟩

theorem advised_takeRaising {s : State} (h : s.advisory) {c : Cond} (hc : c.advisory) (e : Fin 40) :
    s.Advised (takeRaising e c s) := by
  by_cases hm : s.pmx.entries[e].cfg.matches c = true
  · have acting := acting_of_matches h hc hm
    have quiet : s.pmx.entries[e].cfg.acting ≠ .trip := by rcases acting with a | a <;> rw [a] <;> decide
    rw [takeRaising_eq c acting hm]
    have stored := advised_modEntry (s := s) e (f := fun y => { y with
      st := .active, raised := insertAsc c.inst y.raised
      reach := y.reach ||| instReach s.pmx.entries[e].cfg.scope c s }) fun _ => rfl
    exact keeps_ite (P := s.Advised) (stored.trans (advised_offer (entryNotice_kind _ _ _ quiet))) stored
  · have : takeRaising e c s = s := if_neg hm
    rw [this]; exact .rfl'

theorem advised_raise {s : State} (ev : s.ev = {}) (h : s.advisory) {c : Cond} (hc : c.advisory) : s.Advised (raise c s) := by
  have set : s.Advised (setCond c true s) := advised_modPmx fun _ => rfl
  have taken : s.Advised (forAsc 40 (fun e s => takeRaising e c s) (setCond c true s)) :=
    forAsc_keeps s.Advised (fun e _ k => k.trans (advised_takeRaising (k.advisory h) hc e)) set
  have merged := taken.trans (advised_merge _)
  unfold raise
  rw [flush_of_empty (merged.ev.trans ev)]
  exact keeps_ite (P := s.Advised) .rfl' merged

theorem advised_setTo {s : State} (ev : s.ev = {}) (h : s.advisory) {c : Cond} (hc : c.advisory) (b : Bool) :
    s.Advised (setTo c b s) := keeps_ite (P := s.Advised) (advised_raise ev h hc) (advised_lower c s)

/-! ### Which condition stands (R177) -/

theorem merge_raised (s : State) (c : Cond) : (merge s).raised c = s.raised c := by
  unfold State.raised; rw [merge_pmx]

end Sys2Proof.Machine

/-!
Evaluations of zones: the levels they form, the conditions they raise and lower, and the ZONE_LEVEL notices of a walk over the
zones (R163 to R174); and START and GO (R27 to R29).
-/
namespace Sys2Proof.Machine

/-! ### Levels (R169 to R172) -/

theorem Zone.formLevel_eq (z : Zone) : z.formLevel = z.levelOfSums := by
  have meets_iff (n k : Nat) : meets n (if k = 0 then none else some k) = decide (k ≠ 0 ∧ k ≤ n) := by
    by_cases h : k = 0 <;> simp [h, meets]
  have met (l : Level) (p : Thresholds → Nat) (hp : ∀ t : Thresholds, t.at l = if p t = 0 then none else some (p t)) :
      z.met l = decide ((p z.cfg.counts ≠ 0 ∧ p z.cfg.counts ≤ (z.bins.map Bin.count).sum) ∨
        (p z.cfg.energies ≠ 0 ∧ p z.cfg.energies ≤ (z.bins.map Bin.energy).sum)) := by
    rw [Zone.met, hp, hp, meets_iff, meets_iff, Bool.decide_or]; rfl
  unfold Zone.formLevel Zone.levelOfSums
  rw [met .alarm Thresholds.alarm fun _ => rfl, met .alert Thresholds.alert fun _ => rfl,
    met .watch Thresholds.watch fun _ => rfl]

/-- With every bin empty no used threshold is reached. -/
theorem Zone.levelOfSums_emptyBins (z : Zone) : z.emptyBins.levelOfSums = .quiet := by
  have count : ∀ n, ((List.replicate n ({} : Bin)).map Bin.count).sum = 0 := by simp
  have energy : ∀ n, ((List.replicate n ({} : Bin)).map Bin.energy).sum = 0 := by simp
  unfold Zone.levelOfSums Zone.emptyBins
  dsimp only
  rw [count, energy]
  simp

theorem Level.code_higher (a b : Level) : (a.higher b).code = max a.code b.code := by
  cases a <;> cases b <;> rfl

theorem Level.code_inj {a b : Level} (h : a.code = b.code) : a = b := by
  cases a <;> cases b <;> first | rfl | exact nomatch h

theorem Zone.evaluate_displayed (z : Zone) : z.evaluate.displayed = z.evaluate.presentLevel.higher z.evaluate.latched := rfl

theorem Zone.evaluate_present (z : Zone) : z.evaluate.presentLevel = z.levelOfSums := z.formLevel_eq

@[simp] theorem Zone.evaluate_cfg (z : Zone) : z.evaluate.cfg = z.cfg := rfl
@[simp] theorem Zone.evaluate_bins (z : Zone) : z.evaluate.bins = z.bins := rfl

/-- A level that does not rise above the latched one leaves it. -/
theorem Zone.evaluate_latched {z : Zone} (on : z.cfg.enabled = true) (h : z.levelOfSums = .quiet) :
    z.evaluate.latched = z.latched := by
  unfold Zone.evaluate
  dsimp only
  rw [if_pos on, z.formLevel_eq, h]
  rfl

/-! ### The conditions of a zone (R172) -/

/-- A displayed level that does not rise brings no raising: no notice. -/
theorem zoneConditions_falling {z : Fin 16} {old new : Level} (h : new.code ≤ old.code) (s : State) :
    s.Advised (zoneConditions z old new s) ∧ (zoneConditions z old new s).sli = s.sli := by
  unfold zoneConditions
  rw [if_neg (by omega)]
  have first : s.Advised (if new = .alarm then s else lower (.zoneAlarm z) s) ∧
      (if new = .alarm then s else lower (.zoneAlarm z) s).sli = s.sli :=
    keeps_ite (P := fun t => s.Advised t ∧ t.sli = s.sli) ⟨.rfl', rfl⟩ ⟨advised_lower .., lower_sli ..⟩
  exact keeps_ite (P := fun t => s.Advised t ∧ t.sli = s.sli) first
    ⟨first.1.trans (advised_lower ..), (lower_sli ..).trans first.2⟩

theorem zoneConditions_advised {z : Fin 16} {old new : Level} {s : State} (ev : s.ev = {}) (h : s.advisory) :
    s.Advised (zoneConditions z old new s) := by
  unfold zoneConditions
  have either {c : Prop} [Decidable c] {x y : State} := keeps_ite (P := s.Advised) (c := c) (x := x) (y := y)
  split
  · have alert := either (c := new.isAlert = true) (advised_raise ev h (c := .zoneAlert z) ⟨nofun, nofun⟩) .rfl'
    exact either (alert.trans (advised_raise (alert.ev.trans ev) (alert.advisory h) ⟨nofun, nofun⟩)) alert
  · have alarm := either (c := new = .alarm) .rfl' (advised_lower (.zoneAlarm z) s)
    exact either alarm (alarm.trans (advised_lower ..))

/-! ### A walk over the zones (R168, R171, R174) -/

/-- The zones too may move. -/
def State.Zoned (s t : State) : Prop := ({ s with zmn := t.zmn } : State).Moved t

theorem State.Zoned.rfl' {s : State} : s.Zoned s := State.Moved.rfl'

theorem State.Zoned.trans {s t u : State} (h : s.Zoned t) (k : t.Zoned u) : s.Zoned u :=
  (State.Moved.withZmn h u.zmn).trans k

theorem State.Moved.zoned {s t : State} (h : s.Moved t) : s.Zoned t := by
  have : ({ s with zmn := t.zmn } : State) = s := by rw [h.zmn]
  rw [State.Zoned, this]; exact h

theorem zoned_modZmn (f : Zones → Zones) (s : State) : s.Zoned (s.modZmn f) := State.Moved.rfl'

section

variable {s t : State} (h : s.Zoned t)
include h

theorem State.Zoned.moved : ({ s with zmn := t.zmn } : State).Moved t := h
theorem State.Zoned.psq : t.psq = s.psq := h.moved.psq
theorem State.Zoned.stc : t.stc = s.stc := h.moved.stc
theorem State.Zoned.ev : t.ev = s.ev := h.moved.ev
theorem State.Zoned.stp : t.stp = s.stp := h.moved.stp
theorem State.Zoned.clock : t.clock = s.clock := h.moved.clock
theorem State.Zoned.time : t.time = s.time := h.moved.time
theorem State.Zoned.replies : t.sli.replies = s.sli.replies := h.moved.replies
theorem State.Zoned.state (a : Fin 8) : (t.act a).state = (s.act a).state := h.moved.state a
theorem State.Zoned.advisory (ha : s.advisory) : t.advisory := h.moved.advisory ha

end

/-- The ZONE_LEVEL notice of a zone's new displayed level (R171). -/
def State.zoneNote (s : State) (cause : ZoneCause) (z : Fin 16) (x : Zone) (old : Level) : Notice :=
  s.notice .zoneLevel z.val x.displayed.code old.code x.latched.code cause.code

theorem zoneNote_congr {s t : State} (h : s.Zoned t) (cause : ZoneCause) (z : Fin 16) (x : Zone) (old : Level) :
    t.zoneNote cause z x old = s.zoneNote cause z x old := by
  unfold State.zoneNote State.notice; rw [h.time, h.psq]

/-- A zone's change of displayed level forms no notice of the statement's kinds but its own. -/
def State.calmAt (s : State) (p : Notice → Bool) (z : Fin 16) (old new : Level) : Prop :=
  ∀ u, s.Zoned u → u.Moved (zoneConditions z old new u) ∧ Forms u (zoneConditions z old new u) p []

theorem calmAt_falling (s : State) (p : Notice → Bool) (z : Fin 16) {old new : Level} (h : new.code ≤ old.code) :
    s.calmAt p z old new := fun u _ => by
  obtain ⟨moved, sli⟩ := zoneConditions_falling (z := z) h u
  exact ⟨moved.toMoved, Forms.of_sli sli⟩

theorem calmAt_advisory {s : State} {p : Notice → Bool} (ev : s.ev = {}) (h : s.advisory)
    (hp : ∀ n, n.kind = .entry → p n = false) (z : Fin 16) (old new : Level) : s.calmAt p z old new := fun u hu => by
  have moved := zoneConditions_advised (z := z) (old := old) (new := new) (hu.ev.trans ev) (hu.advisory h)
  exact ⟨moved.toMoved, moved.forms hp⟩

/-- The evaluation of one zone. -/
theorem evaluateZone_forms {cause : ZoneCause} {z : Fin 16} {s : State} {p : Notice → Bool}
    (hp : ∀ n, n.kind = .zoneLevel → p n = true)
    (calm : s.calmAt p z s.zmn.zones[z].displayed s.zmn.zones[z].evaluate.displayed) :
    s.Zoned (evaluateZone cause z s) ∧
      (evaluateZone cause z s).zmn = { s.zmn with zones := vmod s.zmn.zones z Zone.evaluate } ∧
      Forms s (evaluateZone cause z s) p (if s.zmn.zones[z].evaluate.displayed = s.zmn.zones[z].displayed then []
        else [s.zoneNote cause z s.zmn.zones[z].evaluate s.zmn.zones[z].displayed]) := by
  obtain ⟨x, hx⟩ : ∃ x, x = s.zmn.zones[z].evaluate := ⟨_, rfl⟩
  have read : (s.modZone z Zone.evaluate).zmn.zones[z] = x :=
    ((vmod_get s.zmn.zones z z Zone.evaluate).trans (if_pos rfl)).trans hx.symm
  have set : s.Zoned (s.modZone z Zone.evaluate) := zoned_modZmn _ s
  have eq : evaluateZone cause z s = if x.displayed = s.zmn.zones[z].displayed then s.modZone z Zone.evaluate
      else zoneConditions z s.zmn.zones[z].displayed x.displayed
        (offer ((s.modZone z Zone.evaluate).zoneNote cause z x s.zmn.zones[z].displayed) (s.modZone z Zone.evaluate)) := by
    unfold evaluateZone
    dsimp only
    rw [read]; rfl
  rw [eq, ← hx]
  rw [← hx] at calm
  by_cases h : x.displayed = s.zmn.zones[z].displayed
  · rw [if_pos h, if_pos h]
    exact ⟨set, rfl, Forms.of_sli rfl⟩
  · rw [if_neg h, if_neg h, zoneNote_congr set]
    have offered := Forms.offer (p := p) (s.zoneNote cause z x s.zmn.zones[z].displayed) (s.modZone z Zone.evaluate)
    rw [if_pos (hp _ rfl)] at offered
    have zoned := set.trans (moved_offer (s.zoneNote cause z x s.zmn.zones[z].displayed) _).zoned
    obtain ⟨moved, forms⟩ := calm _ zoned
    exact ⟨zoned.trans moved.zoned, moved.zmn,
      ((Forms.of_sli (s := s) (t := s.modZone z Zone.evaluate) rfl).trans offered).trans forms⟩

/-- What the walk makes of a zone. -/
def Zone.walked (x : Zone) : Zone := if x.cfg.enabled then x.evaluate else x

/-- A walk over zones. -/
theorem walk_forms {cause : ZoneCause} {p : Notice → Bool} (hp : ∀ n, n.kind = .zoneLevel → p n = true) (l : List (Fin 16))
    (nodup : l.Nodup) (s : State) (calm : ∀ z ∈ l, s.zmn.zones[z].cfg.enabled = true →
      s.calmAt p z s.zmn.zones[z].displayed s.zmn.zones[z].evaluate.displayed) :
    let t := l.foldl (fun s z => evaluateEnabled cause z s) s
    s.Zoned t ∧ (∃ v, t.zmn = { s.zmn with zones := v }) ∧
      (∀ z : Fin 16, t.zmn.zones[z] = if z ∈ l then s.zmn.zones[z].walked else s.zmn.zones[z]) ∧
      Forms s t p ((l.filter fun z => s.zmn.zones[z].walked.displayed ≠ s.zmn.zones[z].displayed).map fun z =>
        s.zoneNote cause z s.zmn.zones[z].walked s.zmn.zones[z].displayed) := by
  induction l generalizing s with
  | nil => exact ⟨.rfl', ⟨_, rfl⟩, fun _ => (if_neg List.not_mem_nil).symm, Forms.of_sli rfl⟩
  | cons z l ih =>
    obtain ⟨out, nodup⟩ := List.nodup_cons.1 nodup
    have one : s.Zoned (evaluateEnabled cause z s) ∧
        (evaluateEnabled cause z s).zmn = { s.zmn with zones := vmod s.zmn.zones z Zone.walked } ∧
        Forms s (evaluateEnabled cause z s) p (if s.zmn.zones[z].walked.displayed = s.zmn.zones[z].displayed then []
          else [s.zoneNote cause z s.zmn.zones[z].walked s.zmn.zones[z].displayed]) := by
      unfold evaluateEnabled
      by_cases on : s.zmn.zones[z].cfg.enabled = true
      · have w : s.zmn.zones[z].walked = s.zmn.zones[z].evaluate := if_pos on
        have v : vmod s.zmn.zones z Zone.walked = vmod s.zmn.zones z Zone.evaluate := by unfold vmod; rw [w]
        rw [if_pos on, w, v]
        exact evaluateZone_forms hp (calm z List.mem_cons_self on)
      · have w : s.zmn.zones[z].walked = s.zmn.zones[z] := if_neg on
        have v : vmod s.zmn.zones z Zone.walked = s.zmn.zones := by unfold vmod; rw [w]; exact Vector.set_getElem_self _
        rw [if_neg on, w, v, if_pos rfl]
        exact ⟨.rfl', rfl, Forms.of_sli rfl⟩
    obtain ⟨zoned, zmn, forms⟩ := one
    rw [List.foldl_cons]
    generalize evaluateEnabled cause z s = u at zoned zmn forms ⊢
    have zones (k : Fin 16) : u.zmn.zones[k] = if z = k then s.zmn.zones[k].walked else s.zmn.zones[k] := by
      rw [zmn]; exact vmod_get ..
    have later {k : Fin 16} (hk : k ∈ l) : u.zmn.zones[k] = s.zmn.zones[k] := by
      rw [zones, if_neg fun (e : z = k) => out (e ▸ hk)]
    obtain ⟨zoned', ⟨v, zmn'⟩, zones', forms'⟩ := ih nodup u fun k hk on => by
      rw [later hk] at on ⊢
      intro w hw
      exact calm k (List.mem_cons_of_mem z hk) on w (zoned.trans hw)
    refine ⟨zoned.trans zoned', ⟨v, by rw [zmn', zmn]⟩, fun k => ?_, ?_⟩
    · rw [zones' k]
      by_cases hk : k ∈ l
      · rw [if_pos hk, later hk, if_pos (List.mem_cons_of_mem z hk)]
      · rw [if_neg hk, zones]
        by_cases e : z = k
        · rw [if_pos e, if_pos (e ▸ List.mem_cons_self)]
        · rw [if_neg e, if_neg fun h => (List.mem_cons.1 h).elim (fun h => e h.symm) hk]
    · have rest : (l.filter fun z => u.zmn.zones[z].walked.displayed ≠ u.zmn.zones[z].displayed).map (fun z =>
          u.zoneNote cause z u.zmn.zones[z].walked u.zmn.zones[z].displayed) =
          (l.filter fun z => s.zmn.zones[z].walked.displayed ≠ s.zmn.zones[z].displayed).map fun z =>
            s.zoneNote cause z s.zmn.zones[z].walked s.zmn.zones[z].displayed := by
        rw [List.filter_congr fun k hk => by rw [later hk]]
        exact List.map_congr_left fun k hk => by rw [later (List.mem_of_mem_filter hk), zoneNote_congr zoned]
      rw [rest] at forms'
      have both := forms.trans forms'
      rw [List.filter_cons]
      by_cases h : s.zmn.zones[z].walked.displayed = s.zmn.zones[z].displayed
      · rw [if_pos h] at both
        rw [if_neg (by simpa using h)]; exact both
      · rw [if_neg h] at both
        rw [if_pos (by simpa using h)]; exact both

/-- A walk over all zones, after the bins moved in a way that leaves the levels. -/
theorem zoneWalk_forms {cause : ZoneCause} {p : Notice → Bool} (hp : ∀ n, n.kind = .zoneLevel → p n = true) (s : State)
    (calm : ∀ z : Fin 16, s.zmn.zones[z].cfg.enabled = true →
      s.calmAt p z s.zmn.zones[z].displayed s.zmn.zones[z].evaluate.displayed) :
    let t := forAsc 16 (evaluateEnabled cause) s
    s.Zoned t ∧ (∃ v, t.zmn = { s.zmn with zones := v }) ∧ (∀ z : Fin 16, t.zmn.zones[z] = s.zmn.zones[z].walked) ∧
      Forms s t p (zoneNotes cause s t) := by
  have walk := walk_forms hp (List.finRange 16) (List.nodup_finRange 16) s (fun z _ => calm z) (cause := cause)
  have eq : forAsc 16 (evaluateEnabled cause) s = (List.finRange 16).foldl (fun s z => evaluateEnabled cause z s) s := by
    rw [forAsc]
  rw [← eq] at walk
  generalize forAsc 16 (evaluateEnabled cause) s = t at walk ⊢
  obtain ⟨zoned, zmn, zones, forms⟩ := walk
  have zones (z : Fin 16) : t.zmn.zones[z] = s.zmn.zones[z].walked := (zones z).trans (if_pos (List.mem_finRange z))
  refine ⟨zoned, zmn, zones, ?_⟩
  have notes : zoneNotes cause s t =
      ((List.finRange 16).filter fun z => s.zmn.zones[z].walked.displayed ≠ s.zmn.zones[z].displayed).map fun z =>
        s.zoneNote cause z s.zmn.zones[z].walked s.zmn.zones[z].displayed := by
    unfold zoneNotes
    rw [List.filter_congr fun z _ => by rw [zones z]]
    refine List.map_congr_left fun z _ => ?_
    rw [← zoneNote_congr (t := t) zoned, ← zones z]; rfl
  rw [notes]
  exact forms

end Sys2Proof.Machine

/-!
START and GO (R27 to R29, R174).
-/
namespace Sys2Proof.Machine

/-! ### Replies to a state that an event has left (R202) -/

theorem answered_eq (s : State) (code : Byte) (f : Frame) (p : List Byte) :
    s.answered code f p = holdReply { code := code, tag := f.tag, payload := replyHead .done s.stationFlags 65535 ++ p }
      s.received := rfl

theorem repliedDone_answered {s u : State} (h : u.sli.replies = s.sli.replies) (code : Byte) (f : Frame) (p : List Byte) :
    RepliedDone s (u.answered code f p) code f p := by
  rw [RepliedDone, ← h]; rfl

theorem State.Moved.rx {s t : State} (h : s.Moved t) : t.sli.rx = s.sli.rx := by obtain ⟨_, _, _, _, _, rfl⟩ := h.rest; rfl

theorem received_of_no_rx {s : State} (h : s.sli.rx = []) : s.received = s := by
  obtain ⟨clock, stc, sli, axs, psq, svc, lgu, glc, stp, aeu, zmn, pmx, ev, pending⟩ := s
  obtain ⟨notices, lost, errors, replies, due, rx⟩ := sli
  dsimp only at h; subst h
  rfl

/-! ### The clearing of a START (R29, R143, R174) -/

theorem Sequencer.stopped_totalCycles (q : Sequencer) : q.stopped.totalCycles = q.totalCycles := by
  by_cases h : q.activity.isWave = true
  · by_cases hm : q.pauseLength = 0
    · rw [Sequencer.stopped_of_no_pause h hm]; rfl
    · rw [Sequencer.stopped_of_pause h hm]; rfl
  · rw [Sequencer.stopped_of_level (by simpa using h)]

theorem enterCycle_totalCycles (m : Int) (q : Sequencer) : (enterCycle m q).totalCycles = q.totalCycles := by
  unfold enterCycle beginTaperUp beginSteady
  dsimp only
  split
  · split <;> rfl
  · rfl

theorem enterFrom_totalCycles (n i : Nat) (q : Sequencer) : (enterFrom n i q).totalCycles = q.totalCycles := by
  induction n generalizing i q with
  | zero => rfl
  | succ n ih =>
    unfold enterFrom
    split
    · split
      · rfl
      · rfl
      · exact enterCycle_totalCycles _ _
      · split <;> exact ih ..
      · rfl
    · rfl

theorem Sequencer.run_totalCycles (q : Sequencer) (i : Nat) : (q.run i).totalCycles = q.totalCycles := by
  have entered : (enterFrom loopFuel i { q with state := .running }).totalCycles = q.totalCycles := enterFrom_totalCycles ..
  unfold Sequencer.run Sequencer.afterEntry
  generalize enterFrom loopFuel i { q with state := .running } = e at entered ⊢
  split
  · exact entered
  · split
    · exact (Sequencer.stopped_totalCycles e).trans entered
    · exact entered

/-- A START's clearing of the zones: every enabled zone falls to its latched level. -/
theorem clearZoneBins_spec {s : State} (law : ∀ z : Fin 16,
    s.zmn.zones[z].displayed = s.zmn.zones[z].presentLevel.higher s.zmn.zones[z].latched) :
    s.Zoned (clearZoneBins s) ∧
      (∀ z : Fin 16, (clearZoneBins s).zmn.zones[z].bins = List.replicate s.zmn.zones[z].bins.length {}) ∧
      Noted s (clearZoneBins s) (zoneNotes .clear s (clearZoneBins s)) := by
  obtain ⟨u, hu⟩ : ∃ u, u = s.modZmn fun m => { m with zones := m.zones.map Zone.emptyBins } := ⟨_, rfl⟩
  have emptied (z : Fin 16) : u.zmn.zones[z] = s.zmn.zones[z].emptyBins := by
    rw [hu]
    show (s.zmn.zones.map Zone.emptyBins)[z.val] = _
    rw [Vector.getElem_map]; rfl
  have zoned : s.Zoned u := by rw [hu]; exact zoned_modZmn _ s
  have sli : u.sli = s.sli := by rw [hu]; rfl
  have eq : clearZoneBins s = forAsc 16 (evaluateEnabled .clear) u := by rw [hu]; rfl
  rw [eq]
  obtain ⟨walked, -, zones, forms⟩ := zoneWalk_forms (cause := .clear) (p := fun _ => true) (fun _ _ => rfl) u fun z on => by
    have level : u.zmn.zones[z].levelOfSums = .quiet := by rw [emptied]; exact Zone.levelOfSums_emptyBins _
    refine calmAt_falling _ _ _ ?_
    rw [Zone.evaluate_displayed, Zone.evaluate_present, Zone.evaluate_latched on level, level, Level.code_higher, emptied]
    show max 0 s.zmn.zones[z].latched.code ≤ s.zmn.zones[z].displayed.code
    rw [law, Level.code_higher]
    omega
  generalize forAsc 16 (evaluateEnabled .clear) u = t at walked zones forms ⊢
  refine ⟨zoned.trans walked, fun z => ?_, ?_⟩
  · rw [zones, emptied]
    show (Zone.walked _).bins = _
    unfold Zone.walked
    split <;> rfl
  · have same : zoneNotes .clear s t = zoneNotes .clear u t := by
      have displayed (z : Fin 16) : u.zmn.zones[z].displayed = s.zmn.zones[z].displayed := by rw [emptied]; rfl
      unfold zoneNotes
      simp only [displayed]
    rw [same]
    exact (Noted.of_sli sli).trans (forms.noted fun _ => rfl)

/-- A START's clearing of the references, stiffnesses and peak stores. -/
theorem clearAllStiffness_spec (s : State) :
    (∃ v, ({ s with stp := { s.stp with stiff := v } } : State).Moved (clearAllStiffness s)) ∧
      (clearAllStiffness s).sli = s.sli ∧ ∀ k : Fin 8, (clearAllStiffness s).stp.stiff[k] = {} := by
  have step (k : Fin 8) (u : State) :
      clearStiffness k (u.modStiff k fun x => { x with peak := none }) = lower (.stiffness k) (u.modStiff k fun _ => {}) := by
    unfold clearStiffness
    have stiff : vmod (vmod u.stp.stiff k fun x => { x with peak := none }) k (fun x =>
        { x with kRef := none, k := none, ratio := none }) = vmod u.stp.stiff k fun _ => {} := by simp [vmod]
    exact congrArg (fun v => lower (.stiffness k) (u.modStp fun x => { x with stiff := v })) stiff
  have walk (l : List (Fin 8)) (u : State) (P : (∃ v, ({ s with stp := { s.stp with stiff := v } } : State).Moved u) ∧
      u.sli = s.sli) :
      let t := l.foldl (fun s k => clearStiffness k (s.modStiff k fun x => { x with peak := none })) u
      ((∃ v, ({ s with stp := { s.stp with stiff := v } } : State).Moved t) ∧ t.sli = s.sli) ∧
        ∀ k : Fin 8, k ∈ l ∨ u.stp.stiff[k] = {} → t.stp.stiff[k] = {} := by
    induction l generalizing u with
    | nil => exact ⟨P, fun k h => h.resolve_left List.not_mem_nil⟩
    | cons k l ih =>
      rw [List.foldl_cons, step]
      obtain ⟨w, hw⟩ : ∃ w, w = lower (.stiffness k) (u.modStiff k fun _ => {}) := ⟨_, rfl⟩
      have moved := (advised_lower (.stiffness k) (u.modStiff k fun _ => {})).toMoved
      rw [← hw] at moved ⊢
      have stiff (j : Fin 8) : w.stp.stiff[j] = if k = j then {} else u.stp.stiff[j] := by
        rw [moved.stp]; exact vmod_get ..
      obtain ⟨⟨v, hv⟩, sli⟩ := P
      have same : ({ s with stp := { s.stp with stiff := vmod v k fun _ => {} } } : State).Moved (u.modStiff k fun _ => {}) := by
        obtain ⟨⟨a, g, p, l, lost, rfl⟩, act, group, entry⟩ := hv
        exact ⟨⟨a, g, p, l, lost, rfl⟩, act, group, entry⟩
      obtain ⟨kept, cleared⟩ := ih w ⟨⟨_, same.trans moved⟩, by rw [hw, lower_sli]; exact sli⟩
      refine ⟨kept, fun j h => cleared j ?_⟩
      rw [stiff]
      rw [List.mem_cons] at h
      by_cases e : k = j
      · exact .inr (if_pos e)
      · rw [if_neg e]
        rcases h with (h | h) | h
        · exact absurd h.symm e
        · exact .inl h
        · exact .inr h
  have eq : clearAllStiffness s =
      (List.finRange 8).foldl (fun s k => clearStiffness k (s.modStiff k fun x => { x with peak := none })) s := by
    rw [clearAllStiffness, forAsc]
  rw [eq]
  obtain ⟨⟨moved, sli⟩, cleared⟩ := walk (List.finRange 8) s ⟨⟨s.stp.stiff, .rfl'⟩, rfl⟩
  exact ⟨moved, sli, fun k => cleared k (.inl (List.mem_finRange k))⟩

/-! ### START (R27 to R29) -/

/-- The state in which a START that is taken moves the plan: zones and stiffnesses are cleared. -/
def State.cleared (start : Fin 48) (s : State) : State := clearAllStiffness (clearZoneBins (s.modSeq (Sequencer.zeroed start)))

/-- The plan and the notices a START that is taken leaves. -/
theorem startAct_eq {start : Fin 48} {wait : Bool} {s : State} (ev : (s.cleared start).ev = {})
    (psq : (s.cleared start).psq = s.psq.zeroed start) (time : (s.cleared start).time = s.time) :
    startAct start wait s =
      (if wait then ({ s.cleared start with psq := { s.psq.zeroed start with state := .waitingGo, activity := .none } } : State).noted
          [({ s.psq.zeroed start with state := .waitingGo, activity := .none } : Sequencer).note s.time s.psq.state]
        else ({ s.cleared start with psq := (s.psq.zeroed start).run start.val } : State).noted
          ((s.psq.zeroed start).runNotes s.time start.val)) := by
  have eq : startAct start wait s = flush (if wait then
      seqChange (fun q => { q with state := .waitingGo, activity := .none }) (s.cleared start)
      else runFrom start.val (s.cleared start)) := rfl
  rw [eq]
  generalize s.cleared start = u at ev psq time ⊢
  cases wait with
  | true =>
    rw [if_pos rfl, if_pos rfl, seqChange_eq, flush_withPlan_append ev, psq, time]
    rfl
  | false => rw [if_neg (by decide), if_neg (by decide), runFrom_eq, flush_withPlan_append ev, psq, time]

/-- START's tests, where the frame's fields name a segment and a flag. -/
theorem startBody_eq {p : List Byte} {start : Fin 48} {wait : Bool} {s : State} (hm : s.stc.mode = .run)
    (h0 : u8 p 0 = start.val) (h1 : u8 p 1 = wait.toNat) :
    startBody p s = match preCheck s start with
      | some d => .refuse .refusedRange d
      | none => .test (!s.psq.state.going) (.state Config.noDetail) (match notReady s with
        | some a => .state a.val
        | none => .done (startAct start wait s)) := by
  rw [startBody, Answer.test_of (decide_eq_true hm), h0, Answer.get_some (indexOf_val start), h1,
    Answer.get_some (flagOf_toNat wait)] <;> rfl

/-- What the clearing of a START leaves. -/
theorem cleared_spec {start : Fin 48} {s : State} (law : ∀ z : Fin 16,
    s.zmn.zones[z].displayed = s.zmn.zones[z].presentLevel.higher s.zmn.zones[z].latched) :
    (∃ m v, ({ s with psq := s.psq.zeroed start, zmn := m, stp := { s.stp with stiff := v } } : State).Moved (s.cleared start)) ∧
      (∀ z : Fin 16, (s.cleared start).zmn.zones[z].bins = List.replicate s.zmn.zones[z].bins.length {}) ∧
      (∀ k : Fin 8, (s.cleared start).stp.stiff[k] = {}) ∧
      ∃ l, Noted s (s.cleared start) l ∧ ∀ t : State, t.zmn = (s.cleared start).zmn → t.time = s.time → t.psq.totalCycles = 0 →
        zoneNotes .clear s t = l := by
  obtain ⟨u, hu⟩ : ∃ u, u = s.modSeq (Sequencer.zeroed start) := ⟨_, rfl⟩
  obtain ⟨w, hw⟩ : ∃ w, w = clearZoneBins u := ⟨_, rfl⟩
  have eq : s.cleared start = clearAllStiffness w := by rw [hw, hu]; rfl
  have zmn : u.zmn = s.zmn := by rw [hu]; rfl
  rw [eq]
  obtain ⟨zoned, bins, noted⟩ := clearZoneBins_spec (s := u) (by rw [zmn]; exact law)
  obtain ⟨⟨v, stiffened⟩, sli, cleared⟩ := clearAllStiffness_spec w
  rw [← hw] at zoned bins noted
  refine ⟨⟨w.zmn, v, ?_⟩, fun z => ?_, cleared, zoneNotes .clear u w,
    ((Noted.of_sli (s := s) (t := u) (by rw [hu]; rfl)).trans noted).congr sli, fun t ht time zero => ?_⟩
  · refine State.Moved.trans ?_ stiffened
    obtain ⟨⟨a, g, p, l, lost, e⟩, act, group, entry⟩ := zoned.moved
    rw [hu] at e act group entry
    refine ⟨⟨a, g, p, l, lost, ?_⟩, act, group, entry⟩
    have stp : w.stp = s.stp := by rw [e]; rfl
    rw [stp]
    conv_lhs => rw [e]
    rfl
  · rw [stiffened.zmn]; exact (bins z).trans (by rw [zmn])
  · have zones : t.zmn = w.zmn := ht.trans stiffened.zmn
    have time' : w.time = t.time := by rw [zoned.time, hu, time]; rfl
    have zero' : w.psq.totalCycles = t.psq.totalCycles := by rw [zoned.psq, hu, zero]; rfl
    unfold zoneNotes
    rw [zones, zmn, time', zero']

theorem flagOf_none {n : Nat} (h : 2 ≤ n) : flagOf n = none := by
  obtain ⟨k, rfl⟩ := Nat.exists_eq_add_of_le' h
  rfl

/-- A state with other notices queued. -/
theorem noted_withPlan (s : State) (q : Sequencer) (l : List Notice) :
    ({ s with psq := q } : State).noted l = { s with psq := q, sli := s.sli.queued l } := by rw [noted_eq]

theorem Link.queued_rest (x : Link) (l : List Notice) : ∃ n b, x.queued l = { x with notices := n, noticesLost := b } := by
  induction l generalizing x with
  | nil => exact ⟨_, _, rfl⟩
  | cons n l ih => obtain ⟨m, b, h⟩ := ih { x with notices := queueOffer x.notices n
                                                   noticesLost := x.noticesLost || decide (Config.noticeCap ≤ x.notices.length) }
                   exact ⟨m, b, h⟩

/-- A START that is taken, by the plan and the notices it leaves. -/
theorem start_taken {f : Frame} {s : State} {start : Fin 48} {q : Sequencer} {l : List Notice} {u : State}
    (ht : s.takes f 2) (law : s.zoneLaw)
    (hu : u = ({ s.received.cleared start with psq := q } : State).noted l) (zero : q.totalCycles = 0)
    (body : startBody f.payload s.received = .done u) :
    ∃ t, exec (.start f) s = .next t ∧ t.psq = q ∧
      (∀ z : Fin 16, t.zmn.zones[z].bins = List.replicate s.zmn.zones[z].bins.length {}) ∧
      (∀ k : Fin 8, t.stp.stiff[k] = {}) ∧ (∀ a : Fin 8, (t.act a).state = (s.act a).state) ∧
      Noted s t (zoneNotes .clear s t ++ l) ∧ RepliedDone s t 0x14 f [] ∧
      t = { s with psq := t.psq, zmn := t.zmn, stp := { s.stp with stiff := t.stp.stiff }, svc := t.svc
                   lgu := t.lgu, pmx := t.pmx, sli := t.sli } := by
  obtain ⟨⟨m, v, moved⟩, bins, stiff, zones, noted, notes⟩ := cleared_spec (start := start) (s := s.received)
    fun z => (law z).2.2.1
  generalize s.received.cleared start = c at hu moved bins stiff noted notes
  obtain ⟨n, b, queued⟩ := Link.queued_rest c.sli l
  have rx : u.received = u := by
    refine received_of_no_rx ?_
    rw [hu, noted_withPlan, queued]; exact moved.rx
  have stc : u.stc = s.stc := by rw [hu, noted_withPlan]; exact moved.stc
  have replies : u.sli.replies = s.sli.replies := by rw [hu, noted_withPlan, queued]; exact moved.replies
  refine ⟨u.answered 0x14 f [], command_taken ht rfl (body.trans ?_) (by rw [stc]; exact ht.2.2.1), ?_, ?_, ?_, ?_, ?_,
    repliedDone_answered replies _ _ _, ?_⟩
  · rw [rx]; rfl
  all_goals rw [answered_eq, rx]
  · rw [hu, noted_withPlan]; rfl
  · rw [hu, noted_withPlan]; exact bins
  · rw [hu, noted_withPlan]; exact stiff
  · rw [hu, noted_withPlan]; exact fun a => moved.state a
  · have split : Noted s u (zones ++ l) :=
      ((Noted.of_same (s := s) (t := s.received) ⟨rfl, rfl⟩).trans noted).trans
        ((Noted.of_sli (s := c) (t := { c with psq := q }) rfl).trans (by rw [hu]; exact Noted.noted _ l))
    have z : zoneNotes .clear s (holdReply
        { code := 0x14, tag := f.tag, payload := replyHead .done u.stationFlags 65535 ++ [] } u) = zones :=
      notes _ (by rw [hu, noted_withPlan]; rfl) (by rw [hu, noted_withPlan]; exact moved.time)
        (by rw [hu, noted_withPlan]; exact zero)
    rw [z]
    exact split
  · rw [hu, noted_withPlan]
    obtain ⟨⟨a, g, p, l, lost, e⟩, act, group, entry⟩ := moved
    rw [e]
    rfl

/-! ### GO (R29, R41, R42) -/

theorem goAct_waiting {s : State} (ev : s.ev = {}) (hq : s.psq.state = .waitingGo) {lost : Bool}
    (hlost : lost = true ↔ ∃ k : Fin 8, s.trackLost k) {q : Sequencer}
    (hq' : q = { s.psq with hold := { s.psq.hold with lost := s.psq.hold.lost || lost } }) :
    goAct s = ({ s with psq := q.run q.segment.val } : State).noted (q.runNotes s.time q.segment.val) := by
  have hl : s.lostCause = lost := eq_of_iff_true (lostCause_iff s) hlost
  have added : (if s.lostCause then addReason .lost s else s) = s.withPlan q s.ev.seqs := by
    rw [hl, hq']
    cases lost with
    | true =>
      rw [if_pos rfl, addReason_eq, if_neg (by rw [hq]; decide), Bool.or_true]
      rfl
    | false =>
      rw [if_neg (by decide), Bool.or_false]
      rfl
  have segment : q.segment = s.psq.segment := by rw [hq']
  unfold goAct
  rw [if_pos hq, added]
  show flush (runFrom (s.withPlan q s.ev.seqs).psq.segment.val _) = _
  rw [runFrom_eq, withPlan_withPlan]
  exact flush_withPlan_append ev _ _

/-- Settles O18. -/
theorem startAndGo : Obligations.StartAndGo := by
  unfold Obligations.StartAndGo
  refine ⟨fun f s start wait ht hm h0 h1 => ⟨fun pre => ⟨fun hg => ?_, fun hg => ⟨fun k hk least => ?_, fun ready ev law => ?_⟩⟩,
    fun d pre => ?_⟩, fun f s ht => ⟨fun hm => ?_, fun hm h => ?_⟩, fun f s ht => ⟨fun hq => ?_, fun hq ev lost hlost => ?_⟩⟩
  · refine command_refused ht rfl ((startBody_eq (s := s.received) hm h0 h1).trans ?_)
    rw [show preCheck s.received start = none from pre]
    exact Answer.test_of_not (by rw [show s.received.psq.state.going = true from hg]; rfl) _ _
  · refine command_refused ht rfl ((startBody_eq (s := s.received) hm h0 h1).trans ?_)
    have found : notReady s.received = some k := find?_finRange_eq_some (p := s.lostAt) ((lostAt_iff s k).2 hk)
      fun j hj => by simpa only [Bool.not_eq_true] using mt (lostAt_iff s j).1 (least j hj)
    rw [show preCheck s.received start = none from pre, found]
    exact Answer.test_of (by rw [show s.received.psq.state.going = false from hg]; rfl) _ _
  · intro q waiting
    have found : notReady s.received = none := find?_finRange_eq_none (p := s.lostAt)
      fun j => by simpa only [Bool.not_eq_true] using mt (lostAt_iff s j).1 (ready j)
    have body : startBody f.payload s.received = .done (startAct start wait s.received) := by
      rw [startBody_eq (s := s.received) hm h0 h1, show preCheck s.received start = none from pre, found]
      exact Answer.test_of (by rw [show s.received.psq.state.going = false from hg]; rfl) _ _
    obtain ⟨⟨m, v, moved⟩, -⟩ := cleared_spec (start := start) (s := s.received) fun z => (law z).2.2.1
    have act := startAct_eq (wait := wait) (moved.ev.trans ev) moved.psq moved.time
    cases wait with
    | true => exact start_taken ht law act rfl body
    | false => exact start_taken ht law act (Sequencer.run_totalCycles _ _) body
  · refine command_refused ht rfl ((startBody_eq (s := s.received) hm h0 h1).trans ?_)
    rw [show preCheck s.received start = some d from pre]
  · exact command_refused ht rfl (Answer.test_of_not (decide_eq_false hm) _ _)
  · refine command_refused ht rfl ((Answer.test_of (decide_eq_true hm) _ _).trans ?_)
    rcases h with h | h
    · rw [indexOf_none h]; rfl
    · cases indexOf 48 (u8 f.payload 0) with
      | none => rfl
      | some i => rw [Answer.get, flagOf_none h]; rfl
  · refine groupCommand_taken (u := s) ht ?_ ht.2.2.1
    rw [show goAct s.received = s.received from if_neg hq]; rfl
  · intro q
    refine groupCommand_taken (u := ({ s with psq := q.run q.segment.val } : State).noted (q.runNotes s.time q.segment.val))
      ht ?_ (by rw [noted_stc]; exact ht.2.2.1)
    rw [goAct_waiting (s := s.received) ev hq hlost (q := q) rfl, noted_received]
    rfl

end Sys2Proof.Machine

/-!
The records of windows and actuators (R3, R56, R68, R70), and the settings of an actuator (R60, R63, R71 to R73).
-/
namespace Sys2Proof.Machine

/-! ### Fields -/

theorem u16_int {p : List Byte} {i : Nat} {x : Int} (h : Holds2 p i x) (h0 : 0 ≤ x) (h1 : x ≤ 65535) : (u16 p i : Int) = x := by
  rw [u16_of h]; omega

theorem firstClamped_one (b : Bool) (n : Nat) : firstClamped [(b, n)] = if b then some n else none := by cases b <;> rfl

theorem firstClamped_two (b c : Bool) (n m : Nat) :
    firstClamped [(b, n), (c, m)] = if b then some n else if c then some m else none := by cases b <;> cases c <;> rfl

/-! ### WINDOW_SET (R56) -/

theorem windowSetBody_bytes {p : List Byte} {i : Fin 6} {w : Window} (hp : p = put1 i.val ++ w.bytes) (h1 : -32768 ≤ w.lower)
    (h2 : w.lower ≤ w.upper) (h3 : w.upper ≤ 32767) (s : State) :
    windowSetBody p s = .inSetup s (.ok w.bytes { s with svc := { s.svc with windows := s.svc.windows.set i w } }) := by
  have f0 : u8 p 0 = i.val := by rw [hp]; exact u8_nat rfl (by omega)
  have f1 : u8 p 1 = w.enabled.toNat := by rw [hp]; exact u8_flag rfl
  have f2 : u8 p 2 = w.quantity.code := by rw [hp]; exact u8_nat rfl (by cases w.quantity <;> decide)
  have f3 : s16 p 3 = w.lower := by rw [hp]; exact s16_of ⟨rfl, rfl⟩ (by omega) (by omega)
  have f5 : s16 p 5 = w.upper := by rw [hp]; exact s16_of ⟨rfl, rfl⟩ (by omega) (by omega)
  have f7 : p.getD 7 0 = w.acts := by rw [hp]; rfl
  rw [windowSetBody, f0, Answer.get_some (indexOf_val i), f1, Answer.get_some (flagOf_toNat _), f2,
    Answer.get_some (Quantity.ofCode_code _), f3, f5, f7, Answer.test_of (decide_eq_true h2)]

/-! ### ACT_CONFIG (R68, R70) -/

/-- The bytes of an actuator record, one by one. -/
theorem ActConfig.bytes_eq (c : ActConfig) (pre : Byte) : [pre] ++ c.bytes =
    [pre, BitVec.ofInt 8 (if c.enabled then 1 else 0), BitVec.ofInt 8 c.frame.val, BitVec.ofInt 8 (c.capacity / 256),
      BitVec.ofInt 8 c.capacity, BitVec.ofInt 8 (c.forceHigh / 256), BitVec.ofInt 8 c.forceHigh,
      BitVec.ofInt 8 (c.forceLow / 256), BitVec.ofInt 8 c.forceLow, BitVec.ofInt 8 (c.forceHyst / 256),
      BitVec.ofInt 8 c.forceHyst, BitVec.ofInt 8 (c.strokeHigh / 256), BitVec.ofInt 8 c.strokeHigh,
      BitVec.ofInt 8 (c.strokeLow / 256), BitVec.ofInt 8 c.strokeLow, BitVec.ofInt 8 (c.strokeHyst / 256),
      BitVec.ofInt 8 c.strokeHyst, BitVec.ofInt 8 (c.followLimit / 256), BitVec.ofInt 8 c.followLimit,
      BitVec.ofInt 8 (c.followMs / 256), BitVec.ofInt 8 c.followMs, BitVec.ofInt 8 (c.stallMs / 256),
      BitVec.ofInt 8 c.stallMs, BitVec.ofInt 8 (c.unloadTarget / 256), BitVec.ofInt 8 c.unloadTarget,
      BitVec.ofInt 8 (c.unloadRate / 256), BitVec.ofInt 8 c.unloadRate, BitVec.ofInt 8 (c.unloadTol / 256),
      BitVec.ofInt 8 c.unloadTol, BitVec.ofInt 8 (c.unloadSettleMs / 256), BitVec.ofInt 8 c.unloadSettleMs,
      BitVec.ofInt 8 (c.unloadTimeoutS / 256), BitVec.ofInt 8 c.unloadTimeoutS, BitVec.ofInt 8 (c.lowMs / 256),
      BitVec.ofInt 8 c.lowMs, BitVec.ofInt 8 (c.highMs / 256), BitVec.ofInt 8 c.highMs,
      BitVec.ofInt 8 c.quantity.code] := by
  delta ActConfig.bytes
  simp only [put1, put2, putFlag, List.cons_append, List.nil_append]

/-- The record of ACT_CONFIG, its unload rate held inside the range. -/
theorem actConfigOf_bytes {p : List Byte} {a : Fin 8} {c : ActConfig} {rate : Nat} (h : c.valid) (hr : rate ≤ 65535)
    (hc : clamp rate 1 65535 = c.unloadRate) (hp : p = [BitVec.ofInt 8 a.val] ++ ({ c with unloadRate := rate } : ActConfig).bytes) :
    actConfigOf p = some c := by
  rw [ActConfig.bytes_eq] at hp
  obtain ⟨a1, a2, l1, l2, l3, y1, y2, k1, k2, k3, z1, z2, w1, w2, m1, m2, g1, g2, t1, t2, r1, r2, o1, o2, e1, e2, u1, u2, p1,
    p2, q1, q2⟩ := h
  have f1 : u8 p 1 = c.enabled.toNat := by rw [hp]; exact u8_flag rfl
  have f2 : u8 p 2 = c.frame.val := by rw [hp]; exact u8_nat rfl (by omega)
  have f3 : (u16 p 3 : Int) = c.capacity := by rw [hp]; exact u16_int ⟨rfl, rfl⟩ (by omega) (by omega)
  have f5 : s16 p 5 = c.forceHigh := by rw [hp]; exact s16_of ⟨rfl, rfl⟩ (by omega) (by omega)
  have f7 : s16 p 7 = c.forceLow := by rw [hp]; exact s16_of ⟨rfl, rfl⟩ (by omega) (by omega)
  have f9 : (u16 p 9 : Int) = c.forceHyst := by rw [hp]; exact u16_int ⟨rfl, rfl⟩ (by omega) (by omega)
  have f11 : s16 p 11 = c.strokeHigh := by rw [hp]; exact s16_of ⟨rfl, rfl⟩ (by omega) (by omega)
  have f13 : s16 p 13 = c.strokeLow := by rw [hp]; exact s16_of ⟨rfl, rfl⟩ (by omega) (by omega)
  have f15 : (u16 p 15 : Int) = c.strokeHyst := by rw [hp]; exact u16_int ⟨rfl, rfl⟩ (by omega) (by omega)
  have f17 : (u16 p 17 : Int) = c.followLimit := by rw [hp]; exact u16_int ⟨rfl, rfl⟩ (by omega) (by omega)
  have f19 : u16 p 19 = c.followMs := by rw [hp]; exact u16_nat ⟨rfl, rfl⟩ (by omega)
  have f21 : u16 p 21 = c.stallMs := by rw [hp]; exact u16_nat ⟨rfl, rfl⟩ (by omega)
  have f23 : s16 p 23 = c.unloadTarget := by rw [hp]; exact s16_of ⟨rfl, rfl⟩ (by omega) (by omega)
  have f25 : u16 p 25 = rate := by rw [hp]; exact u16_nat ⟨rfl, rfl⟩ (by omega)
  have f27 : (u16 p 27 : Int) = c.unloadTol := by rw [hp]; exact u16_int ⟨rfl, rfl⟩ (by omega) (by omega)
  have f29 : u16 p 29 = c.unloadSettleMs := by rw [hp]; exact u16_nat ⟨rfl, rfl⟩ (by omega)
  have f31 : u16 p 31 = c.unloadTimeoutS := by rw [hp]; exact u16_nat ⟨rfl, rfl⟩ (by omega)
  have f33 : u16 p 33 = c.lowMs := by rw [hp]; exact u16_nat ⟨rfl, rfl⟩ (by omega)
  have f35 : u16 p 35 = c.highMs := by rw [hp]; exact u16_nat ⟨rfl, rfl⟩ (by omega)
  have f37 : u8 p 37 = c.quantity.code := by rw [hp]; exact u8_nat rfl (by cases c.quantity <;> decide)
  unfold actConfigOf
  rw [f1, f2, f37, flagOf_toNat, indexOf_val, Quantity.ofCode_code]
  dsimp only
  rw [f3, f5, f7, f9, f11, f13, f15, f17, f19, f21, f23, f25, f27, f29, f31, f33, f35, hc]
  refine if_pos ?_
  simp only [inRange, Bool.and_eq_true, decide_eq_true_eq]
  omega

theorem actStructural_bytes {p : List Byte} {a : Fin 8} {c : ActConfig} {rate : Nat} (h : c.valid)
    (hp : p = [BitVec.ofInt 8 a.val] ++ ({ c with unloadRate := rate } : ActConfig).bytes) (s : State) :
    (!actStructural p s) = decide (c.enabled = (s.act a).cfg.enabled ∧ c.frame = (s.act a).cfg.frame ∧
      c.unloadTarget = (s.act a).cfg.unloadTarget) := by
  rw [ActConfig.bytes_eq] at hp
  obtain ⟨a1, a2, l1, l2, l3, y1, y2, k1, k2, k3, z1, z2, w1, w2, m1, m2, g1, g2, t1, t2, -⟩ := h
  have f0 : u8 p 0 = a.val := by rw [hp]; exact u8_nat rfl (by omega)
  have f1 : u8 p 1 = c.enabled.toNat := by rw [hp]; exact u8_flag rfl
  have f2 : u8 p 2 = c.frame.val := by rw [hp]; exact u8_nat rfl (by omega)
  have f23 : s16 p 23 = c.unloadTarget := by rw [hp]; exact s16_of ⟨rfl, rfl⟩ (by omega) (by omega)
  have flag (x y : Bool) : (x.toNat ≠ if y = true then 1 else 0) ↔ x ≠ y := by cases x <;> cases y <;> decide
  simp only [actStructural, f0, indexOf_val, f1, f2, f23, flag, ne_eq, ← Fin.ext_iff]
  rw [Bool.eq_iff_iff]
  simp [and_assoc]

/-- ACT_CONFIG of the bytes of a record. -/
theorem actConfigBody_bytes {p : List Byte} {a : Fin 8} {c : ActConfig} {rate : Nat} (h : c.valid) (hr : rate ≤ 65535)
    (hc : clamp rate 1 65535 = c.unloadRate) (hp : p = [BitVec.ofInt 8 a.val] ++ ({ c with unloadRate := rate } : ActConfig).bytes)
    (s : State) :
    actConfigBody p s =
      .test (decide (s.stc.mode = .setup) || decide (c.enabled = (s.act a).cfg.enabled ∧ c.frame = (s.act a).cfg.frame ∧
        c.unloadTarget = (s.act a).cfg.unloadTarget)) .mode
      (.test (decide (c.quantity = (s.act a).cfg.quantity) ||
          !(decide ((s.act a).state = .active) || decide ((s.act a).state = .unloading))) (.state a.val)
        (.clamped (if c.unloadRate ≠ rate then some 25 else none) c.bytes (storeActConfig a c s))) := by
  have hp' := hp
  rw [ActConfig.bytes_eq] at hp'
  have f0 : u8 p 0 = a.val := by rw [hp']; exact u8_nat rfl (by omega)
  have f25 : u16 p 25 = rate := by rw [hp']; exact u16_nat ⟨rfl, rfl⟩ (by omega)
  rw [actConfigBody, actStructural_bytes h hp, f0, Answer.get_some (indexOf_val a),
    Answer.get_some (actConfigOf_bytes h hr hc hp), f25, firstClamped_one]
  simp only [decide_eq_true_eq]

/-! ### The conditions of an actuator (R68) -/

theorem setCond_raised (c d : Cond) (b : Bool) (s : State) :
    (setCond c b s).raised d = if c.slot = d.slot then b else s.raised d := by
  show (s.pmx.cond.set c.slot b)[d.slot.val] = _
  rw [Vector.getElem_set]
  exact if_congr Fin.ext_iff.symm rfl rfl

theorem lower_raised (c d : Cond) (s : State) : (lower c s).raised d = if c.slot = d.slot then false else s.raised d := by
  unfold lower
  split
  · exact (merge_raised _ d).trans (setCond_raised c d false s)
  · rename_i h
    by_cases e : c.slot = d.slot
    · rw [if_pos e]
      unfold State.raised at *
      simpa only [← e, Bool.not_eq_true] using h
    · rw [if_neg e]

/-- Lowering some conditions lowers these. -/
theorem lowers_spec (l : List Cond) (s : State) :
    s.Moved (l.foldl (fun s c => lower c s) s) ∧ (l.foldl (fun s c => lower c s) s).sli = s.sli ∧
      ∀ d, d ∈ l ∨ s.raised d = false → (l.foldl (fun s c => lower c s) s).raised d = false := by
  induction l generalizing s with
  | nil => exact ⟨.rfl', rfl, fun d h => h.resolve_left List.not_mem_nil⟩
  | cons c l ih =>
    obtain ⟨moved, sli, lowered⟩ := ih (lower c s)
    refine ⟨(advised_lower c s).toMoved.trans moved, sli.trans (lower_sli c s), fun d h => lowered d ?_⟩
    rw [lower_raised]
    rcases h with h | h
    · rcases List.mem_cons.1 h with h | h
      · subst h; exact .inr (if_pos rfl)
      · exact .inl h
    · rw [h, ite_self]; exact .inr rfl

/-- A record that enables no actuator brings no lost cause (R22, R41). -/
theorem lostCause_storeCfg {s : State} {a : Fin 8} {c : ActConfig} (h : c.enabled = true → (s.act a).cfg.enabled = true)
    (lost : (s.modAct a fun x => { x with cfg := c }).lostCause = true) : s.lostCause = true := by
  obtain ⟨u, hu⟩ : ∃ u, u = s.modAct a fun x => { x with cfg := c } := ⟨_, rfl⟩
  rw [← hu] at lost
  have state (k : Fin 8) : (u.act k).state = (s.act k).state := by
    rw [hu, State.modAct_act]; split <;> rfl
  have use (k : Fin 8) (hk : u.inUse k = true) : s.inUse k = true := by
    have group : u.groupOf k = s.groupOf k := by rw [hu]; rfl
    have groups : u.group = s.group := by rw [hu]; rfl
    unfold State.inUse at hk ⊢
    rw [Bool.and_eq_true, Bool.and_eq_true] at hk ⊢
    obtain ⟨⟨on, source⟩, lead⟩ := hk
    rw [hu, State.modAct_act] at on source
    refine ⟨?_, ?_⟩
    · by_cases e : a = k
      · subst e; rw [if_pos rfl] at on source; exact ⟨h on, source⟩
      · rw [if_neg e] at on source; exact ⟨on, source⟩
    · rw [group, groups] at lead; exact lead
  obtain ⟨k, inUse, out⟩ := (lostCause_iff u).1 lost
  refine (lostCause_iff s).2 ⟨k, use k inUse, ?_⟩
  rcases out with ⟨free, off⟩ | ⟨g, hg, off⟩
  · exact .inl ⟨by rw [hu] at free; exact free, by rw [← state]; exact off⟩
  · refine .inr ⟨g, by rw [hu] at hg; exact hg, fun m hm => ?_⟩
    rw [← state]
    exact off m (by rw [hu]; exact hm)

theorem lostEdge_of_no_edge {s : State} {b : Bool} (h : ¬(b = false ∧ s.lostCause = true ∧ s.psq.state.going = true)) :
    lostEdge b s = s := if_neg h

/-- A new record that brings no lost cause and disables nothing. -/
theorem storeActConfig_plain {s : State} {a : Fin 8} {c : ActConfig} (ev : s.ev = {})
    (on : c.enabled = true ∨ (s.act a).cfg.enabled = false)
    (going : c.enabled = (s.act a).cfg.enabled ∨ s.psq.state.going = false) :
    storeActConfig a c s = s.modAct a fun x => { x with cfg := c } := by
  have edge : lostEdge s.lostCause (s.modAct a fun x => { x with cfg := c }) = s.modAct a fun x => { x with cfg := c } := by
    refine lostEdge_of_no_edge fun ⟨before, after, goes⟩ => ?_
    have same := going.resolve_right (by rw [show s.psq.state.going = true from goes]; decide)
    rw [lostCause_storeCfg (fun h => by rw [← same]; exact h) after] at before
    exact nomatch before
  have enabled : ((s.act a).cfg.enabled && !c.enabled) = false := by
    rcases on with h | h <;> rw [h] <;> simp
  unfold storeActConfig
  dsimp only
  rw [edge, enabled]
  exact flush_of_empty ev

/-- A record that disables its actuator lowers the actuator's conditions. -/
theorem storeActConfig_disabling {s : State} {a : Fin 8} {c : ActConfig} (ev : s.ev = {}) (off : c.enabled = false)
    (on : (s.act a).cfg.enabled = true) :
    let u := storeActConfig a c s
    (s.modAct a fun x => { x with cfg := c }).Moved u ∧ u.sli = s.sli ∧
      ∀ d ∈ actConds a, u.raised d = false := by
  have edge : lostEdge s.lostCause (s.modAct a fun x => { x with cfg := c }) = s.modAct a fun x => { x with cfg := c } := by
    refine lostEdge_of_no_edge fun ⟨before, after, goes⟩ => ?_
    rw [lostCause_storeCfg (fun _ => on) after] at before
    exact nomatch before
  obtain ⟨moved, sli, lowered⟩ := lowers_spec (actConds a) (s.modAct a fun x => { x with cfg := c })
  have eq : storeActConfig a c s = (actConds a).foldl (fun s c => lower c s) (s.modAct a fun x => { x with cfg := c }) := by
    unfold storeActConfig
    dsimp only
    rw [edge, on, off]
    exact flush_of_empty (moved.ev.trans ev)
  intro u
  rw [show u = _ from eq]
  exact ⟨moved, sli, fun d hd => lowered d (.inl hd)⟩

/-- Settles O31. -/
theorem windowAndActuatorRecords : Obligations.WindowAndActuatorRecords := by
  unfold Obligations.WindowAndActuatorRecords
  refine ⟨fun f s i w ht hp h1 h2 h3 => ⟨fun hm => ?_, fun hm => ?_⟩, fun f s a c ht valid => ?_⟩
  · exact command_taken ht rfl ((windowSetBody_bytes hp h1 h2 h3 _).trans (Answer.inSetup_of (s := s.received) hm _)) ht.2.2.1
  · exact command_refused ht rfl
      ((windowSetBody_bytes hp h1 h2 h3 _).trans (Answer.inSetup_of_not (s := s.received) hm _))
  · intro same
    have rates : 1 ≤ c.unloadRate ∧ c.unloadRate ≤ 65535 := by
      obtain ⟨-, -, -, -, -, -, -, -, -, -, -, -, -, -, -, -, -, -, -, -, r1, r2, -⟩ := valid
      exact ⟨r1, r2⟩
    have body (hp : f.payload = put1 a.val ++ c.bytes) := actConfigBody_bytes (p := f.payload) (a := a) (rate := c.unloadRate.toNat) valid (by omega)
      (by unfold clamp; split <;> omega) (by rw [Int.toNat_of_nonneg (by omega)]; exact hp) s.received
    have exact' : (if c.unloadRate ≠ (c.unloadRate.toNat : Int) then some 25 else none) = (none : Option Nat) :=
      if_neg (by rw [Int.toNat_of_nonneg (by omega)]; exact fun h => h rfl)
    have setup (hs : s.stc.mode = .setup ∨ same) : (decide (s.stc.mode = .setup) || decide same) = true := by
      rw [← Bool.decide_or]; exact decide_eq_true hs
    have still (hq : c.quantity = (s.act a).cfg.quantity ∨ ((s.act a).state ≠ .active ∧ (s.act a).state ≠ .unloading)) :
        (decide (c.quantity = (s.act a).cfg.quantity) ||
          !(decide ((s.act a).state = .active) || decide ((s.act a).state = .unloading))) = true := by
      rcases hq with h | ⟨h, k⟩
      · rw [decide_eq_true h]; rfl
      · rw [decide_eq_false h, decide_eq_false k]; exact Bool.or_true _
    refine ⟨fun hm hs hp => ?_, fun hs => ⟨fun hq hst hp => ?_, fun hq ev => ?_⟩⟩
    · refine command_refused ht rfl ((body hp).trans (Answer.test_of_not ?_ _ _))
      show (decide (s.stc.mode = .setup) || decide same) = false
      rw [decide_eq_false hm, decide_eq_false hs]; rfl
    · refine command_refused ht rfl ((body hp).trans ((Answer.test_of (setup hs) _ _).trans (Answer.test_of_not ?_ _ _)))
      show (decide (c.quantity = (s.act a).cfg.quantity) ||
          !(decide ((s.act a).state = .active) || decide ((s.act a).state = .unloading))) = false
      rw [decide_eq_false hq]
      rcases hst with h | h <;> rw [h] <;> rfl
    · intro u
      refine ⟨fun on going => ⟨fun hp => ?_, fun h1 hp => ?_⟩, fun off on hp => ?_⟩
      · refine command_taken (u := u) ht rfl ((body hp).trans ((Answer.test_of (setup hs) _ _).trans
          ((Answer.test_of (still hq) _ _).trans ?_))) ht.2.2.1
        rw [exact', storeActConfig_plain (s := s.received) ev on going]; rfl
      · refine command_taken (u := u) ht rfl ((actConfigBody_bytes (p := f.payload) (a := a) (rate := 0) valid (by decide) (by rw [h1]; decide) hp
          s.received).trans ((Answer.test_of (setup hs) _ _).trans ((Answer.test_of (still hq) _ _).trans ?_))) ht.2.2.1
        rw [if_pos (by rw [h1]; decide), storeActConfig_plain (s := s.received) ev on going]; rfl
      · obtain ⟨moved, sli, lowered⟩ := storeActConfig_disabling (s := s.received) ev off on
        generalize hv : storeActConfig a c s.received = v at moved sli lowered
        have rx : v.received = v := received_of_no_rx (by rw [sli]; rfl)
        refine ⟨v.answered 0x21 f c.bytes, command_taken ht rfl ((body hp).trans ((Answer.test_of (setup hs) _ _).trans
          ((Answer.test_of (still hq) _ _).trans ?_))) (by rw [moved.stc]; exact ht.2.2.1), ?_, ?_, ?_, ?_,
          repliedDone_answered (by rw [sli]; rfl) _ _ _, ?_⟩
        · rw [exact', hv, rx]; rfl
        all_goals rw [answered_eq, rx]
        · obtain ⟨d, hd⟩ := moved.act a
          show (v.act a).cfg = c
          rw [hd, State.modAct_act_same]
        · intro k
          exact lowered _ (by cases k <;> simp [actConds])
        · exact lowered _ (by simp [actConds])
        · intro b
          show (v.act b).state = _
          rw [moved.state, State.modAct_act]
          split <;> rfl
        · obtain ⟨x, g, p, l, lost, rfl⟩ := moved.rest
          rfl

end Sys2Proof.Machine

namespace Sys2Proof.Machine

/-! ### The settings of an actuator (R60, R63, R71 to R73) -/

theorem Source.ofCode_code (x : Source) : Source.ofCode x.code = some x := by cases x <;> rfl

theorem storeGains_eq (q : Quantity) (g : Gains) (x : Actuator) :
    storeGains q g x =
      { x with gainsForce := if q = .force then g else x.gainsForce
               gainsStroke := if q = .stroke then g else x.gainsStroke
               regs := if x.present = q then { x.regs with a := clamp x.regs.a (-(g.imax * 65536)) (g.imax * 65536) }
                       else x.regs } := by
  unfold storeGains clampSym
  cases q <;> dsimp only <;> split <;> rfl

/-- ACT_GAINS of the bytes of its fields. -/
theorem actGainsBody_bytes {p : List Byte} {a : Fin 8} {q : Quantity} {kp ki imax rate : Nat}
    (hp : p = put1 a.val ++ put1 q.code ++ put2 kp ++ put2 ki ++ put2 imax ++ put2 rate)
    (h1 : kp ≤ 65535) (h2 : ki ≤ 65535) (h3 : imax ≤ 65535) (h4 : rate ≤ 65535) (s : State) :
    actGainsBody p s =
      .clamped (if 10000 < imax then some 6 else if rate = 0 ∨ 32767 < rate then some 8 else none) []
        (s.modAct a (storeGains q { kp := kp, ki := ki, imax := min 10000 imax, rate := max 1 (min 32767 rate) })) := by
  have f0 : u8 p 0 = a.val := by rw [hp]; exact u8_nat rfl (by omega)
  have f1 : u8 p 1 = q.code := by rw [hp]; exact u8_nat rfl (by cases q <;> decide)
  have f2 : u16 p 2 = kp := by rw [hp]; exact u16_nat ⟨rfl, rfl⟩ (by omega)
  have f4 : u16 p 4 = ki := by rw [hp]; exact u16_nat ⟨rfl, rfl⟩ (by omega)
  have f6 : u16 p 6 = imax := by rw [hp]; exact u16_nat ⟨rfl, rfl⟩ (by omega)
  have f8 : u16 p 8 = rate := by rw [hp]; exact u16_nat ⟨rfl, rfl⟩ (by omega)
  have c6 : clamp (imax : Int) 0 10000 = min 10000 (imax : Int) := by rw [clamp_eq_max_min_int (by decide)]; omega
  have c8 : clamp (rate : Int) 1 32767 = max 1 (min 32767 (rate : Int)) := clamp_eq_max_min_int (by decide) _
  rw [actGainsBody, f0, Answer.get_some (indexOf_val a), f1, Answer.get_some (Quantity.ofCode_code q), f2, f4, f6, f8]
  dsimp only
  rw [firstClamped_two, c6, c8]
  have d6 : (decide (min 10000 (imax : Int) ≠ imax) = true) = (10000 < imax) := by
    rw [decide_eq_true_eq]; apply propext; omega
  have d8 : (decide (max 1 (min 32767 (rate : Int)) ≠ rate) = true) = (rate = 0 ∨ 32767 < rate) := by
    rw [decide_eq_true_eq]; apply propext; omega
  simp only [d6, d8]

theorem actManualBody_eq {p : List Byte} {a : Fin 8} {q : Quantity} (s : State)
    {v : Int} (hv : v = match q with
      | .force => clamp (s16 p 2) (-(s.act a).cfg.capacity) (s.act a).cfg.capacity
      | .stroke => clamp (s16 p 2) (s.act a).cfg.strokeLow (s.act a).cfg.strokeHigh)
    (h0 : u8 p 0 = a.val) (h1 : u8 p 1 = q.code) :
    actManualBody p s = .clamped (if v = s16 p 2 then none else some 2) [] (s.modAct a fun x =>
      { x with manualForce := if q = .force then v else x.manualForce
               manualStroke := if q = .stroke then v else x.manualStroke }) := by
  rw [actManualBody, h0, Answer.get_some (indexOf_val a), h1, Answer.get_some (Quantity.ofCode_code q)]
  have off (v : Int) : firstClamped [(decide (v ≠ s16 p 2), 2)] = if v = s16 p 2 then none else some 2 := by
    rw [firstClamped_one]
    by_cases h : v = s16 p 2
    · rw [if_pos h, h]; simp
    · rw [if_neg h, if_pos (decide_eq_true h)]
  cases q <;> subst hv <;> dsimp only <;> rw [off] <;> rfl

/-- ACT_SOURCE where its test passes. -/
theorem actSource_spec {s : State} {a : Fin 8} {src : Source} (ev : s.ev = {}) :
    let u := s.modAct a fun x => { x with source := src }
    let q : Sequencer := { s.psq with hold := { s.psq.hold with lost := true } }
    flush (lostEdge s.lostCause u) =
      if s.psq.state.going = true ∧ s.lostCause = false ∧ u.lostCause = true then
        if s.psq.state = .running then ({ u with psq := q.stopped } : State).noted (q.stopNotes s.time)
        else { u with psq := q }
      else u := by
  intro u q
  unfold lostEdge
  by_cases h : s.psq.state.going = true ∧ s.lostCause = false ∧ u.lostCause = true
  · obtain ⟨going, before, after⟩ := h
    rw [if_pos ⟨before, after, going⟩, if_pos ⟨going, before, after⟩]
    exact flush_addReason (s := u) ev .lost
  · rw [if_neg fun ⟨before, after, going⟩ => h ⟨going, before, after⟩, if_neg h]
    exact flush_of_empty ev

/-- Settles O32. -/
theorem actuatorSettings : Obligations.ActuatorSettings := by
  unfold Obligations.ActuatorSettings
  refine ⟨fun f s a q kp ki imax rate ht hp h1 h2 h3 h4 => ?_, fun f s a q ht h0 h1 => ?_, fun f s a src ht h0 h1 => ?_,
    fun f s a q ht h0 h1 => ?_⟩
  · intro g t
    have stored : (s.received.modAct a (storeGains q { kp := kp, ki := ki, imax := min 10000 imax, rate := max 1 (min 32767 rate) })) =
        t.received := by
      exact State.modAct_congr (s := s.received) (a := a) (g := fun x =>
        { x with gainsForce := if q = .force then g else x.gainsForce
                 gainsStroke := if q = .stroke then g else x.gainsStroke
                 regs := if x.present = q then { x.regs with a := clamp x.regs.a (-(g.imax * 65536)) (g.imax * 65536) }
                         else x.regs }) (storeGains_eq q g _)
    have body := actGainsBody_bytes hp h1 h2 h3 h4 s.received
    rw [stored] at body
    by_cases c6 : 10000 < imax
    · rw [if_pos c6] at body ⊢
      exact command_taken ht rfl body ht.2.2.1
    · rw [if_neg c6] at body ⊢
      by_cases c8 : rate = 0 ∨ 32767 < rate
      · rw [if_pos c8] at body ⊢
        exact command_taken ht rfl body ht.2.2.1
      · rw [if_neg c8] at body ⊢
        exact command_taken ht rfl body ht.2.2.1
  · intro v t
    have body := actManualBody_eq s.received (v := v) rfl h0 h1
    by_cases h : v = s16 f.payload 2
    · rw [if_pos h] at body ⊢
      exact command_taken (u := t) ht rfl body ht.2.2.1
    · rw [if_neg h] at body ⊢
      exact command_taken (u := t) ht rfl body ht.2.2.1
  · have body : actSourceBody f.payload s.received = .test ((s.groupOf a).isNone || decide (src = .sequencer)) (.state a.val)
        (.done (flush (lostEdge s.received.lostCause (s.received.modAct a fun x => { x with source := src })))) := by
      rw [actSourceBody, h0, Answer.get_some (indexOf_val a), h1, Answer.get_some (Source.ofCode_code src)]; rfl
    refine ⟨fun hg hs => command_refused ht rfl (body.trans (Answer.test_of_not ?_ _ _)), fun h ev => ?_⟩
    · rw [hs, Option.isNone_eq_false_iff.2 (Option.isSome_iff_ne_none.2 hg)]; rfl
    · intro u q
      refine command_taken ht rfl (body.trans ((Answer.test_of ?_ _ _).trans ?_)) ?_
      · rcases h with h | h
        · rw [h]; rfl
        · rw [decide_eq_true h]; exact Bool.or_true _
      · rw [actSource_spec (s := s.received) (a := a) (src := src) ev, apply_ite State.received, apply_ite State.received,
          noted_received]
        rfl
      · show (if _ then _ else _ : State).stc.restartPending = false
        split
        · split
          · rw [noted_stc]; exact ht.2.2.1
          · exact ht.2.2.1
        · exact ht.2.2.1
  · have body : actControlBody f.payload s.received = .test (s.groupOf a).isNone (.state a.val) (match (s.act a).state with
        | .low => .done (s.received.modAct a fun x => { x with cfg := { x.cfg with quantity := q } })
        | .active => .done (s.received.modAct a fun x =>
            let x := { x with cfg := { x.cfg with quantity := q } }
            if x.present = q then x else bumpless q x)
        | .off | .starting | .raising | .unloading | .tripped => .state Config.noDetail) := by
      rw [actControlBody, h0, Answer.get_some (indexOf_val a), h1, Answer.get_some (Quantity.ofCode_code q)]; rfl
    refine ⟨fun hg => command_refused ht rfl (body.trans (Answer.test_of_not ?_ _ _)), fun hg => ?_⟩
    · exact Option.isNone_eq_false_iff.2 (Option.isSome_iff_ne_none.2 hg)
    · have free : (s.groupOf a).isNone = true := by rw [hg]; rfl
      refine ⟨fun h2 h3 => command_refused ht rfl (body.trans ((Answer.test_of free _ _).trans ?_)), fun h => ?_, fun h2 h3 => ?_⟩
      · cases hs : (s.act a).state <;> first | rfl | exact absurd hs h2 | exact absurd hs h3
      · refine command_taken (u := s.modAct a fun x => { x with cfg := { x.cfg with quantity := q } }) ht rfl
          (body.trans ((Answer.test_of free _ _).trans ?_)) ht.2.2.1
        rcases h with h | ⟨h, present⟩
        · rw [h]; rfl
        · rw [h]
          exact congrArg Answer.done (State.modAct_congr (s := s.received) (a := a) (if_pos present))
      · refine command_taken (u := s.modAct a _) ht rfl (body.trans ((Answer.test_of free _ _).trans ?_)) ht.2.2.1
        rw [h2]
        refine congrArg Answer.done (State.modAct_congr (s := s.received) (a := a) ((if_neg h3).trans ?_))
        cases q <;> simp only [bumpless, clampSym, Actuator.measured, Actuator.gains, Int.mul_comm]

end Sys2Proof.Machine

/-!
A change of an actuator's state, whole: the actuator, its group's handover record, the lost cause, and what is formed and waits
for the end of the event (R41, R50, R74, R82, R98, R99).
-/
namespace Sys2Proof.Machine

/-- The state with more lowerings waiting. -/
def State.withLowers (l : List Cond) (s : State) : State := { s with ev := { s.ev with lowers := s.ev.lowers ++ l } }

theorem withLowers_nil (s : State) : s.withLowers [] = s := by
  unfold State.withLowers; rw [List.append_nil]

@[simp] theorem withLowers_withLowers (l m : List Cond) (s : State) : (s.withLowers l).withLowers m = s.withLowers (l ++ m) := by
  unfold State.withLowers; rw [List.append_assoc]

theorem lowerLater_eq (c : Cond) (s : State) : lowerLater c s = s.withLowers ([c].filter s.raised) := by
  unfold lowerLater
  by_cases h : s.raised c = true
  · rw [if_pos h, List.filter_cons, if_pos h]; rfl
  · rw [if_neg h, List.filter_cons, if_neg h]; exact (withLowers_nil s).symm

/-- The conditions that an entry to a state lowers (R50, R82, R83, R86). -/
def State.leaves (s : State) (a : Fin 8) (x : ActState) : List Cond :=
  (if x = .off ∨ x = .tripped then [.act .following a, .act .stall a, .act .envelope a].filter s.raised else []) ++
    if (s.act a).state = .unloading then [.unloadTimeout a].filter s.raised else []

theorem clearRegs_eq (a : Fin 8) (s : State) : clearRegs a s =
    (s.modAct a fun x => { x with regs := { x.regs with c := 0, a := 0, u := 0 }, follow := 0, stall := 0 }).withLowers
      ([.act .following a, .act .stall a, .act .envelope a].filter s.raised) := by
  have three : ([.act .following a, .act .stall a, .act .envelope a] : List Cond).filter s.raised =
      [.act .following a].filter s.raised ++ ([.act .stall a].filter s.raised ++ [.act .envelope a].filter s.raised) := by
    rw [← List.filter_append, ← List.filter_append]; rfl
  rw [three, clearRegs, lowerLater_eq, lowerLater_eq, lowerLater_eq, withLowers_withLowers, withLowers_withLowers]
  rfl

theorem leaveUnloading_eq (a : Fin 8) (s : State) : leaveUnloading a s =
    (s.modAct a fun x => { x with unload := { x.unload with timerOn := false } }).withLowers
      ([.unloadTimeout a].filter s.raised) := lowerLater_eq ..

/-- The handover records after actuator a has entered or left ACTIVE. -/
def State.lguEntered (s : State) (a : Fin 8) (x : ActState) : Vector Group 4 :=
  if (s.act a).state = .active ∨ x = .active then (groupMembership a (s.modAct a (Actuator.entered x))).lgu else s.lgu

/-- The lost cause comes to hold as actuator a enters a state while a plan goes (R41). -/
def State.losing (s : State) (a : Fin 8) (x : ActState) : Bool :=
  !s.lostCause && (s.modAct a (Actuator.entered x)).lostCause && s.psq.state.going

theorem groupMembership_withLowers (a : Fin 8) (l : List Cond) (s : State) :
    groupMembership a (s.withLowers l) = (groupMembership a s).withLowers l := by
  unfold groupMembership
  cases h : s.groupOf a with
  | none => rw [show (s.withLowers l).groupOf a = none from h]
  | some g =>
    rw [show (s.withLowers l).groupOf a = some g from h]
    simp only [apply_ite (State.withLowers l)]
    rfl

/-- The groups that a change of membership leaves, in the statements' terms. -/
theorem groupMembership_lgu (a : Fin 8) (s : State) : (groupMembership a s).lgu = match s.groupOf a with
    | none => s.lgu
    | some g => s.lgu.set g ((s.group g).moved a (s.inShare a) (s.short g)) := by
  unfold groupMembership
  cases s.groupOf a with
  | none => rfl
  | some g =>
    have kept : s.lgu = s.lgu.set g (s.group g) := (Vector.set_getElem_self _).symm
    have due (r : HandReasons) (x : Group) : x.makeDue r = x.dueFor r := rfl
    dsimp only
    unfold Group.moved
    cases short : s.short g with
    | false => simp only [Bool.false_eq_true, if_false, if_true]; rfl
    | true =>
      simp only [if_true, Bool.true_eq_false, if_false]
      cases share : s.inShare a with
      | true =>
        simp only [if_true]
        by_cases none : (s.group g).recipient = none
        · rw [if_pos none, if_pos none]; rfl
        · rw [if_neg none, if_neg none]; exact kept
      | false =>
        simp only [Bool.false_eq_true, if_false]
        by_cases own : (s.group g).recipient = some a
        · rw [if_pos own, if_pos own]; rfl
        · rw [if_neg own, if_neg own]; exact kept

theorem modAct_withLowers (a : Fin 8) (f : Actuator → Actuator) (l : List Cond) (s : State) :
    (s.withLowers l).modAct a f = (s.modAct a f).withLowers l := rfl

theorem lostCause_congr {s t : State} (hs : t.svc.acts = s.svc.acts) (hg : ∀ g, (t.group g).members = (s.group g).members) :
    t.lostCause = s.lostCause := by
  have act (a : Fin 8) : t.act a = s.act a := by unfold State.act; rw [hs]
  have share (a : Fin 8) : t.inShare a = s.inShare a := by unfold State.inShare; rw [act]
  have sharing (g : Fin 4) : t.sharing g = s.sharing g := by unfold State.sharing; rw [hg]; simp only [share]
  have lead (g : Fin 4) : (t.group g).lead = (s.group g).lead := by unfold Group.lead; rw [hg]
  have groupOf (a : Fin 8) : t.groupOf a = s.groupOf a := by unfold State.groupOf; simp only [hg]
  have use (k : Fin 8) : t.inUse k = s.inUse k := by unfold State.inUse; rw [act, groupOf]; simp only [lead]
  unfold State.lostCause
  simp only [use, groupOf, share, sharing]

theorem Actuator.entered_force (x : ActState) (y : Actuator) : (y.entered x).force = y.force := by
  unfold entered; dsimp only; split <;> split <;> rfl

theorem Actuator.entered_source (x : ActState) (y : Actuator) : (y.entered x).source = y.source := by
  unfold entered; dsimp only; split <;> split <;> rfl

theorem State.modAct_id (a : Fin 8) (s : State) : (s.modAct a fun y => y) = s := by
  show ({ s with svc := { s.svc with acts := vmod s.svc.acts a id } } : State) = s
  rw [vmod_id]

/-- A change of an actuator's state (R74). -/
theorem setActState_eq (a : Fin 8) (x : ActState) (c : ActCause) (s : State) :
    setActState a x c s =
      (let q : Sequencer := { s.psq with hold := { s.psq.hold with lost := true } }
       { s.modAct a (Actuator.entered x) with
         lgu := s.lguEntered a x
         psq := if s.losing a x then if s.psq.state = .running then q.stopped else q else s.psq
         ev := { acts := s.ev.acts ++ if x.notified then [(a, s.actNote a x (s.act a).state c)] else []
                 seqs := s.ev.seqs ++ if s.losing a x ∧ s.psq.state = .running then q.stopNotes s.time else []
                 lowers := s.ev.lowers ++ s.leaves a x } } : State) := by
  have cleared : (if x = .off ∨ x = .tripped then clearRegs a s else s) =
      (s.modAct a fun y => if x = .off ∨ x = .tripped then
        { y with regs := { y.regs with c := 0, a := 0, u := 0 }, follow := 0, stall := 0 } else y).withLowers
        (if x = .off ∨ x = .tripped then [.act .following a, .act .stall a, .act .envelope a].filter s.raised else []) := by
    by_cases h : x = .off ∨ x = .tripped
    · simp only [if_pos h]; exact clearRegs_eq a s
    · simp only [if_neg h, withLowers_nil]; exact (State.modAct_id a s).symm
  have left (t : State) (h : t.raised = s.raised) : (if (s.act a).state = .unloading then leaveUnloading a t else t) =
      (t.modAct a fun y => if (s.act a).state = .unloading then { y with unload := { y.unload with timerOn := false } }
        else y).withLowers (if (s.act a).state = .unloading then [.unloadTimeout a].filter s.raised else []) := by
    by_cases k : (s.act a).state = .unloading
    · simp only [if_pos k, ← h]; exact leaveUnloading_eq a t
    · simp only [if_neg k, withLowers_nil]; exact (State.modAct_id a t).symm
  have moved : ∀ l, (((s.modAct a fun y => if x = .off ∨ x = .tripped then
        { y with regs := { y.regs with c := 0, a := 0, u := 0 }, follow := 0, stall := 0 } else y).modAct a fun y =>
        if (s.act a).state = .unloading then { y with unload := { y.unload with timerOn := false } } else y).modAct a fun y =>
        { y with state := x, timerStart := 0, timerMs := 0
                 regs := if x = .starting then { y.regs with u := 0 } else y.regs }).withLowers l =
      (s.modAct a (Actuator.entered x)).withLowers l := by
    intro l
    rw [State.modAct_modAct, State.modAct_modAct, State.modAct_congr (g := Actuator.entered x)
      (by unfold Actuator.entered; dsimp only)]
  obtain ⟨m, hm⟩ : ∃ m, m = s.modAct a (Actuator.entered x) := ⟨_, rfl⟩
  have member : ∀ l, (if (s.act a).state = .active ∨ x = .active then groupMembership a (m.withLowers l) else m.withLowers l) =
      ({ m with lgu := s.lguEntered a x } : State).withLowers l := by
    intro l
    unfold State.lguEntered
    rw [← hm]
    by_cases h : (s.act a).state = .active ∨ x = .active
    · obtain ⟨v, hv⟩ := groupMembership_eq a m
      rw [if_pos h, if_pos h, groupMembership_withLowers, hv]
    · rw [if_neg h, if_neg h, show s.lgu = m.lgu by rw [hm]; rfl]
  have acted : (if (s.act a).state = .unloading then leaveUnloading a (if x = .off ∨ x = .tripped then clearRegs a s else s)
      else (if x = .off ∨ x = .tripped then clearRegs a s else s)).modAct a (fun y =>
        { y with state := x, timerStart := 0, timerMs := 0
                 regs := if x = .starting then { y.regs with u := 0 } else y.regs }) = m.withLowers (s.leaves a x) := by
    rw [cleared]
    refine (congrArg (State.modAct a _) (left _ ?_)).trans ?_
    · rfl
    simp only [modAct_withLowers, withLowers_withLowers]
    rw [moved, hm]; rfl
  have lost : (({ m with lgu := s.lguEntered a x } : State).withLowers (s.leaves a x)).lostCause = m.lostCause := by
    refine lostCause_congr rfl fun g => ?_
    unfold State.lguEntered
    rw [← hm]
    split
    · exact (eased_groupMembership a m g).members
    · rw [hm]; rfl
  unfold setActState
  dsimp only
  rw [acted, member]
  generalize hu : ({ m with lgu := s.lguEntered a x } : State).withLowers (s.leaves a x) = u at lost ⊢
  have edge : lostEdge s.lostCause u = if s.losing a x then addReason .lost u else u := by
    unfold lostEdge State.losing
    refine if_congr ?_ rfl rfl
    rw [lost, ← hm, ← hu, Bool.and_eq_true, Bool.and_eq_true, Bool.not_eq_true', and_assoc, hm]
    exact Iff.rfl
  have psq : u.psq = s.psq := by rw [← hu, hm]; rfl
  have time : u.time = s.time := by rw [← hu, hm]; rfl
  have force : ∀ q l, ((u.withPlan q l).act a).force = (s.act a).force := by
    intro q l
    rw [← hu]
    show (m.act a).force = _
    rw [hm, State.modAct_act_same, Actuator.entered_force]
  have seqs : u.ev.seqs = s.ev.seqs := by rw [← hu, hm]; rfl
  have edged : lostEdge s.lostCause u = u.withPlan
      (if s.losing a x then if s.psq.state = .running then { s.psq with hold := { s.psq.hold with lost := true } }.stopped
        else { s.psq with hold := { s.psq.hold with lost := true } } else s.psq)
      (s.ev.seqs ++ if s.losing a x ∧ s.psq.state = .running then
        { s.psq with hold := { s.psq.hold with lost := true } }.stopNotes s.time else []) := by
    rw [edge]
    by_cases h : s.losing a x = true
    · rw [if_pos h, if_pos h, addReason_eq, psq, time, seqs]
      by_cases r : s.psq.state = .running
      · rw [if_pos r, if_pos r, if_pos ⟨h, r⟩]; rfl
      · rw [if_neg r, if_neg r, if_neg fun h => r h.2, List.append_nil]; rfl
    · rw [if_neg h, if_neg h, if_neg fun k => h k.1, List.append_nil, ← psq, ← seqs]; rfl
  rw [edged, force]
  have total : (if s.losing a x then if s.psq.state = .running then
      { s.psq with hold := { s.psq.hold with lost := true } }.stopped
      else { s.psq with hold := { s.psq.hold with lost := true } } else s.psq).totalCycles = s.psq.totalCycles := by
    split
    · split
      · exact Sequencer.stopped_totalCycles _
      · rfl
    · rfl
  generalize (if s.losing a x then if s.psq.state = .running then
      { s.psq with hold := { s.psq.hold with lost := true } }.stopped
      else { s.psq with hold := { s.psq.hold with lost := true } } else s.psq) = q at total ⊢
  generalize (s.ev.seqs ++ if s.losing a x ∧ s.psq.state = .running then
      { s.psq with hold := { s.psq.hold with lost := true } }.stopNotes s.time else []) = l
  have note : (u.withPlan q l).notice .actState a.val x.code (s.act a).state.code c.code (s.act a).force =
      s.actNote a x (s.act a).state c := by
    unfold State.notice State.actNote
    rw [withPlan_psq, withPlan_time, total, time]
  rw [note, ← hu, hm]
  by_cases h : x.notified = true
  · rw [if_pos h, if_pos h]; rfl
  · rw [if_neg h, if_neg h, List.append_nil]; rfl

end Sys2Proof.Machine

/-!
The pressure timers (R62 to R64, R77, R78).
-/
namespace Sys2Proof.Machine

/-! ### Groups after an entry (R97 to R99) -/

theorem short_eq (s : State) (g : Fin 4) :
    s.short g = (s.group g).shortWith (fun b => (s.act b).state) fun b => (s.act b).derate := by
  unfold State.short State.sharing State.inShare Group.shortWith
  rw [List.any_filter]
  simp only [Bool.decide_and]

/-- The handover records as the statements spell them, where t's actuators are s's but for the one that enters its state. -/
theorem lguEntered_eq {s t : State} {a : Fin 8} {x : ActState} (h : (s.act a).state = .active ∨ x = .active)
    (state : ∀ b, (t.act b).state = if a = b then x else (s.act b).state) (derate : ∀ b, (t.act b).derate = (s.act b).derate) :
    s.lguEntered a x = s.lguMoved t a (decide (x = .active)) := by
  obtain ⟨m, hm⟩ : ∃ m, m = s.modAct a (Actuator.entered x) := ⟨_, rfl⟩
  have states (b : Fin 8) : (m.act b).state = (t.act b).state := by
    rw [state, hm, State.modAct_act]; split <;> rfl
  have derates (b : Fin 8) : (m.act b).derate = (t.act b).derate := by
    rw [derate, hm, State.modAct_act]; split
    · exact Actuator.entered_derate ..
    · rfl
  have group : m.group = s.group := by rw [hm]; rfl
  have groupOf : m.groupOf a = s.groupOf a := by rw [hm]; rfl
  unfold State.lguEntered State.lguMoved
  rw [if_pos h, ← hm, groupMembership_lgu, groupOf]
  cases s.groupOf a with
  | none => rw [hm]; rfl
  | some g =>
    dsimp only
    have share : m.inShare a = decide (x = .active) := by
      unfold State.inShare
      rw [states, state, if_pos rfl]
    rw [share, short_eq, group]
    simp only [states, derates]
    rw [hm]; rfl

theorem lguEntered_same {s : State} {a : Fin 8} {x : ActState} (h : ¬((s.act a).state = .active ∨ x = .active)) :
    s.lguEntered a x = s.lgu := if_neg h

/-! ### The lost cause (R41) -/

/-- An actuator that leaves no ACTIVE brings no lost cause. -/
theorem losing_of_not_active {s : State} {a : Fin 8} {x : ActState} (h : (s.act a).state = .active → x = .active) :
    s.losing a x = false := by
  obtain ⟨m, hm⟩ : ∃ m, m = s.modAct a (Actuator.entered x) := ⟨_, rfl⟩
  have cfg (b : Fin 8) : (m.act b).cfg = (s.act b).cfg := by
    rw [hm, State.modAct_act]; split
    · exact Actuator.entered_cfg ..
    · rfl
  have source (b : Fin 8) : (m.act b).source = (s.act b).source := by
    rw [hm, State.modAct_act]; split
    · exact Actuator.entered_source ..
    · rfl
  have active (b : Fin 8) (hb : (s.act b).state = .active) : (m.act b).state = .active := by
    rw [hm, State.modAct_act]; split
    · rename_i e; subst e; exact h hb
    · exact hb
  have use (k : Fin 8) : m.inUse k = s.inUse k := by
    have group : m.group = s.group := by rw [hm]; rfl
    have groupOf : m.groupOf k = s.groupOf k := by rw [hm]; rfl
    unfold State.inUse
    rw [cfg, source, group, groupOf]
  have lost : m.lostCause = true → s.lostCause = true := by
    intro k
    obtain ⟨k, inUse, out⟩ := (lostCause_iff m).1 k
    refine (lostCause_iff s).2 ⟨k, by rw [← use]; exact inUse, ?_⟩
    rcases out with ⟨free, off⟩ | ⟨g, hg, off⟩
    · exact .inl ⟨by rw [hm] at free; exact free, fun e => off (active k e)⟩
    · refine .inr ⟨g, by rw [hm] at hg; exact hg, fun y hy e => off y (by rw [hm]; exact hy) (active y.1 e)⟩
  unfold State.losing
  rw [← hm]
  cases before : s.lostCause with
  | true => rfl
  | false =>
    cases after : m.lostCause with
    | false => rfl
    | true => rw [lost after] at before; exact nomatch before

/-! ### The end of an event (R74) -/

theorem flush_of_act {t : State} {a : Fin 8} {n : Notice} {l : List Notice} (h : t.ev = { acts := [(a, n)], seqs := l }) :
    flush t = ({ t with ev := {} } : State).noted (n :: l) := by
  have acts : ((List.finRange 8).flatMap fun b => ([(a, n)].filter fun x => x.1 = b).map Prod.snd) = [n] := by
    fin_cases a <;> rfl
  have queued : flushNotices t = ({ t with ev := {} } : State).noted (n :: l) := by
    unfold flushNotices
    dsimp only
    rw [h, acts]; rfl
  have e : (({ t with ev := {} } : State).noted (n :: l)).ev = {} := noted_ev _ _
  unfold flush
  rw [queued]
  generalize ({ t with ev := {} } : State).noted (n :: l) = u at e
  show u.ev.lowers.foldl (fun s c => lower c s) { u with ev := { u.ev with lowers := [] } } = u
  rw [e]
  show { u with ev := {} } = u
  rw [← e]

/-- An entry that lowers nothing and loses no track, with nothing formed before. -/
theorem setActState_plain {s : State} {a : Fin 8} {x : ActState} (c : ActCause) (ev : s.ev = {}) (lost : s.losing a x = false)
    (leaves : s.leaves a x = []) :
    setActState a x c s = { s.modAct a (Actuator.entered x) with
      lgu := s.lguEntered a x
      ev := { acts := if x.notified then [(a, s.actNote a x (s.act a).state c)] else [] } } := by
  rw [setActState_eq, lost, leaves, ev]
  simp only [Bool.false_eq_true, if_false, false_and, List.append_nil, List.nil_append]
  rfl

/-! ### Restraints (R186) -/

theorem mem_entriesOn {s : State} {a : Fin 8} {p : Action → Bool} {e : Fin 40} : e ∈ s.entriesOn a p ↔
    s.pmx.entries[e].st ≠ .quiet ∧ s.pmx.entries[e].reach.getLsbD a.val = true ∧ p s.pmx.entries[e].cfg.acting = true := by
  unfold State.entriesOn
  simp only [List.mem_filter, List.mem_finRange, true_and, Bool.and_eq_true, decide_eq_true_eq, and_assoc]
  exact Iff.rfl

theorem unloadRestraint_none {s : State} {a : Fin 8} : (s.unloadRestraint a).isNone = true ↔
    ∀ e : Fin 40, s.pmx.entries[e].st ≠ .quiet → s.pmx.entries[e].reach.getLsbD a.val = true →
      s.pmx.entries[e].cfg.acting ≠ .unload ∧ s.pmx.entries[e].cfg.acting ≠ .trip := by
  unfold State.unloadRestraint
  rw [Option.isNone_iff_eq_none, List.head?_eq_none_iff, List.eq_nil_iff_forall_not_mem]
  simp only [mem_entriesOn, decide_eq_true_eq, not_and, not_or]

theorem mayRaise_iff {s : State} {a : Fin 8} : mayRaise a s = true ↔ s.stc.mode = .run ∧
    (∀ b : Fin 8, b ≠ a → (s.act b).cfg.frame = (s.act a).cfg.frame → (s.act b).state ≠ .tripped) ∧
    ∀ e : Fin 40, s.pmx.entries[e].st ≠ .quiet → s.pmx.entries[e].reach.getLsbD a.val = true →
      s.pmx.entries[e].cfg.acting ≠ .unload ∧ s.pmx.entries[e].cfg.acting ≠ .trip := by
  unfold mayRaise
  rw [Bool.and_eq_true, Bool.and_eq_true, unloadRestraint_none, decide_eq_true_iff, List.all_eq_true]
  constructor
  · rintro ⟨⟨mode, free⟩, frames⟩
    refine ⟨mode, fun b hb hf => ?_, free⟩
    have := frames b (List.mem_finRange b)
    simp only [Bool.or_eq_true, decide_eq_true_eq] at this
    exact (this.resolve_left fun h => h.elim hb fun h => h hf)
  · rintro ⟨mode, frames, free⟩
    refine ⟨⟨mode, free⟩, fun b _ => ?_⟩
    simp only [Bool.or_eq_true, decide_eq_true_eq]
    by_cases hb : b = a
    · exact .inl (.inl hb)
    · by_cases hf : (s.act b).cfg.frame = (s.act a).cfg.frame
      · exact .inr (frames b hb hf)
      · exact .inl (.inr hf)

/-! ### STARTING's timer (R62, R77) -/

theorem leaves_of_other {s : State} {a : Fin 8} {x : ActState} (hx : x ≠ .off ∧ x ≠ .tripped) (ha : (s.act a).state ≠ .unloading) :
    s.leaves a x = [] := by
  unfold State.leaves
  rw [if_neg fun h => h.elim hx.1 hx.2, if_neg ha]; rfl

/-- The actuator after STARTING's timer. -/
def Actuator.pressurized (x : Actuator) (up : Bool) (now : Nat) : Actuator :=
  { x with
    state := if up then .raising else .low
    timerStart := if up then now else 0, timerMs := if up then x.cfg.highMs else 0
    strokeHold := x.stroke, present := .stroke, regs := { x.regs with c := x.stroke, a := 0 } }

theorem Actuator.entered_freshHold {x : Actuator} (h : x.state = .starting) {y : ActState} (hy : y = .low ∨ y = .raising) :
    (freshHold x).entered y = { x with
      state := y, timerStart := 0, timerMs := 0, strokeHold := x.stroke, present := .stroke
      regs := { x.regs with c := x.stroke, a := 0 } } := by
  have fresh : (freshHold x).state = .starting := h
  unfold Actuator.entered
  dsimp only
  rcases hy with rfl | rfl <;> simp only [fresh, reduceCtorEq, or_self, if_false] <;> rfl

/-- Writing back what waits changes nothing. -/
theorem ev_self {t : State} {e : EventBuffer} (h : t.ev = e) : ({ t with ev := e } : State) = t := by rw [← h]

theorem lowPressureExpiry_eq {s : State} {a : Fin 8} (ev : s.ev = {}) (hs : (s.act a).state = .starting) {up : Bool}
    (hup : up = true ↔ (s.act a).toActive = true ∧ mayRaise a s = true) {timed : State}
    (ht : timed = s.advanceTo (s.act a).timerDue) :
    lowPressureExpiry a s = (timed.modAct a fun _ => (s.act a).pressurized up timed.clock.now).noted
      (if up then [] else [timed.actNote a .low .starting .timer]) := by
  have may : ((s.act a).toActive && mayRaise a timed) = up := by
    refine (eq_of_iff_true (p := (s.act a).toActive = true ∧ mayRaise a s = true) ?_ hup)
    rw [Bool.and_eq_true, ht]; exact Iff.rfl
  obtain ⟨u, hu⟩ : ∃ u, u = timed.modAct a freshHold := ⟨_, rfl⟩
  have eq : lowPressureExpiry a s = flush (if up then enterRaising a .timer u else setActState a .low .timer u) := by
    rw [← may, hu, ht]; exact if_pos hs
  have fresh : u.act a = freshHold (s.act a) := by rw [hu, State.modAct_act_same, ht]; rfl
  have state : (u.act a).state = .starting := by rw [fresh]; exact hs
  have uev : u.ev = {} := by rw [hu, ht]; exact ev
  have plain {x : ActState} (hx : x = .low ∨ x = .raising) : setActState a x .timer u =
      { u.modAct a (Actuator.entered x) with
        ev := { acts := if x.notified then [(a, u.actNote a x (u.act a).state .timer)] else [] } } := by
    rw [setActState_plain .timer uev (losing_of_not_active fun h => by rw [state] at h; exact nomatch h)
      (leaves_of_other (by rcases hx with h | h <;> rw [h] <;> decide) (by rw [state]; decide)),
      lguEntered_same (by rw [state]; rcases hx with h | h <;> rw [h] <;> decide)]
    rfl
  have moved (f : Actuator → Actuator) : (u.modAct a f) = timed.modAct a fun _ => f (freshHold (s.act a)) := by
    rw [hu, State.modAct_modAct]
    exact State.modAct_congr (by rw [ht]; rfl)
  rw [eq]
  cases up with
  | true =>
    have entered : enterRaising a .timer u = timed.modAct a fun _ => (s.act a).pressurized true timed.clock.now := by
      have raised : setActState a .raising .timer u = u.modAct a (Actuator.entered .raising) :=
        (plain (.inr rfl)).trans (ev_self uev)
      have clock : u.clock = timed.clock := by rw [hu]; rfl
      unfold enterRaising
      rw [raised]
      show (u.modAct a _).modAct a (fun x => { x with timerStart := u.clock.now, timerMs := x.cfg.highMs }) = _
      rw [clock, moved, State.modAct_modAct, Actuator.entered_freshHold hs (.inr rfl)]; rfl
    rw [if_pos rfl, if_pos rfl, entered]
    exact flush_of_empty (by rw [ht]; exact ev)
  | false =>
    have entered : setActState a .low .timer u =
        { timed.modAct a fun _ => (s.act a).pressurized false timed.clock.now with
          ev := { acts := [(a, timed.actNote a .low .starting .timer)] } } := by
      have note : u.actNote a .low .starting .timer = timed.actNote a .low .starting .timer := by
        unfold State.actNote
        rw [fresh, hu, ht]; rfl
      rw [plain (.inl rfl), moved, state, note, Actuator.entered_freshHold hs (.inl rfl)]; rfl
    rw [if_neg (by decide), if_neg (by decide), entered]
    refine (flush_of_act rfl).trans ?_
    exact congrArg (State.noted · _) (ev_self (t := timed.modAct a _) (by rw [ht]; exact ev))

/-! ### RAISING's timer (R63, R64, R78) -/

/-- The actuator after RAISING's timer. -/
def Actuator.activated (x : Actuator) (stroke : Prop) [Decidable stroke] : Actuator :=
  let y : Actuator := { x with state := .active, timerStart := 0, timerMs := 0 }
  if stroke then y
  else { y with
    present := .force
    regs := { x.regs with
      c := x.force
      a := clamp (x.regs.u * 65536) (-(x.gainsForce.imax * 65536)) (x.gainsForce.imax * 65536) } }

theorem Actuator.entered_active {x : Actuator} (h : x.state = .raising) : x.entered .active =
    { x with state := .active, timerStart := 0, timerMs := 0 } := by
  unfold Actuator.entered
  simp only [h, reduceCtorEq, or_self, if_false]

theorem highPressureExpiry_eq {s : State} {a : Fin 8} (ev : s.ev = {}) (hs : (s.act a).state = .raising) {timed u : State}
    (ht : timed = s.advanceTo (s.act a).timerDue)
    (hu : u = timed.modAct a fun _ => (s.act a).activated (s.groupOf a = none ∧ (s.act a).cfg.quantity = .stroke)) :
    highPressureExpiry a s =
      ({ u with lgu := s.lguMoved u a true } : State).noted [timed.actNote a .active .raising .timer] := by
  obtain ⟨q, hq⟩ : ∃ q, q = if (s.groupOf a).isSome then Quantity.force else (s.act a).cfg.quantity := ⟨_, rfl⟩
  obtain ⟨w, hw⟩ : ∃ w, w = timed.modAct a fun x => if q = .force then bumpless .force x else x := ⟨_, rfl⟩
  have eq : highPressureExpiry a s = flush (setActState a .active .timer w) := by
    rw [hw, hq, ht]; exact if_pos hs
  have old : timed.act a = s.act a := by rw [ht]; rfl
  have start : w.act a = if q = .force then bumpless .force (s.act a) else s.act a := by
    rw [hw, State.modAct_act_same, old]
  have state : (w.act a).state = .raising := by rw [start]; split <;> exact hs
  have wev : w.ev = {} := by rw [hw, ht]; exact ev
  have stroke : q = .force ↔ ¬(s.groupOf a = none ∧ (s.act a).cfg.quantity = .stroke) := by
    rw [hq]
    cases s.groupOf a with
    | none => cases (s.act a).cfg.quantity <;> decide
    | some g => simp
  have act : (w.act a).entered .active =
      (s.act a).activated (s.groupOf a = none ∧ (s.act a).cfg.quantity = .stroke) := by
    rw [Actuator.entered_active state, start]
    unfold Actuator.activated
    by_cases h : q = .force
    · rw [if_pos h, if_neg (stroke.1 h)]; rfl
    · rw [if_neg h, if_pos (not_not.1 (mt stroke.2 h))]
  have moved : w.modAct a (Actuator.entered .active) = u := by
    rw [hu, ← act, start, hw, State.modAct_modAct]
    exact State.modAct_congr (by rw [old])
  have lgu : w.lguEntered a .active = s.lguMoved u a true := by
    rw [lguEntered_eq (s := w) (t := u) (.inr rfl) (fun b => ?_) fun b => ?_]
    · have group : w.group = s.group := by rw [hw, ht]; rfl
      have groupOf : w.groupOf a = s.groupOf a := by rw [hw, ht]; rfl
      have lgu : w.lgu = s.lgu := by rw [hw, ht]; rfl
      unfold State.lguMoved
      rw [groupOf, group, lgu]; rfl
    · rw [← moved, State.modAct_act]; split <;> rfl
    · rw [← moved, State.modAct_act]; split
      · exact Actuator.entered_derate ..
      · rfl
  have note : w.actNote a .active .raising .timer = timed.actNote a .active .raising .timer := by
    have force : (w.act a).force = (timed.act a).force := by rw [start, old]; split <;> rfl
    unfold State.actNote
    rw [force, hw]; rfl
  have entered : setActState a .active .timer w =
      { u with lgu := s.lguMoved u a true, ev := { acts := [(a, timed.actNote a .active .raising .timer)] } } := by
    rw [setActState_plain .timer wev (losing_of_not_active fun _ => rfl)
      (leaves_of_other ⟨by decide, by decide⟩ (by rw [state]; decide)), moved, lgu, state, note]
    rfl
  rw [eq, entered]
  refine (flush_of_act rfl).trans (congrArg (State.noted · _) ?_)
  have uev : u.ev = {} := by rw [hu, ht]; exact ev
  rw [← uev]

/-- Settles O34. -/
theorem pressureTimersExpire : Obligations.PressureTimersExpire := by
  unfold Obligations.PressureTimersExpire
  intro s a settled x now timed
  obtain ⟨ev, pending⟩ := settled
  have done {t : State} {f : State → State} (h : f s = t) (hp : t.stc = s.stc) : stepDone (f s) = .next t := by
    rw [h]; exact stepDone_of_noResetDue (.inl (by rw [hp]; exact pending))
  refine ⟨fun h => done (f := lowPressureExpiry a) (if_neg h) rfl, fun h => done (f := highPressureExpiry a) (if_neg h) rfl,
    fun h up hup => ?_, fun h => ?_⟩
  · intro y
    refine done (f := lowPressureExpiry a) (lowPressureExpiry_eq ev h (timed := timed) ?_ rfl) ?_
    · rw [hup, mayRaise_iff]
    · rw [noted_stc]; rfl
  · obtain ⟨u, hu⟩ : ∃ u, u = timed.modAct a fun _ => x.activated (s.groupOf a = none ∧ x.cfg.quantity = .stroke) := ⟨_, rfl⟩
    have eq := highPressureExpiry_eq ev h (timed := timed) rfl hu
    refine ⟨_, done (f := highPressureExpiry a) eq (by rw [noted_stc, hu]; rfl), ?_⟩
    rw [noted_eq]
    refine ⟨by rw [hu]; rfl, ?_, fun b hb => ?_, ?_, ?_⟩
    · show u.act a = _
      rw [hu, State.modAct_act_same]; rfl
    · show u.act b = _
      rw [hu, State.modAct_act_other _ _ (Ne.symm hb)]; rfl
    · rw [noted_eq, hu]; rfl
    · rw [hu]; rfl

end Sys2Proof.Machine

/-!
Replies that list fields (R209), and GROUP_SET (R92).
-/
namespace Sys2Proof.Machine

/-! ### Fields of a reply (R209) -/

section

variable (x : Int) (l m : List Field)

@[simp] theorem fieldBytes_nil : fieldBytes [] = [] := rfl

@[simp] theorem fieldBytes_append : fieldBytes (l ++ m) = fieldBytes l ++ fieldBytes m := List.flatMap_append

theorem fieldBytes_cons (f : Field) : fieldBytes (f :: l) = fieldBytes [f] ++ fieldBytes l := fieldBytes_append [f] l

@[simp] theorem fieldBytes_one : fieldBytes [(1, x)] = put1 x := by
  simp [fieldBytes, put1, List.range_succ]

@[simp] theorem fieldBytes_two : fieldBytes [(2, x)] = put2 x := by
  simp [fieldBytes, put2, List.range_succ]

@[simp] theorem fieldBytes_four : fieldBytes [(4, x)] = put4 x := by
  have h : x / 65536 / 256 = x / 16777216 := by omega
  simp [fieldBytes, put4, put2, List.range_succ, h]

@[simp] theorem fieldBytes_flag (b : Bool) : fieldBytes [flagField b] = putFlag b := by
  cases b <;> rfl

@[simp] theorem fieldBytes_opt {n : Nat} (o : Option (Fin n)) : fieldBytes [optField o] = putOpt o := by
  cases o with
  | none => exact fieldBytes_one 255
  | some i => exact fieldBytes_one i.val

theorem fieldBytes_flatMap {α : Type} (l : List α) (f : α → List Field) (g : α → List Byte) (h : ∀ a ∈ l, fieldBytes (f a) = g a) :
    fieldBytes (l.flatMap f) = l.flatMap g := by
  induction l with
  | nil => rfl
  | cons a l ih =>
    rw [List.flatMap_cons, List.flatMap_cons, fieldBytes_append, h a List.mem_cons_self,
      ih fun b hb => h b (List.mem_cons_of_mem a hb)]

theorem fieldBytes_replicate (n : Nat) (l : List Field) :
    fieldBytes (List.replicate n l).flatten = (List.replicate n (fieldBytes l)).flatten := by
  induction n with
  | zero => rfl
  | succ n ih => rw [List.replicate_succ, List.replicate_succ, List.flatten_cons, List.flatten_cons, fieldBytes_append, ih]

end

theorem Group.recordBytes_eq (x : Group) : x.recordBytes = fieldBytes x.recordFields := by
  have members : fieldBytes (x.members.flatMap fun m => [(1, (m.1.val : Int)), (2, (m.2 : Int))]) =
      x.members.flatMap fun m => put1 m.1.val ++ put2 m.2 :=
    fieldBytes_flatMap _ _ _ fun m _ => by rw [fieldBytes_cons, fieldBytes_one, fieldBytes_two]
  have unused : fieldBytes [(1, 255), (2, 0)] = put1 255 ++ put2 0 := by
    rw [fieldBytes_cons, fieldBytes_one, fieldBytes_two]
  have last : fieldBytes [flagField x.carry, (1, (x.tie.code : Int))] = putFlag x.carry ++ put1 x.tie.code := by
    rw [fieldBytes_cons, fieldBytes_flag, fieldBytes_one]
  unfold Group.recordFields Group.recordBytes
  simp only [List.flatten_cons, List.flatten_nil, List.append_nil, fieldBytes_append, fieldBytes_one, members,
    fieldBytes_replicate, unused, last, List.append_assoc]

/-! ### The members of GROUP_SET (R92) -/

theorem Tie.ofCode_code (x : Tie) : Tie.ofCode x.code = some x := by cases x <;> rfl

theorem Tie.ofCode_none {n : Nat} (h : 2 ≤ n) : Tie.ofCode n = none := by
  obtain ⟨k, rfl⟩ := Nat.exists_eq_add_of_le' h
  rfl

theorem groupPairs_eq {p : List Byte} {l : List (Nat × Nat)} (h : l.length = u8 p 1)
    (hl : ∀ i : Nat, i < l.length → l[i]? = some (u8 p (2 + 3 * i), u16 p (3 + 3 * i))) : groupPairs p = l := by
  refine List.ext_getElem? fun i => ?_
  unfold groupPairs
  rw [List.getElem?_map, ← h]
  by_cases hi : i < l.length
  · rw [hl i hi, List.getElem?_range hi]; rfl
  · rw [List.getElem?_eq_none (by simpa using hi), List.getElem?_eq_none (by omega)]; rfl

theorem mem_weightsOf {l : List (Nat × Nat)} {a : Fin 8} {w : Nat} : w ∈ weightsOf l a ↔ (a.val, w) ∈ l := by
  simp only [weightsOf, List.mem_map, List.mem_filter, decide_eq_true_eq, Prod.exists]
  constructor
  · rintro ⟨x, y, ⟨h, rfl⟩, rfl⟩; exact h
  · intro h; exact ⟨_, _, ⟨h, rfl⟩, rfl⟩

/-- The members in ascending order: the only ascending list of the pairs given. -/
theorem membersOf_eq {l : List (Nat × Nat)} {members : List (Fin 8 × Nat)} (once : ∀ a : Fin 8, (weightsOf l a).length ≤ 1)
    (perm : (members.map fun m => (m.1.val, m.2)).Perm l) (sorted : (members.map Prod.fst).Pairwise (· < ·)) :
    membersOf l = members := by
  have mem (a : Fin 8) (w : Nat) : (a, w) ∈ members ↔ (a.val, w) ∈ l := by
    rw [← perm.mem_iff, List.mem_map]
    constructor
    · intro h; exact ⟨_, h, rfl⟩
    · rintro ⟨⟨b, v⟩, h, e⟩
      obtain ⟨hb, hv⟩ := Prod.mk.inj e
      rw [← Fin.ext hb, ← hv]; exact h
  have mem' (a : Fin 8) (w : Nat) : (a, w) ∈ membersOf l ↔ (a.val, w) ∈ l := by
    rw [← mem_weightsOf]
    have h1 := once a
    simp only [membersOf, List.mem_filterMap, List.mem_finRange, true_and, Option.map_eq_some_iff, Prod.mk.injEq]
    constructor
    · rintro ⟨b, v, hv, rfl, rfl⟩; exact List.mem_of_mem_head? hv
    · intro h
      refine ⟨a, w, ?_, rfl, rfl⟩
      cases hl : weightsOf l a with
      | nil => rw [hl] at h; exact absurd h List.not_mem_nil
      | cons v rest =>
        rw [hl] at h h1
        have : rest = [] := List.eq_nil_of_length_eq_zero (by simpa using h1)
        subst this
        rw [List.mem_singleton.1 h]; rfl
  have sorted' : (membersOf l).Pairwise (fun x y => x.1 < y.1) := by
    unfold membersOf
    refine List.Pairwise.filterMap _ (fun a b hab x hx y hy => ?_) (List.pairwise_lt_finRange 8)
    simp only [Option.map_eq_some_iff] at hx hy
    obtain ⟨_, _, rfl⟩ := hx
    obtain ⟨_, _, rfl⟩ := hy
    exact hab
  have sorted'' : members.Pairwise (fun x y => x.1 < y.1) := List.pairwise_map.1 sorted
  have : Std.Irrefl fun x y : Fin 8 × Nat => x.1 < y.1 := ⟨fun x => lt_irrefl x.1⟩
  have : Std.Antisymm fun x y : Fin 8 × Nat => x.1 < y.1 := ⟨fun x y h k => absurd (h.trans k) (lt_irrefl x.1)⟩
  exact sorted'.eq_of_mem_iff sorted'' fun m => (mem' m.1 m.2).trans (mem m.1 m.2).symm

/-! ### GROUP_SET's tests and effect -/

/-- The group record that GROUP_SET leaves (R92, R98, R101, R105). -/
def Group.stored (x : Group) (members : List (Fin 8 × Nat)) (carry : Bool) (tie : Tie) : Group :=
  if members = [] then { carry := carry, tie := tie } else { x with
    members := members, carry := carry, tie := tie, lru := members.map Prod.fst
    recipient := none, selTime := none, reasons := {}, due := false }

theorem foldl_source (members : List (Fin 8 × Nat)) (s : State) :
    members.foldl (fun s m => s.modAct m.1 fun x => { x with source := .sequencer }) s =
      { s with svc := { s.svc with acts := Vector.ofFn fun a =>
        if a ∈ (members.map Prod.fst) then { s.act a with source := .sequencer } else s.act a } } := by
  induction members generalizing s with
  | nil =>
    have : (Vector.ofFn fun a : Fin 8 => if a ∈ ([] : List (Fin 8 × Nat)).map Prod.fst then
        { s.act a with source := .sequencer } else s.act a) = s.svc.acts :=
      Vector.ext fun i hi => by rw [Vector.getElem_ofFn, if_neg (by simp)]; rfl
    rw [this]; rfl
  | cons m l ih =>
    rw [List.foldl_cons, ih]
    have : (Vector.ofFn fun a : Fin 8 => if a ∈ l.map Prod.fst then
        { (s.modAct m.1 fun x => { x with source := .sequencer }).act a with source := .sequencer }
        else (s.modAct m.1 fun x => { x with source := .sequencer }).act a) =
        Vector.ofFn fun a : Fin 8 => if a ∈ (m :: l).map Prod.fst then { s.act a with source := .sequencer } else s.act a := by
      congr 1
      funext a
      rw [State.modAct_act]
      simp only [List.map_cons, List.mem_cons]
      by_cases e : m.1 = a
      · subst e
        rw [if_pos rfl]
        refine Eq.trans ?_ (if_pos (.inl rfl)).symm
        split <;> rfl
      · rw [if_neg e]
        exact if_congr ⟨.inr, fun h => h.resolve_left fun h => e h.symm⟩ rfl rfl
    rw [this]; rfl

theorem storeGroup_eq {s : State} (ev : s.ev = {}) (still : s.psq.state.going = false) (g : Fin 4)
    (members : List (Fin 8 × Nat)) (carry : Bool) (tie : Tie) :
    storeGroup g members carry tie s = { s with
      lgu := s.lgu.set g ((s.group g).stored members carry tie)
      svc := { s.svc with acts := Vector.ofFn fun a =>
        if a ∈ (members.map Prod.fst) then { s.act a with source := .sequencer } else s.act a } } := by
  unfold storeGroup
  dsimp only
  have none {u : State} (h : u.psq = s.psq) : ¬(s.lostCause = false ∧ u.lostCause = true ∧ u.psq.state.going = true) := by
    rintro ⟨-, -, going⟩
    rw [h, still] at going
    exact nomatch going
  rw [foldl_source]
  generalize hu : ({ s.modGroup g _ with svc := _ } : State) = u
  rw [lostEdge_of_no_edge (none (by rw [← hu]; rfl)), flush_of_empty (by rw [← hu]; exact ev), ← hu]
  rfl

/-- GROUP_SET's tests on the pairs it names, as one choice each. -/
theorem groupSetBody_eq {p : List Byte} {s : State} {g : Fin 4} {l : List (Nat × Nat)} (hm : s.stc.mode = .setup)
    (h0 : u8 p 0 = g.val) (hl : groupPairs p = l) (h1 : u8 p 1 = l.length) :
    groupSetBody p s =
      .test (decide (l.length ≠ 1) && decide (l.length ≤ 4)) .range (.test (l.all fun x => decide (x.1 < 8)) .range
        (match (List.finRange 8).find? fun a => decide (1 < (weightsOf l a).length) with
        | some a => .refuse .refusedRange a.val
        | none => match (List.finRange 8).find? fun a => (weightsOf l a).any fun w => !inRange 1 1000 w with
          | some a => .refuse .refusedRange a.val
          | none => .get (flagOf (u8 p 14)) fun carry => .get (Tie.ofCode (u8 p 15)) fun tie =>
            match (List.finRange 8).find? fun a => decide (weightsOf l a ≠ []) &&
                (match s.groupOf a with
                  | some h => decide (h ≠ g)
                  | none => false) with
            | some a => .refuse .refusedRange a.val
            | none => .ok ((storeGroup g (membersOf l) carry tie s).group g).recordBytes
                (storeGroup g (membersOf l) carry tie s))) := by
  rw [groupSetBody, Answer.inSetup_of hm, h0, Answer.get_some (indexOf_val g), hl, h1]
  rfl

/-- Settles O40. -/
theorem groupSetStores : Obligations.GroupSetStores := by
  unfold Obligations.GroupSetStores
  intro f s l ht hlen hl given doubled wrong least refused
  have pairs := groupPairs_eq hlen hl
  have find {p : Fin 8 → Bool} {q : Fin 8 → Prop} (hp : ∀ a, p a = true ↔ q a) {a : Fin 8} (h : least q a) :
      (List.finRange 8).find? p = some a :=
    find?_finRange_eq_some ((hp a).2 h.1) fun b hb => by simpa only [Bool.not_eq_true] using mt (hp b).1 (h.2 b hb)
  have none {p : Fin 8 → Bool} {q : Fin 8 → Prop} (hp : ∀ a, p a = true ↔ q a) (h : ∀ a, ¬q a) :
      (List.finRange 8).find? p = none :=
    find?_finRange_eq_none fun a => by simpa only [Bool.not_eq_true] using mt (hp a).1 (h a)
  have isDoubled (a : Fin 8) : decide (1 < (weightsOf l a).length) = true ↔ doubled a := decide_eq_true_iff
  have isWrong (a : Fin 8) : ((weightsOf l a).any fun w => !inRange 1 1000 w) = true ↔ wrong a := by
    simp only [List.any_eq_true, Bool.not_eq_true', inRange, Bool.and_eq_false_iff, decide_eq_false_iff_not]
    refine exists_congr fun w => and_congr_right fun _ => ?_
    omega
  refine ⟨fun hm => command_refused ht rfl (Answer.inSetup_of_not (s := s.received) hm _), fun hm h0 => ?_,
    fun g hm h0 => ?_⟩
  · refine command_refused ht rfl ((Answer.inSetup_of (s := s.received) hm _).trans ?_)
    rw [indexOf_none h0]; rfl
  · intro taken
    have body := groupSetBody_eq (s := s.received) hm h0 pairs hlen.symm
    have isTaken (a : Fin 8) : (decide (weightsOf l a ≠ []) && (match s.received.groupOf a with
        | some h => decide (h ≠ g)
        | Option.none => false)) = true ↔ taken a := by
      rw [Bool.and_eq_true, decide_eq_true_iff, show s.received.groupOf a = s.groupOf a from rfl]
      refine and_congr_right fun _ => ?_
      cases s.groupOf a with
      | none => simp
      | some h => simp
    refine ⟨fun h => ?_, fun n1 n4 inside => ?_⟩
    · refine command_refused ht rfl (body.trans ?_)
      rcases h with h | h | ⟨p, hp, h⟩
      · exact Answer.test_of_not (by rw [h]; rfl) _ _
      · exact Answer.test_of_not (by rw [decide_eq_false (by omega : ¬l.length ≤ 4)]; exact Bool.and_false _) _ _
      · by_cases hc : (decide (l.length ≠ 1) && decide (l.length ≤ 4)) = true
        · refine (Answer.test_of hc _ _).trans (Answer.test_of_not ?_ _ _)
          rw [List.all_eq_false]
          exact ⟨p, hp, by rw [decide_eq_true_iff]; omega⟩
        · exact Answer.test_of_not (by simpa only [Bool.not_eq_true] using hc) _ _
    · rw [Answer.test_of (b := decide (l.length ≠ 1) && decide (l.length ≤ 4))
        (by rw [decide_eq_true n1, decide_eq_true n4]; rfl), Answer.test_of (b := l.all fun x => decide (x.1 < 8))
        (by rw [List.all_eq_true]; exact fun p hp => decide_eq_true (inside p hp))] at body
      refine ⟨fun a h => ?_, fun once => ?_⟩
      · exact command_refused ht rfl (body.trans (by rw [find isDoubled h]))
      · rw [none isDoubled once] at body
        refine ⟨fun a h => ?_, fun weights => ?_⟩
        · exact command_refused ht rfl (body.trans (by rw [find isWrong h]))
        · rw [none isWrong weights] at body
          refine ⟨fun h => command_refused ht rfl (body.trans ?_), fun carry tie f14 f15 => ?_⟩
          · rcases h with h | h
            · rw [flagOf_none h]; rfl
            · cases flagOf (u8 f.payload 14) with
              | none => rfl
              | some c => rw [Answer.get, Tie.ofCode_none h]; rfl
          · rw [f14, f15, Answer.get_some (flagOf_toNat carry), Answer.get_some (Tie.ofCode_code tie)] at body
            refine ⟨fun a h => ?_, fun members free ev still perm sorted => ?_⟩
            · exact command_refused ht rfl (body.trans (by rw [find isTaken h]))
            · intro x
              have ones (a : Fin 8) : (weightsOf l a).length ≤ 1 := Nat.le_of_not_lt (once a)
              rw [none isTaken free, membersOf_eq ones perm sorted,
                storeGroup_eq (s := s.received) ev still] at body
              refine command_taken ht rfl (body.trans ?_) ht.2.2.1
              have record {u : State} (hu : u.lgu = s.lgu.set g x) : u.group g = x := by
                show u.lgu[g.val] = x
                rw [hu, Vector.getElem_set_self]
              rw [Group.recordBytes_eq, record rfl]; rfl

end Sys2Proof.Machine

/-!
The states of a satellite slot: what a change of state brings (R110, R114, R124, R133), and SAT_PRESENT, SAT_WRITE and
SAT_RESET (R109, R115, R119, R123).
-/
namespace Sys2Proof.Machine

/-! ### Zeroings that fail (R133) -/

theorem halves_eq (x : Int) : halves x = (high x, low x) := by
  unfold halves high low fieldOf
  ext <;> dsimp only <;> omega

theorem vmod_fixed {α : Type} {n : Nat} {v : Vector α n} {i : Fin n} {f : α → α} (h : f v[i] = v[i]) : vmod v i f = v := by
  unfold vmod; rw [h]; exact Vector.set_getElem_self _

theorem failZeroing_eq (c : Fin 64) (cause : Int) (s : State) : failZeroing c cause s =
    (s.modChan c fun x => { x with zeroing := none }).noted (s.zeroFailed c cause) := by
  unfold failZeroing State.zeroFailed
  cases h : s.stp.chans[c].zeroing with
  | none =>
    have : (vmod s.stp.chans c fun x => { x with zeroing := none }) = s.stp.chans := vmod_fixed (by rw [← h])
    show s = ({ s with stp := { s.stp with chans := vmod s.stp.chans c fun x => { x with zeroing := none } } } : State)
    rw [this]
  | some z => dsimp only; rw [halves_eq]; rfl

theorem slotChans_eq (x : Fin 4) : slotChans x = (List.finRange 64).filter fun c => c.val / 16 = x.val := by
  revert x; decide

/-- Channels whose zeroings have failed. -/
def failed (l : List (Fin 64)) (v : Vector Chan 64) : Vector Chan 64 :=
  Vector.ofFn fun c => if c ∈ l then { v[c] with zeroing := none } else v[c]

theorem failed_get (l : List (Fin 64)) (v : Vector Chan 64) (c : Fin 64) :
    (failed l v)[c] = if c ∈ l then { v[c] with zeroing := none } else v[c] := by
  unfold failed; rw [Fin.getElem_fin, Vector.getElem_ofFn]

theorem failed_nil (v : Vector Chan 64) : failed [] v = v := by
  apply Vector.ext
  intro i hi
  have := failed_get [] v ⟨i, hi⟩
  rw [if_neg List.not_mem_nil] at this
  exact this

theorem failed_cons (c : Fin 64) (l : List (Fin 64)) (v : Vector Chan 64) :
    failed l (vmod v c fun x => { x with zeroing := none }) = failed (c :: l) v := by
  apply Vector.ext
  intro i hi
  have left := failed_get l (vmod v c fun x => { x with zeroing := none }) ⟨i, hi⟩
  have right := failed_get (c :: l) v ⟨i, hi⟩
  rw [vmod_get] at left
  refine left.trans (Eq.trans ?_ right.symm)
  by_cases e : c = ⟨i, hi⟩
  · subst e
    rw [if_pos rfl, if_pos List.mem_cons_self, ite_self]
  · rw [if_neg e]
    exact if_congr ⟨List.mem_cons_of_mem c, fun h => (List.mem_cons.1 h).resolve_left fun h => e h.symm⟩ rfl rfl

/-- The zeroings of some channels fail. -/
theorem failZeroings_eq (l : List (Fin 64)) (nodup : l.Nodup) (cause : Int) (s : State) :
    l.foldl (fun s c => failZeroing c cause s) s =
      ({ s with stp := { s.stp with chans := failed l s.stp.chans } } : State).noted (l.flatMap fun c => s.zeroFailed c cause) := by
  induction l generalizing s with
  | nil => rw [failed_nil]; rfl
  | cons c l ih =>
    obtain ⟨out, nodup⟩ := List.nodup_cons.1 nodup
    rw [List.foldl_cons, ih nodup, failZeroing_eq, List.flatMap_cons, noted_append]
    have notes : l.flatMap (fun k => ((s.modChan c fun x => { x with zeroing := none }).noted (s.zeroFailed c cause)).zeroFailed
        k cause) = l.flatMap fun k => s.zeroFailed k cause := by
      refine List.flatMap_congr fun k hk => ?_
      have same : (s.modChan c fun x => { x with zeroing := none }).stp.chans[k] = s.stp.chans[k] :=
        (vmod_get ..).trans (if_neg fun e : c = k => out (e ▸ hk))
      rw [noted_eq]
      unfold State.zeroFailed
      dsimp only
      rw [same]
      rfl
    rw [notes]
    simp only [noted_eq]
    rw [show (s.modChan c fun x => { x with zeroing := none }).stp.chans = vmod s.stp.chans c fun x => { x with zeroing := none }
      from rfl, failed_cons]
    rfl

/-! ### A change of a slot's state (R110, R114, R124, R133) -/

/-- The state with a slot changed and, where LIVE is left, its zeroings failed, before SAT_LOST follows. -/
def State.slotMoved (s : State) (x : Fin 4) (y : Sat) : State :=
  { s with glc := s.glc.set x y
           stp := { s.stp with chans :=
             if s.glc[x].state = .live ∧ y.state ≠ .live then failed (slotChans x) s.stp.chans else s.stp.chans } }

/-- The notices of the change. -/
def State.slotNotes (s : State) (x : Fin 4) (cause : SatCause) (y : Sat) : List Notice :=
  s.satNote x s.glc[x].state cause y :: if y.state ≠ .live then s.zeroingsFailed x else []

theorem satChange_eq {x : Fin 4} (cause : SatCause) {f : Sat → Sat} {s : State} {y : Sat} (hy : f s.glc[x] = y) :
    satChange x cause f s =
      (let t := (s.slotMoved x y).noted (s.slotNotes x cause y)
       if y.state = .lost then raise (.satLost x) t
       else if s.glc[x].state = .lost then lower (.satLost x) t
       else t) := by
  have glc : (s.modSat x f).glc = s.glc.set x y := by rw [← hy]; rfl
  have now : (s.modSat x f).glc[x] = y := by
    show (s.modSat x f).glc[x.val] = y
    rw [glc, Vector.getElem_set_self]
  obtain ⟨u, hu⟩ : ∃ u, u = ({ s with glc := s.glc.set x y } : State).noted [s.satNote x s.glc[x].state cause y] := ⟨_, rfl⟩
  have noticed : satNotice x s.glc[x].state cause (s.modSat x f) = u := by
    unfold satNotice
    rw [now, hu]
    show offer _ ({ s with glc := (s.modSat x f).glc } : State) = _
    rw [glc]; rfl
  have state : u.glc[x] = y := by rw [← noticed]; exact now
  have nodup : (slotChans x).Nodup := by rw [slotChans_eq]; exact (List.nodup_finRange 64).filter _
  have zeroings : (if s.glc[x].state = .live ∧ y.state ≠ .live then (slotChans x).foldl (fun s c => failZeroing c 0 s) u
      else u) = (s.slotMoved x y).noted (s.slotNotes x cause y) := by
    have failed' : u.zeroFailed = s.zeroFailed := by
      funext c k
      rw [hu, noted_eq]; rfl
    by_cases h : s.glc[x].state = .live ∧ y.state ≠ .live
    · have live : s.zeroingsFailed x = (slotChans x).flatMap fun c => s.zeroFailed c 0 := by
        rw [State.zeroingsFailed, if_pos h.1, slotChans_eq]
      rw [if_pos h, failZeroings_eq _ nodup, failed', State.slotNotes, if_pos h.2, live, State.slotMoved, if_pos h, hu]
      simp only [noted_eq]
      rfl
    · have none : (if y.state ≠ .live then s.zeroingsFailed x else []) = [] := by
        by_cases k : y.state = .live
        · exact if_neg fun h => h k
        · rw [if_pos k, State.zeroingsFailed, if_neg fun l => h ⟨l, k⟩]
      rw [if_neg h, State.slotNotes, none, State.slotMoved, if_neg h, hu]
  unfold satChange
  dsimp only
  rw [noticed, state, zeroings]

theorem slotMoved_zeroing {s : State} {x : Fin 4} {y : Sat} (h : s.glc[x].state = .live) (k : y.state ≠ .live) {c : Fin 64}
    (hc : c.val / 16 = x.val) : (s.slotMoved x y).stp.chans[c].zeroing = none := by
  have : c ∈ slotChans x := by rw [slotChans_eq]; simpa using hc
  show (if s.glc[x].state = .live ∧ y.state ≠ .live then failed (slotChans x) s.stp.chans else s.stp.chans)[c].zeroing = none
  rw [if_pos ⟨h, k⟩, failed_get, if_pos this]

/-! ### SAT_PRESENT (R109, R123) -/

theorem satPresentBody_eq {p : List Byte} {x : Fin 4} {on : Bool} (h0 : u8 p 0 = x.val) (h1 : u8 p 1 = on.toNat) (s : State) :
    satPresentBody p s = .inSetup s (.clamped (if u16 p 2 ≤ 10000 then none else some 2) []
      (setPresence x on (min 10000 (u16 p 2)) s)) := by
  have settle : (clamp (u16 p 2) 0 10000).toNat = min 10000 (u16 p 2) :=
    (clamp_eq_max_min (lo := 0) (hi := 10000) (by decide) _).trans (by omega)
  have off : firstClamped [(decide (clamp (u16 p 2) 0 10000 ≠ u16 p 2), 2)] = if u16 p 2 ≤ 10000 then none else some 2 := by
    rw [show decide (clamp (u16 p 2) 0 10000 ≠ u16 p 2) = _ from clamp_ne_iff (lo := 0) (hi := 10000) (u16 p 2), firstClamped_one]
    by_cases h : u16 p 2 ≤ 10000
    · rw [if_pos h, if_neg (by rw [decide_eq_true_iff]; omega)]
    · rw [if_neg h, if_pos (by rw [decide_eq_true_iff]; omega)]
  rw [satPresentBody, h0, Answer.get_some (indexOf_val x), h1, Answer.get_some (flagOf_toNat on)]
  dsimp only
  rw [off, settle]

/-- The reply of SAT_PRESENT. -/
theorem satPresent_taken {f : Frame} {s : State} {x : Fin 4} {on : Bool} {u : State} (ht : s.takes f 4)
    (h0 : u8 f.payload 0 = x.val) (h1 : u8 f.payload 1 = on.toNat) (hm : s.stc.mode = .setup)
    (hu : setPresence x on (min 10000 (u16 f.payload 2)) s.received = u.received) (stc : u.stc = s.stc) :
    exec (.satPresent f) s = .next
      (if u16 f.payload 2 ≤ 10000 then u.answered 0x38 f [] else u.replied 0x38 f .clamped 2 []) := by
  have body := (satPresentBody_eq h0 h1 s.received).trans (Answer.inSetup_of (s := s.received) hm _)
  have pending : u.stc.restartPending = false := by rw [stc]; exact ht.2.2.1
  rw [hu] at body
  by_cases h : u16 f.payload 2 ≤ 10000
  · rw [if_pos h] at body ⊢
    exact command_taken ht rfl body pending
  · rw [if_neg h] at body ⊢
    exact command_taken ht rfl body pending

theorem modSat_eq (x : Fin 4) (f : Sat → Sat) (s : State) : s.modSat x f = { s with glc := s.glc.set x (f s.glc[x]) } := rfl

theorem setPresence_same {x : Fin 4} {on : Bool} (settle : Nat) {s : State} (h : s.glc[x].present = on) :
    setPresence x on settle s = { s with glc := s.glc.set x { s.glc[x] with settleMs := settle } } := by
  unfold setPresence
  rw [h]
  cases on <;> rfl

/-- A slot written twice. -/
theorem satChange_modSat {x : Fin 4} (cause : SatCause) {f g : Sat → Sat} {s : State} {y : Sat} (hf : (f s.glc[x]).state = s.glc[x].state)
    (hy : g (f s.glc[x]) = y) : satChange x cause g (s.modSat x f) =
      (let t := (s.slotMoved x y).noted (s.slotNotes x cause y)
       if y.state = .lost then raise (.satLost x) t
       else if s.glc[x].state = .lost then lower (.satLost x) t
       else t) := by
  have now : (s.modSat x f).glc[x] = f s.glc[x] := (vmod_get ..).trans (if_pos rfl)
  have twice : (s.modSat x f).glc.set x y = s.glc.set x y := by
    rw [modSat_eq]
    exact Vector.set_set ..
  have moved : (s.modSat x f).slotMoved x y = s.slotMoved x y := by
    unfold State.slotMoved
    rw [twice, now, hf]; rfl
  have notes : (s.modSat x f).slotNotes x cause y = s.slotNotes x cause y := by
    unfold State.slotNotes State.zeroingsFailed
    rw [now, hf]; rfl
  rw [satChange_eq cause (f := g) (y := y) (by rw [now, hy]), moved, notes, now, hf]

theorem setPresence_on {x : Fin 4} (settle : Nat) {s : State} {z : Sat} (h : s.glc[x].present = false)
    (ha : s.glc[x].state = .absent) (hz : z = { s.glc[x] with
      settleMs := settle, present := true, state := .seeking, unanswered := 0, awaiting := true, carried := false
      pollAt := s.clock.now + 2000 }) :
    setPresence x true settle s = ({ s with glc := s.glc.set x z } : State).noted [s.satNote x .absent .present z] := by
  have change := satChange_modSat (x := x) (s := s) .present (f := fun y => { y with settleMs := settle })
    (g := Sat.seek s.clock.now) (y := z) rfl hz.symm
  have seeking : z.state = .seeking := by rw [hz]
  have moved : s.slotMoved x z = { s with glc := s.glc.set x z } := by
    unfold State.slotMoved
    rw [if_neg fun k => by rw [ha] at k; exact nomatch k.1]
  have notes : s.slotNotes x .present z = [s.satNote x .absent .present z] := by
    unfold State.slotNotes State.zeroingsFailed
    rw [ha, seeking]; rfl
  have eq : setPresence x true settle s = satChange x .present (Sat.seek s.clock.now) (s.modSat x fun y => { y with settleMs := settle }) := by
    unfold setPresence; rw [h]; rfl
  rw [eq, change, moved, notes, seeking, ha]
  rfl

theorem setPresence_off {x : Fin 4} (settle : Nat) {s : State} {z : Sat} (h : s.glc[x].present = true)
    (hz : z = { settleMs := settle, image := s.glc[x].image, lastFresh := s.glc[x].lastFresh, lastValid := s.glc[x].lastValid }) :
    setPresence x false settle s =
      (let t := (s.slotMoved x z).noted (s.satNote x s.glc[x].state .removed z :: s.zeroingsFailed x)
       if s.glc[x].state = .lost then lower (.satLost x) t else t) := by
  have change := satChange_modSat (x := x) (s := s) .removed (f := fun y => { y with settleMs := settle })
    (g := Sat.remove) (y := z) rfl hz.symm
  have absent : z.state = .absent := by rw [hz]
  have notes : s.slotNotes x .removed z = s.satNote x s.glc[x].state .removed z :: s.zeroingsFailed x := by
    unfold State.slotNotes
    rw [absent]; rfl
  have eq : setPresence x false settle s = satChange x .removed Sat.remove (s.modSat x fun y => { y with settleMs := settle }) := by
    unfold setPresence; rw [h]
  rw [eq, change, notes, absent]
  rfl

/-- What the removal of a slot comes to. -/
theorem setPresence_removed {x : Fin 4} {s t u : State} {z : Sat} (hz : z.state = .absent)
    (ht : t = (s.slotMoved x z).noted (s.satNote x s.glc[x].state .removed z :: s.zeroingsFailed x))
    (hu : u = if s.glc[x].state = .lost then lower (.satLost x) t else t) :
    u.glc = s.glc.set x z ∧ u.raised (.satLost x) = (s.raised (.satLost x) && decide (s.glc[x].state ≠ .lost)) ∧
      (s.glc[x].state = .live → ∀ c : Fin 64, c.val / 16 = x.val → u.stp.chans[c].zeroing = none) ∧
      (∀ a : Fin 8, (u.act a).state = (s.act a).state) ∧
      u.sli = (s.noted (s.satNote x s.glc[x].state .removed z :: s.zeroingsFailed x)).sli ∧
      u = { s with glc := u.glc, stp := { s.stp with chans := u.stp.chans }, svc := u.svc, lgu := u.lgu
                   pmx := u.pmx, sli := u.sli } := by
  have moved : t.Moved u := by
    subst hu
    exact keeps_ite (P := t.Moved) (advised_lower _ _).toMoved .rfl'
  have sli : u.sli = t.sli := by
    subst hu
    exact keeps_ite (P := fun u => u.sli = t.sli) (lower_sli ..) rfl
  rw [noted_eq] at ht
  have stp : u.stp = (s.slotMoved x z).stp := moved.stp.trans (by rw [ht])
  refine ⟨moved.glc.trans (by rw [ht]; rfl), ?_, fun live c hc => ?_, fun a => ?_, ?_, ?_⟩
  · have same : t.raised (.satLost x) = s.raised (.satLost x) := by rw [ht]; rfl
    by_cases lost : s.glc[x].state = .lost
    · rw [hu, if_pos lost, lower_raised, if_pos rfl, decide_eq_false fun k => k lost, Bool.and_false]
    · rw [hu, if_neg lost, same, decide_eq_true lost, Bool.and_true]
  · rw [stp]
    exact slotMoved_zeroing live (by rw [hz]; exact nofun) hc
  · obtain ⟨d, h⟩ := moved.act a
    rw [h, ht]; rfl
  · rw [sli, ht, noted_eq]; rfl
  · obtain ⟨v, g, p, l, lost, rest⟩ := moved.rest
    rw [rest, ht]; rfl

/-! ### SAT_WRITE and SAT_RESET (R115, R119) -/

theorem SatSetting.ofCodes_field_value (v : SatSetting) : SatSetting.ofCodes v.field v.value = some v := by
  cases v with
  | excitation v => exact dif_pos v.isLt
  | gain v => exact dif_pos v.isLt
  | filter v => exact dif_pos v.isLt
  | shunt v => exact dif_pos v.isLt

theorem Sat.unsee_eq (y : Sat) : y.unsee = { y with seen := y.seen && decide (y.state ≠ .settling) } := by
  unfold Sat.unsee
  by_cases h : y.state = .settling
  · rw [if_pos h, decide_eq_false fun k => k h, Bool.and_false]
  · rw [if_neg h, decide_eq_true h, Bool.and_true]

theorem satWriteBody_eq {p : List Byte} {x : Fin 4} {c : Fin 16} {v : SatSetting} (h0 : u8 p 0 = x.val) (h1 : u8 p 1 = c.val)
    (h2 : u8 p 2 = v.field) (h3 : u8 p 3 = v.value) (s : State) :
    satWriteBody p s = .test s.glc[x].present (.refuse .refusedAbsent 65535)
      (.test (!s.glc[x].draining) (.state 65535) (.test (s.glc[x].posted.length < 8) (.refuse .refusedFull 65535)
        (.ok (put1 (s.glc[x].posted.length + 1 : Nat)) { s with glc := s.glc.set x { s.glc[x] with
          posted := s.glc[x].posted ++ [{ ch := c, setting := v, origin := .posted }]
          seen := s.glc[x].seen && decide (s.glc[x].state ≠ .settling) } }))) := by
  rw [satWriteBody, presentSlot, h0, Answer.get_some (indexOf_val x), h1, Answer.get_some (indexOf_val c), h2, h3,
    Answer.get_some (SatSetting.ofCodes_field_value v), modSat_eq, Sat.unsee_eq]
  rfl

theorem satResetBody_eq {p : List Byte} {x : Fin 4} (h0 : u8 p 0 = x.val) (s : State) :
    satResetBody p s = .test s.glc[x].present (.refuse .refusedAbsent 65535)
      (.test (!s.glc[x].draining) (.state 65535) (.done { s with glc := s.glc.set x { s.glc[x] with
        draining := true, seen := s.glc[x].seen && decide (s.glc[x].state ≠ .settling) } })) := by
  rw [satResetBody, presentSlot, h0, Answer.get_some (indexOf_val x), modSat_eq, Sat.unsee_eq]
  rfl

/-- Settles O42. -/
theorem satelliteCommandsStore : Obligations.SatelliteCommandsStore := by
  unfold Obligations.SatelliteCommandsStore
  refine ⟨fun f s x on ht h0 h1 => ?_, fun f s x h0 => ?_⟩
  · intro y settle reply
    refine ⟨fun hm => command_refused ht rfl ((satPresentBody_eq h0 h1 _).trans (Answer.inSetup_of_not (s := s.received) hm _)),
      fun hm => ⟨fun hp => ?_, fun hon hp ha => ?_, fun hon hp => ?_⟩⟩
    · exact satPresent_taken ht h0 h1 hm (setPresence_same (s := s.received) _ hp) rfl
    · intro z
      subst hon
      refine satPresent_taken ht h0 h1 hm ?_ (noted_stc _ _)
      rw [noted_received]
      exact setPresence_on (s := s.received) _ hp ha (z := z) rfl
    · intro z
      subst hon
      obtain ⟨t, ht'⟩ : ∃ t, t = (s.slotMoved x z).noted (s.satNote x s.glc[x].state .removed z :: s.zeroingsFailed x) := ⟨_, rfl⟩
      obtain ⟨u, hu⟩ : ∃ u, u = if s.glc[x].state = .lost then lower (.satLost x) t else t := ⟨_, rfl⟩
      obtain ⟨glc, raised, zeroing, states, sli, rest⟩ := setPresence_removed rfl ht' hu
      have off : setPresence x false settle s.received = u.received := by
        rw [setPresence_off (s := s.received) settle hp (z := z) rfl, hu, ht']
        show (if s.glc[x].state = .lost then lower (.satLost x) ((s.slotMoved x z).received.noted _) else (s.slotMoved x z).received.noted _) = _
        rw [← noted_received, received_lower]
        exact (apply_ite State.received _ _ _).symm
      exact ⟨u, satPresent_taken ht h0 h1 hm off (by rw [rest]), glc, raised, zeroing, states, sli, rest⟩
  · intro y
    have undrained (h : y.draining = false) : (!y.draining) = true := by rw [h]; rfl
    have drained (h : y.draining = true) : (!y.draining) = false := by rw [h]; rfl
    refine ⟨fun ht c v h1 h2 h3 => ?_, fun ht => ?_⟩
    · have body := satWriteBody_eq h0 h1 h2 h3 s.received
      refine ⟨fun hp => ?_, fun hp hd => ?_, fun hp hd full => ?_, fun hp hd room => ?_⟩
      · exact command_refused ht rfl (body.trans (Answer.test_of_not hp _ _))
      · exact command_refused ht rfl (body.trans ((Answer.test_of hp _ _).trans (Answer.test_of_not (drained hd) _ _)))
      · exact command_refused ht rfl (body.trans ((Answer.test_of hp _ _).trans ((Answer.test_of (undrained hd) _ _).trans
          (Answer.test_of_not (decide_eq_false (Nat.not_lt.2 full)) _ _))))
      · exact command_taken ht rfl (body.trans ((Answer.test_of hp _ _).trans ((Answer.test_of (undrained hd) _ _).trans
          (Answer.test_of (decide_eq_true room) _ _)))) ht.2.2.1
    · have body := satResetBody_eq h0 s.received
      refine ⟨fun hp => ?_, fun hp hd => ?_, fun hp hd => ?_⟩
      · exact command_refused ht rfl (body.trans (Answer.test_of_not hp _ _))
      · exact command_refused ht rfl (body.trans ((Answer.test_of hp _ _).trans (Answer.test_of_not (drained hd) _ _)))
      · exact command_taken ht rfl (body.trans ((Answer.test_of hp _ _).trans (Answer.test_of (undrained hd) _ _))) ht.2.2.1

end Sys2Proof.Machine

/-!
The rows of the gauge link: polls, settles, restorations (R107, R111, R112, R114, R116, R120, R124).
-/
namespace Sys2Proof.Machine

/-! ### What a raising that moves nothing leaves raised (R177) -/

theorem takeRaising_raised {s : State} (h : s.advisory) {c : Cond} (hc : c.advisory) (e : Fin 40) (d : Cond) :
    (takeRaising e c s).raised d = s.raised d := by
  by_cases hm : s.pmx.entries[e].cfg.matches c = true
  · rw [takeRaising_eq c (acting_of_matches h hc hm) hm]
    exact keeps_ite (P := fun t => t.raised d = s.raised d) rfl rfl
  · rw [show takeRaising e c s = s from if_neg hm]

/-- A condition raised where nothing moves stands raised, and the others stand as they did. -/
theorem raise_raised {s : State} (ev : s.ev = {}) (h : s.advisory) {c : Cond} (hc : c.advisory) (d : Cond) :
    (raise c s).raised d = if c.slot = d.slot then true else s.raised d := by
  by_cases raised : s.raised c = true
  · rw [show raise c s = s from if_pos raised]
    by_cases e : c.slot = d.slot
    · rw [if_pos e]
      unfold State.raised at *
      simpa only [← e] using raised
    · rw [if_neg e]
  · have set : s.Advised (setCond c true s) := advised_modPmx fun _ => rfl
    have taken := forAsc_keeps (n := 40) (f := fun e s => takeRaising e c s)
      (fun t => s.Advised t ∧ t.raised d = (setCond c true s).raised d)
      (fun e t k => ⟨k.1.trans (advised_takeRaising (k.1.advisory h) hc e), (takeRaising_raised (k.1.advisory h) hc e d).trans k.2⟩)
      ⟨set, rfl⟩
    have eq : raise c s = flush (merge (forAsc 40 (fun e s => takeRaising e c s) (setCond c true s))) := if_neg raised
    rw [eq, flush_of_empty ((taken.1.trans (advised_merge _)).ev.trans ev), merge_raised, taken.2, setCond_raised]

theorem setTo_raised {s : State} (ev : s.ev = {}) (h : s.advisory) {c : Cond} (hc : c.advisory) (b : Bool) (d : Cond) :
    (setTo c b s).raised d = if c.slot = d.slot then b else s.raised d := by
  cases b
  · exact lower_raised c d s
  · exact raise_raised ev h hc d

/-! ### Polls (R107, R111, R116) -/

theorem SatState.answering_iff {x : SatState} : x.answering = true ↔ x = .settling ∨ x = .live := by
  cases x <;> simp [SatState.answering]

/-- The order that a poll carries. -/
def Sat.order (y : Sat) : Option Order :=
  match y.inFlight, y.restore, y.posted with
  | some o, _, _ => some o
  | none, e :: _, _ => some (.config e)
  | none, [], e :: _ => some (.config e)
  | none, [], [] => if y.draining then some .reset else none

theorem Sat.poll_eq (now : Nat) (y : Sat) : y.poll now = { y with
    awaiting := true, pollAt := now + 2000
    inFlight := if y.state = .settling ∨ y.state = .live then y.order else y.inFlight
    carried := decide (y.state = .settling ∨ y.state = .live) && y.order.isSome } := by
  unfold Sat.poll Sat.order Sat.choose
  by_cases h : y.state = .settling ∨ y.state = .live
  · rw [SatState.answering_iff.2 h, if_pos h, decide_eq_true h]
    cases y.inFlight <;> cases y.restore <;> cases y.posted <;> rfl
  · have off : y.state.answering = false := Bool.eq_false_iff.2 fun k => h (SatState.answering_iff.1 k)
    rw [off, if_neg h, decide_eq_false h]
    rfl

theorem lossDue_iff {y : Sat} : lossDue y = true ↔ (y.state = .settling ∨ y.state = .live) ∧ y.awaiting = true ∧ 2 ≤ y.unanswered := by
  unfold lossDue
  rw [Bool.and_eq_true, Bool.and_eq_true, SatState.answering_iff, decide_eq_true_iff, and_assoc]

/-- The slot at its poll time, with the unanswered poll counted. -/
def Sat.counted (y : Sat) : Sat := { y with unanswered := if y.awaiting then min 3 (y.unanswered + 1) else y.unanswered }

theorem Sat.counted_eq (y : Sat) : (if y.awaiting then { y with unanswered := min 3 (y.unanswered + 1) } else y) = y.counted := by
  unfold Sat.counted
  by_cases h : y.awaiting = true
  · rw [if_pos h, if_pos h]
  · rw [if_neg h, if_neg h]

theorem pollTime_eq {s : State} {x : Fin 4} (h : s.glc[x].state ≠ .absent) {timed : State}
    (ht : timed = s.advanceTo s.glc[x].pollAt) : pollTime x s =
      (let u := timed.modSat x fun _ => s.glc[x].counted
       let v := if s.glc[x].counted.unanswered = 3 ∧ (s.glc[x].state = .settling ∨ s.glc[x].state = .live) then
           satChange x .noAnswer (fun y => { y.dropSettle with state := .lost }) u
         else u
       v.modSat x (Sat.poll v.clock.now)) := by
  have counted : (timed.modSat x fun y => if y.awaiting then { y with unanswered := min 3 (y.unanswered + 1) } else y) =
      timed.modSat x fun _ => s.glc[x].counted := by
    simp only [modSat_eq, Sat.counted_eq]
    rw [show timed.glc[x] = s.glc[x] by rw [ht]; rfl]
  have now : (timed.modSat x fun _ => s.glc[x].counted).glc[x] = s.glc[x].counted := (vmod_get ..).trans (if_pos rfl)
  unfold pollTime
  rw [if_neg h]
  dsimp only
  rw [← ht, counted, now]
  have state : s.glc[x].counted.state = s.glc[x].state := rfl
  rw [state]
  simp only [SatState.answering_iff]

/-- The poll time of a slot that is not lost by it. -/
theorem pollTime_kept {s : State} {x : Fin 4} (h : s.glc[x].state ≠ .absent) {n : Nat} (hn : s.glc[x].counted.unanswered = n)
    (k : ¬(s.glc[x].state = .settling ∨ s.glc[x].state = .live) ∨ n < 3) {now : Nat} (hnow : now = max s.clock.now s.glc[x].pollAt) :
    pollTime x s = { s with
      clock := { s.clock with now := now }
      glc := s.glc.set x { s.glc[x] with
        unanswered := n, awaiting := true, pollAt := now + 2000
        inFlight := if s.glc[x].state = .settling ∨ s.glc[x].state = .live then s.glc[x].order else s.glc[x].inFlight
        carried := decide (s.glc[x].state = .settling ∨ s.glc[x].state = .live) && s.glc[x].order.isSome } } := by
  have stays : ¬(s.glc[x].counted.unanswered = 3 ∧ (s.glc[x].state = .settling ∨ s.glc[x].state = .live)) := by
    rw [hn]
    rintro ⟨rfl, a⟩
    exact k.elim (fun k => k a) (by omega)
  have eq := pollTime_eq h (timed := s.advanceTo s.glc[x].pollAt) rfl
  dsimp only at eq
  rw [if_neg stays] at eq
  refine eq.trans ?_
  have now' : ((s.advanceTo s.glc[x].pollAt).modSat x fun _ => s.glc[x].counted).glc[x] = s.glc[x].counted :=
    (vmod_get ..).trans (if_pos rfl)
  have glc : (((s.advanceTo s.glc[x].pollAt).modSat x fun _ => s.glc[x].counted).modSat x (Sat.poll now)).glc =
      s.glc.set x (s.glc[x].counted.poll now) := by
    show (vmod s.glc x fun _ => s.glc[x].counted).set x (Sat.poll now (vmod s.glc x fun _ => s.glc[x].counted)[x]) = _
    rw [show (vmod s.glc x fun _ => s.glc[x].counted)[x] = s.glc[x].counted from now']
    exact Vector.set_set ..
  subst hn hnow
  rw [Sat.poll_eq] at glc
  exact congrArg (fun v : Vector Sat 4 =>
    ({ s with clock := { s.clock with now := max s.clock.now s.glc[x].pollAt }, glc := v } : State)) glc

/-- The poll time that loses its slot. -/
theorem pollTime_lost {s : State} {x : Fin 4} (k : s.glc[x].state = .settling ∨ s.glc[x].state = .live)
    (ha : s.glc[x].awaiting = true) (hn : 2 ≤ s.glc[x].unanswered) {timed u v : State} {y z : Sat}
    (ht : timed = s.advanceTo s.glc[x].pollAt)
    (hy : y = { s.glc[x] with
      state := .lost, unanswered := 3, settleStart := 0, settlePeriod := 0, settleRunning := false, seen := false })
    (hz : z = { y with awaiting := true, carried := false, pollAt := timed.clock.now + 2000 })
    (hu : u = (timed.slotMoved x y).noted (timed.satNote x s.glc[x].state .noAnswer y :: timed.zeroingsFailed x))
    (hv : v = raise (.satLost x) u) (moved : u.Moved v) :
    pollTime x s = { v with glc := s.glc.set x z } := by
  have present : s.glc[x].state ≠ .absent := by rcases k with k | k <;> rw [k] <;> exact nofun
  have three : s.glc[x].counted.unanswered = 3 := by
    show (if s.glc[x].awaiting then min 3 (s.glc[x].unanswered + 1) else s.glc[x].unanswered) = 3
    rw [if_pos ha]; omega
  have old : timed.glc[x] = s.glc[x] := by rw [ht]; rfl
  have lost : y.state = .lost := by rw [hy]
  have dropped : ({ s.glc[x].counted.dropSettle with state := .lost } : Sat) = y := by
    rw [hy]
    show ({ s.glc[x] with
      state := .lost, unanswered := s.glc[x].counted.unanswered, settleStart := 0, settlePeriod := 0, settleRunning := false
      seen := false } : Sat) = _
    rw [three]
  have change := satChange_modSat (x := x) (s := timed) .noAnswer (f := fun _ => s.glc[x].counted)
    (g := fun y => { y.dropSettle with state := .lost }) (by rw [old]; rfl) dropped
  have notes : timed.slotNotes x .noAnswer y = timed.satNote x s.glc[x].state .noAnswer y :: timed.zeroingsFailed x := by
    unfold State.slotNotes
    rw [lost, old]; rfl
  dsimp only at change
  rw [if_pos lost, notes, ← hu, ← hv] at change
  rw [pollTime_eq present ht]
  dsimp only
  rw [if_pos ⟨three, k⟩, change]
  have clock : v.clock = timed.clock := moved.clock.trans (by rw [hu, noted_eq]; rfl)
  have glc : v.glc = s.glc.set x y := moved.glc.trans (by rw [hu, noted_eq, ht]; rfl)
  have polled : y.poll timed.clock.now = z := by
    rw [Sat.poll_eq, hz, lost]; rfl
  have now : v.glc[x] = y := by rw [glc]; exact Vector.getElem_set_self ..
  rw [modSat_eq, clock, now, polled, glc, Vector.set_set, ← clock]

theorem zeroingsFailed_kind {s : State} {x : Fin 4} {n : Notice} (h : n ∈ s.zeroingsFailed x) : n.kind = .zeroFailed := by
  unfold State.zeroingsFailed State.zeroFailed at h
  split at h
  · obtain ⟨c, -, h⟩ := List.mem_flatMap.1 h
    split at h
    · simp at h
    · rw [List.mem_singleton.1 h]
  · simp at h

/-- Settles O43. -/
theorem pollsCountAndLose : Obligations.PollsCountAndLose := by
  unfold Obligations.PollsCountAndLose
  intro s x y now timed count answering order
  refine ⟨fun h done => ?_, fun h done k => ?_, fun k ha hn settled adv => ?_⟩
  · have quiet : lossDue s.glc[x] = false := Bool.eq_false_iff.2 fun l => by
      have := (lossDue_iff.1 l).1
      rw [show s.glc[x].state = .absent from h] at this
      simp at this
    have still : pollTime x s = s := if_pos h
    refine ⟨?_, ?_⟩
    · show stepDone (pollTime x s) = _
      rw [still, stepDone_of_noResetDue done]
    · show stepDone (if lossDue s.glc[x] then pollTime x s else s) = _
      rw [quiet]; exact stepDone_of_noResetDue done
  · have quiet : lossDue s.glc[x] = false := Bool.eq_false_iff.2 fun l => by
      obtain ⟨a, w, n⟩ := lossDue_iff.1 l
      refine k.elim (fun k => k a) fun k => ?_
      have three : count = min 3 (y.unanswered + 1) := if_pos w
      have : 2 ≤ y.unanswered := n
      omega
    have kept := pollTime_kept h (n := count) rfl k (now := now) rfl
    have eq : y.order = order := rfl
    refine ⟨?_, ?_⟩
    · show stepDone (if lossDue s.glc[x] then pollTime x s else s) = _
      rw [quiet]; exact stepDone_of_noResetDue done
    · show stepDone (pollTime x s) = _
      rw [kept]
      exact stepDone_of_noResetDue done
  · intro z
    obtain ⟨ev, pending⟩ := settled
    obtain ⟨d, hd⟩ : ∃ d : Sat, d = { y with
      state := .lost, unanswered := 3, settleStart := 0, settlePeriod := 0, settleRunning := false, seen := false } := ⟨_, rfl⟩
    obtain ⟨u, hu⟩ : ∃ u, u = (timed.slotMoved x d).noted (timed.satNote x y.state .noAnswer d :: timed.zeroingsFailed x) := ⟨_, rfl⟩
    obtain ⟨v, hv⟩ : ∃ v, v = raise (.satLost x) u := ⟨_, rfl⟩
    have uev : u.ev = {} := by rw [hu, noted_eq]; exact ev
    have uadv : u.advisory := by rw [hu, noted_eq]; exact adv
    have cond : (Cond.satLost x).advisory := ⟨nofun, nofun⟩
    have advised : u.Advised v := by rw [hv]; exact advised_raise uev uadv cond
    have moved := advised.toMoved
    have eq : pollTime x s = { v with glc := s.glc.set x z } :=
      pollTime_lost k ha hn (timed := timed) rfl hd (z := z) (by rw [hd]) hu hv moved
    have due : lossDue s.glc[x] = true := lossDue_iff.2 ⟨k, ha, hn⟩
    have done : stepDone (pollTime x s) = .next { v with glc := s.glc.set x z } := by
      rw [eq]
      refine stepDone_of_noResetDue (.inl ?_)
      show v.stc.restartPending = false
      rw [moved.stc, hu, noted_eq]; exact pending
    refine ⟨{ v with glc := s.glc.set x z }, done, ?_, ?_, rfl, ?_, fun live c hc => ?_, fun a => ?_, ?_, ?_⟩
    · show stepDone (if lossDue s.glc[x] then pollTime x s else s) = _
      rw [due]; exact done
    · show v.clock = _
      rw [moved.clock, hu, noted_eq]; rfl
    · show v.raised (.satLost x) = true
      rw [hv, raise_raised uev uadv cond, if_pos rfl]
    · show v.stp.chans[c].zeroing = none
      rw [moved.stp, hu, noted_eq]
      exact slotMoved_zeroing live (by rw [hd]; exact nofun) hc
    · obtain ⟨e, h⟩ := moved.act a
      show (v.act a).state = _
      rw [h, hu, noted_eq]; rfl
    · have note : timed.satNote x y.state .noAnswer z = timed.satNote x y.state .noAnswer d := by rw [hd]; rfl
      have kinds : ∀ n ∈ timed.satNote x y.state .noAnswer d :: timed.zeroingsFailed x, (!n.is .entry) = true := by
        intro n hn
        rcases List.mem_cons.1 hn with rfl | hn
        · rfl
        · rw [Notice.is, zeroingsFailed_kind hn]; rfl
      have first : Forms s u (fun n => !n.is .entry) (timed.satNote x y.state .noAnswer d :: timed.zeroingsFailed x) :=
        (Forms.noted_of kinds).congr (by rw [hu, noted_eq, noted_eq]; rfl)
      have second := first.trans (advised.forms (p := fun n => !n.is .entry) fun n hn => by
        show (!n.is .entry) = false
        rw [Notice.is, hn]; rfl)
      rw [List.append_nil] at second
      rw [note]
      exact second.congr rfl
    · obtain ⟨w, g, p, l, lost, rest⟩ := moved.rest
      rw [rest, hu, noted_eq]; rfl

end Sys2Proof.Machine

/-!
What an answer brings to its slot, its channels, their conditions and the notices (R107, R112, R113, R117, R120 to R122,
R128 to R133).
-/
namespace Sys2Proof.Machine

/-! ### The outcome of an answer -/

/-- A slot, the channels, their conditions and the notices of an event, as an answer leaves them. -/
structure SlotOutcome where
  slot : Sat
  chans : Vector Chan 64
  limit : Fin 64 → Bool
  lost : Bool
  notes : List Notice

/-- The state with the slot and the channels of an outcome. -/
def SlotOutcome.put (o : SlotOutcome) (x : Fin 4) (s : State) : State :=
  { s with glc := s.glc.set x o.slot, stp := { s.stp with chans := o.chans } }

/-- `t` is what `s` has become, ENTRY notices, derates and entries apart. -/
structure State.Brings (s : State) (x : Fin 4) (t : State) (o : SlotOutcome) : Prop where
  moved : (o.put x s).Moved t
  limit : ∀ c, t.raised (.strainLimit c) = o.limit c
  lost : t.raised (.satLost x) = o.lost
  notes : Forms s t (fun n => !n.is .entry) o.notes

/-- Nothing has happened yet. -/
def State.outcome (s : State) (x : Fin 4) : SlotOutcome :=
  { slot := s.glc[x], chans := s.stp.chans, limit := fun c => s.raised (.strainLimit c), lost := s.raised (.satLost x), notes := [] }

theorem brings_self (s : State) (x : Fin 4) : s.Brings x s (s.outcome x) where
  moved := by
    have : (s.outcome x).put x s = s := by
      show ({ s with glc := s.glc.set x s.glc[x] } : State) = s
      rw [show s.glc.set x s.glc[x] = s.glc from Vector.set_getElem_self _]
    rw [this]; exact .rfl'
  limit _ := rfl
  lost := rfl
  notes := Forms.of_sli rfl

section

variable {s t : State} {x : Fin 4} {o : SlotOutcome} (h : s.Brings x t o)
include h

theorem State.Brings.glc : t.glc = s.glc.set x o.slot := h.moved.glc
theorem State.Brings.slot : t.glc[x] = o.slot := by
  have : t.glc[x.val] = o.slot := by simp only [h.glc, Vector.getElem_set_self]
  exact this
theorem State.Brings.chans : t.stp.chans = o.chans := by rw [h.moved.stp]; rfl
theorem State.Brings.ev : t.ev = s.ev := h.moved.ev
theorem State.Brings.time : t.time = s.time := h.moved.time
theorem State.Brings.psq : t.psq = s.psq := h.moved.psq
theorem State.Brings.stc : t.stc = s.stc := h.moved.stc
theorem State.Brings.clock : t.clock = s.clock := h.moved.clock
theorem State.Brings.axs : t.axs = s.axs := h.moved.axs
theorem State.Brings.advisory (adv : s.advisory) : t.advisory := h.moved.advisory adv

end

theorem State.Moved.modStp {s t : State} (h : s.Moved t) (f : Strain → Strain) : (s.modStp f).Moved (t.modStp f) := by
  obtain ⟨⟨v, g, p, l, lost, rfl⟩, act, group, entry⟩ := h
  exact ⟨⟨v, g, p, l, lost, rfl⟩, act, group, entry⟩

theorem State.Moved.modSat {s t : State} (h : s.Moved t) (x : Fin 4) (f : Sat → Sat) : (s.modSat x f).Moved (t.modSat x f) := by
  obtain ⟨⟨v, g, p, l, lost, rfl⟩, act, group, entry⟩ := h
  exact ⟨⟨v, g, p, l, lost, rfl⟩, act, group, entry⟩

theorem moved_noted (s : State) (l : List Notice) : s.Moved (s.noted l) := by
  induction l generalizing s with
  | nil => exact .rfl'
  | cons n l ih => exact (moved_offer n s).trans (ih _)

/-! ### Changes of the slot's record -/

/-- The slot's record changes, and nothing else. -/
def SlotOutcome.become (o : SlotOutcome) (y : Sat) : SlotOutcome := { o with slot := y }

theorem SlotOutcome.put_modSat (o : SlotOutcome) (x : Fin 4) (s : State) {f : Sat → Sat} {y : Sat} (hy : f o.slot = y) :
    (o.put x s).modSat x f = (o.become y).put x s := by
  have glc : ((o.put x s).modSat x f).glc = s.glc.set x y := by
    show (s.glc.set x o.slot).set x (f (s.glc.set x o.slot)[x.val]) = _
    rw [Vector.getElem_set_self, hy, Vector.set_set]
  exact congrArg (fun v : Vector Sat 4 => ({ s with glc := v, stp := { s.stp with chans := o.chans } } : State)) glc

theorem State.Brings.modSat {s t : State} {x : Fin 4} {o : SlotOutcome} (h : s.Brings x t o) {f : Sat → Sat} {y : Sat}
    (hy : f o.slot = y) : s.Brings x (t.modSat x f) (o.become y) where
  moved := o.put_modSat x s hy ▸ h.moved.modSat x f
  limit := h.limit
  lost := h.lost
  notes := h.notes.congr rfl

/-- The notices of an event go on. -/
theorem State.Brings.noted {s t : State} {x : Fin 4} {o : SlotOutcome} (h : s.Brings x t o) {l : List Notice}
    (hl : ∀ n ∈ l, n.kind ≠ .entry) : s.Brings x (t.noted l) { o with notes := o.notes ++ l } where
  moved := h.moved.trans (moved_noted t l)
  limit c := by rw [noted_eq]; exact h.limit c
  lost := by rw [noted_eq]; exact h.lost
  notes := h.notes.trans (Forms.noted_of fun n hn => by rw [Notice.is, decide_eq_false (hl n hn)]; rfl)

/-- The slot changes its state, not to LOST. -/
def SlotOutcome.change (o : SlotOutcome) (s : State) (x : Fin 4) (cause : SatCause) (y : Sat) : SlotOutcome :=
  { slot := y
    chans := if o.slot.state = .live ∧ y.state ≠ .live then failed (slotChans x) o.chans else o.chans
    limit := o.limit
    lost := o.lost && decide (o.slot.state ≠ .lost)
    notes := o.notes ++ (o.put x s).slotNotes x cause y }

theorem slotNotes_kind {s : State} {x : Fin 4} {cause : SatCause} {y : Sat} {n : Notice} (h : n ∈ s.slotNotes x cause y) :
    n.kind = .satState ∨ n.kind = .zeroFailed := by
  rcases List.mem_cons.1 h with rfl | h
  · exact .inl rfl
  · split at h
    · exact .inr (zeroingsFailed_kind h)
    · simp at h

theorem slotNotes_congr {s t : State} (glc : t.glc = s.glc) (chans : t.stp.chans = s.stp.chans) (time : t.time = s.time)
    (psq : t.psq = s.psq) (x : Fin 4) (cause : SatCause) (y : Sat) : t.slotNotes x cause y = s.slotNotes x cause y := by
  unfold State.slotNotes State.zeroingsFailed State.zeroFailed State.satNote
  rw [glc, chans, time, psq]

theorem State.Brings.change {s t : State} {x : Fin 4} {o : SlotOutcome} (h : s.Brings x t o) {f : Sat → Sat} {y : Sat}
    (cause : SatCause) (hy : f o.slot = y) (lost : y.state ≠ .lost) :
    s.Brings x (satChange x cause f t) (o.change s x cause y) := by
  have slot := h.slot
  have put : (o.put x s).glc[x] = o.slot := by
    show (s.glc.set x o.slot)[x.val] = _
    exact Vector.getElem_set_self ..
  have notes : t.slotNotes x cause y = (o.put x s).slotNotes x cause y :=
    slotNotes_congr h.moved.glc (by rw [h.moved.stp]) h.time h.psq x cause y
  have moved : (o.put x s).slotMoved x y = (o.change s x cause y).put x s := by
    unfold State.slotMoved
    rw [put]
    have : (s.glc.set x o.slot).set x y = s.glc.set x y := Vector.set_set ..
    exact congrArg (fun v : Vector Sat 4 => ({ s with glc := v, stp := { s.stp with chans := (o.change s x cause y).chans } } : State)) this
  have first : ((o.change s x cause y).put x s).Moved (t.slotMoved x y) := by
    have later := (h.moved.modSat x fun _ => y).modStp fun z =>
      { z with chans := if o.slot.state = .live ∧ y.state ≠ .live then failed (slotChans x) o.chans else o.chans }
    rw [← moved]
    have a : (((o.put x s).modSat x fun _ => y).modStp fun z =>
      { z with chans := if o.slot.state = .live ∧ y.state ≠ .live then failed (slotChans x) o.chans else o.chans }) =
        (o.put x s).slotMoved x y := by unfold State.slotMoved; rw [put]; rfl
    have b : ((t.modSat x fun _ => y).modStp fun z =>
      { z with chans := if o.slot.state = .live ∧ y.state ≠ .live then failed (slotChans x) o.chans else o.chans }) =
        t.slotMoved x y := by unfold State.slotMoved; rw [slot, ← h.chans]; rfl
    rwa [a, b] at later
  have eq : satChange x cause f t = if o.slot.state = .lost then lower (.satLost x) ((t.slotMoved x y).noted (t.slotNotes x cause y))
      else (t.slotMoved x y).noted (t.slotNotes x cause y) := by
    have := satChange_eq cause (f := f) (s := t) (by rw [slot, hy])
    dsimp only at this
    rwa [if_neg lost, slot] at this
  have kinds : ∀ n ∈ (o.put x s).slotNotes x cause y, n.kind ≠ .entry := fun n hn => by
    rcases slotNotes_kind hn with k | k <;> rw [k] <;> exact nofun
  have middle : s.Brings x ((t.slotMoved x y).noted (t.slotNotes x cause y))
      { o.change s x cause y with lost := o.lost } := by
    rw [notes]
    exact (State.Brings.noted (o := { o.change s x cause y with lost := o.lost, notes := o.notes })
      ⟨first, h.limit, h.lost, h.notes.congr rfl⟩ kinds)
  rw [eq]
  by_cases k : o.slot.state = .lost
  · rw [if_pos k]
    refine ⟨middle.moved.trans (advised_lower _ _).toMoved, fun c => ?_, ?_, middle.notes.congr (lower_sli ..)⟩
    · rw [lower_raised, if_neg, middle.limit c]
      intro e
      have := congrArg Fin.val e
      have : 128 + x.val = 56 + c.val := this
      omega
    · rw [lower_raised, if_pos rfl]
      show false = (o.lost && decide (o.slot.state ≠ .lost))
      rw [decide_eq_false fun n => n k, Bool.and_false]
  · rw [if_neg k]
    refine ⟨middle.moved, middle.limit, middle.lost.trans ?_, middle.notes⟩
    show o.lost = (o.lost && decide (o.slot.state ≠ .lost))
    rw [decide_eq_true k, Bool.and_true]

/-! ### Conversions (R129, R130, R132) -/

/-- The strain of a raw value, before its clamp. -/
def Chan.strain (y : Chan) (temp : Option Int) (raw : Int) : Int := rawStrain y.cfg raw temp

/-- The value of a raw value. -/
def Chan.reading (y : Chan) (temp : Option Int) (raw : Int) : Int := clamp (y.strain temp raw) (-300000) 300000

/-- The channel with its zeroing one conversion further. -/
def Chan.zeroed (y : Chan) (raw : Int) : Chan :=
  match y.zeroing with
  | none => y
  | some (n, sum) =>
    if n + 1 < 16 then { y with zeroing := some (n + 1, sum + raw) }
    else { y with zeroing := none, cfg := { y.cfg with zero := roundDiv (sum + raw) 16 } }

/-- The channel after a conversion. -/
def Chan.converted (y : Chan) (temp : Option Int) (raw : Int) : Chan :=
  ({ y with value := y.reading temp raw, lastRaw := raw, overrange := decide (y.reading temp raw ≠ y.strain temp raw) } : Chan).zeroed raw

/-- STRAIN_LIMIT after a conversion. -/
def Chan.limited (y : Chan) (temp : Option Int) (raw : Int) (standing : Bool) : Bool :=
  judgeBand (y.reading temp raw) y.cfg.low y.cfg.high y.cfg.hyst standing

/-- The ZERO_DONE notice of a conversion that is its zeroing's sixteenth. -/
def State.zeroDone (s : State) (c : Fin 64) (y : Chan) (raw : Int) : List Notice :=
  match y.zeroing with
  | none => []
  | some (n, sum) =>
    if n + 1 < 16 then [] else
      [{ kind := .zeroDone, time := s.time, cycles := s.psq.totalCycles, subject := c.val
         v1 := high (roundDiv (sum + raw) 16), v2 := low (roundDiv (sum + raw) 16), v3 := high y.cfg.zero, v4 := low y.cfg.zero }]

theorem zeroDone_kind {s : State} {c : Fin 64} {y : Chan} {raw : Int} {n : Notice} (h : n ∈ s.zeroDone c y raw) : n.kind = .zeroDone := by
  unfold State.zeroDone at h
  split at h
  · simp at h
  · split at h
    · simp at h
    · rw [List.mem_singleton.1 h]

theorem zeroingStep_eq (c : Fin 64) (raw : Int) (s : State) :
    zeroingStep c raw s = (s.modChan c fun y => y.zeroed raw).noted (s.zeroDone c s.stp.chans[c] raw) := by
  unfold zeroingStep State.zeroDone
  have fixed (y : Chan) : s.stp.chans[c].zeroed raw = y → (s.modChan c fun y => y.zeroed raw) = s.modChan c fun _ => y := by
    intro h
    rw [← h]; rfl
  cases h : s.stp.chans[c].zeroing with
  | none =>
    have : s.stp.chans[c].zeroed raw = s.stp.chans[c] := by unfold Chan.zeroed; rw [h]
    have : (vmod s.stp.chans c fun y => y.zeroed raw) = s.stp.chans := vmod_fixed this
    show s = ({ s with stp := { s.stp with chans := vmod s.stp.chans c fun y => y.zeroed raw } } : State)
    rw [this]
  | some z =>
    obtain ⟨n, sum⟩ := z
    dsimp only
    by_cases k : n + 1 < 16
    · rw [if_pos k, if_pos k, fixed _ (show s.stp.chans[c].zeroed raw = { s.stp.chans[c] with zeroing := some (n + 1, sum + raw) } by
        unfold Chan.zeroed; rw [h]; exact if_pos k)]
      rfl
    · rw [if_neg k, if_neg k, fixed _ (show s.stp.chans[c].zeroed raw =
        { s.stp.chans[c] with zeroing := none, cfg := { s.stp.chans[c].cfg with zero := roundDiv (sum + raw) 16 } } by
        unfold Chan.zeroed; rw [h]; exact if_neg k), halves_eq, halves_eq]
      rfl

/-- A channel of an outcome is converted. -/
def SlotOutcome.convert (o : SlotOutcome) (s : State) (c : Fin 64) (raw : Int) : SlotOutcome :=
  let temp := s.chanTemp o.chans[c].cfg
  { o with
    chans := o.chans.set c (o.chans[c].converted temp raw)
    limit := fun k => if k = c then o.chans[c].limited temp raw (o.limit c) else o.limit k
    notes := o.notes ++ s.zeroDone c o.chans[c] raw }

theorem State.Brings.convert {s t : State} {x : Fin 4} {o : SlotOutcome} (h : s.Brings x t o) (ev : s.ev = {}) (adv : s.advisory)
    (c : Fin 64) (raw : Int) : s.Brings x (convert c raw t) (o.convert s c raw) := by
  have chan : t.stp.chans[c] = o.chans[c] := by rw [h.chans]
  have temp : t.chanTemp o.chans[c].cfg = s.chanTemp o.chans[c].cfg := by unfold State.chanTemp; rw [h.axs]
  obtain ⟨y, hy⟩ : ∃ y, y = o.chans[c] := ⟨_, rfl⟩
  obtain ⟨tm, htm⟩ : ∃ tm, tm = s.chanTemp y.cfg := ⟨_, rfl⟩
  obtain ⟨f, hf⟩ : ∃ f : Chan → Chan, f = fun z => { z with
    value := y.reading tm raw, lastRaw := raw, overrange := decide (y.reading tm raw ≠ y.strain tm raw) } := ⟨_, rfl⟩
  obtain ⟨u, hu⟩ : ∃ u, u = t.modChan c f := ⟨_, rfl⟩
  obtain ⟨v, hv⟩ : ∃ v, v = setTo (.strainLimit c) (y.limited tm raw (o.limit c)) u := ⟨_, rfl⟩
  have eq : Machine.convert c raw t = zeroingStep c raw v := by
    unfold Machine.convert
    dsimp only
    rw [chan, temp, ← hy, ← htm, hv, hu, hf, ← h.limit c]
    rfl
  have first : ((o.put x s).modChan c f).Moved u := by rw [hu]; exact h.moved.modStp _
  have uev : u.ev = {} := first.ev.trans ev
  have uadv : u.advisory := first.advisory adv
  have cond : (Cond.strainLimit c).advisory := ⟨nofun, nofun⟩
  have set : u.Advised v := by rw [hv]; exact advised_setTo uev uadv cond _
  have second := first.trans set.toMoved
  have third := second.modStp fun z => { z with chans := vmod z.chans c fun y => y.zeroed raw }
  have vchan : v.stp.chans[c] = f y := by
    have : v.stp.chans[c] = u.stp.chans[c] := by rw [set.stp]
    rw [this, hu]
    refine (vmod_get ..).trans ?_
    rw [if_pos rfl, chan, hy]
  have done : v.zeroDone c v.stp.chans[c] raw = s.zeroDone c y raw := by
    rw [vchan, hf]
    unfold State.zeroDone
    rw [second.time, second.psq]
    rfl
  have put : ((o.put x s).modChan c f).modStp (fun z => { z with chans := vmod z.chans c fun y => y.zeroed raw }) =
      (o.convert s c raw).put x s := by
    have chans : vmod (vmod o.chans c f) c (fun y => y.zeroed raw) = o.chans.set c (y.converted tm raw) := by
      have : (vmod o.chans c f)[c] = f y := (vmod_get ..).trans (by rw [if_pos rfl, hy])
      unfold vmod at this ⊢
      rw [this, Vector.set_set, hf]
      rfl
    subst htm hy
    exact congrArg (fun w : Vector Chan 64 => ({ s with glc := s.glc.set x o.slot, stp := { s.stp with chans := w } } : State)) chans
  rw [put] at third
  rw [eq, zeroingStep_eq, done]
  have raised (d : Cond) : v.raised d = if (Cond.strainLimit c).slot = d.slot then y.limited tm raw (o.limit c) else t.raised d := by
    rw [hv, setTo_raised uev uadv cond, hu]; rfl
  have base : s.Brings x (v.modChan c fun y => y.zeroed raw) { o.convert s c raw with notes := o.notes } := by
    refine ⟨third, fun k => ?_, ?_, ?_⟩
    · show v.raised (.strainLimit k) = if k = c then _ else _
      rw [raised, ← hy, ← htm]
      by_cases e : k = c
      · rw [if_pos e, if_pos (by rw [e])]
      · rw [if_neg e, if_neg, h.limit]
        intro i
        have := congrArg Fin.val i
        have : 56 + c.val = 56 + k.val := this
        exact e (Fin.ext (by omega))
    · show v.raised (.satLost x) = o.lost
      rw [raised, if_neg, h.lost]
      intro i
      have := congrArg Fin.val i
      have : 56 + c.val = 128 + x.val := this
      omega
    · have := (h.notes.congr (show u.sli = t.sli by rw [hu]; rfl)).trans (set.forms (p := fun n => !n.is .entry) fun n hn => by
        show (!n.is .entry) = false
        rw [Notice.is, hn]; rfl)
      rw [List.append_nil] at this
      exact this.congr rfl
  have noted := base.noted (l := s.zeroDone c y raw) fun n hn => by rw [zeroDone_kind hn]; exact nofun
  subst htm hy
  exact noted

/-- Channels that a set converts. -/
def SlotOutcome.takes (o : SlotOutcome) (l : List (Fin 64)) (c : Fin 64) : Bool := decide (c ∈ l) && o.chans[c].cfg.enabled

/-- The enabled channels of a list are converted. -/
def SlotOutcome.converted (o : SlotOutcome) (s : State) (l : List (Fin 64)) (set : Vector Int 16) : SlotOutcome :=
  let temp (c : Fin 64) := s.chanTemp o.chans[c].cfg
  { o with
    chans := Vector.ofFn fun c =>
      if o.takes l c then o.chans[c].converted (temp c) set[chanInput c] else o.chans[c]
    limit := fun c => if o.takes l c then o.chans[c].limited (temp c) set[chanInput c] (o.limit c) else o.limit c
    notes := o.notes ++ l.flatMap fun c => if o.chans[c].cfg.enabled then s.zeroDone c o.chans[c] set[chanInput c] else [] }

theorem SlotOutcome.converted_chan (o : SlotOutcome) (s : State) (l : List (Fin 64)) (set : Vector Int 16) (c : Fin 64) :
    (o.converted s l set).chans[c] =
      if o.takes l c then o.chans[c].converted (s.chanTemp o.chans[c].cfg) set[chanInput c] else o.chans[c] := by
  unfold SlotOutcome.converted
  rw [Fin.getElem_fin, Vector.getElem_ofFn]

theorem SlotOutcome.converted_nil (o : SlotOutcome) (s : State) (set : Vector Int 16) : o.converted s [] set = o := by
  unfold SlotOutcome.converted SlotOutcome.takes
  simp only [List.not_mem_nil, decide_false, Bool.false_and, Bool.false_eq_true, if_false, List.flatMap_nil, List.append_nil]
  have : (Vector.ofFn fun c : Fin 64 => o.chans[c]) = o.chans := by
    apply Vector.ext; intro i hi; rw [Vector.getElem_ofFn]; rfl
  rw [this]

/-- The first channel of the list is converted before the others. -/
theorem SlotOutcome.converted_cons {o o' : SlotOutcome} {s : State} {c : Fin 64} {l : List (Fin 64)} (out : c ∉ l) (set : Vector Int 16)
    (h : o' = if o.chans[c].cfg.enabled then o.convert s c set[chanInput c] else o) :
    o'.converted s l set = o.converted s (c :: l) set := by
  have other {k : Fin 64} (hk : k ≠ c) : o'.chans[k] = o.chans[k] ∧ o'.limit k = o.limit k := by
    rw [h]
    split
    · exact ⟨Vector.getElem_set_ne c.isLt k.isLt fun e => hk (Fin.ext e.symm), if_neg hk⟩
    · exact ⟨rfl, rfl⟩
  have taken {k : Fin 64} (hk : k ≠ c) : o'.takes l k = o.takes (c :: l) k := by
    unfold SlotOutcome.takes
    rw [(other hk).1, show decide (k ∈ c :: l) = decide (k ∈ l) from decide_eq_decide.2 ⟨fun h => (List.mem_cons.1 h).resolve_left hk,
      List.mem_cons_of_mem _⟩]
  have untaken : o'.takes l c = false := by unfold SlotOutcome.takes; rw [decide_eq_false out, Bool.false_and]
  have now : o.takes (c :: l) c = o.chans[c].cfg.enabled := by
    unfold SlotOutcome.takes; rw [decide_eq_true List.mem_cons_self, Bool.true_and]
  have first : o'.chans[c] = (if o.chans[c].cfg.enabled then o.chans[c].converted (s.chanTemp o.chans[c].cfg) set[chanInput c] else o.chans[c]) ∧
      o'.limit c = (if o.chans[c].cfg.enabled then o.chans[c].limited (s.chanTemp o.chans[c].cfg) set[chanInput c] (o.limit c) else o.limit c) ∧
      o'.notes = o.notes ++ (if o.chans[c].cfg.enabled then s.zeroDone c o.chans[c] set[chanInput c] else []) := by
    rw [h]
    by_cases e : o.chans[c].cfg.enabled = true
    · simp only [e, if_true]
      exact ⟨Vector.getElem_set_self .., if_pos rfl, rfl⟩
    · rw [if_neg e, if_neg e, if_neg e, if_neg e, List.append_nil]
      exact ⟨rfl, rfl, rfl⟩
  have chans : (o'.converted s l set).chans = (o.converted s (c :: l) set).chans := by
    apply Vector.ext
    intro i hi
    refine (o'.converted_chan s l set ⟨i, hi⟩).trans (Eq.trans ?_ (o.converted_chan s (c :: l) set ⟨i, hi⟩).symm)
    by_cases e : (⟨i, hi⟩ : Fin 64) = c
    · rw [e, untaken, now, first.1, if_neg Bool.false_ne_true]
    · rw [taken e, (other e).1]
  have limit : (o'.converted s l set).limit = (o.converted s (c :: l) set).limit := by
    funext k
    show (if o'.takes l k then _ else _) = (if o.takes (c :: l) k then _ else _)
    by_cases e : k = c
    · rw [e, untaken, now, first.2.1, if_neg Bool.false_ne_true]
    · rw [taken e, (other e).1, (other e).2]
      dsimp only
      rw [(other e).1]
  have notes : (o'.converted s l set).notes = (o.converted s (c :: l) set).notes := by
    show o'.notes ++ l.flatMap _ = o.notes ++ (c :: l).flatMap _
    rw [first.2.2, List.flatMap_cons, List.append_assoc]
    congr 2
    refine List.flatMap_congr fun k hk => ?_
    rw [(other fun e => out (e ▸ hk)).1]
  have slot : o'.slot = o.slot := by rw [h]; split <;> rfl
  have lost : o'.lost = o.lost := by rw [h]; split <;> rfl
  calc o'.converted s l set
      = ⟨o'.slot, (o'.converted s l set).chans, (o'.converted s l set).limit, o'.lost, (o'.converted s l set).notes⟩ := rfl
    _ = o.converted s (c :: l) set := by rw [slot, lost, chans, limit, notes]; rfl

theorem State.Brings.convertList {s t : State} {x : Fin 4} {o : SlotOutcome} (h : s.Brings x t o) (ev : s.ev = {})
    (adv : s.advisory) (set : Vector Int 16) {l : List (Fin 64)} (nodup : l.Nodup) :
    s.Brings x (l.foldl (fun t c => if t.stp.chans[c].cfg.enabled then Machine.convert c set[chanInput c] t else t) t) (o.converted s l set) := by
  induction l generalizing t o with
  | nil => rw [o.converted_nil]; exact h
  | cons c l ih =>
    obtain ⟨out, nodup⟩ := List.nodup_cons.1 nodup
    obtain ⟨o', ho'⟩ : ∃ o', o' = if o.chans[c].cfg.enabled then o.convert s c set[chanInput c] else o := ⟨_, rfl⟩
    rw [List.foldl_cons, ← SlotOutcome.converted_cons out set ho']
    refine ih ?_ nodup
    rw [ho', show t.stp.chans[c] = o.chans[c] by rw [h.chans]]
    by_cases e : o.chans[c].cfg.enabled = true
    · rw [if_pos e, if_pos e]; exact h.convert ev adv c _
    · rw [if_neg e, if_neg e]; exact h

/-- A set of the slot is converted. -/
theorem State.Brings.convertSet {s t : State} {x : Fin 4} {o : SlotOutcome} (h : s.Brings x t o) (ev : s.ev = {})
    (adv : s.advisory) (set : Vector Int 16) :
    s.Brings x (Machine.convertSet x set t) (o.converted s (slotChans x) set) :=
  h.convertList ev adv set (by rw [slotChans_eq]; exact (List.nodup_finRange 64).filter _)

end Sys2Proof.Machine

/-!
The course of an answer, step by step, on the outcome it has; and the notices it forms.
-/
namespace Sys2Proof.Machine

/-! ### The course of an answer (R107, R111 to R113, R117, R120 to R122) -/

/-- A slot that enters SETTLING, or starts its settle again there. -/
def Sat.settles (y : Sat) (now : Nat) : Sat := ({ y with state := .settling } : Sat).startSettle now

section

variable (o : SlotOutcome) (s : State) (x : Fin 4) (ans : SatAnswer)

/-- What follows where neither an accepted entry nor a reset's completion takes the slot out. -/
def SlotOutcome.freshOrInvalid : SlotOutcome :=
  if o.slot.freshRestart ans.fresh then o.change s x .fresh ((o.slot.restoreFromImage false).settles s.clock.now)
  else if o.slot.state = .live ∧ ans.valid = false then o.change s x .invalid (o.slot.settles s.clock.now)
  else o

/-- A set taken into the settle. -/
def SlotOutcome.settleSet : SlotOutcome :=
  if ans.valid = true ∧ o.slot.idle = true then
    if o.slot.settleRunning then o.become { o.slot with seen := true }
    else ((o.become { o.slot with seen := true }).change s x .settled { o.slot.dropSettle with state := .live }).converted s
      (slotChans x) ans.set
  else o

/-- A rejected entry is removed and reported. -/
def SlotOutcome.reject (e : Entry) : SlotOutcome :=
  { o.become (o.slot.removeEntry e) with
    notes := o.notes ++ [{ kind := .satReject, time := s.time, cycles := s.psq.totalCycles, subject := x.val, v1 := e.ch.val
                           v2 := e.setting.field, v3 := e.setting.value, v4 := e.origin.code }] }

/-- An answer in SETTLING or LIVE, after the conversion of its set. -/
def SlotOutcome.effect (live : Bool) (effect : AnswerEffect) : SlotOutcome :=
  match effect with
  | .accepted e =>
    if live then o.change s x .config ((o.slot.accept e).settles s.clock.now)
    else o.become ((o.slot.accept e).startSettle s.clock.now)
  | .resetDone => o.change s x .resetDone ((o.slot.restoreFromImage true).settles s.clock.now)
  | .rejected e => (o.reject s x e).freshOrInvalid s x ans
  | .none =>
    if o.slot.freshRestart ans.fresh || live then o.freshOrInvalid s x ans
    else o.settleSet s x ans

/-- An answer in SETTLING or LIVE. -/
def SlotOutcome.answered (carried : Bool) : SlotOutcome :=
  (if o.slot.state = .live ∧ ans.valid = true then o.converted s (slotChans x) ans.set else o).effect s x ans
    (decide (o.slot.state = .live)) (o.slot.effect carried ans)

/-- An answer in SEEKING or LOST. -/
def SlotOutcome.returned : SlotOutcome :=
  let o' := o.change s x .answer (o.slot.settles s.clock.now)
  if o.slot.state = .lost ∧ o.slot.inFlight = some .reset then
    o'.change s x .resetDone ((o'.slot.restoreFromImage true).settles s.clock.now)
  else if o'.slot.freshRestart ans.fresh then o'.change s x .fresh ((o'.slot.restoreFromImage false).settles s.clock.now)
  else o'.settleSet s x ans

end

/-- The slot as the answer that is taken finds it. -/
def Sat.heard (y : Sat) (ans : SatAnswer) : Sat :=
  { y with awaiting := false, carried := false, unanswered := 0, lastFresh := ans.fresh, lastValid := ans.valid }

/-- What a taken answer comes to. -/
def State.answer (s : State) (x : Fin 4) (ans : SatAnswer) : SlotOutcome :=
  let o := (s.outcome x).become (s.glc[x].heard ans)
  if s.glc[x].state = .settling ∨ s.glc[x].state = .live then o.answered s x ans s.glc[x].carried else o.returned s x ans

section

variable {s t : State} {x : Fin 4} {o : SlotOutcome} (h : s.Brings x t o) (ev : s.ev = {}) (adv : s.advisory) (ans : SatAnswer)
include h

theorem State.Brings.toSettling (cause : SatCause) {f : Sat → Sat} {y : Sat} (hy : f o.slot = y) :
    s.Brings x (Machine.toSettling x cause f t) (o.change s x cause (y.settles s.clock.now)) :=
  h.change cause (f := fun y => ({ f y with state := .settling } : Sat).startSettle t.clock.now) (by rw [hy, h.clock]; rfl) nofun

theorem State.Brings.freshOrInvalid : s.Brings x (Machine.freshOrInvalid x ans t) (o.freshOrInvalid s x ans) := by
  unfold Machine.freshOrInvalid SlotOutcome.freshOrInvalid
  rw [h.slot]
  split
  · exact h.toSettling .fresh rfl
  · split
    · exact h.toSettling .invalid rfl
    · exact h

include ev adv

theorem State.Brings.settleSet : s.Brings x (Machine.settleSet x ans t) (o.settleSet s x ans) := by
  have seen := h.modSat (f := fun y => { y with seen := true }) rfl
  unfold Machine.settleSet SlotOutcome.settleSet
  rw [h.slot]
  split
  · dsimp only
    rw [show (t.modSat x fun y => { y with seen := true }).glc[x] = { o.slot with seen := true } from seen.slot]
    dsimp only
    split
    · exact seen
    · exact (seen.change .settled (f := fun y => { y.dropSettle with state := .live })
        (y := { o.slot.dropSettle with state := .live }) rfl nofun).convertSet ev adv ans.set
  · exact h

theorem State.Brings.answered (carried : Bool) : s.Brings x (answerAnswering x carried ans t) (o.answered s x ans carried) := by
  obtain ⟨o', ho'⟩ : ∃ o', o' = if o.slot.state = .live ∧ ans.valid = true then o.converted s (slotChans x) ans.set else o := ⟨_, rfl⟩
  obtain ⟨t', ht'⟩ : ∃ t', t' = if o.slot.state = .live ∧ ans.valid = true then Machine.convertSet x ans.set t else t := ⟨_, rfl⟩
  have h' : s.Brings x t' o' := by
    rw [ht', ho']; split
    · exact h.convertSet ev adv ans.set
    · exact h
  unfold answerAnswering SlotOutcome.answered
  rw [h.slot, ← ho']
  dsimp only
  rw [show (if (decide (o.slot.state = .live) && ans.valid) = true then Machine.convertSet x ans.set t else t) = t' by
    rw [ht']; simp only [Bool.and_eq_true, decide_eq_true_eq]]
  unfold SlotOutcome.effect
  cases o.slot.effect carried ans with
  | accepted e =>
    dsimp only
    split
    · exact h'.toSettling .config rfl
    · exact h'.modSat (by rw [h'.clock])
  | rejected e =>
    refine State.Brings.freshOrInvalid ?_ ans
    have removed := (h'.modSat (f := Sat.removeEntry e) rfl).noted (l := [{
      kind := .satReject, time := s.time, cycles := s.psq.totalCycles, subject := x.val, v1 := e.ch.val
      v2 := e.setting.field, v3 := e.setting.value, v4 := e.origin.code }]) (by simp)
    have eq : rejectEntry x e t' = (t'.modSat x (Sat.removeEntry e)).noted [{
        kind := .satReject, time := s.time, cycles := s.psq.totalCycles, subject := x.val, v1 := e.ch.val
        v2 := e.setting.field, v3 := e.setting.value, v4 := e.origin.code }] := by
      rw [← h'.time, ← h'.psq]; rfl
    rw [eq]; exact removed
  | resetDone => exact h'.toSettling .resetDone rfl
  | none =>
    dsimp only
    rw [h'.slot]
    by_cases f : o'.slot.freshRestart ans.fresh = true
    · rw [if_pos f, f, Bool.true_or, if_pos rfl]; exact h'.freshOrInvalid ans
    · rw [if_neg f, Bool.eq_false_iff.2 f, Bool.false_or]
      split
      · exact h'.freshOrInvalid ans
      · exact h'.settleSet ev adv ans

theorem State.Brings.returned : s.Brings x (answerReturning x ans t) (o.returned s x ans) := by
  have first : s.Brings x (Machine.toSettling x .answer id t) (o.change s x .answer (o.slot.settles s.clock.now)) :=
    h.toSettling .answer rfl
  unfold answerReturning SlotOutcome.returned
  dsimp only
  rw [h.slot]
  simp only [Bool.and_eq_true, decide_eq_true_eq]
  split
  · exact first.toSettling .resetDone rfl
  · rw [show (Machine.toSettling x .answer id t).glc[x] = _ from first.slot]
    show s.Brings x _ (if ((o.change s x .answer (o.slot.settles s.clock.now)).slot.freshRestart ans.fresh) = true then _ else _)
    by_cases f : (o.change s x .answer (o.slot.settles s.clock.now)).slot.freshRestart ans.fresh = true
    · rw [if_pos f, if_pos f]; exact first.toSettling .fresh rfl
    · rw [if_neg f, if_neg f]; exact first.settleSet ev adv ans

end

theorem answer_brings {s : State} {x : Fin 4} {ans : SatAnswer} (present : s.glc[x].state ≠ .absent) (ha : s.glc[x].awaiting = true)
    (late : ans.late = false) (ev : s.ev = {}) (adv : s.advisory) : s.Brings x (takeAnswer x ans s) (s.answer x ans) := by
  have taken : answerTaken x ans s = true := by
    unfold answerTaken
    rw [ha, late, decide_eq_true present]; rfl
  have first := (brings_self s x).modSat (f := fun y => y.heard ans) rfl
  unfold takeAnswer State.answer
  rw [if_pos taken]
  dsimp only
  rw [show (s.modSat x fun y =>
    { y with awaiting := false, carried := false, unanswered := 0, lastFresh := ans.fresh, lastValid := ans.valid }).glc[x] =
    s.glc[x].heard ans from first.slot]
  have state : (s.glc[x].heard ans).state = s.glc[x].state := rfl
  rw [state]
  simp only [SatState.answering_iff]
  split
  · exact first.answered ev adv ans _
  · exact first.returned ev adv ans

/-! ### The notices of an answer (R114, R117, R133) -/

/-- The notices that tell of a slot. -/
def Notice.ofSlot (n : Notice) : Bool := n.is .satState || n.is .satReject || n.is .zeroFailed

theorem ofSlot_slotNotes (s : State) (x : Fin 4) (cause : SatCause) (y : Sat) :
    (s.slotNotes x cause y).filter Notice.ofSlot = s.slotNotes x cause y :=
  List.filter_eq_self.2 fun n hn => by
    unfold Notice.ofSlot Notice.is
    rcases slotNotes_kind hn with k | k <;> rw [k] <;> rfl

theorem ofSlot_converted (o : SlotOutcome) (s : State) (l : List (Fin 64)) (set : Vector Int 16) :
    (o.converted s l set).notes.filter Notice.ofSlot = o.notes.filter Notice.ofSlot := by
  show List.filter _ (o.notes ++ _) = _
  rw [List.filter_append]
  refine (congrArg _ (List.filter_eq_nil_iff.2 fun n hn => ?_)).trans (List.append_nil _)
  obtain ⟨c, -, hc⟩ := List.mem_flatMap.1 hn
  split at hc
  · unfold Notice.ofSlot Notice.is
    rw [zeroDone_kind hc]; exact nofun
  · simp at hc

theorem put_slot (o : SlotOutcome) (x : Fin 4) (s : State) : (o.put x s).glc[x] = o.slot := by
  show (s.glc.set x o.slot)[x.val] = _
  exact Vector.getElem_set_self ..

/-- The notices of a change of a slot that is not LIVE. -/
theorem ofSlot_change {o : SlotOutcome} {s : State} {x : Fin 4} (h : o.slot.state ≠ .live) (cause : SatCause) (y : Sat) :
    (o.change s x cause y).notes.filter Notice.ofSlot = o.notes.filter Notice.ofSlot ++ [s.satNote x o.slot.state cause y] := by
  show List.filter _ (o.notes ++ (o.put x s).slotNotes x cause y) = _
  rw [List.filter_append, ofSlot_slotNotes]
  unfold State.slotNotes State.zeroingsFailed
  rw [put_slot, if_neg h, ite_self]
  rfl

/-- The notices of a change that leaves LIVE, or of one in SETTLING. -/
theorem ofSlot_leaving {o : SlotOutcome} {s : State} {x : Fin 4} (cause : SatCause) {y : Sat} (h : y.state ≠ .live) :
    (o.change s x cause y).notes.filter Notice.ofSlot =
      o.notes.filter Notice.ofSlot ++ s.satNote x o.slot.state cause y :: (o.put x s).zeroingsFailed x := by
  show List.filter _ (o.notes ++ (o.put x s).slotNotes x cause y) = _
  rw [List.filter_append, ofSlot_slotNotes]
  unfold State.slotNotes
  rw [put_slot, if_pos h]
  rfl

theorem lost_change {o : SlotOutcome} {s : State} {x : Fin 4} (h : o.slot.state ≠ .lost) (cause : SatCause) (y : Sat) :
    (o.change s x cause y).lost = o.lost := by
  show (o.lost && decide (o.slot.state ≠ .lost)) = _
  rw [decide_eq_true h, Bool.and_true]

/-- What a slot in LIVE leaves of the zeroings. -/
theorem zeroingsFailed_put (o : SlotOutcome) (x : Fin 4) (s : State) : (o.put x s).zeroingsFailed x =
    if o.slot.state = .live then
      ((List.finRange 64).filter fun c => c.val / 16 = x.val).flatMap fun c => (o.put x s).zeroFailed c 0
    else [] := by
  unfold State.zeroingsFailed; rw [put_slot]

theorem zeroingsFailed_become {o : SlotOutcome} {y : Sat} (h : y.state = o.slot.state) (x : Fin 4) (s : State) :
    ((o.become y).put x s).zeroingsFailed x = (o.put x s).zeroingsFailed x := by
  rw [zeroingsFailed_put, zeroingsFailed_put, show (o.become y).slot.state = o.slot.state from h]
  rfl

/-- A zeroing one conversion further where its channel's set is valid. -/
def Chan.counting (valid : Bool) (c : Chan) : Chan :=
  if c.cfg.enabled = true ∧ valid = true then
    { c with zeroing := match c.zeroing with
        | some (n, sum) => if n < 15 then some (n + 1, sum) else none
        | none => none }
  else c

/-- The zeroings, one conversion further where the set is valid. -/
def State.counting (s : State) (ans : SatAnswer) : State :=
  { s with stp := { s.stp with chans := s.stp.chans.map (Chan.counting ans.valid) } }

theorem counting_chan (s : State) (ans : SatAnswer) (c : Fin 64) :
    (s.counting ans).stp.chans[c] = s.stp.chans[c].counting ans.valid := Vector.getElem_map _ c.isLt

theorem Chan.counting_zeroing {y : Chan} {valid : Bool} (h : y.cfg.enabled = true ∧ valid = true) : (y.counting valid).zeroing =
    match y.zeroing with
    | some (n, sum) => if n < 15 then some (n + 1, sum) else none
    | none => none := by unfold Chan.counting; rw [if_pos h]

theorem Chan.counting_cfg (y : Chan) (valid : Bool) : (y.counting valid).cfg = y.cfg := by unfold Chan.counting; split <;> rfl

theorem Chan.converted_zeroing (y : Chan) (temp : Option Int) (raw : Int) : (y.converted temp raw).zeroing =
    match y.zeroing with
    | none => none
    | some (n, sum) => if n < 15 then some (n + 1, sum + raw) else none := by
  unfold Chan.converted Chan.zeroed
  dsimp only
  cases h : y.zeroing with
  | none => rfl
  | some z =>
    obtain ⟨n, sum⟩ := z
    dsimp only
    by_cases k : n + 1 < 16
    · rw [if_pos k, if_pos (by omega)]
    · rw [if_neg k, if_neg (by omega)]

theorem Chan.converted_zero (y : Chan) (temp : Option Int) (raw : Int) : (y.converted temp raw).cfg = { y.cfg with zero :=
    match y.zeroing with
    | none => y.cfg.zero
    | some (n, sum) => if n < 15 then y.cfg.zero else roundDiv (sum + raw) 16 } := by
  unfold Chan.converted Chan.zeroed
  dsimp only
  cases h : y.zeroing with
  | none => rfl
  | some z =>
    obtain ⟨n, sum⟩ := z
    dsimp only
    by_cases k : n + 1 < 16
    · rw [if_pos k, if_pos (by omega)]
    · rw [if_neg k, if_neg (by omega)]

theorem zeroFailed_congr {s t : State} {c : Fin 64} {cause : Int} (time : t.time = s.time) (psq : t.psq = s.psq)
    (zeroing : t.stp.chans[c].zeroing.map Prod.fst = s.stp.chans[c].zeroing.map Prod.fst)
    (zero : s.stp.chans[c].zeroing.isSome = true → t.stp.chans[c].cfg.zero = s.stp.chans[c].cfg.zero) :
    t.zeroFailed c cause = s.zeroFailed c cause := by
  unfold State.zeroFailed
  rw [time, psq]
  cases k : s.stp.chans[c].zeroing with
  | none =>
    rw [k] at zeroing
    rw [Option.map_eq_none_iff.1 zeroing]
  | some m =>
    obtain ⟨n, sum⟩ := m
    rw [k] at zeroing
    obtain ⟨⟨n', sum'⟩, h, e⟩ := Option.map_eq_some_iff.1 zeroing
    obtain rfl : n' = n := e
    rw [h, zero (by rw [k]; rfl)]

theorem SlotOutcome.converted_slot (o : SlotOutcome) (s : State) (l : List (Fin 64)) (set : Vector Int 16) :
    (o.converted s l set).slot = o.slot := by unfold SlotOutcome.converted; exact Eq.refl _

/-- The zeroings that fail after the conversion of a set, where the slot leaves LIVE. -/
theorem zeroingsFailed_answered {s : State} {x : Fin 4} {ans : SatAnswer} {o o' : SlotOutcome} (chans : o.chans = s.stp.chans)
    (state : o.slot.state = s.glc[x].state)
    (ho : o' = if o.slot.state = .live ∧ ans.valid = true then o.converted s (slotChans x) ans.set else o) :
    (o'.put x s).zeroingsFailed x = (s.counting ans).zeroingsFailed x := by
  have slot : o'.slot = o.slot := by
    rw [ho]
    split
    · exact o.converted_slot ..
    · exact Eq.refl _
  have right : (s.counting ans).zeroingsFailed x = if s.glc[x].state = .live then
      ((List.finRange 64).filter fun c => c.val / 16 = x.val).flatMap fun c => (s.counting ans).zeroFailed c 0 else [] := rfl
  rw [zeroingsFailed_put, slot, state, right]
  by_cases live : s.glc[x].state = .live
  · rw [if_pos live, if_pos live]
    refine List.flatMap_congr fun c hc => ?_
    have mem : c ∈ slotChans x := by rw [slotChans_eq]; exact hc
    have new : (o'.put x s).stp.chans[c] = if s.stp.chans[c].cfg.enabled = true ∧ ans.valid = true then
        s.stp.chans[c].converted (s.chanTemp s.stp.chans[c].cfg) ans.set[chanInput c] else s.stp.chans[c] := by
      show o'.chans[c] = _
      rw [ho]
      by_cases v : ans.valid = true
      · rw [if_pos ⟨state.trans live, v⟩, SlotOutcome.converted_chan, SlotOutcome.takes, chans, decide_eq_true mem, Bool.true_and]
        exact if_congr ⟨fun h => ⟨h, v⟩, And.left⟩ rfl rfl
      · rw [if_neg fun h => v h.2, if_neg fun h => v h.2, chans]
    by_cases k : s.stp.chans[c].cfg.enabled = true ∧ ans.valid = true
    · rw [if_pos k] at new
      have count := Chan.counting_zeroing k
      have conv := Chan.converted_zeroing s.stp.chans[c] (s.chanTemp s.stp.chans[c].cfg) ans.set[chanInput c]
      refine zeroFailed_congr rfl rfl ?_ fun some => ?_
      · rw [new, counting_chan, count, conv]
        cases s.stp.chans[c].zeroing with
        | none => rfl
        | some m =>
          dsimp only
          split <;> rfl
      · rw [counting_chan, count] at some
        rw [new, counting_chan, Chan.counting_cfg, Chan.converted_zero]
        cases h : s.stp.chans[c].zeroing with
        | none => rfl
        | some m =>
          rw [h] at some
          dsimp only at some ⊢
          by_cases k : m.1 < 15
          · rw [if_pos k]
          · rw [if_neg k] at some; exact nomatch some
    · rw [if_neg k] at new
      have same : (s.counting ans).stp.chans[c] = s.stp.chans[c] := by
        rw [counting_chan]; exact if_neg k
      exact zeroFailed_congr rfl rfl (by rw [new, same]) fun _ => by rw [new, same]
  · rw [if_neg live, if_neg live]

end Sys2Proof.Machine

/-!
What an answer makes of its slot (R107, R111 to R114, R117, R120 to R122, R124, R132, R133).
-/
namespace Sys2Proof.Machine

/-! ### Records of a slot -/

theorem Sat.removeEntry_eq (e : Entry) (y : Sat) : y.removeEntry e = { y with
    inFlight := none
    posted := if e.origin = .posted then y.posted.drop 1 else y.posted
    restore := if e.origin = .restore then y.restore.drop 1 else y.restore } := by
  unfold Sat.removeEntry
  cases e.origin <;> rfl

theorem Sat.accept_eq (e : Entry) (y : Sat) : y.accept e = { y.removeEntry e with
    image := y.image.set e.ch (match e.setting with
      | .excitation v => { y.image[e.ch] with excitation := v }
      | .gain v => { y.image[e.ch] with gain := v }
      | .filter v => { y.image[e.ch] with filter := v }
      | .shunt v => { y.image[e.ch] with shunt := v }) } := by
  unfold Sat.accept
  dsimp only
  rw [Sat.removeEntry_eq]
  cases e.setting <;> rfl

theorem Sat.idle_iff {y : Sat} : y.idle = true ↔ y.posted = [] ∧ y.restore = [] ∧ y.inFlight = none ∧ y.draining = false := by
  unfold Sat.idle
  simp only [Bool.and_eq_true, List.isEmpty_iff, Option.isNone_iff_eq_none, Bool.not_eq_true', and_assoc]

theorem Sat.freshRestart_iff {y : Sat} {fresh : Bool} : y.freshRestart fresh = true ↔
    fresh = true ∧ restoration y.image ≠ [] ∧ y.restore = [] ∧ y.inFlight ≠ some .reset := by
  unfold Sat.freshRestart
  simp only [Bool.and_eq_true, Bool.not_eq_true', List.isEmpty_iff, decide_eq_true_eq, and_assoc, ← Bool.not_eq_true, List.isEmpty_iff]

/-! ### Verdicts -/

section

variable {y : Sat} {carried : Bool} {ans : SatAnswer}

theorem order_eq_some {o : Order} (h : (if carried = true then y.inFlight else none) = some o) : carried = true ∧ y.inFlight = some o := by
  cases carried
  · exact nomatch h
  · exact ⟨rfl, h⟩

theorem Sat.effect_accepted {e : Entry} (h : (if carried = true then y.inFlight else none) = some (.config e))
    (v : ans.verdict = some .accepted) : y.effect carried ans = .accepted e := by
  obtain ⟨rfl, f⟩ := order_eq_some h
  unfold Sat.effect; rw [f, v]

theorem Sat.effect_rejected {e : Entry} (h : (if carried = true then y.inFlight else none) = some (.config e))
    (v : ans.verdict = some .rejected) : y.effect carried ans = .rejected e := by
  obtain ⟨rfl, f⟩ := order_eq_some h
  unfold Sat.effect; rw [f, v]

theorem Sat.effect_reset (h : (if carried = true then y.inFlight else none) = some .reset) :
    y.effect carried ans = if ans.verdict = some .resetDone ∨ ans.fresh = true then .resetDone else .none := by
  obtain ⟨rfl, f⟩ := order_eq_some h
  unfold Sat.effect
  rw [f]
  rcases ans.verdict with _ | v
  · cases ans.fresh <;> rfl
  · cases v <;> cases ans.fresh <;> rfl

theorem Sat.effect_none (h : (if carried = true then y.inFlight else none) = none ∨
      (∃ e, (if carried = true then y.inFlight else none) = some (.config e) ∧ ans.verdict ≠ some .accepted ∧
        ans.verdict ≠ some .rejected) ∨
      ((if carried = true then y.inFlight else none) = some .reset ∧ ans.verdict ≠ some .resetDone ∧ ans.fresh = false)) :
    y.effect carried ans = .none := by
  rcases h with h | ⟨e, h, a, r⟩ | ⟨h, v, f⟩
  · unfold Sat.effect
    cases carried
    · rfl
    · rw [show y.inFlight = none from h]
  · obtain ⟨rfl, f⟩ := order_eq_some h
    unfold Sat.effect
    rw [f]
    rcases k : ans.verdict with _ | v
    · rfl
    · cases v
      · exact absurd k a
      · exact absurd k r
      · rfl
  · rw [Sat.effect_reset h, if_neg]
    rintro (k | k)
    · exact v k
    · rw [f] at k; exact nomatch k

end

/-! ### An answer in SETTLING or LIVE -/

/-- An outcome before the verdict is taken: the slot has heard the answer, and a set of LIVE is converted. -/
structure SlotOutcome.Heard (o : SlotOutcome) (s : State) (x : Fin 4) (ans : SatAnswer) : Prop where
  slot : o.slot = s.glc[x].heard ans
  lost : o.lost = s.raised (.satLost x)
  notes : o.notes.filter Notice.ofSlot = []
  failed : (o.put x s).zeroingsFailed x = (s.counting ans).zeroingsFailed x

theorem answer_answering {s : State} {x : Fin 4} (ans : SatAnswer) (h : s.glc[x].state = .settling ∨ s.glc[x].state = .live) :
    ∃ o : SlotOutcome, o.Heard s x ans ∧
      s.answer x ans = o.effect s x ans (decide (s.glc[x].state = .live)) ((s.glc[x].heard ans).effect s.glc[x].carried ans) := by
  obtain ⟨o, ho⟩ : ∃ o, o = (s.outcome x).become (s.glc[x].heard ans) := ⟨_, rfl⟩
  obtain ⟨o', ho'⟩ : ∃ o', o' = if o.slot.state = .live ∧ ans.valid = true then o.converted s (slotChans x) ans.set else o := ⟨_, rfl⟩
  have slot : o.slot = s.glc[x].heard ans := by rw [ho]; rfl
  refine ⟨o', ⟨?_, ?_, ?_, zeroingsFailed_answered (by rw [ho]; rfl) (by rw [slot]; rfl) ho'⟩, ?_⟩
  · rw [ho']
    split
    · rw [o.converted_slot, slot]
    · exact slot
  · rw [ho', ho]
    split <;> rfl
  · rw [ho']
    split
    · rw [ofSlot_converted, ho]; rfl
    · rw [ho]; rfl
  · unfold State.answer
    rw [if_pos h, ← ho]
    unfold SlotOutcome.answered
    rw [← ho', slot]
    rfl

section

variable {o : SlotOutcome} {s : State} {x : Fin 4} {ans : SatAnswer} (h : o.Heard s x ans)
include h

theorem SlotOutcome.Heard.leaving (cause : SatCause) {y : Sat} (hy : y.state ≠ .live) {u : Sat} (hu : u.state = s.glc[x].state)
    {l : List Notice} :
    (({ o.become u with notes := o.notes ++ l } : SlotOutcome).change s x cause y).notes.filter Notice.ofSlot =
      l.filter Notice.ofSlot ++ s.satNote x s.glc[x].state cause y :: (s.counting ans).zeroingsFailed x := by
  have state : u.state = o.slot.state := by rw [h.slot]; exact hu
  rw [ofSlot_leaving cause hy, ← h.failed, ← zeroingsFailed_become state x s]
  show List.filter _ (o.notes ++ l) ++ _ = _
  rw [List.filter_append, h.notes, ← hu]
  rfl

theorem SlotOutcome.Heard.leaving' (cause : SatCause) {y : Sat} (hy : y.state ≠ .live) :
    (o.change s x cause y).notes.filter Notice.ofSlot =
      s.satNote x s.glc[x].state cause y :: (s.counting ans).zeroingsFailed x := by
  rw [ofSlot_leaving cause hy, h.failed, h.notes, h.slot]; rfl

end

/-- What follows a verdict that takes nothing out of the slot. -/
theorem freshOrInvalid_eq {o : SlotOutcome} {s : State} {x : Fin 4} {ans : SatAnswer} {z : Sat} (hz : o.slot = z) {p : Prop} [Decidable p]
    (hp : p ↔ z.freshRestart ans.fresh = true) : o.freshOrInvalid s x ans =
      if p then o.change s x .fresh ((z.restoreFromImage false).settles s.clock.now)
      else if z.state = .live ∧ ans.valid = false then o.change s x .invalid (z.settles s.clock.now) else o := by
  unfold SlotOutcome.freshOrInvalid
  subst hz
  exact if_congr hp.symm rfl rfl

theorem SlotOutcome.converted_lost (o : SlotOutcome) (s : State) (l : List (Fin 64)) (set : Vector Int 16) :
    (o.converted s l set).lost = o.lost := by unfold SlotOutcome.converted; exact Eq.refl _

theorem lost_settleSet {o : SlotOutcome} (h : o.slot.state ≠ .lost) (s : State) (x : Fin 4) (ans : SatAnswer) :
    (o.settleSet s x ans).lost = o.lost := by
  unfold SlotOutcome.settleSet
  split
  · split
    · rfl
    · rw [SlotOutcome.converted_lost]
      exact lost_change (o := o.become { o.slot with seen := true }) h ..
  · rfl

/-- A slot that was not lost is not lost by an answer, and SAT_LOST stands as it did. -/
theorem lost_effect {o : SlotOutcome} (h : o.slot.state ≠ .lost) (s : State) (x : Fin 4) (ans : SatAnswer) (live : Bool) (e : AnswerEffect) :
    (o.effect s x ans live e).lost = o.lost := by
  have fresh {o : SlotOutcome} (h : o.slot.state ≠ .lost) : (o.freshOrInvalid s x ans).lost = o.lost := by
    unfold SlotOutcome.freshOrInvalid
    split
    · exact lost_change h ..
    · split
      · exact lost_change h ..
      · rfl
  unfold SlotOutcome.effect
  cases e with
  | accepted e =>
    dsimp only
    split
    · exact lost_change h ..
    · rfl
  | rejected e =>
    refine (fresh (o := o.reject s x e) ?_).trans rfl
    show (o.slot.removeEntry e).state ≠ .lost
    rw [Sat.removeEntry_eq]; exact h
  | resetDone => exact lost_change h ..
  | none =>
    dsimp only
    split
    · exact fresh h
    · exact lost_settleSet h ..

/-! ### An answer in SEEKING or LOST -/

/-- The slot has heard the answer and entered SETTLING. -/
structure SlotOutcome.Returned (o : SlotOutcome) (s : State) (x : Fin 4) (ans : SatAnswer) : Prop where
  slot : o.slot = (s.glc[x].heard ans).settles s.clock.now
  lost : o.lost = (s.raised (.satLost x) && decide (s.glc[x].state ≠ .lost))
  notes : o.notes.filter Notice.ofSlot =
    [s.satNote x s.glc[x].state .answer ((s.glc[x].heard ans).settles s.clock.now)]

theorem answer_returning {s : State} {x : Fin 4} (ans : SatAnswer) (h : s.glc[x].state = .seeking ∨ s.glc[x].state = .lost) :
    ∃ o : SlotOutcome, o.Returned s x ans ∧
      s.answer x ans = if s.glc[x].state = .lost ∧ s.glc[x].inFlight = some .reset then
          o.change s x .resetDone ((o.slot.restoreFromImage true).settles s.clock.now)
        else if o.slot.freshRestart ans.fresh then o.change s x .fresh ((o.slot.restoreFromImage false).settles s.clock.now)
        else o.settleSet s x ans := by
  obtain ⟨o, ho⟩ : ∃ o, o = (s.outcome x).become (s.glc[x].heard ans) := ⟨_, rfl⟩
  have quiet : ¬(s.glc[x].state = .settling ∨ s.glc[x].state = .live) := by rcases h with h | h <;> rw [h] <;> decide
  have state : o.slot.state = s.glc[x].state := by rw [ho]; rfl
  have dead : o.slot.state ≠ .live := fun k => quiet (.inr (state ▸ k))
  refine ⟨o.change s x .answer (o.slot.settles s.clock.now), ⟨by rw [ho]; rfl, by rw [ho]; rfl, ?_⟩, ?_⟩
  · rw [ofSlot_change dead, ho]; rfl
  · unfold State.answer
    rw [if_neg quiet, ← ho]
    unfold SlotOutcome.returned
    rw [state, show o.slot.inFlight = s.glc[x].inFlight by rw [ho]; rfl]

theorem SlotOutcome.settleSet_eq {o : SlotOutcome} (s : State) (x : Fin 4) (ans : SatAnswer) {z : Sat} (hz : o.slot = z) {p : Prop}
    [Decidable p] (hp : p ↔ ans.valid = true ∧ z.idle = true) : o.settleSet s x ans =
      if p then
        if z.settleRunning then o.become { z with seen := true }
        else ((o.become { z with seen := true }).change s x .settled { z.dropSettle with state := .live }).converted s
          (slotChans x) ans.set
      else o := by
  unfold SlotOutcome.settleSet
  subst hz
  exact if_congr hp.symm rfl rfl

/-- A set that ends a settle. -/
theorem ofSlot_settled {o : SlotOutcome} {s : State} {x : Fin 4} (set : Vector Int 16) {z : Sat} (y : Sat) (hz : z.state = .settling) :
    (((o.become z).change s x .settled y).converted s (slotChans x) set).notes.filter Notice.ofSlot =
      o.notes.filter Notice.ofSlot ++ [s.satNote x .settling .settled y] := by
  rw [ofSlot_converted, ofSlot_change (by rw [show (o.become z).slot = z from rfl, hz]; exact nofun),
    show (o.become z).slot = z from rfl, hz]
  rfl

/-! ### What each answer comes to -/

theorem Sat.settles_of_settling {y : Sat} (h : y.state = .settling) (now : Nat) : y.startSettle now = y.settles now := by
  obtain ⟨present, settleMs, state⟩ := y
  dsimp only at h
  subst h; rfl

theorem Sat.removeEntry_state (e : Entry) (y : Sat) : (y.removeEntry e).state = y.state := by rw [Sat.removeEntry_eq]

theorem Sat.accept_state (e : Entry) (y : Sat) : (y.accept e).state = y.state := by rw [Sat.accept_eq]; exact y.removeEntry_state e

/-- What an outcome makes of the slot, and what it tells of it. -/
def SlotOutcome.Is (o : SlotOutcome) (w : Sat) (l : List Notice) : Prop := o.slot = w ∧ o.notes.filter Notice.ofSlot = l

/-- The notices of a slot in SETTLING or LIVE that enters SETTLING for a cause. -/
def State.leaving (s : State) (x : Fin 4) (ans : SatAnswer) (cause : SatCause) (w : Sat) : List Notice :=
  s.satNote x s.glc[x].state cause w :: (s.counting ans).zeroingsFailed x

/-- The SAT_REJECT notice of a rejected entry (R117). -/
def State.rejection (s : State) (x : Fin 4) (e : Entry) : Notice :=
  { kind := .satReject, time := s.time, cycles := s.psq.totalCycles, subject := x.val, v1 := e.ch.val
    v2 := e.setting.field, v3 := e.setting.value, v4 := e.origin.code }

section

variable {s : State} {x : Fin 4} {ans : SatAnswer} {z : Sat} (hz : z = s.glc[x].heard ans)
  (a : s.glc[x].state = .settling ∨ s.glc[x].state = .live)
include hz a

theorem answer_accepted {e : Entry} (h : z.effect s.glc[x].carried ans = .accepted e) {r : Sat} (hr : r = z.accept e) {w : Sat}
    (hw : w = r.settles s.clock.now) :
    (s.answer x ans).Is w (if s.glc[x].state = .live then s.leaving x ans .config w else []) := by
  obtain ⟨o, heard, eq⟩ := answer_answering ans a
  rw [← hz, h] at eq
  have slot := heard.slot.trans hz.symm
  subst hr
  have eq : s.answer x ans = if s.glc[x].state = .live then o.change s x .config w
      else o.become ((z.accept e).startSettle s.clock.now) := by
    rw [eq, hw, ← slot]
    unfold SlotOutcome.effect
    simp only [decide_eq_true_eq]
  rw [eq]
  by_cases live : s.glc[x].state = .live
  · rw [if_pos live, if_pos live]
    exact ⟨rfl, heard.leaving' .config (by rw [hw]; exact nofun)⟩
  · rw [if_neg live, if_neg live]
    refine ⟨?_, heard.notes⟩
    rw [hw, ← Sat.settles_of_settling]
    · rfl
    · rw [Sat.accept_state, hz]; exact a.resolve_right live

theorem answer_resetDone (h : z.effect s.glc[x].carried ans = .resetDone) {w : Sat}
    (hw : w = (z.restoreFromImage true).settles s.clock.now) : (s.answer x ans).Is w (s.leaving x ans .resetDone w) := by
  obtain ⟨o, heard, eq⟩ := answer_answering ans a
  rw [← hz, h] at eq
  have slot := heard.slot.trans hz.symm
  have eq : s.answer x ans = o.change s x .resetDone w := by rw [eq, hw, ← slot]; rfl
  rw [eq]
  exact ⟨rfl, heard.leaving' .resetDone (by rw [hw]; exact nofun)⟩

theorem answer_rejected {e : Entry} (h : z.effect s.glc[x].carried ans = .rejected e) {r : Sat} (hr : r = z.removeEntry e)
    {again : Prop} [Decidable again] (hg : again ↔ r.freshRestart ans.fresh = true) {w : Sat}
    (hw : w = if again then (r.restoreFromImage false).settles s.clock.now
      else if s.glc[x].state = .live ∧ ans.valid = false then r.settles s.clock.now else r) :
    (s.answer x ans).Is w (s.rejection x e :: if again then s.leaving x ans .fresh w
      else if s.glc[x].state = .live ∧ ans.valid = false then s.leaving x ans .invalid w else []) := by
  obtain ⟨o, heard, eq⟩ := answer_answering ans a
  rw [← hz, h] at eq
  have slot := heard.slot.trans hz.symm
  subst hr
  have state : (z.removeEntry e).state = s.glc[x].state := by rw [Sat.removeEntry_state, hz]; rfl
  have told : [s.rejection x e].filter Notice.ofSlot = [s.rejection x e] := rfl
  have eq : s.answer x ans = ({ o.become (z.removeEntry e) with notes := o.notes ++ [s.rejection x e] } : SlotOutcome).freshOrInvalid s x ans := by
    rw [eq, ← slot]; rfl
  rw [eq, freshOrInvalid_eq (z := z.removeEntry e) rfl hg, state]
  by_cases g : again
  · rw [if_pos g, if_pos g]
    rw [if_pos g] at hw
    refine ⟨hw.symm, (heard.leaving .fresh (y := ((z.removeEntry e).restoreFromImage false).settles s.clock.now) nofun state).trans ?_⟩
    rw [told, ← hw]; rfl
  · rw [if_neg g, if_neg g]
    rw [if_neg g] at hw
    by_cases i : s.glc[x].state = .live ∧ ans.valid = false
    · rw [if_pos i, if_pos i]
      rw [if_pos i] at hw
      refine ⟨hw.symm, (heard.leaving .invalid (y := (z.removeEntry e).settles s.clock.now) nofun state).trans ?_⟩
      rw [told, ← hw]; rfl
    · rw [if_neg i, if_neg i]
      rw [if_neg i] at hw
      refine ⟨hw.symm, ?_⟩
      show (o.notes ++ [s.rejection x e]).filter Notice.ofSlot = _
      rw [List.filter_append, heard.notes]; rfl

variable (h : z.effect s.glc[x].carried ans = .none)
include h

theorem answer_fresh (f : z.freshRestart ans.fresh = true) {w : Sat} (hw : w = (z.restoreFromImage false).settles s.clock.now) :
    (s.answer x ans).Is w (s.leaving x ans .fresh w) := by
  obtain ⟨o, heard, eq⟩ := answer_answering ans a
  rw [← hz, h] at eq
  have slot := heard.slot.trans hz.symm
  have eq : s.answer x ans = o.change s x .fresh w := by
    rw [eq, hw]
    unfold SlotOutcome.effect
    dsimp only
    rw [slot, f, Bool.true_or, if_pos rfl, freshOrInvalid_eq slot (p := True) (iff_of_true trivial f), if_pos trivial]
  rw [eq]
  exact ⟨rfl, heard.leaving' .fresh (by rw [hw]; exact nofun)⟩

theorem answer_live (f : ¬z.freshRestart ans.fresh = true) (live : s.glc[x].state = .live) {w : Sat}
    (hw : w = if ans.valid then z else z.settles s.clock.now) :
    (s.answer x ans).Is w (if ans.valid then [] else s.leaving x ans .invalid w) := by
  obtain ⟨o, heard, eq⟩ := answer_answering ans a
  rw [← hz, h] at eq
  have slot := heard.slot.trans hz.symm
  have state : z.state = .live := by rw [hz]; exact live
  have eq : s.answer x ans = if ans.valid then o else o.change s x .invalid w := by
    rw [eq]
    unfold SlotOutcome.effect
    dsimp only
    rw [decide_eq_true live, Bool.or_true, if_pos rfl, freshOrInvalid_eq slot (p := False) (iff_of_false id f), if_neg id, hw]
    cases v : ans.valid
    · rw [if_pos ⟨state, rfl⟩]; rfl
    · rw [if_neg fun k => nomatch k.2]; rfl
  rw [eq]
  cases v : ans.valid
  · exact ⟨rfl, heard.leaving' .invalid (by rw [hw, v]; exact nofun)⟩
  · rw [hw, v]; exact ⟨slot, heard.notes⟩

theorem answer_settling (f : ¬z.freshRestart ans.fresh = true) (settling : s.glc[x].state = .settling) {p : Prop} [Decidable p]
    (hp : p ↔ ans.valid = true ∧ z.idle = true) {w : Sat} (hw : w = if p then
      if s.glc[x].settleRunning then { z with seen := true } else { z.dropSettle with state := .live } else z) :
    (s.answer x ans).Is w (if w.state = .live then [s.satNote x .settling .settled w] else []) := by
  obtain ⟨o, heard, eq⟩ := answer_answering ans a
  rw [← hz, h] at eq
  have slot := heard.slot.trans hz.symm
  have state : z.state = .settling := by rw [hz]; exact settling
  have running : z.settleRunning = s.glc[x].settleRunning := by rw [hz]; rfl
  have eq : s.answer x ans = o.settleSet s x ans := by
    rw [eq]
    unfold SlotOutcome.effect
    dsimp only
    rw [decide_eq_false (by rw [settling]; exact nofun), slot, Bool.or_false, if_neg f]
  rw [← running] at hw
  rw [eq, o.settleSet_eq s x ans slot hp]
  by_cases k : p
  · rw [if_pos k]
    rw [if_pos k] at hw
    by_cases r : z.settleRunning = true
    · rw [if_pos r] at hw ⊢
      have quiet : w.state ≠ .live := by rw [hw]; show z.state ≠ _; rw [state]; exact nofun
      rw [if_neg quiet]
      exact ⟨hw.symm, heard.notes⟩
    · rw [if_neg r] at hw ⊢
      have live : w.state = .live := by rw [hw]
      rw [if_pos live]
      refine ⟨?_, (ofSlot_settled (z := { z with seen := true }) ans.set _ state).trans ?_⟩
      · rw [hw]; exact SlotOutcome.converted_slot ..
      · rw [heard.notes, hw]; rfl
  · rw [if_neg k]
    rw [if_neg k] at hw
    rw [hw, if_neg (by rw [state]; exact nofun)]
    exact ⟨slot, heard.notes⟩

end

section

variable {s : State} {x : Fin 4} {ans : SatAnswer} {z : Sat} (hz : z = s.glc[x].heard ans)
  (r : s.glc[x].state = .seeking ∨ s.glc[x].state = .lost)
include hz r

theorem answer_lostReset (l : s.glc[x].state = .lost) (f : s.glc[x].inFlight = some .reset) {w : Sat}
    (hw : w = (z.restoreFromImage true).settles s.clock.now) :
    (s.answer x ans).Is w [s.satNote x s.glc[x].state .answer (z.settles s.clock.now), s.satNote x .settling .resetDone w] := by
  obtain ⟨o, returned, eq⟩ := answer_returning ans r
  rw [if_pos ⟨l, f⟩] at eq
  have same : (o.slot.restoreFromImage true).settles s.clock.now = w := by rw [returned.slot, hw, hz]; rfl
  have state : o.slot.state = .settling := by rw [returned.slot]; rfl
  rw [eq, same]
  refine ⟨rfl, (ofSlot_change (by rw [state]; exact nofun) ..).trans ?_⟩
  rw [returned.notes, state, hz]; rfl

variable (n : ¬(s.glc[x].state = .lost ∧ s.glc[x].inFlight = some .reset))
include n

theorem answer_freshReturn (f : z.freshRestart ans.fresh = true) {w : Sat} (hw : w = (z.restoreFromImage false).settles s.clock.now) :
    (s.answer x ans).Is w [s.satNote x s.glc[x].state .answer (z.settles s.clock.now), s.satNote x .settling .fresh w] := by
  obtain ⟨o, returned, eq⟩ := answer_returning ans r
  have slot : o.slot = z.settles s.clock.now := by rw [returned.slot, hz]
  have fresh : o.slot.freshRestart ans.fresh = true := by rw [slot]; exact f
  rw [if_neg n, if_pos fresh] at eq
  have same : (o.slot.restoreFromImage false).settles s.clock.now = w := by rw [slot, hw]; rfl
  have state : o.slot.state = .settling := by rw [slot]; rfl
  rw [eq, same]
  refine ⟨rfl, (ofSlot_change (by rw [state]; exact nofun) ..).trans ?_⟩
  rw [returned.notes, state, hz]; rfl

theorem answer_return (f : ¬z.freshRestart ans.fresh = true) {p : Prop} [Decidable p] (hp : p ↔ ans.valid = true ∧ z.idle = true)
    {w : Sat} (hw : w = if p then
      if z.settleMs = 0 then { z.dropSettle with state := .live } else { z.settles s.clock.now with seen := true }
      else z.settles s.clock.now) :
    (s.answer x ans).Is w (s.satNote x s.glc[x].state .answer (z.settles s.clock.now) ::
      if w.state = .live then [s.satNote x .settling .settled w] else []) := by
  obtain ⟨o, returned, eq⟩ := answer_returning ans r
  have slot : o.slot = z.settles s.clock.now := by rw [returned.slot, hz]
  have stale : ¬o.slot.freshRestart ans.fresh = true := by rw [slot]; exact f
  have notes := returned.notes
  rw [← hz] at notes
  rw [if_neg n, if_neg stale, o.settleSet_eq s x ans slot hp] at eq
  rw [eq]
  have running : (z.settles s.clock.now).settleRunning = decide (z.settleMs ≠ 0) := rfl
  rw [running]
  by_cases k : p
  · rw [if_pos k]
    rw [if_pos k] at hw
    by_cases m : z.settleMs = 0
    · rw [if_pos m] at hw
      have live : w.state = .live := by rw [hw]
      rw [if_pos live, if_neg (by rw [decide_eq_true_eq]; exact fun h => h m)]
      refine ⟨?_, (ofSlot_settled ans.set _ rfl).trans ?_⟩
      · rw [hw]; exact SlotOutcome.converted_slot ..
      · rw [notes, hw]; rfl
    · rw [if_neg m] at hw
      have quiet : w.state ≠ .live := by rw [hw]; exact nofun
      rw [if_neg quiet, if_pos (by rw [decide_eq_true_eq]; exact m)]
      exact ⟨hw.symm, notes⟩
  · rw [if_neg k]
    rw [if_neg k] at hw
    rw [hw, if_neg (show (z.settles s.clock.now).state ≠ .live from nofun)]
    exact ⟨slot, notes⟩

end

/-- SAT_LOST after an answer (R124). -/
theorem answer_lost {s : State} {x : Fin 4} (ans : SatAnswer) (h : s.glc[x].state ≠ .absent) :
    (s.answer x ans).lost = (s.raised (.satLost x) && decide (s.glc[x].state ≠ .lost)) := by
  have answering (a : s.glc[x].state = .settling ∨ s.glc[x].state = .live) :
      (s.answer x ans).lost = (s.raised (.satLost x) && decide (s.glc[x].state ≠ .lost)) := by
    obtain ⟨o, heard, eq⟩ := answer_answering ans a
    have here : s.glc[x].state ≠ .lost := by rcases a with a | a <;> rw [a] <;> exact nofun
    rw [eq, lost_effect (by rw [heard.slot]; exact here), heard.lost, decide_eq_true here, Bool.and_true]
  have returning (r : s.glc[x].state = .seeking ∨ s.glc[x].state = .lost) :
      (s.answer x ans).lost = (s.raised (.satLost x) && decide (s.glc[x].state ≠ .lost)) := by
    obtain ⟨o, returned, eq⟩ := answer_returning ans r
    have here : o.slot.state ≠ .lost := by rw [returned.slot]; exact nofun
    rw [eq, ← returned.lost]
    split
    · exact lost_change here ..
    · split
      · exact lost_change here ..
      · exact lost_settleSet here ..
  cases k : s.glc[x].state with
  | absent => exact absurd k h
  | seeking => exact k ▸ returning (.inl k)
  | settling => exact k ▸ answering (.inl k)
  | live => exact k ▸ answering (.inr k)
  | lost => exact k ▸ returning (.inr k)

/-- The notices that tell of the slot are those of the outcome. -/
theorem State.Brings.tells {s t : State} {x : Fin 4} {o : SlotOutcome} (h : s.Brings x t o) :
    Forms s t (fun n => n.is .satState || n.is .satReject || n.is .zeroFailed) (o.notes.filter Notice.ofSlot) := by
  obtain ⟨all, hall, noted⟩ := h.notes
  refine ⟨all, ?_, noted⟩
  rw [← hall, List.filter_filter]
  refine List.filter_congr fun n _ => ?_
  unfold Notice.ofSlot Notice.is
  cases n.kind <;> rfl

/-- What an answer leaves of the rest of the state. -/
theorem State.Brings.rest {s t : State} {x : Fin 4} {o : SlotOutcome} (h : s.Brings x t o) :
    t = { s with glc := t.glc, stp := { s.stp with chans := t.stp.chans }, svc := t.svc, lgu := t.lgu, pmx := t.pmx, sli := t.sli } := by
  obtain ⟨v, g, p, l, lost, rest⟩ := h.moved.rest
  rw [rest]; rfl

theorem State.Brings.other {s t : State} {x : Fin 4} {o : SlotOutcome} (h : s.Brings x t o) {j : Fin 4} (hj : j ≠ x) :
    t.glc[j] = s.glc[j] := by
  have : t.glc[j.val] = s.glc[j.val] := by
    simp only [h.glc]
    exact Vector.getElem_set_ne x.isLt j.isLt fun e => hj (Fin.ext e.symm)
  exact this

/-- Settles O44. -/
theorem answersMoveTheSlot : Obligations.AnswersMoveTheSlot := by
  unfold Obligations.AnswersMoveTheSlot
  intro s x ans y
  refine ⟨fun h done => ?_, fun present ha late settled adv => ?_⟩
  · have not : answerTaken x ans s = false := by
      unfold answerTaken
      rcases h with h | h | h
      · rw [decide_eq_false fun k => k h]; rfl
      · rw [show s.glc[x].awaiting = false from h, Bool.and_false]; rfl
      · rw [h]; exact Bool.and_false _
    have same : takeAnswer x ans s = s := by unfold takeAnswer; rw [not]; rfl
    show stepDone (takeAnswer x ans s) = _
    rw [same]; exact stepDone_of_noResetDue done
  · intro z settling live restored removed order noVerdict answering returning fresh idle converted
    obtain ⟨ev, pending⟩ := settled
    have brings := answer_brings present ha late ev adv
    obtain ⟨t, ht⟩ : ∃ t, t = takeAnswer x ans s := ⟨_, rfl⟩
    rw [← ht] at brings
    refine ⟨t, ?_, ?_⟩
    · show stepDone (takeAnswer x ans s) = _
      rw [← ht]
      exact stepDone_of_noResetDue (.inl (by rw [brings.stc]; exact pending))
    intro w notes leaving answer
    have is {u : Sat} {l : List Notice} (h : (s.answer x ans).Is u l) : notes l ∧ w = u :=
      ⟨h.2 ▸ brings.tells, brings.slot.trans h.1⟩
    have hz : z = s.glc[x].heard ans := rfl
    clear_value w
    have entry (e : Entry) : removed e = z.removeEntry e := (Sat.removeEntry_eq e z).symm
    have freshly {u : Sat} : (ans.fresh = true ∧ restoration u.image ≠ [] ∧ u.restore = [] ∧ u.inFlight ≠ some .reset) ↔
      u.freshRestart ans.fresh = true := Sat.freshRestart_iff.symm
    refine ⟨fun j hj => brings.other hj, brings.lost.trans (answer_lost ans present), fun a => (brings.moved.state a).trans rfl,
      brings.rest, fun e a ord v => ?_, fun e a ord v => ?_, fun a ord v => ?_, fun l f => ?_, fun k => ⟨fun f => ?_, fun f => ⟨fun r => ?_,
        fun l => ?_, fun l => ?_⟩⟩⟩
    · obtain ⟨h, rfl⟩ := is (answer_accepted hz a (Sat.effect_accepted (y := z) ord v) (r := { removed e with
          image := y.image.set e.ch (match e.setting with
            | .excitation v => { y.image[e.ch] with excitation := v }
            | .gain v => { y.image[e.ch] with gain := v }
            | .filter v => { y.image[e.ch] with filter := v }
            | .shunt v => { y.image[e.ch] with shunt := v }) }) (by rw [Sat.accept_eq, Sat.removeEntry_eq] <;> rfl) rfl)
      exact ⟨h, rfl⟩
    · intro again
      obtain ⟨h, rfl⟩ := is (answer_rejected hz a (Sat.effect_rejected (y := z) ord v) (entry e) (again := again) (by
        rw [← freshly]
        exact ⟨fun ⟨f, i, r⟩ => ⟨f, i, r, nofun⟩, fun ⟨f, i, r, _⟩ => ⟨f, i, r⟩⟩) rfl)
      exact ⟨h, rfl⟩
    · obtain ⟨h, rfl⟩ := is (answer_resetDone hz a ((Sat.effect_reset (y := z) ord).trans (if_pos v)) rfl)
      exact ⟨h, rfl⟩
    · obtain ⟨h, rfl⟩ := is (answer_lostReset hz (.inr l) l f rfl)
      exact ⟨h, rfl⟩
    · have restart : z.freshRestart ans.fresh = true := freshly.1 f
      have n : ¬(s.glc[x].state = .lost ∧ s.glc[x].inFlight = some .reset) := fun n => f.2.2.2 n.2
      rcases k with ⟨a, v⟩ | r
      · obtain ⟨h, rfl⟩ := is (answer_fresh hz a (Sat.effect_none (y := z) v) restart rfl)
        refine ⟨rfl, ?_⟩
        rw [if_pos a]; exact h
      · have r' : s.glc[x].state = .seeking ∨ s.glc[x].state = .lost := r.imp_right And.left
        have na : ¬answering := by
          rintro (a | a) <;> rcases r' with r | r <;> cases a.symm.trans r
        obtain ⟨h, rfl⟩ := is (answer_freshReturn hz r' n restart rfl)
        refine ⟨rfl, ?_⟩
        rw [if_neg na]; exact h
    · have r' : s.glc[x].state = .seeking ∨ s.glc[x].state = .lost := r.imp_right And.left
      have n : ¬(s.glc[x].state = .lost ∧ s.glc[x].inFlight = some .reset) := fun n => by
        rcases r with r | r
        · exact nomatch n.1.symm.trans r
        · exact r.2 n.2
      obtain ⟨h, rfl⟩ := is (answer_return hz r' n (fun g => f (freshly.2 g)) (p := ans.valid = true ∧ idle) (by
        rw [Sat.idle_iff]) rfl)
      exact ⟨h, rfl⟩
    · have none : z.effect s.glc[x].carried ans = .none := by
        rcases k with ⟨-, v⟩ | r | r
        · exact Sat.effect_none (y := z) v
        · exact nomatch l.symm.trans r
        · exact nomatch l.symm.trans r.1
      obtain ⟨h, rfl⟩ := is (answer_settling hz (.inl l) none (fun g => f (freshly.2 g)) l (p := ans.valid = true ∧ idle) (by
        rw [Sat.idle_iff]) rfl)
      exact ⟨h, rfl⟩
    · have none : z.effect s.glc[x].carried ans = .none := by
        rcases k with ⟨-, v⟩ | r | r
        · exact Sat.effect_none (y := z) v
        · exact nomatch l.symm.trans r
        · exact nomatch l.symm.trans r.1
      obtain ⟨h, rfl⟩ := is (answer_live hz (.inr l) none (fun g => f (freshly.2 g)) l rfl)
      exact ⟨h, rfl⟩

end Sys2Proof.Machine

/-!
The settle timer and the restoration list (R112, R114, R120).
-/
namespace Sys2Proof.Machine

/-! ### The restoration list (R120) -/

theorem ImageCh.diffs_length (c : ImageCh) : c.diffs.length ≤ 4 := by
  unfold ImageCh.diffs
  simp only [List.length_append]
  have one {p : Prop} [Decidable p] (x : SatSetting) : (if p then [] else [x]).length ≤ 1 := by split <;> simp
  have a := one (p := c.excitation = 0) (.excitation c.excitation)
  have b := one (p := c.gain = 0) (.gain c.gain)
  have d := one (p := c.filter = 1) (.filter c.filter)
  have e := one (p := c.shunt = 0) (.shunt c.shunt)
  omega

/-- The settings in which a channel differs from the defaults make it from them. -/
theorem ImageCh.diffs_put (c : ImageCh) : c.diffs.foldl ImageCh.put {} = c := by
  obtain ⟨e, g, f, h⟩ := c
  revert e g f h; decide

theorem restoration_length (image : Vector ImageCh 16) : (restoration image).length ≤ 64 := by
  unfold restoration
  rw [List.length_flatMap]
  have each : ∀ n ∈ (List.finRange 16).map fun i => (image[i].diffs.map fun x => ({ ch := i, setting := x, origin := .restore } : Entry)).length,
      n ≤ 4 := by
    intro n hn
    obtain ⟨i, -, rfl⟩ := List.mem_map.1 hn
    rw [List.length_map]; exact ImageCh.diffs_length _
  exact (List.sum_le_card_nsmul _ 4 each).trans (by simp)

theorem restoration_origin {image : Vector ImageCh 16} {e : Entry} (h : e ∈ restoration image) : e.origin = .restore := by
  obtain ⟨i, -, h⟩ := List.mem_flatMap.1 h
  obtain ⟨x, -, rfl⟩ := List.mem_map.1 h
  rfl

/-- An entry accepted into an image. -/
def putEntry (m : Vector ImageCh 16) (e : Entry) : Vector ImageCh 16 := m.set e.ch (m[e.ch].put e.setting)

theorem foldl_putEntry (i : Fin 16) (l : List SatSetting) (m : Vector ImageCh 16) :
    (l.map fun x => ({ ch := i, setting := x, origin := .restore } : Entry)).foldl putEntry m = m.set i (l.foldl ImageCh.put m[i]) := by
  induction l generalizing m with
  | nil => exact (Vector.set_getElem_self _).symm
  | cons x l ih =>
    rw [List.map_cons, List.foldl_cons, ih, List.foldl_cons]
    have now : (putEntry m { ch := i, setting := x, origin := .restore })[i] = m[i].put x := Vector.getElem_set_self ..
    rw [now]
    exact Vector.set_set ..

/-- The entries of some channels, accepted one by one, give these channels of the image back. -/
theorem foldl_restoration (image : Vector ImageCh 16) (l : List (Fin 16)) (nodup : l.Nodup) (m : Vector ImageCh 16)
    (fresh : ∀ i ∈ l, m[i] = {}) (j : Fin 16) :
    ((l.flatMap fun i => image[i].diffs.map fun x => ({ ch := i, setting := x, origin := .restore } : Entry)).foldl putEntry m)[j] =
      if j ∈ l then image[j] else m[j] := by
  induction l generalizing m with
  | nil => rfl
  | cons i l ih =>
    obtain ⟨out, nodup⟩ := List.nodup_cons.1 nodup
    have put {k : Fin 16} : (m.set i image[i])[k] = if i = k then image[k] else m[k] := by
      have := Vector.getElem_set (xs := m) (i := i.val) (x := image[i]) i.isLt (j := k.val) k.isLt
      refine this.trans ?_
      by_cases e : i = k
      · subst e; rw [if_pos rfl, if_pos rfl]
      · rw [if_neg fun h => e (Fin.ext h), if_neg e]; rfl
    rw [List.flatMap_cons, List.foldl_append, foldl_putEntry, fresh i List.mem_cons_self, ImageCh.diffs_put,
      ih nodup _ fun k hk => by rw [put, if_neg fun e : i = k => out (e ▸ hk)]; exact fresh k (List.mem_cons_of_mem _ hk), put]
    by_cases e : i = j
    · subst e
      rw [if_neg out, if_pos rfl, if_pos List.mem_cons_self]
    · rw [if_neg e]
      exact if_congr ⟨List.mem_cons_of_mem _, fun h => (List.mem_cons.1 h).resolve_left fun h => e h.symm⟩ rfl rfl

theorem restoration_restores (image : Vector ImageCh 16) :
    (restoration image).foldl putEntry (Vector.replicate 16 {}) = image := by
  apply Vector.ext
  intro j hj
  refine (foldl_restoration image (List.finRange 16) (List.nodup_finRange 16) _ (fun i _ => ?_) ⟨j, hj⟩).trans ?_
  · exact Vector.getElem_replicate ..
  · exact if_pos (List.mem_finRange _)

/-! ### The settle timer (R112) -/

/-- The end of a settle that has seen a valid set. -/
theorem toLive_eq {s : State} {x : Fin 4} (h : s.glc[x].state = .settling) {y z : Sat} (hy : y.state = .settling)
    (hz : z = { y with state := .live, settleStart := 0, settlePeriod := 0, settleRunning := false, seen := false }) :
    toLive x (s.modSat x fun _ => y) = ({ s with glc := s.glc.set x z } : State).noted [s.satNote x .settling .settled z] := by
  have change := satChange_modSat (x := x) (s := s) .settled (f := fun _ => y) (g := fun y => { y.dropSettle with state := .live })
    (hy.trans h.symm) hz.symm
  have live : z.state = .live := by rw [hz]
  have moved : s.slotMoved x z = { s with glc := s.glc.set x z } := by
    unfold State.slotMoved
    rw [if_neg fun k => k.2 live]
  have notes : s.slotNotes x .settled z = [s.satNote x .settling .settled z] := by
    unfold State.slotNotes
    rw [if_neg fun k => k live, h]
  dsimp only at change
  unfold toLive
  rw [change, moved, notes, live, h]
  rfl

theorem settleExpiry_eq {s : State} {x : Fin 4} (h : s.glc[x].state = .settling) (r : s.glc[x].settleRunning = true) {y : Sat}
    (hy : y = { s.glc[x] with settleRunning := false }) {timed : State}
    (ht : timed = s.advanceTo (s.glc[x].settleStart + s.glc[x].settlePeriod * 1000)) :
    settleExpiry x s = if s.glc[x].seen = true then toLive x (timed.modSat x fun _ => y) else timed.modSat x fun _ => y := by
  have now : (timed.modSat x fun y => { y with settleRunning := false }) = timed.modSat x fun _ => y := by
    rw [hy, ht]; rfl
  have slot : (timed.modSat x fun _ => y).glc[x] = y := (vmod_get ..).trans (if_pos rfl)
  unfold settleExpiry
  rw [if_pos ⟨h, r⟩]
  dsimp only
  rw [← ht, now, slot, hy]

/-- Settles O45. -/
theorem settlesAndRestorations : Obligations.SettlesAndRestorations := by
  unfold Obligations.SettlesAndRestorations
  refine ⟨?_, fun image => ⟨restoration_length image, fun _ => restoration_origin, restoration_restores image⟩⟩
  intro s x done y now timed
  refine ⟨fun h => ?_, fun h r e => ?_, fun h r e => ?_⟩
  · have same : settleExpiry x s = s := if_neg fun k => h.elim (fun h => h k.1) fun h => by
      rw [show s.glc[x].settleRunning = false from h] at k; exact nomatch k.2
    show stepDone (settleExpiry x s) = _
    rw [same]; exact stepDone_of_noResetDue done
  · have eq := settleExpiry_eq (s := s) h r (y := { y with settleRunning := false }) rfl (timed := timed) rfl
    rw [if_neg (by rw [show s.glc[x].seen = false from e]; exact nofun)] at eq
    show stepDone (settleExpiry x s) = _
    rw [eq]; exact stepDone_of_noResetDue done
  · intro z
    have eq := settleExpiry_eq (s := s) h r (y := { y with settleRunning := false }) rfl (timed := timed) rfl
    rw [if_pos e, toLive_eq (s := timed) h (y := { y with settleRunning := false }) h (z := z) rfl] at eq
    show stepDone (settleExpiry x s) = _
    rw [eq]
    refine stepDone_of_noResetDue ?_
    rw [noted_eq]; exact done

end Sys2Proof.Machine

/-!
The sets of a LIVE satellite are converted (R112, R113, R128 to R133).
-/
namespace Sys2Proof.Machine

/-! ### The channels after a set -/

/-- A channel that a set of its slot converts. -/
def State.isMeasured (s : State) (x : Fin 4) (c : Fin 64) : Bool := decide (c ∈ slotChans x) && s.stp.chans[c].cfg.enabled

/-- A channel after a set of a slot. -/
def State.measured (s : State) (x : Fin 4) (ans : SatAnswer) (c : Fin 64) : Chan :=
  if s.isMeasured x c then s.stp.chans[c].converted (s.chanTemp s.stp.chans[c].cfg) ans.set[chanInput c] else s.stp.chans[c]

/-- STRAIN_LIMIT of a channel after a set of a slot. -/
def State.limitAfter (s : State) (x : Fin 4) (ans : SatAnswer) (c : Fin 64) : Bool :=
  if s.isMeasured x c then
    s.stp.chans[c].limited (s.chanTemp s.stp.chans[c].cfg) ans.set[chanInput c] (s.raised (.strainLimit c))
  else s.raised (.strainLimit c)

/-- The zeroings that a set ends. -/
def State.zeroings (s : State) (x : Fin 4) (ans : SatAnswer) : List Notice :=
  (slotChans x).flatMap fun c =>
    if s.stp.chans[c].cfg.enabled then s.zeroDone c s.stp.chans[c] ans.set[chanInput c] else []

/-- An outcome in which the set is converted and the slot has not moved since. -/
structure SlotOutcome.Measured (o : SlotOutcome) (s : State) (x : Fin 4) (ans : SatAnswer) : Prop where
  limit : o.limit = s.limitAfter x ans
  notes : o.notes.filter (Notice.is .zeroDone) = s.zeroings x ans
  chans : ∀ c : Fin 64, o.chans[c] = s.measured x ans c

/-- An outcome in which the set is converted; the slot has left LIVE, or not. -/
structure SlotOutcome.Converts (o : SlotOutcome) (s : State) (x : Fin 4) (ans : SatAnswer) : Prop where
  limit : o.limit = s.limitAfter x ans
  notes : o.notes.filter (Notice.is .zeroDone) = s.zeroings x ans
  chans : ∀ c : Fin 64, o.chans[c] = if o.slot.state = .live ∨ c ∉ slotChans x then s.measured x ans c
    else { s.measured x ans c with zeroing := none }

theorem filter_zeroDone_slotNotes (s : State) (x : Fin 4) (cause : SatCause) (y : Sat) :
    (s.slotNotes x cause y).filter (Notice.is .zeroDone) = [] :=
  List.filter_eq_nil_iff.2 fun n hn => by
    unfold Notice.is
    rcases slotNotes_kind hn with k | k <;> rw [k] <;> exact nofun

theorem measured_converted {o : SlotOutcome} {s : State} (x : Fin 4) (ans : SatAnswer) (chans : o.chans = s.stp.chans)
    (limit : o.limit = fun c => s.raised (.strainLimit c)) (notes : o.notes.filter (Notice.is .zeroDone) = []) :
    (o.converted s (slotChans x) ans.set).Measured s x ans where
  limit := by
    funext c
    show (if o.takes (slotChans x) c then _ else _) = _
    unfold SlotOutcome.takes
    rw [limit, chans]
    rfl
  notes := by
    show (o.notes ++ (slotChans x).flatMap _).filter _ = _
    rw [List.filter_append, notes, List.nil_append, chans]
    refine List.filter_eq_self.2 fun n hn => ?_
    obtain ⟨c, -, h⟩ := List.mem_flatMap.1 hn
    split at h
    · unfold Notice.is; rw [zeroDone_kind h]; rfl
    · simp at h
  chans c := by
    rw [SlotOutcome.converted_chan]
    unfold SlotOutcome.takes
    rw [chans]
    rfl

section

variable {o : SlotOutcome} {s : State} {x : Fin 4} {ans : SatAnswer} (h : o.Measured s x ans)
include h

theorem SlotOutcome.Measured.converts (live : o.slot.state = .live) : o.Converts s x ans :=
  ⟨h.limit, h.notes, fun c => (h.chans c).trans (if_pos (.inl live)).symm⟩

theorem SlotOutcome.Measured.leaves (live : o.slot.state = .live) (cause : SatCause) {y : Sat} (hy : y.state ≠ .live) :
    (o.change s x cause y).Converts s x ans where
  limit := h.limit
  notes := by
    show (o.notes ++ _).filter _ = _
    rw [List.filter_append, filter_zeroDone_slotNotes, List.append_nil, h.notes]
  chans c := by
    show (if o.slot.state = .live ∧ y.state ≠ .live then failed (slotChans x) o.chans else o.chans)[c] = _
    rw [if_pos ⟨live, hy⟩, failed_get, h.chans]
    by_cases k : c ∈ slotChans x
    · rw [if_pos k, if_neg (by rintro (l | l); exacts [hy l, l k])]
    · rw [if_neg k, if_pos (.inr k)]

theorem SlotOutcome.Measured.told {y : Sat} {l : List Notice} (hl : l.filter (Notice.is .zeroDone) = []) :
    ({ o.become y with notes := o.notes ++ l } : SlotOutcome).Measured s x ans :=
  ⟨h.limit, by show (o.notes ++ l).filter _ = _; rw [List.filter_append, hl, List.append_nil, h.notes], h.chans⟩

theorem SlotOutcome.Measured.freshOrInvalid (live : o.slot.state = .live) : (o.freshOrInvalid s x ans).Converts s x ans := by
  unfold SlotOutcome.freshOrInvalid
  split
  · exact h.leaves live .fresh (y := (o.slot.restoreFromImage false).settles s.clock.now) nofun
  · split
    · exact h.leaves live .invalid (y := o.slot.settles s.clock.now) nofun
    · exact h.converts live

theorem SlotOutcome.Measured.effect (live : o.slot.state = .live) (e : AnswerEffect) : (o.effect s x ans true e).Converts s x ans := by
  unfold SlotOutcome.effect
  cases e with
  | accepted e => exact h.leaves live .config (y := (o.slot.accept e).settles s.clock.now) nofun
  | rejected e =>
    refine (h.told (l := [s.rejection x e]) rfl).freshOrInvalid ?_
    exact (Sat.removeEntry_state e o.slot).trans live
  | resetDone => exact h.leaves live .resetDone (y := (o.slot.restoreFromImage true).settles s.clock.now) nofun
  | none =>
    dsimp only
    rw [Bool.or_true, if_pos rfl]
    exact h.freshOrInvalid live

end

theorem chans_change {o : SlotOutcome} {s : State} {x : Fin 4} (h : o.slot.state ≠ .live) (cause : SatCause) (y : Sat) :
    (o.change s x cause y).chans = o.chans := if_neg fun k => h k.1

/-- A valid set of a LIVE slot. -/
theorem answer_converts {s : State} {x : Fin 4} {ans : SatAnswer} (live : s.glc[x].state = .live) (valid : ans.valid = true) :
    (s.answer x ans).Converts s x ans := by
  obtain ⟨o, ho⟩ : ∃ o, o = (s.outcome x).become (s.glc[x].heard ans) := ⟨_, rfl⟩
  have state : o.slot.state = .live := by rw [ho]; exact live
  have measured : (o.converted s (slotChans x) ans.set).Measured s x ans := by
    refine measured_converted x ans ?_ ?_ ?_ <;> rw [ho] <;> rfl
  unfold State.answer
  rw [if_pos (.inr live), ← ho]
  unfold SlotOutcome.answered
  rw [if_pos ⟨state, valid⟩, decide_eq_true state]
  refine measured.effect ?_ _
  rw [SlotOutcome.converted_slot]; exact state

/-- The set that ends a settle, where nothing of the slot is pending. -/
theorem settleSet_converts {o : SlotOutcome} {s : State} {x : Fin 4} {ans : SatAnswer} (valid : ans.valid = true)
    (idle : o.slot.idle = true) (settling : o.slot.state = .settling) (ended : o.slot.settleRunning = false) (chans : o.chans = s.stp.chans)
    (limit : o.limit = fun c => s.raised (.strainLimit c)) (notes : o.notes.filter (Notice.is .zeroDone) = []) :
    (o.settleSet s x ans).Converts s x ans ∧ (o.settleSet s x ans).slot.state = .live := by
  have eq : o.settleSet s x ans = ((o.become { o.slot with seen := true }).change s x .settled
      { o.slot.dropSettle with state := .live }).converted s (slotChans x) ans.set := by
    unfold SlotOutcome.settleSet
    rw [if_pos ⟨valid, idle⟩, ended, if_neg Bool.false_ne_true]
  rw [eq]
  have live : (((o.become { o.slot with seen := true }).change s x .settled { o.slot.dropSettle with state := .live }).converted s
      (slotChans x) ans.set).slot.state = .live := by rw [SlotOutcome.converted_slot]; rfl
  refine ⟨SlotOutcome.Measured.converts ?_ live, live⟩
  refine measured_converted x ans ?_ limit ?_
  · refine (chans_change (o := o.become { o.slot with seen := true }) ?_ ..).trans chans
    exact fun k => nomatch settling.symm.trans k
  · show (o.notes ++ _).filter _ = _
    rw [List.filter_append, filter_zeroDone_slotNotes, notes]; rfl

/-- The set of an answer that ends a settle. -/
theorem answer_settles {s : State} {x : Fin 4} {ans : SatAnswer} (valid : ans.valid = true)
    (h : (s.glc[x].state = .settling ∧ s.glc[x].settleRunning = false) ∨
      ((s.glc[x].state = .seeking ∨ s.glc[x].state = .lost) ∧ s.glc[x].settleMs = 0))
    (idle : s.glc[x].posted = [] ∧ s.glc[x].restore = [] ∧ s.glc[x].inFlight = none ∧ s.glc[x].draining = false)
    (stale : ans.fresh = false ∨ restoration s.glc[x].image = []) :
    (s.answer x ans).Converts s x ans ∧ (s.answer x ans).slot.state = .live := by
  obtain ⟨o, ho⟩ : ∃ o, o = (s.outcome x).become (s.glc[x].heard ans) := ⟨_, rfl⟩
  have old {y : Sat} (image : y.image = s.glc[x].image) : ¬y.freshRestart ans.fresh = true := fun k => by
    obtain ⟨f, i, -⟩ := Sat.freshRestart_iff.1 k
    rw [image] at i
    rcases stale with e | e
    · rw [e] at f; exact nomatch f
    · exact i e
  have quiet : ¬(s.glc[x].state = .live) := by rcases h with ⟨h, -⟩ | ⟨h | h, -⟩ <;> rw [h] <;> exact nofun
  have slot : o.slot = s.glc[x].heard ans := by rw [ho]; rfl
  have state : o.slot.state = s.glc[x].state := by rw [slot]; rfl
  have idle' : o.slot.idle = true := by rw [slot]; exact Sat.idle_iff.2 idle
  rcases h with ⟨h, ended⟩ | ⟨h, zero⟩
  · have eq : s.answer x ans = o.settleSet s x ans := by
      have none : o.slot.effect s.glc[x].carried ans = .none := by
        unfold Sat.effect
        rw [slot, show (s.glc[x].heard ans).inFlight = none from idle.2.2.1]
        cases s.glc[x].carried <;> rfl
      unfold State.answer
      rw [if_pos (.inl h), ← ho]
      unfold SlotOutcome.answered
      rw [if_neg fun k => quiet (state ▸ k.1), none]
      unfold SlotOutcome.effect
      dsimp only
      rw [decide_eq_false fun k => quiet (state ▸ k), Bool.or_false, if_neg (old (by rw [slot]; rfl))]
    rw [eq]
    refine settleSet_converts valid idle' (state.trans h) (by rw [slot]; exact ended) ?_ ?_ ?_ <;> rw [ho] <;> rfl
  · have na : ¬(s.glc[x].state = .settling ∨ s.glc[x].state = .live) := by rcases h with h | h <;> rw [h] <;> decide
    have eq : s.answer x ans = (o.change s x .answer (o.slot.settles s.clock.now)).settleSet s x ans := by
      unfold State.answer
      rw [if_neg na, ← ho]
      unfold SlotOutcome.returned
      dsimp only
      rw [if_neg fun k => by rw [slot] at k; exact nomatch idle.2.2.1.symm.trans k.2]
      exact if_neg (old (by show o.slot.image = _; rw [slot]; rfl))
    rw [eq]
    refine settleSet_converts valid idle' rfl ?_ ?_ ?_ ?_
    · show decide (o.slot.settleMs ≠ 0) = false
      rw [slot]; exact decide_eq_false fun k => k zero
    · rw [chans_change fun k => quiet (state ▸ k), ho]; rfl
    · rw [ho]; rfl
    · show (o.notes ++ _).filter _ = _
      rw [List.filter_append, filter_zeroDone_slotNotes, ho]; rfl

/-! ### Values (R129, R130, R132) -/

/-- The thermal output at a channel's temperature slot. -/
def State.thermal (s : State) (y : Chan) : Int :=
  match y.cfg.tempSlot with
  | none => 0
  | some k => if s.axs[k].fn = .temperature then roundDiv (y.cfg.coeff * (s.axs[k].value - y.cfg.t0)) 100 else 0

theorem strain_eq (s : State) (y : Chan) (raw : Int) : y.strain (s.chanTemp y.cfg) raw =
    roundDiv ((match y.cfg.bridge with | .quarter => 4 | .half => 2 | .full => 1) * (raw - y.cfg.zero) * 100) y.cfg.gauge -
      s.thermal y := by
  unfold Chan.strain rawStrain State.chanTemp State.thermal Bridge.factor
  dsimp only
  cases y.cfg.tempSlot with
  | none => exact (Int.sub_zero _).symm
  | some k =>
    dsimp only
    by_cases h : s.axs[k].fn = .temperature
    · rw [if_pos h, if_pos h] <;> rfl
    · rw [if_neg h, if_neg h]; exact (Int.sub_zero _).symm

/-- The channel after a conversion, field by field. -/
theorem Chan.converted_eq (y : Chan) (temp : Option Int) (raw : Int) {e v : Int} (he : y.strain temp raw = e)
    (hv : v = max (-300000) (min 300000 e)) : y.converted temp raw = { y with
      value := v, lastRaw := raw, overrange := decide (e < -300000 ∨ 300000 < e)
      zeroing := (y.converted temp raw).zeroing
      cfg := (y.converted temp raw).cfg } := by
  have reading : y.reading temp raw = v := by
    rw [Chan.reading, he, clamp_eq_max_min_int (by decide), hv]
  have beyond : decide (v ≠ e) = decide (e < -300000 ∨ 300000 < e) := by
    rw [decide_eq_decide, hv]; omega
  have fields (u : Chan) : (u.zeroed raw).value = u.value ∧ (u.zeroed raw).lastRaw = u.lastRaw ∧ (u.zeroed raw).overrange = u.overrange := by
    unfold Chan.zeroed
    cases u.zeroing with
    | none => exact ⟨rfl, rfl, rfl⟩
    | some z =>
      dsimp only
      split <;> exact ⟨rfl, rfl, rfl⟩
  obtain ⟨value, last, overrange⟩ := fields { y with
    value := y.reading temp raw, lastRaw := raw, overrange := decide (y.reading temp raw ≠ y.strain temp raw) }
  have first : (y.converted temp raw).value = v := value.trans reading
  have second : (y.converted temp raw).lastRaw = raw := last
  have third : (y.converted temp raw).overrange = decide (e < -300000 ∨ 300000 < e) := overrange.trans (by
    dsimp only; rw [reading, he, beyond])
  obtain ⟨u, hu⟩ : ∃ u, u = y.converted temp raw := ⟨_, rfl⟩
  rw [← hu] at first second third ⊢
  calc u = ⟨u.cfg, u.value, u.lastRaw, u.overrange, u.zeroing⟩ := rfl
    _ = _ := by rw [first, second, third]

/-- The new value of a channel whose slot stays LIVE, or leaves it. -/
theorem Chan.converted_kept {y : Chan} {temp : Option Int} {raw : Int} {live : Prop} [Decidable live] {e v : Int}
    (he : y.strain temp raw = e) (hv : v = max (-300000) (min 300000 e)) :
    (if live then y.converted temp raw else { y.converted temp raw with zeroing := none }) = { y with
      value := v, lastRaw := raw, overrange := decide (e < -300000 ∨ 300000 < e)
      zeroing := (match y.zeroing with
        | none => none
        | some (n, sum) => if n < 15 ∧ live then some (n + 1, sum + raw) else none)
      cfg := { y.cfg with zero := (match y.zeroing with
        | none => y.cfg.zero
        | some (n, sum) => if n < 15 then y.cfg.zero else roundDiv (sum + raw) 16) } } := by
  rw [y.converted_eq temp raw he hv, Chan.converted_zeroing, Chan.converted_zero]
  cases y.zeroing with
  | none => exact ite_self _
  | some m =>
    obtain ⟨n, sum⟩ := m
    dsimp only
    by_cases l : live
    · simp only [l, and_true, if_true]
    · simp only [l, and_false, if_false]

theorem Chan.limited_eq {y : Chan} {temp : Option Int} {raw : Int} (standing : Bool) {e v : Int} (he : y.strain temp raw = e)
    (hv : v = max (-300000) (min 300000 e)) : y.limited temp raw standing =
      if y.cfg.high < v ∨ v < y.cfg.low then true
      else if y.cfg.low + y.cfg.hyst ≤ v ∧ v ≤ y.cfg.high - y.cfg.hyst then false else standing := by
  have reading : y.reading temp raw = v := by
    rw [Chan.reading, he, clamp_eq_max_min_int (by decide), hv]
  unfold Chan.limited judgeBand
  rw [reading]

theorem mem_slotChans {x : Fin 4} {c : Fin 64} : c ∈ slotChans x ↔ c.val / 16 = x.val := by
  rw [slotChans_eq]; simp

/-- The notices of zeroings that end are those of the outcome. -/
theorem State.Brings.zeroDones {s t : State} {x : Fin 4} {o : SlotOutcome} (h : s.Brings x t o) :
    Forms s t (Notice.is .zeroDone) (o.notes.filter (Notice.is .zeroDone)) := by
  obtain ⟨all, hall, noted⟩ := h.notes
  refine ⟨all, ?_, noted⟩
  rw [← hall, List.filter_filter]
  refine List.filter_congr fun n _ => ?_
  unfold Notice.is
  cases n.kind <;> rfl

theorem zeroingDue_iff {c : Fin 64} {ans : SatAnswer} {s : State} : zeroingDue c ans s = true ↔
    answerTaken (chanSlot c) ans s = true ∧ s.glc[chanSlot c].state = .live ∧ ans.valid = true ∧ s.stp.chans[c].cfg.enabled = true ∧
      ∃ n sum, s.stp.chans[c].zeroing = some (n, sum) ∧ 15 ≤ n := by
  unfold zeroingDue
  dsimp only
  rw [Bool.and_eq_true, Bool.and_eq_true, Bool.and_eq_true, Bool.and_eq_true, decide_eq_true_eq, and_assoc, and_assoc, and_assoc]
  refine and_congr_right' (and_congr_right' (and_congr_right' (and_congr_right' ?_)))
  cases s.stp.chans[c].zeroing with
  | none => exact ⟨nofun, fun ⟨_, _, h, _⟩ => nomatch h⟩
  | some m =>
    refine decide_eq_true_iff.trans ⟨fun h => ⟨m.1, m.2, rfl, h⟩, ?_⟩
    rintro ⟨n, sum, h, k⟩
    obtain rfl := Option.some.inj h
    exact k

/-- Settles O46. -/
theorem liveSetsAreConverted : Obligations.LiveSetsAreConverted := by
  unfold Obligations.LiveSetsAreConverted
  intro s x ans settled adv ha late valid slot settles h
  obtain ⟨ev, pending⟩ := settled
  have present : s.glc[x].state ≠ .absent := by
    rcases h with h | ⟨⟨h, -⟩ | ⟨h | h, -⟩, -⟩ <;> exact fun k => nomatch h.symm.trans k
  have brings := answer_brings present ha late ev adv
  obtain ⟨o, ho⟩ : ∃ o, o = s.answer x ans := ⟨_, rfl⟩
  rw [← ho] at brings
  have lives : settles → o.slot.state = .live := by
    rintro ⟨ended, posted, restore, inFlight, draining, stale⟩
    rw [ho]
    exact (answer_settles valid ended ⟨posted, restore, inFlight, draining⟩ stale).2
  have converts : o.Converts s x ans := by
    rcases h with h | ⟨ended, posted, restore, inFlight, draining, stale⟩
    · rw [ho]; exact answer_converts h valid
    · rw [ho]; exact (answer_settles valid ended ⟨posted, restore, inFlight, draining⟩ stale).1
  have exec' : stepDone (takeAnswer x ans s) = .next (takeAnswer x ans s) :=
    stepDone_of_noResetDue (.inl (by rw [brings.stc]; exact pending))
  have quiet : stepDone s = .next s := stepDone_of_noResetDue (.inl pending)
  obtain ⟨t, ht⟩ : ∃ t, t = takeAnswer x ans s := ⟨_, rfl⟩
  rw [← ht] at brings exec'
  have state : t.glc[x].state = o.slot.state := by rw [brings.slot]
  have chans (c : Fin 64) : t.stp.chans[c] = if t.glc[x].state = .live ∨ c ∉ slotChans x then s.measured x ans c
      else { s.measured x ans c with zeroing := none } := by
    rw [state, ← converts.chans c, brings.chans]
  have limit (c : Fin 64) : t.raised (.strainLimit c) = s.limitAfter x ans c := by rw [brings.limit, converts.limit]
  refine ⟨t, by rw [← exec', ht]; rfl, fun k => state.trans (lives k), brings.rest, fun a => (brings.moved.state a).trans rfl, ?_, fun c => ?_⟩
  · have told := brings.zeroDones
    rw [converts.notes] at told
    refine (congrArg (Forms s t (Notice.is .zeroDone)) ?_).mp told
    unfold State.zeroings
    rw [slotChans_eq]
    refine List.flatMap_congr fun c hc => ?_
    have mem : c ∈ slotChans x := by rw [slotChans_eq]; exact hc
    have zero : t.stp.chans[c].cfg.zero = (s.measured x ans c).cfg.zero := by rw [chans]; split <;> rfl
    unfold State.zeroDone
    rw [zero]
    cases hz : s.stp.chans[c].zeroing with
    | none => exact ite_self _
    | some m =>
      obtain ⟨n, sum⟩ := m
      by_cases he : s.stp.chans[c].cfg.enabled = true
      · have is : s.isMeasured x c = true := by rw [State.isMeasured, decide_eq_true mem, he]; rfl
        rw [if_pos he]
        dsimp only
        by_cases k : n + 1 < 16
        · rw [if_pos k, if_neg (by omega)]
        · have new : (s.measured x ans c).cfg.zero = roundDiv (sum + ans.set[chanInput c]) 16 := by
            rw [State.measured, if_pos is, Chan.converted_zero, hz]
            exact if_neg (by omega)
          rw [if_neg k, if_pos ⟨he, by omega⟩, new]
      · rw [if_neg he]
        exact (if_neg fun k => he k.1).symm
  · intro y
    refine ⟨fun hc => ?_, fun hc hd => ?_, fun hc => ?_, fun hc he raw hraw => ?_⟩
    · have out : c ∉ slotChans x := fun k => hc (mem_slotChans.1 k)
      rw [chans, if_pos (.inr out), State.measured, State.isMeasured, decide_eq_false out]
      rfl
    · have measured : s.measured x ans c = y := by
        rw [State.measured, State.isMeasured, show s.stp.chans[c].cfg.enabled = false from hd, Bool.and_false]
        rfl
      rw [chans, measured]
      by_cases l : t.glc[x].state = .live
      · rw [if_pos (.inl l), if_pos l]
      · rw [if_neg (by rintro (k | k); exacts [l k, k (mem_slotChans.2 hc)]), if_neg l]
    · rw [limit, State.limitAfter, if_neg]
      unfold State.isMeasured
      rw [Bool.and_eq_true, decide_eq_true_eq, mem_slotChans]
      rintro ⟨k, e⟩
      exact hc.elim (fun hc => hc k) fun d => nomatch (show s.stp.chans[c].cfg.enabled = false from d).symm.trans e
    · have mem : c ∈ slotChans x := mem_slotChans.2 hc
      have is : s.isMeasured x c = true := by
        rw [State.isMeasured, decide_eq_true mem, show s.stp.chans[c].cfg.enabled = true from he]; rfl
      have hset : ans.set[chanInput c] = raw := by
        have := Vector.getElem?_eq_some_iff.1 hraw
        exact this.2
      have at' : chanSlot c = x := Fin.ext hc
      have undue (h : ¬zeroingDue c ans s = true) :
          stepDone (if zeroingDue c ans s then takeAnswer (chanSlot c) ans s else s) = .next s := by
        rw [if_neg h]; exact quiet
      intro factor thermal strain v
      have hs : y.strain (s.chanTemp y.cfg) raw = strain := strain_eq s y raw
      refine ⟨?_, ?_, fun n sum hz hn live => ?_, fun n sum hz hn => ?_, fun hz => ?_⟩
      · rw [chans, State.measured, if_pos is, hset]
        exact (if_congr (or_iff_left fun k => k mem) rfl rfl).trans (Chan.converted_kept (live := t.glc[x].state = .live) hs rfl)
      · rw [limit, State.limitAfter, if_pos is, hset, Chan.limited_eq _ hs rfl]
      · have taken : answerTaken x ans s = true := by
          unfold answerTaken
          rw [late, ha, decide_eq_true present]; rfl
        have due : zeroingDue c ans s = true := zeroingDue_iff.2 ⟨at' ▸ taken, at' ▸ live, valid, he, n, sum, hz, hn⟩
        show stepDone (if zeroingDue c ans s then takeAnswer (chanSlot c) ans s else s) = _
        rw [due, if_pos rfl, at', ← ht]
        exact exec'
      · refine undue fun k => ?_
        obtain ⟨-, -, -, -, n', sum', h, k⟩ := zeroingDue_iff.1 k
        cases hz.symm.trans h
        omega
      · refine undue fun k => ?_
        obtain ⟨-, -, -, -, n', sum', h, -⟩ := zeroingDue_iff.1 k
        exact nomatch hz.symm.trans h

end Sys2Proof.Machine

/-!
CH_CONFIG and CH_ZERO (R3, R127, R130, R131, R133).
-/
namespace Sys2Proof.Machine

/-! ### CH_CONFIG (R127) -/

theorem Bridge.ofCode_code (x : Bridge) : Bridge.ofCode x.code = some x := by cases x <;> rfl

theorem Bridge.code_inj {a b : Bridge} : a.code = b.code ↔ a = b := by cases a <;> cases b <;> decide

/-- A byte of a four-byte field, from the highest. -/
theorem ChanConfig.bytes_eq (c : ChanConfig) (pre : Byte) : [pre] ++ c.bytes =
    [pre, BitVec.ofInt 8 (if c.enabled then 1 else 0), BitVec.ofInt 8 c.bridge.code, BitVec.ofInt 8 (c.gauge / 256),
      BitVec.ofInt 8 c.gauge, BitVec.ofInt 8 (c.zero / 65536 / 256), BitVec.ofInt 8 (c.zero / 65536),
      BitVec.ofInt 8 (c.zero / 256), BitVec.ofInt 8 c.zero, BitVec.ofInt 8 (optCode c.tempSlot), BitVec.ofInt 8 (c.t0 / 256),
      BitVec.ofInt 8 c.t0, BitVec.ofInt 8 (c.coeff / 256), BitVec.ofInt 8 c.coeff, BitVec.ofInt 8 (c.high / 65536 / 256),
      BitVec.ofInt 8 (c.high / 65536), BitVec.ofInt 8 (c.high / 256), BitVec.ofInt 8 c.high,
      BitVec.ofInt 8 (c.low / 65536 / 256), BitVec.ofInt 8 (c.low / 65536), BitVec.ofInt 8 (c.low / 256),
      BitVec.ofInt 8 c.low, BitVec.ofInt 8 (c.hyst / 65536 / 256), BitVec.ofInt 8 (c.hyst / 65536),
      BitVec.ofInt 8 (c.hyst / 256), BitVec.ofInt 8 c.hyst] := by
  delta ChanConfig.bytes
  simp only [putOpt_eq, put1, put2, put4, putFlag, List.cons_append, List.nil_append]

section

variable {p : List Byte} {c : Fin 64} {x : ChanConfig} (h : x.valid) (hp : p = [BitVec.ofInt 8 c.val] ++ x.bytes)
include h hp

theorem chanConfigOf_bytes : chanConfigOf p = some x := by
  rw [ChanConfig.bytes_eq] at hp
  obtain ⟨g1, g2, z1, z2, t1, t2, k1, k2, l1, l2, l3, y1, y2⟩ := h
  have f1 : u8 p 1 = x.enabled.toNat := by rw [hp]; exact u8_flag rfl
  have f2 : u8 p 2 = x.bridge.code := by rw [hp]; exact u8_nat rfl (by cases x.bridge <;> decide)
  have f3 : (u16 p 3 : Int) = x.gauge := by rw [hp]; exact u16_int ⟨rfl, rfl⟩ (by omega) (by omega)
  have f5 : s32 p 5 = x.zero := by rw [hp]; exact s32_of ⟨⟨rfl, rfl⟩, rfl, rfl⟩ (by omega) (by omega)
  have f9 : u8 p 9 = optCode x.tempSlot := by rw [hp]; exact u8_nat rfl (optCode_lt (by decide) _)
  have f10 : s16 p 10 = x.t0 := by rw [hp]; exact s16_of ⟨rfl, rfl⟩ (by omega) (by omega)
  have f12 : s16 p 12 = x.coeff := by rw [hp]; exact s16_of ⟨rfl, rfl⟩ (by omega) (by omega)
  have f14 : s32 p 14 = x.high := by rw [hp]; exact s32_of ⟨⟨rfl, rfl⟩, rfl, rfl⟩ (by omega) (by omega)
  have f18 : s32 p 18 = x.low := by rw [hp]; exact s32_of ⟨⟨rfl, rfl⟩, rfl, rfl⟩ (by omega) (by omega)
  have f22 : (u32 p 22 : Int) = x.hyst := by rw [hp, u32_of ⟨⟨rfl, rfl⟩, rfl, rfl⟩]; omega
  unfold chanConfigOf
  rw [f1, f2, f9, flagOf_toNat, Bridge.ofCode_code, optIndexOf_optCode (by decide)]
  dsimp only
  rw [f3, f5, f10, f12, f14, f18, f22]
  refine if_pos ?_
  simp only [inRange, Bool.and_eq_true, decide_eq_true_eq]
  omega

omit h in
theorem chanStructural_bytes (s : State) : (!chanStructural p s) = decide (x.enabled = s.stp.chans[c].cfg.enabled ∧
    x.bridge = s.stp.chans[c].cfg.bridge ∧ x.tempSlot = s.stp.chans[c].cfg.tempSlot) := by
  rw [ChanConfig.bytes_eq] at hp
  have f0 : u8 p 0 = c.val := by rw [hp]; exact u8_nat rfl (by omega)
  have f1 : u8 p 1 = x.enabled.toNat := by rw [hp]; exact u8_flag rfl
  have f2 : u8 p 2 = x.bridge.code := by rw [hp]; exact u8_nat rfl (by cases x.bridge <;> decide)
  have f9 : u8 p 9 = optCode x.tempSlot := by rw [hp]; exact u8_nat rfl (optCode_lt (by decide) _)
  have flag (x y : Bool) : (x.toNat ≠ if y = true then 1 else 0) ↔ x ≠ y := by cases x <;> cases y <;> decide
  have eq : chanStructural p s = (decide (x.enabled ≠ s.stp.chans[c].cfg.enabled) || decide (x.bridge ≠ s.stp.chans[c].cfg.bridge) ||
      decide (x.tempSlot ≠ s.stp.chans[c].cfg.tempSlot)) := by
    have bridge : x.bridge.code ≠ s.stp.chans[c].cfg.bridge.code ↔ x.bridge ≠ s.stp.chans[c].cfg.bridge := not_congr Bridge.code_inj
    unfold chanStructural
    rw [f0, indexOf_val]
    dsimp only
    rw [f1, f2, f9, decide_eq_decide.2 (flag ..), decide_eq_decide.2 bridge]
    congr 1
    cases s.stp.chans[c].cfg.tempSlot with
    | none => exact decide_eq_decide.2 (not_congr (optCode_inj (by decide) (b := none)))
    | some k => exact decide_eq_decide.2 (not_congr (optCode_inj (by decide) (b := some k)))
  rw [eq, Bool.eq_iff_iff]
  simp [and_assoc]

theorem chConfigBody_bytes (s : State) : chConfigBody p s =
    .test (decide (s.stc.mode = .setup) || decide (x.enabled = s.stp.chans[c].cfg.enabled ∧
      x.bridge = s.stp.chans[c].cfg.bridge ∧ x.tempSlot = s.stp.chans[c].cfg.tempSlot)) .mode
      (.ok x.bytes (storeChan c x s)) := by
  have f0 : u8 p 0 = c.val := by rw [hp, ChanConfig.bytes_eq]; exact u8_nat rfl (by omega)
  rw [chConfigBody, chanStructural_bytes hp, f0, Answer.get_some (indexOf_val c), Answer.get_some (chanConfigOf_bytes h hp)]

end

theorem modChan_eq (c : Fin 64) (f : Chan → Chan) (s : State) :
    s.modChan c f = { s with stp := { s.stp with chans := s.stp.chans.set c (f s.stp.chans[c]) } } := rfl

theorem queued_replies (x : Link) (l : List Notice) : (x.queued l).replies = x.replies := by
  obtain ⟨n, b, h⟩ := x.queued_rest l
  rw [h]

/-- A channel that is disabled. -/
theorem storeChan_disabled {c : Fin 64} {x : ChanConfig} (h : x.enabled = false) {s u v : State}
    (hu : u = { s with stp := { s.stp with chans := s.stp.chans.set c { s.stp.chans[c] with cfg := x } } })
    (hv : v = { s with stp := { s.stp with chans := s.stp.chans.set c { s.stp.chans[c] with cfg := x, zeroing := none } } }) :
    storeChan c x s = lower (.strainLimit c) (v.noted (u.zeroFailed c 1)) := by
  have first : (s.modChan c fun y => { y with cfg := x }) = u := by rw [hu]; rfl
  have now : u.stp.chans[c] = { s.stp.chans[c] with cfg := x } := by rw [hu]; exact Vector.getElem_set_self ..
  have second : (u.modChan c fun y => { y with zeroing := none }) = v := by
    rw [modChan_eq, now, hv, hu]
    exact congrArg (fun w : Vector Chan 64 => ({ s with stp := { s.stp with chans := w } } : State)) (Vector.set_set ..)
  unfold storeChan
  dsimp only
  rw [first, h, if_neg Bool.false_ne_true, failZeroing_eq, second]

theorem storeChan_enabled {c : Fin 64} {x : ChanConfig} (h : x.enabled = true) (s : State) :
    storeChan c x s = { s with stp := { s.stp with chans := s.stp.chans.set c { s.stp.chans[c] with cfg := x } } } := by
  unfold storeChan
  dsimp only
  rw [h]; rfl

/-! ### CH_ZERO (R131) -/

/-- Channels, some of which start a zeroing. -/
def startedChans (started : Fin 64 → Bool) (v : Vector Chan 64) : Vector Chan 64 :=
  Vector.ofFn fun c => if started c then { v[c] with zeroing := some (0, 0) } else v[c]

/-- The state with zeroings of some channels started. -/
def State.withStarted (started : Fin 64 → Bool) (s : State) : State :=
  { s with stp := { s.stp with chans := startedChans started s.stp.chans } }

theorem withStarted_received (started : Fin 64 → Bool) (s : State) :
    s.received.withStarted started = (s.withStarted started).received := by
  unfold State.withStarted State.received State.modLink; exact Eq.refl _

/-- Zeroings of some channels start. -/
theorem startZeroings_eq (l : List (Fin 64)) (s : State) :
    l.foldl (fun s c => startZeroing c s) s = s.withStarted fun c => decide (c ∈ l) := by
  induction l generalizing s with
  | nil =>
    have : startedChans (fun c => decide (c ∈ [])) s.stp.chans = s.stp.chans := by
      apply Vector.ext
      intro i hi
      unfold startedChans
      rw [Vector.getElem_ofFn, if_neg (by simp)]; rfl
    rw [State.withStarted, this]; rfl
  | cons c l ih =>
    rw [List.foldl_cons, ih]
    have chans : (startZeroing c s).stp.chans = vmod s.stp.chans c fun y => { y with zeroing := some (0, 0) } := rfl
    refine congrArg (fun w : Vector Chan 64 => ({ s with stp := { s.stp with chans := w } } : State)) ?_
    apply Vector.ext
    intro i hi
    unfold startedChans
    rw [Vector.getElem_ofFn, Vector.getElem_ofFn]
    have get := vmod_get s.stp.chans c ⟨i, hi⟩ fun y => { y with zeroing := some (0, 0) }
    rw [← chans] at get
    rw [get]
    simp only [decide_eq_true_eq]
    by_cases e : c = ⟨i, hi⟩
    · subst e
      rw [if_pos rfl, if_pos List.mem_cons_self, ite_self]
    · rw [if_neg e]
      exact if_congr ⟨List.mem_cons_of_mem _, fun h => (List.mem_cons.1 h).resolve_left fun h => e h.symm⟩ rfl rfl

theorem chZeroBody_chan {p : List Byte} {c : Fin 64} {x : Fin 4} (hx : x.val = c.val / 16) (h0 : u8 p 0 = 0) (h1 : u8 p 1 = c.val)
    (s : State) : chZeroBody p s = .test s.glc[x].present (.refuse .refusedAbsent 65535)
      (.test s.stp.chans[c].cfg.enabled (.state c.val) (.test (s.glc[x].state = .live) (.state (x.val * 16))
        (.done { s with stp := { s.stp with chans := s.stp.chans.set c { s.stp.chans[c] with zeroing := some (0, 0) } } }))) := by
  obtain rfl : x = chanSlot c := Fin.ext hx
  rw [chZeroBody, h0, h1, Answer.get_some (indexOf_val c)]
  rfl

theorem chZeroBody_slot {p : List Byte} {x : Fin 4} (h0 : u8 p 0 = 1) (h1 : u8 p 1 = x.val) {s : State} (hp : s.glc[x].present = true)
    (hl : s.glc[x].state = .live) {started : Fin 64 → Bool}
    (hs : started = fun c => decide (c.val / 16 = x.val) && s.stp.chans[c].cfg.enabled) : chZeroBody p s =
      .test (!((List.finRange 64).filter started).isEmpty) (.state 65535) (.ok (put1 ((List.finRange 64).filter started).length) (s.withStarted started)) := by
  have list : ((slotChans x).filter fun c => s.stp.chans[c].cfg.enabled) = (List.finRange 64).filter started := by
    rw [slotChans_eq, List.filter_filter, hs]
    exact List.filter_congr fun c _ => Bool.and_comm _ _
  rw [chZeroBody, h0, h1, Answer.get_some (indexOf_val x), zeroSlot, list, Answer.test_of hp, Answer.test_of (decide_eq_true hl),
    startZeroings_eq]
  have mem : (fun c => decide (c ∈ (List.finRange 64).filter started)) = started := by
    funext c
    rw [Bool.eq_iff_iff, decide_eq_true_eq, List.mem_filter]
    exact and_iff_right (List.mem_finRange c)
  rw [mem]
  exact Eq.refl _

/-- Settles O47. -/
theorem channelCommandsStore : Obligations.ChannelCommandsStore := by
  unfold Obligations.ChannelCommandsStore
  refine ⟨?_, ?_, ?_⟩
  · intro f s c x ht hp hx y same u
    have body := chConfigBody_bytes hx hp s.received
    have allowed (h : s.stc.mode = .setup ∨ same) : chConfigBody f.payload s.received = .ok x.bytes (storeChan c x s.received) := by
      rw [body]
      refine Answer.test_of ?_ _ _
      rw [Bool.or_eq_true, decide_eq_true_eq, decide_eq_true_eq]; exact h
    refine ⟨fun hm hs => ?_, fun h => ⟨fun on => ?_, fun off => ?_⟩⟩
    · refine command_refused ht rfl (body.trans (Answer.test_of_not ?_ _ _))
      rw [Bool.or_eq_false_iff, decide_eq_false_iff_not, decide_eq_false_iff_not]
      exact ⟨hm, hs⟩
    · have store : storeChan c x s.received = u.received := storeChan_enabled on s.received
      exact command_taken ht rfl (store ▸ allowed h) ht.2.2.1
    · obtain ⟨v, hv⟩ : ∃ v : State, v = { s with stp := { s.stp with chans := s.stp.chans.set c { y with cfg := x, zeroing := none } } } :=
        ⟨_, rfl⟩
      obtain ⟨w, hw⟩ : ∃ w, w = lower (.strainLimit c) (v.noted (u.zeroFailed c 1)) := ⟨_, rfl⟩
      have store : storeChan c x s.received = w.received := by
        rw [storeChan_disabled off (s := s.received) (u := u.received) (v := v.received) rfl (by rw [hv]; rfl), hw, ← received_lower,
          noted_received]
        rfl
      have moved : (v.noted (u.zeroFailed c 1)).Moved w := by rw [hw]; exact (advised_lower _ _).toMoved
      rw [noted_eq] at moved
      have sli : w.sli = (s.noted (u.zeroFailed c 1)).sli := by rw [hw, lower_sli, noted_eq, noted_eq, hv]
      have stc : w.stc = s.stc := moved.stc.trans (by rw [hv])
      have stp : w.stp = v.stp := moved.stp
      refine ⟨_, command_taken ht rfl (store ▸ allowed h) (by rw [stc]; exact ht.2.2.1), ?_, ?_, fun a => ?_, ?_, ?_, ?_⟩
      · show w.raised _ = false
        rw [hw, lower_raised, if_pos rfl]
      · show w.stp = _
        rw [stp, hv]
      · show (w.act a).state = _
        rw [moved.state, hv]; rfl
      · exact repliedDone_answered ((by rw [sli, noted_eq, queued_replies])) ..
      · exact ⟨show w.sli.notices = _ by rw [sli], show w.sli.noticesLost = _ by rw [sli]⟩
      · obtain ⟨_, g, p, l, lost, rest⟩ := moved.rest
        rw [rest, hv]
        rfl
  · intro f s c x ht hx h0 h1
    have body := chZeroBody_chan hx h0 h1 s.received
    refine ⟨fun hp => ?_, fun hp => ⟨fun he => ?_, fun he => ⟨fun hl => ?_, fun hl => ?_⟩⟩⟩
    · exact command_refused ht rfl (body.trans (Answer.test_of_not hp _ _))
    · exact command_refused ht rfl (body.trans ((Answer.test_of hp _ _).trans (Answer.test_of_not he _ _)))
    · exact command_refused ht rfl (body.trans ((Answer.test_of hp _ _).trans ((Answer.test_of he _ _).trans
        (Answer.test_of_not (decide_eq_false hl) _ _))))
    · exact command_taken ht rfl (body.trans ((Answer.test_of hp _ _).trans ((Answer.test_of he _ _).trans
        (Answer.test_of (decide_eq_true hl) _ _)))) ht.2.2.1
  · intro f s x ht h0 h1 hp hl started
    have body := chZeroBody_slot h0 h1 (s := s.received) hp hl (started := started) rfl
    rw [withStarted_received] at body
    refine ⟨fun none => ?_, fun some => ?_⟩
    · refine command_refused ht rfl (body.trans (Answer.test_of_not ?_ _ _))
      rw [Bool.not_eq_false', List.isEmpty_iff, List.filter_eq_nil_iff]
      exact fun c _ => by rw [none c]; exact nofun
    · refine command_taken (u := s.withStarted started) ht rfl (body.trans (Answer.test_of ?_ _ _)) ht.2.2.1
      obtain ⟨c, hc⟩ := some
      rw [Bool.not_eq_true', List.isEmpty_eq_false_iff]
      exact List.ne_nil_of_mem (List.mem_filter.2 ⟨List.mem_finRange c, hc⟩)

end Sys2Proof.Machine

/-!
SNAP_LIST, SNAP_NOW, SNAP_FETCH and STIFF_REF (R136, R138 to R140, R143).
-/
namespace Sys2Proof.Machine

/-! ### SNAP_LIST (R136) -/

theorem firstDuplicate_none {l : List Nat} (h : l.Nodup) : firstDuplicate l = none := by
  induction l with
  | nil => rfl
  | cons x l ih =>
    obtain ⟨out, nodup⟩ := List.nodup_cons.1 h
    unfold firstDuplicate
    rw [if_neg (by rw [List.contains_iff_mem]; exact out)]
    exact ih nodup

/-- The bytes of some indexes, as numbers. -/
theorem map_toNat_indexes {n : Nat} (hn : n ≤ 256) (l : List (Fin n)) :
    (l.flatMap fun c => put1 c.val).map BitVec.toNat = l.map Fin.val := by
  induction l with
  | nil => rfl
  | cons c l ih =>
    rw [List.flatMap_cons, List.map_append, ih, List.map_cons]
    have : BitVec.toNat (BitVec.ofInt 8 c.val) = c.val := by
      rw [BitVec.toNat_ofInt]; omega
    show [BitVec.toNat (BitVec.ofInt 8 c.val)] ++ _ = _
    rw [this]; rfl

theorem filterMap_indexOf {n : Nat} (l : List (Fin n)) : (l.map Fin.val).filterMap (indexOf n) = l := by
  induction l with
  | nil => rfl
  | cons c l ih => rw [List.map_cons, List.filterMap_cons, indexOf_val, ih]

theorem snapListBody_eq {p : List Byte} {l : List (Fin 64)} (hp : p = put1 l.length ++ l.flatMap (fun c => put1 c.val))
    (hl : l.length ≤ 32) (nodup : l.Nodup) (s : State) :
    snapListBody p s = .ok p { s with stp := { s.stp with snapList := l } } := by
  have count : u8 p 0 = l.length := by rw [hp]; exact u8_nat rfl (by omega)
  have rest : (p.drop 1).map BitVec.toNat = l.map Fin.val := by
    rw [hp]; exact map_toNat_indexes (by decide) l
  unfold snapListBody
  dsimp only
  rw [rest, count, Answer.test_of (decide_eq_true (show l.length ≤ Config.snapListCap from hl)), Answer.test_of,
    firstDuplicate_none ((List.nodup_map_iff Fin.val_injective).2 nodup)]
  · dsimp only
    rw [filterMap_indexOf, ← hp]
    rfl
  · rw [List.all_eq_true]
    intro n hn
    obtain ⟨c, -, rfl⟩ := List.mem_map.1 hn
    exact decide_eq_true c.isLt

/-! ### SNAP_NOW, SNAP_FETCH (R138 to R140) -/

theorem offerSnap_room {s : State} (h : s.stp.snaps.length < 24) (r : Snapshot) :
    offerSnap r s = { s with stp := { s.stp with snaps := s.stp.snaps ++ [r] } } := by
  exact congrArg (fun x => ({ s with stp := x } : State)) (if_pos h)

theorem offerSnap_full {s : State} (h : ¬s.stp.snaps.length < 24) (r : Snapshot) :
    offerSnap r s = { s with stp := { s.stp with skipped := satAdd s.stp.skipped 1 255 } } := by
  exact congrArg (fun x => ({ s with stp := x } : State)) (if_neg h)

/-- A snapshot record, its stale flags read from the statuses. -/
theorem snapshot_eq (s : State) (kind : SnapKind) (t : Fin 8) (k : Option Nat) : s.snapshot kind t k =
    { kind := kind, track := t, cycles := s.psq.totalCycles, time := s.time, level := s.psq.levels[t]
      forces := s.trackForces t, deflection := s.trackDeflection t, stiffness := k
      strains := s.stp.snapList.map fun c =>
        { ch := c, value := s.stp.chans[c].value
          stale := decide (s.chanStatus c = .stale ∨ s.chanStatus c = .disabled) } } := by
  unfold State.snapshot
  simp only [Bool.decide_or]

theorem snapNowBody_eq {p : List Byte} {k : Fin 8} (h0 : u8 p 0 = k.val) (s : State) : snapNowBody p s =
    .test (s.stp.snaps.length < 24) (.refuse .refusedFull 65535)
      (.ok (put1 (s.stp.snaps.length + 1 : Nat)) (offerSnap (s.snapshot .manual k none) s)) := by
  rw [snapNowBody, h0, Answer.get_some (indexOf_val k)]; rfl

theorem snapFetchBody_eq (p : List Byte) (s : State) : snapFetchBody p s =
    .ok (putFlag s.stp.snaps.head?.isSome ++ put1 s.stp.skipped ++ put1 (s.stp.snaps.drop 1).length ++
        (s.stp.snaps.head?.map Snapshot.bytes).getD [])
      { s with stp := { s.stp with snaps := s.stp.snaps.drop 1, skipped := 0 } } := by
  unfold snapFetchBody
  cases s.stp.snaps.head? <;> rfl

/-! ### STIFF_REF (R143) -/

theorem State.Moved.eq {s t : State} (h : s.Moved t) : t = { s with svc := t.svc, lgu := t.lgu, pmx := t.pmx, sli := t.sli } := by
  obtain ⟨v, g, p, l, lost, rest⟩ := h.rest
  rw [rest]; rfl

/-- A stiffness record cleared but for its peak store. -/
def Stiff.cleared (x : Stiff) : Stiff := { peak := x.peak }

/-- The references of some tracks are cleared. -/
structure State.Cleared (s t : State) (l : List (Fin 8)) : Prop where
  moved : ({ s with stp := { s.stp with stiff := t.stp.stiff } } : State).Moved t
  sli : t.sli = s.sli
  stiff : ∀ k : Fin 8, t.stp.stiff[k] = if k ∈ l then s.stp.stiff[k].cleared else s.stp.stiff[k]
  raised : ∀ k : Fin 8, t.raised (.stiffness k) = (s.raised (.stiffness k) && decide (k ∉ l))

theorem clearStiffness_eq (k : Fin 8) (s : State) : clearStiffness k s = lower (.stiffness k) (s.modStiff k Stiff.cleared) := rfl

theorem stiffness_slot {j k : Fin 8} : (Cond.stiffness j).slot = (Cond.stiffness k).slot ↔ j = k := by
  refine ⟨fun h => ?_, fun h => by rw [h]⟩
  have := congrArg Fin.val h
  have : 120 + j.val = 120 + k.val := this
  exact Fin.ext (by omega)

theorem clearStiffnesses (l : List (Fin 8)) (s : State) : s.Cleared (l.foldl (fun s k => clearStiffness k s) s) l := by
  induction l generalizing s with
  | nil =>
    refine ⟨.rfl', rfl, fun k => (if_neg List.not_mem_nil).symm, fun k => ?_⟩
    rw [decide_eq_true List.not_mem_nil, Bool.and_true]; rfl
  | cons j l ih =>
    rw [List.foldl_cons]
    obtain ⟨u, hu⟩ : ∃ u, u = clearStiffness j s := ⟨_, rfl⟩
    rw [← hu]
    obtain ⟨t, ht⟩ : ∃ t, t = l.foldl (fun s k => clearStiffness k s) u := ⟨_, rfl⟩
    have next := ih u
    rw [← ht] at next ⊢
    rw [clearStiffness_eq] at hu
    have first : (s.modStiff j Stiff.cleared).Moved u := by rw [hu]; exact (advised_lower _ _).toMoved
    have one (k : Fin 8) : u.stp.stiff[k] = if j = k then s.stp.stiff[k].cleared else s.stp.stiff[k] := by
      rw [first.stp]; exact vmod_get ..
    refine ⟨?_, ?_, fun k => ?_, fun k => ?_⟩
    · exact (first.modStp fun x => { x with stiff := t.stp.stiff }).trans next.moved
    · rw [next.sli, hu, lower_sli]; rfl
    · rw [next.stiff, one]
      by_cases e : j = k
      · subst e
        rw [if_pos rfl, if_pos List.mem_cons_self]; exact ite_self _
      · rw [if_neg e]
        exact if_congr ⟨List.mem_cons_of_mem _, fun h => (List.mem_cons.1 h).resolve_left fun h => e h.symm⟩ rfl rfl
    · rw [next.raised, hu, lower_raised]
      by_cases e : j = k
      · subst e
        rw [if_pos rfl, decide_eq_false (p := j ∉ j :: l) (fun h => h List.mem_cons_self), Bool.and_false]; rfl
      · rw [if_neg fun h => e (stiffness_slot.1 h)]
        have mem : k ∉ l ↔ k ∉ j :: l := by
          rw [List.mem_cons, not_or]; exact (and_iff_right fun h => e h.symm).symm
        rw [decide_eq_decide.2 mem]; rfl

theorem clearStiffnesses_received (l : List (Fin 8)) (s : State) :
    l.foldl (fun s k => clearStiffness k s) s.received = (l.foldl (fun s k => clearStiffness k s) s).received := by
  induction l generalizing s with
  | nil => rfl
  | cons k l ih =>
    rw [List.foldl_cons, List.foldl_cons, ← ih]
    exact congrArg (l.foldl _) (received_lower (.stiffness k) (s.modStiff k Stiff.cleared))

theorem stiffRefBody_eq {p : List Byte} {clear : Bool} {l : List (Fin 8)} (h1 : u8 p 1 = clear.toNat)
    (h0 : (u8 p 0 = 255 ∧ l = List.finRange 8) ∨ (∃ k : Fin 8, u8 p 0 = k.val ∧ l = [k])) (s : State) :
    stiffRefBody p s = .ok (l.flatMap (stiffBytes s)) (if clear then l.foldl (fun s k => clearStiffness k s) s else s) := by
  rcases h0 with ⟨h0, rfl⟩ | ⟨k, h0, rfl⟩
  · rw [stiffRefBody, h0, Answer.get_some (show optIndexOf 8 255 = some none from rfl), h1, Answer.get_some (flagOf_toNat clear)]
  · have index : optIndexOf 8 k.val = some (some k) := optIndexOf_optCode (by decide) (some k)
    rw [stiffRefBody, h0, Answer.get_some index, h1, Answer.get_some (flagOf_toNat clear)]

/-- Settles O48. -/
theorem snapshotCommandsStore : Obligations.SnapshotCommandsStore := by
  unfold Obligations.SnapshotCommandsStore
  refine ⟨fun f s l ht hp hl nodup => ?_, fun f s k ht h0 => ⟨fun full => ?_, fun room => ?_⟩, fun f s ht => ?_,
    fun f s clear l ht h1 h0 => ⟨fun off => ?_, fun on => ?_⟩⟩
  · have length : 1 + u8 f.payload 0 = 1 + l.length := by
      rw [hp, show u8 (put1 l.length ++ l.flatMap fun c => put1 c.val) 0 = l.length from u8_nat rfl (by omega)]
    exact command_taken ht length (snapListBody_eq hp hl nodup s.received) ht.2.2.1
  · exact command_refused ht rfl ((snapNowBody_eq h0 _).trans (Answer.test_of_not (decide_eq_false (Nat.not_lt.2 full)) _ _))
  · have body := (snapNowBody_eq h0 s.received).trans (Answer.test_of (decide_eq_true room) _ _)
    rw [snapshot_eq, offerSnap_room (s := s.received) room] at body
    exact command_taken ht rfl body ht.2.2.1
  · intro u
    have body := snapFetchBody_eq f.payload s.received
    refine ⟨fun none => ?_, fun x rest some => ?_⟩
    · rw [show s.received.stp.snaps.head? = Option.none by rw [show s.received.stp.snaps = [] from none]; rfl,
        show (s.received.stp.snaps.drop 1).length = 0 by rw [show s.received.stp.snaps = [] from none]; rfl] at body
      exact command_taken (p := putFlag false ++ put1 s.stp.skipped ++ put1 0) ht rfl (body.trans (by rw [Option.map_none, Option.getD_none, List.append_nil]; rfl)) ht.2.2.1
    · rw [show s.received.stp.snaps.head? = Option.some x by rw [show s.received.stp.snaps = x :: rest from some]; rfl,
        show (s.received.stp.snaps.drop 1).length = rest.length by rw [show s.received.stp.snaps = x :: rest from some]; rfl] at body
      exact command_taken ht rfl body ht.2.2.1
  · have body := stiffRefBody_eq h1 h0 s.received
    rw [off] at body
    exact command_taken ht rfl body ht.2.2.1
  · have body := stiffRefBody_eq h1 h0 s.received
    rw [on, if_pos rfl, clearStiffnesses_received] at body
    have cleared := clearStiffnesses l s
    generalize l.foldl (fun s k => clearStiffness k s) s = t at body cleared
    refine ⟨_, command_taken ht rfl body (by rw [cleared.moved.stc]; exact ht.2.2.1), cleared.stiff, cleared.raised, fun a => ?_,
      repliedDone_answered (by rw [cleared.sli]) .., ?_⟩
    · exact (cleared.moved.state a).trans rfl
    · exact congrArg (fun u : State => { u with sli := (t.answered 0x46 f (l.flatMap (stiffBytes s))).sli }) cleared.moved.eq

end Sys2Proof.Machine

/-!
ACT_MODE's handover records (R98, R99): a refutation.
-/
namespace Sys2Proof.Machine

/-- A0 STARTING, A1 and A2 members of G0, A1 ACTIVE; and an entry of FOLLOWING, QUIET as its state says, whose raised set and
reach say the opposite: FOLLOWING of A0 stands raised in it, and it reaches A1 with a derate of 500. -/
def quietRaised : State :=
  let s := (setCond (.act .following 0) true State.reset).modEntry 2 fun x => { x with
    cfg := { x.cfg with enabled := true, kind := some .following, action := .derate, value := 500 }
    st := .quiet, raised := [0], reach := 2 }
  let s := (s.modAct 0 fun x => { x with state := .starting }).modAct 1 fun x => { x with state := .active }
  s.modGroup 0 fun g => { g with members := [(1, 1), (2, 1)], lru := [1, 2], carry := true }

/-- ACT_MODE, actuator 0, target OFF. -/
def switchOff : Frame := { dst := 1, src := 0, tag := 9, payload := [0, 2] }

/-- A selection is due in G0 after a command. -/
def dueAfter : Host.Outcome State Fault Refusal → Bool
  | .next t => (t.group 0).due
  | .fault _ | .refused _ => false

theorem due_after_switchOff : dueAfter (exec (.actMode switchOff) quietRaised) = true := by decide +kernel

theorem takes_switchOff : quietRaised.takes switchOff 2 := by unfold State.takes; decide +kernel

theorem derates_quietRaised (b : Fin 8) : (quietRaised.act b).derate = quietRaised.mergedDerate b := by
  revert b; decide +kernel

/-- Refutes O33: no law is asked of the entries. Where one stands QUIET with a condition raised in it, the entry of A0 to OFF
lowers that condition, by which the entry becomes LATCHED and its derate reaches A1, so that a selection of G0 becomes due. -/
theorem not_actModeFollowsTheTable : ¬ Obligations.ActModeFollowsTheTable := by
  intro h
  obtain ⟨-, -, -, table⟩ := h switchOff quietRaised 0 .off takes_switchOff rfl rfl
  obtain ⟨t, run, -, -, -, -, -, -, -, -, -, -, -, -, lgu, -⟩ :=
    table .off rfl (by decide +kernel) (fun k => absurd rfl k) fun _ tripped => absurd tripped (by decide +kernel)
  have due := due_after_switchOff
  rw [run] at due
  have same : t.lgu = quietRaised.lgu := (lgu derates_quietRaised).trans (if_neg fun k => absurd k.1 (by decide +kernel))
  have none : (quietRaised.group 0).due = false := by decide +kernel
  have : (t.group 0).due = (quietRaised.group 0).due := by unfold State.group; rw [same]
  rw [show dueAfter (.next t) = (t.group 0).due from rfl, this, none] at due
  exact nomatch due

end Sys2Proof.Machine

/-!
The skipped count of the snapshot queue (R140): a refutation.
-/
namespace Sys2Proof.Machine

/-- A snapshot record. -/
def someSnapshot : Snapshot :=
  { kind := .manual, track := 0, cycles := 0, time := 0, level := 0, forces := [], deflection := none, stiffness := none
    strains := [] }

/-- Track 0 in use, the snapshot queue full, and a skipped count past its end of 255. -/
def skippedBeyond : State :=
  let s := State.reset.modAct 0 fun x => { x with cfg := { x.cfg with enabled := true }, source := .sequencer }
  s.modStp fun p => { p with skipped := 300, snaps := List.replicate 24 someSnapshot }

/-- A PEAK snapshot mark of track 0. -/
def peakMark : Mark := { track := 0, peak := true, snap := true, cycle := 1 }

/-- Refutes O49: no capacity is asked of the skipped count. One of 300 goes down to 255 at a discarded record, where the
statement has it stand. -/
theorem not_stiffnessComesAtAValley : ¬ Obligations.StiffnessComesAtAValley := by
  intro h
  obtain ⟨-, peak, -⟩ := h peakMark skippedBeyond rfl (by unfold State.advisory; decide +kernel)
  obtain ⟨queued, -⟩ := peak rfl rfl (by decide +kernel)
  have full : ¬skippedBeyond.stp.snaps.length < 24 := by decide +kernel
  rw [if_neg full] at queued
  exact absurd queued.2 (by decide +kernel)

end Sys2Proof.Machine

/-!
POWER and LINE with the HALT loop closed (R12, R13).
-/
namespace Sys2Proof.Machine

theorem forAsc_eq_self {n : Nat} {f : Fin n → State → State} {s : State} (h : ∀ i, f i s = s) : forAsc n f s = s :=
  forAsc_keeps (fun t => t = s) (fun i t e => by rw [e, h i]) rfl

/-- A slot that is no contact senses nothing (R19). -/
theorem senseContact_of_not_contact {x : Fin 16} {s : State} (h : s.axs[x].fn.isContact = false) : senseContact x s = s :=
  if_neg (by rw [h]; exact Bool.false_ne_true)

/-- With the HALT loop closed and no slot assigned, a completed reset is followed by its notice alone. -/
theorem afterReset_coldState (straps : Address) (record : ResetRecord) {s : State} (h : s.stc.haltOpen = false) :
    afterReset (coldState straps record s) = offer (resetNotice straps record.code) (coldState straps record s) := by
  have unassigned (x : Fin 16) : (coldState straps record s).axs[x].fn = .none := by
    show (s.axs.map Slot.default)[x].fn = _
    rw [Fin.getElem_fin, Vector.getElem_map]; rfl
  have closed : ¬(offer (resetNotice straps record.code) (coldState straps record s)).stc.haltOpen = true := by
    show ¬s.stc.haltOpen = true
    rw [h]; exact Bool.false_ne_true
  unfold afterReset
  dsimp only
  rw [show (coldState straps record s).stc.address = straps from rfl,
    show (coldState straps record s).stc.resetRecord = record from rfl, if_neg closed]
  exact forAsc_eq_self fun x => senseContact_of_not_contact (congrArg SlotFn.isContact (unassigned x))

theorem coldReset_closed (straps : Address) (record : ResetRecord) {s : State} (h : s.stc.haltOpen = false) :
    finish (coldReset straps record s) =
      { stc := { resetRecord := record, address := straps }
        sli := { notices := [{ kind := .reset, time := 0, cycles := 0, subject := straps.toNat, v1 := record.code }] }
        axs := s.axs.map fun x => { closed := x.closed }
        pending := s.pending } := by
  unfold coldReset
  rw [afterReset_coldState straps record h]
  unfold coldState
  rw [h]
  rfl

/-- Settles O9. -/
theorem coldResetsClearTheStation : Obligations.ColdResetsClearTheStation := fun _ straps h =>
  ⟨congrArg Host.Outcome.next (coldReset_closed straps { power := true } h),
    congrArg Host.Outcome.next (coldReset_closed straps { line := true } h)⟩

end Sys2Proof.Machine

/-!
The reading commands and the fields they return (R209, R210).
-/
namespace Sys2Proof.Machine

/-! ### Lists of fields (R209) -/

@[simp] theorem fieldBytes_cons_cons (x y : Field) (l : List Field) :
    fieldBytes (x :: y :: l) = fieldBytes [x] ++ fieldBytes (y :: l) := fieldBytes_append [x] (y :: l)

@[simp] theorem fieldBytes_map {α : Type} (l : List α) (f : α → Field) : fieldBytes (l.map f) = l.flatMap fun a => fieldBytes [f a] := by
  rw [List.map_eq_flatMap, fieldBytes_flatMap l _ _ fun _ _ => rfl]

theorem flatMap_getElem {α β : Type} {n : Nat} (v : Vector α n) (f : α → List β) :
    (List.finRange n).flatMap (fun i => f v[i]) = v.toList.flatMap f := by
  have : (List.finRange n).map (fun i => v[i]) = v.toList := by
    refine List.ext_getElem (by simp) fun i h k => ?_
    simp
  rw [← this, List.flatMap_map]

theorem bit_eq (b : Bool) (k : Nat) : bit b k = 2 ^ k * b.toNat := by cases b <;> simp [bit]

theorem only_eq (b : Bool) (n : Nat) : ((only b n : Nat) : Int) = if b = true then (n : Int) else 0 := by cases b <;> rfl

section

variable (s : State)

/-! ### STATUS and SEQ_STATUS -/

theorem fieldBytes_status : statusBody s = .ok (fieldBytes s.statusFields) s := by
  have code : (s.stc.resetRecord.power.toNat + 2 * s.stc.resetRecord.line.toNat + 4 * s.stc.resetRecord.restart.toNat +
      8 * s.stc.resetRecord.keep.toNat : Int) = (s.stc.resetRecord.code : Int) := by
    simp [ResetRecord.code, bit_eq]
  simp only [statusBody, State.statusFields, code, fieldBytes_cons_cons, fieldBytes_one, fieldBytes_two, fieldBytes_four,
    fieldBytes_flag, List.append_assoc]

theorem shownCount_eq (q : Sequencer) : q.shownCount = if q.state = .done ∨ q.state = .aborted then q.heldCount else
    match q.plan[q.segment] with
    | .cycle _ _ _ _ _ count _ => count
    | .ramp .. | .dwell .. | .loop .. | .finish => 0 := by
  unfold Sequencer.shownCount
  cases q.state <;> rfl

/-- The counters of the LOOP segments, as fields. -/
def Sequencer.loopFields (q : Sequencer) : List Field :=
  (List.finRange 48).flatMap fun i => match q.plan[i] with
    | .loop .. => [(2, (q.loops[i] : Int))]
    | .ramp .. | .dwell .. | .cycle .. | .finish => []

theorem fieldBytes_loopFields (q : Sequencer) : fieldBytes q.loopFields = q.loopBytes := by
  refine fieldBytes_flatMap _ _ _ fun i _ => ?_
  cases q.plan[i] with
  | loop t r => exact fieldBytes_two _
  | ramp hold l ms => rfl
  | dwell hold ms snap => rfl
  | cycle hold mean a freq shape count interval => rfl
  | finish => rfl

theorem State.seqFields_eq : s.seqFields =
    [(1, (s.psq.state.code : Int)), (1, (s.psq.activity.code : Int)), (1, (s.psq.segment.val : Int)), (4, (s.psq.ctr : Int)),
      (4, (s.psq.ctrEnd : Int)), (4, (s.psq.segCycles : Int)), (4, (s.psq.shownCount : Int)), (4, (s.psq.totalCycles : Int)),
      (4, (s.psq.phase : Int)), (2, (s.psq.amp : Int)), (1, (s.psq.hold.bits : Int))] ++
    ((List.finRange 8).map fun k => (2, s.psq.levels[k])) ++ s.psq.loopFields := by
  rw [shownCount_eq]
  unfold State.seqFields Sequencer.loopFields
  simp only [List.flatten_cons, List.flatten_nil, List.append_nil, List.append_assoc] <;> rfl

theorem fieldBytes_seqStatus (p : List Byte) : seqStatusBody p s = .ok (fieldBytes s.seqFields) s := by
  have bits : s.psq.hold.bits = s.psq.hold.code := by simp [HoldSet.bits, HoldSet.code, bit_eq]
  simp only [seqStatusBody, State.seqFields_eq, bits, fieldBytes_append, fieldBytes_cons_cons, fieldBytes_one, fieldBytes_two,
    fieldBytes_four, fieldBytes_map, fieldBytes_loopFields, flatMap_getElem s.psq.levels put2, List.append_assoc]

/-! ### SLOT_READ and PLAN_READ -/

theorem slotValue_eq (x : Fin 16) : s.slotValue x = match s.axs[x].fn with
    | .dumpOut => if ∃ a : Fin 8, (s.act a).state = .tripped then 1 else 0
    | .beaconOut => if ∃ a : Fin 8, (s.act a).state ≠ .off then 1 else 0
    | _ => s.axs[x].value := by
  obtain ⟨-, -, -, -, -, -, -, -, slots⟩ := manifoldsFollowTheFrame s 0
  obtain ⟨dump, beacon⟩ := slots x
  split
  · rename_i h
    obtain ⟨one, zero⟩ := dump h
    split
    · rename_i k; exact one.2 k
    · rename_i k; exact zero.2 fun a ha => k ⟨a, ha⟩
  · rename_i h
    obtain ⟨one, zero⟩ := beacon h
    split
    · rename_i k; exact one.2 k
    · rename_i k; exact zero.2 fun a => by_contra fun ha => k ⟨a, ha⟩
  · rename_i h k
    unfold State.slotValue
    split
    · rename_i e; exact absurd e h
    · rename_i e; exact absurd e k
    · rfl

theorem slotReadBody_eq {p : List Byte} {x : Fin 16} (h : u8 p 0 = x.val) :
    slotReadBody p s = .ok (fieldBytes (s.slotFields x)) s := by
  rw [slotReadBody, Answer.get_some (indexOf_eq x h)]
  simp only [State.slotFields, slotValue_eq, fieldBytes_cons_cons, fieldBytes_one, fieldBytes_two, fieldBytes_four,
    fieldBytes_flag, List.append_assoc] <;> rfl

theorem Segment.bytes_eq (x : Segment) : x.bytes = fieldBytes x.fields := by
  cases x <;>
    simp only [Segment.bytes, Segment.fields, fieldBytes_cons_cons, fieldBytes_one, fieldBytes_two, fieldBytes_four,
      fieldBytes_flag, List.append_assoc] <;> rfl

theorem planReadBody_eq {p : List Byte} {x : Fin 48} (h : u8 p 0 = x.val) :
    planReadBody p s = .ok (fieldBytes s.psq.plan[x].fields) s := by
  rw [planReadBody, Answer.get_some (indexOf_eq x h), Segment.bytes_eq]

end

section

variable (s : State)

/-! ### ACT_STATUS -/

theorem Actuator.timerBytes_eq (now : Nat) (x : Actuator) : x.timerBytes now =
    (let timed (v : Int) : Int := if x.state = .starting ∨ x.state = .raising then v else 0
     let unl (v : Int) : Int := if x.state = .unloading then v else 0
     put2 (timed ((now - x.timerStart) / 1000 : Nat)) ++ put2 (timed x.timerMs) ++ put4 (unl x.unload.n) ++
      put2 (unl x.unload.ramp) ++ put2 (unl x.unload.settle) ++
      put4 (unl (if x.unload.timerOn then (now - x.unload.start) / 1000 else x.unload.timeoutS * 1000 : Nat)) ++
      put2 (unl x.unload.target) ++ put2 (unl x.unload.rate) ++ put2 (unl x.unload.tol) ++ put2 (unl x.unload.settleMs) ++
      put2 (unl x.unload.timeoutS)) := by
  simp only [Actuator.timerBytes, only_eq, Bool.or_eq_true, decide_eq_true_eq]

theorem Actuator.goal_eq (x : Actuator) : (x.goal : Int) = match x.state with
    | .starting => if x.toActive then 1 else 0
    | .unloading => if x.destOff then 2 else 0
    | .off | .low | .raising | .active | .tripped => 255 := by
  unfold Actuator.goal
  cases x.state <;> simp only [Nat.cast_ite, Nat.cast_zero, Nat.cast_one, Nat.cast_ofNat]

theorem actStatusBody_eq {p : List Byte} {a : Fin 8} (h : u8 p 0 = a.val) :
    actStatusBody p s = .ok (fieldBytes (s.actFields a)) s := by
  have conds : ((actConds a).take 6).flatMap (fun c => putFlag (s.raised c)) =
      [ActCond.forceLimit, .strokeLimit, .following, .stall, .sensorRange, .envelope].flatMap fun k =>
        putFlag (s.raised (.act k a)) := rfl
  rw [actStatusBody, Answer.get_some (indexOf_eq a h)]
  dsimp only
  rw [conds, Actuator.timerBytes_eq]
  simp only [State.actFields, Regs.bytes, Actuator.goal_eq, List.flatten_cons, List.flatten_nil, List.append_nil, fieldBytes_append,
    fieldBytes_cons_cons, fieldBytes_one, fieldBytes_two, fieldBytes_four, fieldBytes_flag, fieldBytes_opt, fieldBytes_map,
    List.append_assoc] <;> rfl

/-! ### GROUP_STATUS -/

theorem actingLead_eq (g : Fin 4) :
    s.actingLead g = ((s.group g).members.map Prod.fst).find? fun a => (s.act a).state = .active := by
  unfold State.actingLead State.sharing State.inShare
  rw [List.head?_filter, List.find?_map]
  rfl

theorem State.short_iff (g : Fin 4) : s.short g = ((s.group g).carry &&
    (s.group g).members.any fun m => decide ((s.act m.1).state = .active ∧ (s.act m.1).derate < 1000)) := by
  unfold State.short State.sharing State.inShare
  rw [List.any_filter]
  simp only [Bool.decide_and]

theorem groupStatusBody_eq {p : List Byte} {g : Fin 4} (h : u8 p 0 = g.val) :
    groupStatusBody p s = .ok (fieldBytes (s.groupFields g)) s := by
  have members : fieldBytes ((s.group g).members.flatMap fun m =>
      let y := s.act m.1
      let latest (v : Int) : Int := if m.1 ∈ (s.group g).shared then v else 0
      [flagField (decide (y.state = .active)), (1, (y.state.code : Int)), (2, y.derate), (2, latest y.regs.s),
        (2, latest y.regs.d), (2, y.regs.h)]) = (s.group g).members.flatMap fun m => memberBytes s g m.1 := by
    refine fieldBytes_flatMap _ _ _ fun m _ => ?_
    simp only [memberBytes, List.contains_iff_mem, fieldBytes_cons_cons, fieldBytes_one, fieldBytes_two, fieldBytes_flag,
      List.append_assoc]
    rfl
  have reasons : ((s.group g).reasons.derate.toNat + 2 * (s.group g).reasons.recipientOut.toNat +
      4 * (s.group g).reasons.recipientDerated.toNat + 8 * (s.group g).reasons.join.toNat : Int) =
      ((s.group g).reasons.code : Int) := by
    simp [HandReasons.code, bit_eq]
  rw [groupStatusBody, Answer.get_some (indexOf_eq g h)]
  simp only [State.groupFields, Group.recordBytes_eq, actingLead_eq, State.short_iff, List.flatten_cons, List.flatten_nil,
    List.append_nil, fieldBytes_append, members, reasons, fieldBytes_cons_cons, fieldBytes_one, fieldBytes_two,
    fieldBytes_four, fieldBytes_flag, fieldBytes_opt, fieldBytes_map, List.append_assoc]
  rfl

/-! ### SAT_READ and SAT_STATUS -/

theorem fieldBytes_image (image : Vector ImageCh 16) :
    fieldBytes ((List.finRange 16).flatMap fun c =>
      let i := image[c]
      [(1, (i.excitation.val : Int)), (1, (i.gain.val : Int)), (1, (i.filter.val : Int)), (1, (i.shunt.val : Int))]) =
      image.toList.flatMap ImageCh.bytes := by
  rw [← flatMap_getElem]
  refine fieldBytes_flatMap _ _ _ fun c _ => ?_
  simp only [ImageCh.bytes, fieldBytes_cons_cons, fieldBytes_one, List.append_assoc]

theorem satReadBody_eq {p : List Byte} {x : Fin 4} (h : u8 p 0 = x.val) :
    satReadBody p s = .ok (fieldBytes (s.imageFields x)) s := by
  rw [satReadBody, Answer.get_some (indexOf_eq x h)]
  simp only [State.imageFields, List.flatten_cons, List.flatten_nil, List.append_nil, fieldBytes_append, fieldBytes_image,
    fieldBytes_cons_cons, fieldBytes_one, fieldBytes_flag, List.append_assoc]

/-- The order in flight, as fields (R125). -/
def Order.fields : Option Order → List Field
  | none => [(1, 0), (1, 0), (1, 0), (1, 0), (1, 0)]
  | some .reset => [(1, 2), (1, 0), (1, 0), (1, 0), (1, 0)]
  | some (.config e) => [(1, 1), (1, e.ch.val), (1, e.setting.field), (1, e.setting.value), (1, e.origin.code)]

theorem fieldBytes_order (o : Option Order) : fieldBytes (Order.fields o) = orderBytes o := by
  rcases o with - | - | e <;> simp only [Order.fields, orderBytes, fieldBytes_cons_cons, fieldBytes_one, List.append_assoc]

theorem State.satFields_eq (x : Fin 4) : s.satFields x =
    (let y := s.glc[x]
     let settling (v : Nat) : Int := if y.state = .settling then v else 0
     [flagField y.present, (2, (y.settleMs : Int)), (1, (y.state.code : Int)), (1, (y.unanswered : Int)),
      (2, settling (y.settleElapsed s.clock.now)), (2, settling y.settlePeriod), flagField (decide (y.state = .settling) && y.seen),
      flagField y.draining] ++ Order.fields y.inFlight ++
     [(1, (y.posted.length : Int)), (1, (y.restore.length : Int)), flagField y.lastFresh, flagField y.lastValid,
      flagField (s.raised (.satLost x))]) := by
  unfold State.satFields
  have seen : (if s.glc[x].state = .settling then ((s.glc[x].seen.toNat : Nat) : Int) else 0) =
      ((decide (s.glc[x].state = .settling) && s.glc[x].seen).toNat : Int) := by
    split
    · rename_i h; rw [decide_eq_true h, Bool.true_and]
    · rename_i h; rw [decide_eq_false h, Bool.false_and]; rfl
  simp only [List.flatten_cons, List.flatten_nil, List.append_nil, List.append_assoc, seen]
  congr 2

theorem satStatusBody_eq {p : List Byte} {x : Fin 4} (h : u8 p 0 = x.val) :
    satStatusBody p s = .ok (fieldBytes (s.satFields x)) s := by
  rw [satStatusBody, Answer.get_some (indexOf_eq x h)]
  simp only [State.satFields_eq, fieldBytes_append, fieldBytes_order, fieldBytes_cons_cons, fieldBytes_one, fieldBytes_two,
    fieldBytes_flag, List.append_assoc, decide_eq_true_eq]

end

section

variable (s : State)

/-! ### CH_READ -/

theorem ChanConfig.fieldBytes_eq (f : ChanConfig) :
    fieldBytes [flagField f.enabled, (1, (f.bridge.code : Int)), (2, (f.gauge : Int)), (4, f.zero), optField f.tempSlot, (2, f.t0),
      (2, f.coeff), (4, f.high), (4, f.low), (4, f.hyst)] = f.bytes := by
  simp only [ChanConfig.bytes, fieldBytes_cons_cons, fieldBytes_one, fieldBytes_two, fieldBytes_four, fieldBytes_flag,
    fieldBytes_opt, List.append_assoc]

theorem chanStatus_code (c : Fin 64) : ((s.chanStatus c).code : Int) =
    (let y := s.stp.chans[c]
     let live := ∃ x : Fin 4, x.val = c.val / 16 ∧ s.glc[x].state = .live
     if y.cfg.enabled = false then 0 else if ¬live then 1 else if y.zeroing.isSome then 2 else 3) := by
  have live : (∃ x : Fin 4, x.val = c.val / 16 ∧ s.glc[x].state = .live) ↔ s.glc[chanSlot c].state = .live := by
    constructor
    · rintro ⟨x, hx, h⟩
      exact (show x = chanSlot c from Fin.ext hx) ▸ h
    · exact fun h => ⟨chanSlot c, rfl, h⟩
  simp only [live]
  unfold State.chanStatus
  dsimp only
  split
  · rfl
  · split
    · rfl
    · split <;> rfl

theorem chanStatus_zeroing (c : Fin 64) : s.chanStatus c = .zeroing ↔ ((s.chanStatus c).code : Int) = 2 := by
  cases s.chanStatus c <;> decide

/-- What CH_READ adds of a channel with count 1, as fields (R134). -/
theorem chanExtra_eq (c : Fin 64) : chanExtra s c =
    (s.stp.chans[c].cfg.bytes ++ fieldBytes (match s.stp.chans[c].zeroing with
      | some (n, _) => if ((s.chanStatus c).code : Int) = 2 then [(1, (n : Int))] else []
      | none => [])) := by
  unfold chanExtra
  refine congrArg (s.stp.chans[c].cfg.bytes ++ ·) ?_
  by_cases h : s.chanStatus c = .zeroing
  · have some : s.stp.chans[c].zeroing.isSome = true := by
      by_contra k
      unfold State.chanStatus at h
      rw [Bool.not_eq_true] at k
      dsimp only at h
      rw [k] at h
      revert h
      split
      · nofun
      · split <;> nofun
    rw [if_pos h]
    obtain ⟨⟨n, z⟩, hz⟩ := Option.isSome_iff_exists.1 some
    rw [hz]
    exact ((congrArg fieldBytes (if_pos ((chanStatus_zeroing s c).1 h))).trans (fieldBytes_one _)).symm
  · rw [if_neg h]
    cases s.stp.chans[c].zeroing with
    | none => rfl
    | some z =>
      have other : ¬((s.chanStatus c).code : Int) = 2 := fun k => h ((chanStatus_zeroing s c).2 k)
      simp only [if_neg other, fieldBytes_nil]

theorem fieldBytes_chan (c : Fin 64) (alone : Bool) :
    fieldBytes (s.chanFields c alone) = chanBytes s c ++ if alone = true then chanExtra s c else [] := by
  unfold State.chanFields
  simp only [← chanStatus_code]
  cases alone with
  | false =>
    cases s.stp.chans[c].zeroing <;>
      simp only [chanBytes, List.flatten_cons, List.flatten_nil, List.append_nil, Bool.false_eq_true, false_and, if_false,
        fieldBytes_cons_cons, fieldBytes_one, fieldBytes_four, fieldBytes_flag, List.append_assoc]
  | true =>
    rw [if_pos rfl, chanExtra_eq, ← ChanConfig.fieldBytes_eq]
    cases s.stp.chans[c].zeroing <;> simp only [chanBytes, List.flatten_cons, List.flatten_nil, List.append_nil, if_true, true_and, fieldBytes_append, fieldBytes_nil,
      fieldBytes_cons_cons, fieldBytes_one, fieldBytes_two, fieldBytes_four, fieldBytes_flag, fieldBytes_opt, List.append_assoc]

theorem filter_finRange_eq_singleton {n : Nat} {q : Fin n → Bool} {i : Fin n} (h : ∀ j, q j = true ↔ j = i) :
    (List.finRange n).filter q = [i] := by
  have once : ((List.finRange n).filter q).Nodup := (List.nodup_finRange n).filter q
  refine (List.perm_singleton.1 ((List.perm_ext_iff_of_nodup once (List.nodup_singleton i)).2 fun j => ?_))
  rw [List.mem_filter, List.mem_singleton, h j]
  exact ⟨And.right, fun k => ⟨List.mem_finRange j, k⟩⟩

theorem chReadBody_eq {p : List Byte} (one : 1 ≤ u8 p 1) (top : u8 p 1 ≤ 16) (fits : u8 p 0 + u8 p 1 ≤ 64) :
    chReadBody p s = .ok (fieldBytes (
      let l := (List.finRange 64).filter fun i => decide (u8 p 0 ≤ i.val ∧ i.val < u8 p 0 + u8 p 1)
      if u8 p 1 = 1 then l.flatMap fun c => s.chanFields c true else l.flatMap fun c => s.chanFields c false)) s := by
  have test : (decide (u8 p 0 < 64) && inRange 1 16 (u8 p 1) && decide (u8 p 0 + u8 p 1 ≤ 64)) = true := by
    simp only [inRange, Bool.and_eq_true, decide_eq_true_eq]; omega
  have flat (l : List (Fin 64)) (alone : Bool) : fieldBytes (l.flatMap fun c => s.chanFields c alone) =
      l.flatMap fun c => chanBytes s c ++ if alone = true then chanExtra s c else [] :=
    fieldBytes_flatMap _ _ _ fun c _ => fieldBytes_chan s c alone
  rw [chReadBody, Answer.test_of test]
  simp only [← Bool.decide_and]
  split
  · rename_i h
    have single : (List.finRange 64).filter (fun i => decide (u8 p 0 ≤ i.val ∧ i.val < u8 p 0 + u8 p 1)) =
        [⟨u8 p 0, by omega⟩] := by
      rw [h]
      refine filter_finRange_eq_singleton ?_
      intro i
      rw [decide_eq_true_eq, Fin.ext_iff]
      constructor <;> intro k <;> dsimp only at * <;> omega
    rw [flat, single]
    simp only [if_true, List.flatMap_cons, List.flatMap_nil, List.append_nil]
  · rw [flat]
    simp only [Bool.false_eq_true, if_false, List.append_nil]

/-! ### ZONE_STATUS -/

theorem ZoneConfig.bytes_eq (c : ZoneConfig) : c.bytes = fieldBytes c.fields := by
  have mask : putSet c.mask = put1 c.mask.toNat := by simp [putSet, put1]
  simp only [ZoneConfig.bytes, ZoneConfig.fields, putAeSet, mask, fieldBytes_cons_cons, fieldBytes_one, fieldBytes_two,
    fieldBytes_flag, fieldBytes_opt, List.append_assoc]

theorem zoneStatusBody_eq {p : List Byte} {z : Fin 16} (h : u8 p 0 = z.val) :
    zoneStatusBody p s = .ok (fieldBytes (s.zoneFields z)) s := by
  have bins : fieldBytes ((s.zmn.zones[z].bins.take 16).flatMap fun b => [(2, (b.count : Int)), (2, (b.energy : Int))]) =
      (s.zmn.zones[z].bins.take 16).flatMap fun b => put2 b.count ++ put2 b.energy :=
    fieldBytes_flatMap _ _ _ fun b _ => by rw [fieldBytes_cons_cons, fieldBytes_two, fieldBytes_two]
  rw [zoneStatusBody, Answer.get_some (indexOf_eq z h)]
  simp only [State.zoneFields, ZoneConfig.bytes_eq, Zone.levelBytes, Zone.sumBytes, Zone.countSum, Zone.energySum,
    List.flatten_cons, List.flatten_nil, List.append_nil, fieldBytes_append, bins, fieldBytes_cons_cons, fieldBytes_one,
    fieldBytes_two, fieldBytes_four, fieldBytes_flag, List.append_assoc]

/-! ### PROT_LIST -/

theorem ProtConfig.bytes_eq (c : ProtConfig) : c.bytes = fieldBytes c.fields := by
  obtain ⟨kind, inst, action, value, scope, enabled⟩ := c
  cases kind <;> cases inst <;>
    simp only [ProtConfig.bytes, ProtConfig.fields, fieldBytes_cons_cons, fieldBytes_one, fieldBytes_two, fieldBytes_flag,
      List.append_assoc]

theorem fieldBytes_entry (e : Fin 40) : fieldBytes (s.entryFields e) = entryBytes s e := by
  unfold State.entryFields entryBytes
  dsimp only
  obtain ⟨cfg, st, raised, reach⟩ := s.pmx.entries[e]
  have set : putSet reach = put1 reach.toNat := by simp [putSet, put1]
  cases raised <;>
    simp only [ProtConfig.bytes_eq, set, List.flatten_cons, List.flatten_nil, List.append_nil, fieldBytes_append,
      fieldBytes_cons_cons, fieldBytes_one, fieldBytes_two, List.append_assoc, List.head?_nil, List.head?_cons,
      Option.getD_none, Option.getD_some, Nat.cast_ofNat]

/-- The entries that hold an actuator (R186). -/
theorem entriesOn_eq (a : Fin 8) (p : Action → Bool) : s.entriesOn a p =
    ((List.finRange 40).filter fun e => decide (s.pmx.entries[e].st ≠ .quiet ∧ s.pmx.entries[e].reach.getLsbD a.val)).filter
      fun e => p s.pmx.entries[e].cfg.acting := by
  rw [List.filter_filter]
  refine List.filter_congr fun e _ => ?_
  simp only [ActSet.has, Bool.decide_and, Bool.decide_eq_true, Bool.and_comm]

theorem foldl_highest (f : Fin 40 → Action) (l : List (Fin 40)) (m : Option Action) :
    (l.foldl (fun m e =>
      match m with
      | none => some (f e)
      | some y => if y.code < (f e).code then some (f e) else some y) m).map Action.code =
    l.foldl (fun m e => some (match m with
      | none => (f e).code
      | some y => max y (f e).code)) (m.map Action.code) := by
  induction l generalizing m with
  | nil => rfl
  | cons e l ih =>
    rw [List.foldl_cons, List.foldl_cons, ih]
    congr 1
    cases m with
    | none => rfl
    | some y =>
      dsimp only [Option.map_some]
      split
      · rename_i h; exact congrArg some (Nat.max_eq_right h.le).symm
      · rename_i h; exact congrArg some (Nat.max_eq_left (Nat.le_of_not_lt h)).symm

theorem max?_eq_foldl (l : List Nat) : l.max? = l.foldl (fun m x => some (match m with
    | none => x
    | some y => max y x)) none := by
  cases l with
  | nil => rfl
  | cons x l =>
    rw [List.max?_cons', List.foldl_cons]
    dsimp only
    induction l generalizing x with
    | nil => rfl
    | cons y l ih => exact ih (max x y)

theorem fieldBytes_summary (a : Fin 8) : fieldBytes (s.summaryFields a) = summaryBytes s a := by
  have derate : s.mergedDerate a = ((((List.finRange 40).filter fun e =>
      decide (s.pmx.entries[e].st ≠ .quiet ∧ s.pmx.entries[e].reach.getLsbD a.val)).filter fun e =>
        s.pmx.entries[e].cfg.acting = .derate).map fun e => s.pmx.entries[e].cfg.value).foldl min 1000 := by
    rw [State.mergedDerate, entriesOn_eq, List.foldl_map]
  have highest : (s.highestAction a).map Action.code = (((List.finRange 40).filter fun e =>
      decide (s.pmx.entries[e].st ≠ .quiet ∧ s.pmx.entries[e].reach.getLsbD a.val)).map fun e =>
        s.pmx.entries[e].cfg.acting.code).max? := by
    rw [State.highestAction, entriesOn_eq, List.filter_true, max?_eq_foldl, List.foldl_map]
    exact foldl_highest (fun e => s.pmx.entries[e].cfg.acting) _ none
  have restraint (p : Action → Bool) : (s.entriesOn a p).head? = ((List.finRange 40).filter fun e =>
      decide (s.pmx.entries[e].st ≠ .quiet ∧ s.pmx.entries[e].reach.getLsbD a.val)).find? fun e =>
        p s.pmx.entries[e].cfg.acting := by
    rw [entriesOn_eq, List.head?_filter]
  have code (o : Option Action) : put1 (match o with
      | none => 255
      | some x => (x.code : Int)) = put1 (match o.map Action.code with
      | none => 255
      | some n => (n : Int)) := by cases o <;> rfl
  unfold summaryBytes State.summaryFields
  simp only [fieldBytes_cons_cons, fieldBytes_one, fieldBytes_two, fieldBytes_opt, List.append_assoc]
  refine congrArg₂ (· ++ ·) (congrArg put2 derate.symm) (congrArg₂ (· ++ ·) (((code _).trans ?_).symm)
    (congrArg₂ (· ++ ·) (congrArg putOpt (restraint fun x => x = .unload ∨ x = .trip).symm)
      (congrArg putOpt (restraint fun x => x = .trip).symm)))
  rw [highest]
  rfl

theorem protListBody_eq {p : List Byte} (one : 1 ≤ u8 p 1) (top : u8 p 1 ≤ 8) (fits : u8 p 0 + u8 p 1 ≤ 40) :
    protListBody p s = .ok (fieldBytes (List.flatten [
      ((List.finRange 40).filter fun i => decide (u8 p 0 ≤ i.val ∧ i.val < u8 p 0 + u8 p 1)).flatMap s.entryFields,
      (List.finRange 8).flatMap s.summaryFields,
      [flagField (decide (∃ e : Fin 40, s.pmx.entries[e].st ≠ .quiet ∧ s.pmx.entries[e].cfg.enabled = true ∧
        s.pmx.entries[e].cfg.action = .hold))]])) s := by
  have test : (decide (u8 p 0 < 40) && inRange 1 8 (u8 p 1) && decide (u8 p 0 + u8 p 1 ≤ 40)) = true := by
    simp only [inRange, Bool.and_eq_true, decide_eq_true_eq]; omega
  have stands : s.holdStands = decide (∃ e : Fin 40, s.pmx.entries[e].st ≠ .quiet ∧ s.pmx.entries[e].cfg.enabled = true ∧
      s.pmx.entries[e].cfg.action = .hold) := by
    rw [Bool.eq_iff_iff, decide_eq_true_eq, holdStands_iff]
  rw [protListBody, Answer.test_of test, stands]
  simp only [← Bool.decide_and, List.flatten_cons, List.flatten_nil, List.append_nil, fieldBytes_append, fieldBytes_flag,
    fieldBytes_flatMap _ _ _ fun e _ => fieldBytes_entry s e, fieldBytes_flatMap _ _ _ fun a _ => fieldBytes_summary s a,
    List.append_assoc]

/-! ### TRIP_LOG -/

theorem TripRec.bytes_eq (r : TripRec) : r.bytes = fieldBytes r.fields := by
  simp only [TripRec.bytes, TripRec.fields, List.flatten_cons, List.flatten_nil, List.append_nil, fieldBytes_append,
    fieldBytes_cons_cons, fieldBytes_one, fieldBytes_four, fieldBytes_opt, fieldBytes_map, fieldBytes_two,
    flatMap_getElem r.forces put2, List.append_assoc]

theorem fieldBytes_trips (l : List TripRec) : fieldBytes (l.flatMap TripRec.fields) = l.flatMap TripRec.bytes :=
  fieldBytes_flatMap _ _ _ fun r _ => r.bytes_eq.symm

theorem putTrip_eq (o : Option TripRec) : putTrip o = fieldBytes (match o with
    | none => [(1, 0)]
    | some r => (1, 1) :: r.fields) := by
  cases o with
  | none => rfl
  | some r => rw [putTrip, TripRec.bytes_eq, fieldBytes_cons, fieldBytes_one]; rfl

theorem tripLogBody_eq {p : List Byte} (h : u8 p 0 < 2) :
    tripLogBody p s = .ok (fieldBytes (
      if u8 p 0 = 0 then (1, (s.pmx.tripLog.length : Int)) :: (s.pmx.tripLog.take 4).flatMap TripRec.fields
      else List.flatten [
        [(1, (s.pmx.tripLog.length : Int))], (s.pmx.tripLog.drop 4).flatMap TripRec.fields,
        match s.pmx.firstOut with
          | none => [(1, 0)]
          | some r => (1, 1) :: r.fields])) s := by
  have zero : fieldBytes ((1, (s.pmx.tripLog.length : Int)) :: (s.pmx.tripLog.take 4).flatMap TripRec.fields) =
      put1 s.pmx.tripLog.length ++ (s.pmx.tripLog.take 4).flatMap TripRec.bytes := by
    rw [fieldBytes_cons, fieldBytes_one, fieldBytes_trips]
  have one : fieldBytes (List.flatten [[(1, (s.pmx.tripLog.length : Int))], (s.pmx.tripLog.drop 4).flatMap TripRec.fields,
        match s.pmx.firstOut with
          | none => [(1, 0)]
          | some r => (1, 1) :: r.fields]) =
      put1 s.pmx.tripLog.length ++ (s.pmx.tripLog.drop 4).flatMap TripRec.bytes ++ putTrip s.pmx.firstOut := by
    simp only [putTrip_eq, List.flatten_cons, List.flatten_nil, List.append_nil, fieldBytes_append, fieldBytes_one,
      fieldBytes_trips, List.append_assoc]
  unfold tripLogBody
  generalize u8 p 0 = n at h
  match n, h with
  | 0, _ => exact congrArg (Answer.ok · s) zero.symm
  | 1, _ => exact congrArg (Answer.ok · s) one.symm

end

/-! ### Reading commands -/

section

variable {f : Frame} {s : State} {code : Byte}

/-- A reading command whose body answers the fields `l` of the state it finds. -/
theorem read_taken {n : Nat} {length : List Byte → Nat} {body : List Byte → State → Answer} {l : State → List Field}
    (h : s.takes f n) (hn : length f.payload = n) (hb : ∀ t : State, body f.payload t = .ok (fieldBytes (l t)) t)
    (same : l s.received = l s) :
    stepDone (command code length body f s) = .next (s.answered code f (fieldBytes (l s))) :=
  command_taken h hn ((hb s.received).trans (by rw [same]; rfl)) h.2.2.1

end

/-- Settles O8. -/
theorem readingCommandsReturnTheirFields : Obligations.ReadingCommandsReturnTheirFields := by
  intro i code f s hf readable del len room pending
  have takes (n : Nat) (hi : ∀ g, i ≠ .status g) (hn : requestLength i = some n) : s.takes f n :=
    ⟨del, Option.some.inj (len.symm.trans hn), pending.resolve_right fun h => hi f h.1, room⟩
  have idle : s.noResetDue := pending.imp id And.right
  cases i <;> try cases readable
  case status g =>
    cases hf
    exact readCommand_taken del (List.eq_nil_of_length_eq_zero (Option.some.inj len).symm) room
      (fieldBytes_status s.received) idle
  case seqStatus g =>
    cases hf
    exact read_taken (takes 0 nofun rfl) rfl (fun t => fieldBytes_seqStatus t _) rfl
  case slotRead g =>
    cases hf
    have hk := of_decide_eq_true readable
    rw [show reading (.slotRead f) s = s.slotFields ⟨_, hk⟩ from dif_pos hk]
    exact read_taken (takes 1 nofun rfl) rfl (fun t => slotReadBody_eq t (x := ⟨_, hk⟩) rfl) rfl
  case planRead g =>
    cases hf
    have hk := of_decide_eq_true readable
    rw [show reading (.planRead f) s = s.psq.plan[(⟨_, hk⟩ : Fin 48)].fields from dif_pos hk]
    exact read_taken (takes 1 nofun rfl) rfl (fun t => planReadBody_eq t (x := ⟨_, hk⟩) rfl) rfl
  case actStatus g =>
    cases hf
    have hk := of_decide_eq_true readable
    rw [show reading (.actStatus f) s = s.actFields ⟨_, hk⟩ from dif_pos hk]
    exact read_taken (takes 1 nofun rfl) rfl (fun t => actStatusBody_eq t (a := ⟨_, hk⟩) rfl) rfl
  case groupStatus g =>
    cases hf
    have hk := of_decide_eq_true readable
    rw [show reading (.groupStatus f) s = s.groupFields ⟨_, hk⟩ from dif_pos hk]
    exact read_taken (takes 1 nofun rfl) rfl (fun t => groupStatusBody_eq t (g := ⟨_, hk⟩) rfl) rfl
  case satRead g =>
    cases hf
    have hk := of_decide_eq_true readable
    rw [show reading (.satRead f) s = s.imageFields ⟨_, hk⟩ from dif_pos hk]
    exact read_taken (takes 1 nofun rfl) rfl (fun t => satReadBody_eq t (x := ⟨_, hk⟩) rfl) rfl
  case satStatus g =>
    cases hf
    have hk := of_decide_eq_true readable
    rw [show reading (.satStatus f) s = s.satFields ⟨_, hk⟩ from dif_pos hk]
    exact read_taken (takes 1 nofun rfl) rfl (fun t => satStatusBody_eq t (x := ⟨_, hk⟩) rfl) rfl
  case chRead g =>
    cases hf
    obtain ⟨⟨one, top⟩, fits⟩ : (1 ≤ u8 f.payload 1 ∧ u8 f.payload 1 ≤ 16) ∧ u8 f.payload 0 + u8 f.payload 1 ≤ 64 := by
      simpa only [Machine.readable, Bool.and_eq_true, decide_eq_true_eq] using readable
    exact read_taken (l := fun t => reading (.chRead f) t) (takes 2 nofun rfl) rfl (fun t => chReadBody_eq t one top fits) rfl
  case zoneStatus g =>
    cases hf
    have hk := of_decide_eq_true readable
    rw [show reading (.zoneStatus f) s = s.zoneFields ⟨_, hk⟩ from dif_pos hk]
    exact read_taken (takes 1 nofun rfl) rfl (fun t => zoneStatusBody_eq t (z := ⟨_, hk⟩) rfl) rfl
  case protList g =>
    cases hf
    obtain ⟨⟨one, top⟩, fits⟩ : (1 ≤ u8 f.payload 1 ∧ u8 f.payload 1 ≤ 8) ∧ u8 f.payload 0 + u8 f.payload 1 ≤ 40 := by
      simpa only [Machine.readable, Bool.and_eq_true, decide_eq_true_eq] using readable
    exact read_taken (l := fun t => reading (.protList f) t) (takes 2 nofun rfl) rfl
      (fun t => protListBody_eq t one top fits) rfl
  case tripLog g =>
    cases hf
    have hk := of_decide_eq_true readable
    exact read_taken (l := fun t => reading (.tripLog f) t) (takes 1 nofun rfl) rfl (fun t => tripLogBody_eq t hk) rfl

end Sys2Proof.Machine

/-!
An event under which several actuators change their states: what it leaves unchanged, what it forms, and its end
(R10, R74, R84, R86, R190).
-/
namespace Sys2Proof.Machine

/-! ### Several changes of state -/

/-- No change of state of an actuator that is not to ACTIVE brings LOST (R41). -/
def State.unlosing (s : State) : Prop := s.lostCause = true ∨ ∀ k : Fin 8, s.inUse k = false

/-- What changes of actuator states, none of them to ACTIVE, have made of a state so far. -/
structure State.Steps (s t : State) : Prop where
  rest : ∃ q v g e, t = { s with psq := q, svc := { s.svc with acts := v }, lgu := g, ev := e }
  force : ∀ a, (t.act a).force = (s.act a).force
  cycles : t.psq.totalCycles = s.psq.totalCycles
  levels : t.psq.levels = s.psq.levels
  going : t.psq.state.going = s.psq.state.going
  plan : s.unlosing → t.unlosing ∧ t.psq = s.psq ∧ t.ev.seqs = s.ev.seqs
  formed : ∃ l m, t.ev.acts = s.ev.acts ++ l ∧ t.ev.seqs = s.ev.seqs ++ m ∧ (∀ x ∈ l, x.2.kind = .actState) ∧
    ∀ n ∈ m, n.kind = .seqState
  lowers : ∃ l, t.ev.lowers = s.ev.lowers ++ l ∧ ∀ c ∈ l, c.actuator.isSome = true

theorem State.Steps.rfl' {s : State} : s.Steps s :=
  ⟨⟨_, _, _, _, rfl⟩, fun _ => rfl, rfl, rfl, rfl, fun h => ⟨h, rfl, rfl⟩, ⟨[], [], by simp⟩, [], by simp⟩

theorem State.Steps.trans {s t u : State} (h : s.Steps t) (k : t.Steps u) : s.Steps u where
  rest := by
    obtain ⟨_, _, _, _, rfl⟩ := h.rest
    obtain ⟨_, _, _, _, rfl⟩ := k.rest
    exact ⟨_, _, _, _, rfl⟩
  force a := (k.force a).trans (h.force a)
  cycles := k.cycles.trans h.cycles
  levels := k.levels.trans h.levels
  going := k.going.trans h.going
  plan hs := by
    obtain ⟨ht, hq, hl⟩ := h.plan hs
    obtain ⟨hu, kq, kl⟩ := k.plan ht
    exact ⟨hu, kq.trans hq, kl.trans hl⟩
  formed := by
    obtain ⟨l, m, hl, hm, al, am⟩ := h.formed
    obtain ⟨l', m', hl', hm', al', am'⟩ := k.formed
    exact ⟨l ++ l', m ++ m', by rw [hl', hl, List.append_assoc], by rw [hm', hm, List.append_assoc],
      fun x hx => (List.mem_append.1 hx).elim (al x) (al' x), fun n hn => (List.mem_append.1 hn).elim (am n) (am' n)⟩
  lowers := by
    obtain ⟨l, hl, al⟩ := h.lowers
    obtain ⟨m, hm, am⟩ := k.lowers
    exact ⟨l ++ m, by rw [hm, hl, List.append_assoc], fun c hc => (List.mem_append.1 hc).elim (al c) (am c)⟩

section

variable {s t : State} (h : s.Steps t)
include h

theorem State.Steps.pmx : t.pmx = s.pmx := by obtain ⟨_, _, _, _, rfl⟩ := h.rest; rfl
theorem State.Steps.clock : t.clock = s.clock := by obtain ⟨_, _, _, _, rfl⟩ := h.rest; rfl
theorem State.Steps.time : t.time = s.time := by obtain ⟨_, _, _, _, rfl⟩ := h.rest; rfl
theorem State.Steps.stc : t.stc = s.stc := by obtain ⟨_, _, _, _, rfl⟩ := h.rest; rfl
theorem State.Steps.sli : t.sli = s.sli := by obtain ⟨_, _, _, _, rfl⟩ := h.rest; rfl

/-- An actuator's notice is the same before and after changes of other actuators. -/
theorem State.Steps.actNote (a : Fin 8) (x y : ActState) (c : ActCause) : t.actNote a x y c = s.actNote a x y c := by
  unfold State.actNote; rw [h.time, h.cycles, h.force]

end

/-- A stop leaves the plan going, with its levels. -/
theorem Sequencer.stopped_spec (q : Sequencer) : q.stopped.state.going = true ∧ q.stopped.levels = q.levels := by
  by_cases h : q.activity.isWave = true
  · by_cases hm : q.pauseLength = 0
    · rw [Sequencer.stopped_of_no_pause h hm]; exact ⟨rfl, rfl⟩
    · rw [Sequencer.stopped_of_pause h hm]; exact ⟨rfl, rfl⟩
  · rw [Sequencer.stopped_of_level (by simpa using h)]; exact ⟨rfl, rfl⟩

theorem Sequencer.stopNotes_kind (q : Sequencer) (time : Nat) : ∀ n ∈ q.stopNotes time, n.kind = .seqState := by
  unfold Sequencer.stopNotes
  dsimp only
  split <;> simp [Sequencer.note]

section

variable {s t : State} (hg : ∀ g, (t.group g).members = (s.group g).members)
  (ha : ∀ a, (t.act a).cfg.enabled = (s.act a).cfg.enabled ∧ (t.act a).source = (s.act a).source)
include hg

theorem groupOf_of_members (k : Fin 8) : t.groupOf k = s.groupOf k := by unfold State.groupOf; simp only [hg]

include ha

theorem inUse_of_same (k : Fin 8) : t.inUse k = s.inUse k := by
  unfold State.inUse Group.lead
  rw [(ha k).1, (ha k).2, groupOf_of_members hg]
  simp only [hg]

theorem trackLost_of_same (active : ∀ a, (t.act a).state = .active → (s.act a).state = .active) {k : Fin 8}
    (h : s.trackLost k) : t.trackLost k := by
  obtain ⟨inUse, out⟩ := h
  refine ⟨by rw [inUse_of_same hg ha]; exact inUse, ?_⟩
  rcases out with ⟨free, off⟩ | ⟨g, hk, off⟩
  · exact .inl ⟨by rw [groupOf_of_members hg]; exact free, fun e => off (active k e)⟩
  · exact .inr ⟨g, by rw [groupOf_of_members hg]; exact hk, fun y hy e => off y (by rw [← hg]; exact hy) (active y.1 e)⟩

/-- Where a track is lost already, or none is in use, a departure from ACTIVE changes neither. -/
theorem unlosing_of_same (active : ∀ a, (t.act a).state = .active → (s.act a).state = .active) (h : s.unlosing) : t.unlosing :=
  h.imp (fun lost => by
    obtain ⟨k, hk⟩ := (lostCause_iff s).1 lost
    exact (lostCause_iff t).2 ⟨k, trackLost_of_same hg ha active hk⟩) fun none k => (inUse_of_same hg ha k).trans (none k)

end

theorem entered_same (s : State) (a : Fin 8) (x : ActState) (b : Fin 8) :
    ((s.modAct a (Actuator.entered x)).act b).cfg.enabled = (s.act b).cfg.enabled ∧
      ((s.modAct a (Actuator.entered x)).act b).source = (s.act b).source := by
  rw [State.modAct_act]
  split
  · rename_i e; subst e; exact ⟨by rw [Actuator.entered_cfg], Actuator.entered_source ..⟩
  · exact ⟨rfl, rfl⟩

theorem losing_of_unlosing {s : State} (h : s.unlosing) (a : Fin 8) (x : ActState) : s.losing a x = false := by
  unfold State.losing
  rcases h with h | h
  · rw [h]; rfl
  · have : ¬(s.modAct a (Actuator.entered x)).lostCause = true := fun lost => by
      obtain ⟨k, inUse, -⟩ := (lostCause_iff _).1 lost
      rw [inUse_of_same (s := s) (t := s.modAct a (Actuator.entered x)) (fun _ => rfl) (entered_same s a x), h k] at inUse
      exact nomatch inUse
    rw [Bool.not_eq_true] at this
    rw [this, Bool.and_false, Bool.false_and]

theorem lguEntered_members (s : State) (a : Fin 8) (x : ActState) (g : Fin 4) :
    (s.lguEntered a x)[g].members = (s.group g).members := by
  unfold State.lguEntered
  split
  · exact (eased_groupMembership a (s.modAct a (Actuator.entered x)) g).members
  · rfl

/-- An entry to a state lowers conditions of its own actuator alone. -/
theorem leaves_actuator (s : State) (a : Fin 8) (x : ActState) : ∀ c ∈ s.leaves a x, c.actuator.isSome = true := by
  intro c hc
  unfold State.leaves at hc
  rcases List.mem_append.1 hc with hc | hc <;> split at hc
  · have := (List.mem_filter.1 hc).1
    simp only [List.mem_cons, List.not_mem_nil, or_false] at this
    rcases this with rfl | rfl | rfl <;> rfl
  · exact nomatch hc
  · rw [List.mem_singleton.1 (List.mem_filter.1 hc).1]; rfl
  · exact nomatch hc

/-- A change of an actuator's state, other than an entry to ACTIVE. -/
theorem steps_setActState (a : Fin 8) {x : ActState} (hx : x ≠ .active) (c : ActCause) (s : State) :
    s.Steps (setActState a x c s) := by
  have state (b : Fin 8) : ((setActState a x c s).act b).state = .active → (s.act b).state = .active := by
    rw [setActState_state]
    split
    · exact fun e => absurd e hx
    · exact id
  have cfg (b : Fin 8) : ((setActState a x c s).act b).cfg.enabled = (s.act b).cfg.enabled ∧
      ((setActState a x c s).act b).source = (s.act b).source := by
    rw [setActState_eq]; exact entered_same s a x b
  have members (g : Fin 4) : ((setActState a x c s).group g).members = (s.group g).members := by
    rw [setActState_eq]; exact lguEntered_members s a x g
  have force (b : Fin 8) : ((s.modAct a (Actuator.entered x)).act b).force = (s.act b).force := by
    rw [State.modAct_act]
    split
    · rename_i e; subst e; exact Actuator.entered_force ..
    · rfl
  have unlost (h : s.unlosing) := unlosing_of_same members cfg state h
  have formed : ∃ l m, (setActState a x c s).ev.acts = s.ev.acts ++ l ∧ (setActState a x c s).ev.seqs = s.ev.seqs ++ m ∧
      (∀ x ∈ l, x.2.kind = .actState) ∧ ∀ n ∈ m, n.kind = .seqState := by
    rw [setActState_eq]
    refine ⟨_, _, rfl, rfl, fun y hy => ?_, fun n hn => ?_⟩
    · split at hy
      · rw [List.mem_singleton.1 hy]; rfl
      · exact nomatch hy
    · split at hn
      · exact Sequencer.stopNotes_kind _ _ n hn
      · exact nomatch hn
  have lowers : ∃ l, (setActState a x c s).ev.lowers = s.ev.lowers ++ l ∧ ∀ c ∈ l, c.actuator.isSome = true := by
    rw [setActState_eq]
    exact ⟨_, rfl, leaves_actuator s a x⟩
  rw [setActState_eq] at unlost formed lowers ⊢
  by_cases lose : s.losing a x = true
  · have going : s.psq.state.going = true := by
      unfold State.losing at lose
      exact (Bool.and_eq_true_iff.1 lose).2
    have never (h : s.unlosing) : False := by rw [losing_of_unlosing h] at lose; exact nomatch lose
    refine ⟨⟨_, _, _, _, rfl⟩, force, ?_, ?_, ?_, fun h => (never h).elim, formed, lowers⟩
    all_goals
      dsimp only
      rw [if_pos lose]
      split
    · exact Sequencer.stopped_totalCycles _
    · rfl
    · exact (Sequencer.stopped_spec _).2
    · rfl
    · rw [(Sequencer.stopped_spec _).1, going]
    · rfl
  · refine ⟨⟨_, _, _, _, rfl⟩, force, ?_, ?_, ?_, fun h => ⟨unlost h, ?_, ?_⟩, formed, lowers⟩
    · exact congrArg Sequencer.totalCycles (if_neg lose)
    · exact congrArg Sequencer.levels (if_neg lose)
    · exact congrArg (fun q : Sequencer => q.state.going) (if_neg lose)
    · exact if_neg lose
    · exact (congrArg (s.ev.seqs ++ ·) (if_neg fun k => lose k.1)).trans (List.append_nil _)

/-- A change of what neither the tracks in use nor the notices read. -/
theorem steps_modAct (a : Fin 8) {f : Actuator → Actuator} (s : State)
    (hf : (f (s.act a)).state = (s.act a).state ∧ (f (s.act a)).cfg = (s.act a).cfg ∧ (f (s.act a)).source = (s.act a).source ∧
      (f (s.act a)).force = (s.act a).force) : s.Steps (s.modAct a f) := by
  obtain ⟨state, cfg, source, force⟩ := hf
  have act (b : Fin 8) : ((s.modAct a f).act b).state = (s.act b).state ∧ ((s.modAct a f).act b).cfg = (s.act b).cfg ∧
      ((s.modAct a f).act b).source = (s.act b).source ∧ ((s.modAct a f).act b).force = (s.act b).force := by
    rw [State.modAct_act]
    split
    · rename_i e; subst e; exact ⟨state, cfg, source, force⟩
    · exact ⟨rfl, rfl, rfl, rfl⟩
  refine ⟨⟨_, _, _, _, rfl⟩, fun b => (act b).2.2.2, rfl, rfl, rfl, fun h => ⟨?_, rfl, rfl⟩, ⟨[], [], by simp⟩, [],
    by simp⟩
  exact unlosing_of_same (s := s) (t := s.modAct a f) (fun _ => rfl) (fun b => ⟨by rw [(act b).2.1], (act b).2.2.1⟩)
    (fun b e => by rw [← (act b).1]; exact e) h

theorem steps_enterUnloading (a : Fin 8) (b : Bool) (c : ActCause) (s : State) : s.Steps (enterUnloading a b c s) := by
  refine (steps_setActState a (by decide) c s).trans (steps_modAct a _ ?_)
  dsimp only
  split <;> exact ⟨rfl, rfl, rfl, rfl⟩

/-! ### Walks over the actuators -/

/-- What a walk over the actuators makes, where each step changes its own actuator alone and forms the notices `note`. -/
theorem steps_forAsc {f : Fin 8 → State → State} (R : Fin 8 → Actuator → Actuator → Prop) (note : Fin 8 → State → List Notice)
    (steps : ∀ a (s : State), s.Steps (f a s)) (own : ∀ a s, R a (s.act a) ((f a s).act a))
    (others : ∀ a b s, a ≠ b → (f a s).act b = s.act b)
    (forms : ∀ a s, (f a s).ev.acts = s.ev.acts ++ (note a s).map fun n => (a, n))
    (same : ∀ a (s t : State), s.Steps t → t.act a = s.act a → note a t = note a s) (s : State) :
    s.Steps (forAsc 8 f s) ∧ (∀ a, R a (s.act a) ((forAsc 8 f s).act a)) ∧
      (forAsc 8 f s).ev.acts = s.ev.acts ++ (List.finRange 8).flatMap fun a => (note a s).map fun n => (a, n) := by
  have walk (l : List (Fin 8)) (once : l.Nodup) (s : State) :
      s.Steps (l.foldl (fun s a => f a s) s) ∧ (∀ a ∈ l, R a (s.act a) ((l.foldl (fun s a => f a s) s).act a)) ∧
      (∀ a ∉ l, (l.foldl (fun s a => f a s) s).act a = s.act a) ∧
      (l.foldl (fun s a => f a s) s).ev.acts = s.ev.acts ++ l.flatMap fun a => (note a s).map fun n => (a, n) := by
    induction l generalizing s with
    | nil => exact ⟨.rfl', nofun, fun _ _ => rfl, (List.append_nil _).symm⟩
    | cons a l ih =>
      obtain ⟨out, rest⟩ := List.nodup_cons.1 once
      obtain ⟨h1, h2, h3, h4⟩ := ih rest (f a s)
      have kept (b : Fin 8) (hb : b ∈ l) : (f a s).act b = s.act b := others a b s fun e => out (e ▸ hb)
      refine ⟨(steps a s).trans h1, fun b hb => ?_, fun b hb => ?_, ?_⟩
      · rcases List.mem_cons.1 hb with e | hb
        · subst e
          rw [List.foldl_cons, h3 b out]; exact own b s
        · rw [List.foldl_cons, ← kept b hb]; exact h2 b hb
      · rw [List.mem_cons, not_or] at hb
        rw [List.foldl_cons, h3 b hb.2]; exact others a b s (Ne.symm hb.1)
      · rw [List.foldl_cons, h4, forms, List.append_assoc, List.flatMap_cons]
        refine congrArg (fun l => s.ev.acts ++ (_ ++ l)) ?_
        refine List.flatMap_congr fun b hb => ?_
        rw [same b s (f a s) (steps a s) (kept b hb)]
  obtain ⟨h1, h2, -, h4⟩ := walk (List.finRange 8) (List.nodup_finRange 8) s
  exact ⟨h1, fun a => h2 a (List.mem_finRange a), h4⟩

/-! ### The end of an event (R74, R183) -/

/-- The ACT_STATE notices of an event in ascending actuator order. -/
def EventBuffer.actNotices (e : EventBuffer) : List Notice :=
  (List.finRange 8).flatMap fun a => (e.acts.filter fun x => x.1 = a).map Prod.snd

/-- Notices formed in ascending order stay in it. -/
theorem actNotices_of_ascending {e : EventBuffer} {note : Fin 8 → List Notice}
    (h : e.acts = (List.finRange 8).flatMap fun a => (note a).map fun n => (a, n)) :
    e.actNotices = (List.finRange 8).flatMap note := by
  refine List.flatMap_congr fun a _ => ?_
  have only (b : Fin 8) : ((note b).map fun n => (b, n)).filter (fun x => decide (x.1 = a)) =
      if b = a then (note a).map fun n => (a, n) else [] := by
    split
    · rename_i e; subst e
      exact List.filter_eq_self.2 fun x hx => by
        obtain ⟨n, -, rfl⟩ := List.mem_map.1 hx
        exact decide_eq_true rfl
    · rename_i e
      exact List.filter_eq_nil_iff.2 fun x hx => by
        obtain ⟨n, -, rfl⟩ := List.mem_map.1 hx
        rw [decide_eq_true_eq]; exact e
  have single : ((List.finRange 8).flatMap fun b => if b = a then (note a).map fun n => (a, n) else []) =
      (note a).map fun n => (a, n) := by
    fin_cases a <;> exact List.append_nil _
  rw [h, List.filter_flatMap]
  simp only [only]
  rw [single, List.map_map]
  exact List.map_id _

theorem lower_trips (c : Cond) (s : State) :
    (lower c s).pmx.tripLog = s.pmx.tripLog ∧ (lower c s).pmx.firstOut = s.pmx.firstOut := by
  unfold lower
  split
  · rw [merge_pmx]; exact ⟨rfl, rfl⟩
  · exact ⟨rfl, rfl⟩

theorem foldl_lower_spec (l : List Cond) (s : State) :
    s.Advised (l.foldl (fun s c => lower c s) s) ∧ (l.foldl (fun s c => lower c s) s).sli = s.sli ∧
      (l.foldl (fun s c => lower c s) s).pmx.tripLog = s.pmx.tripLog ∧
      (l.foldl (fun s c => lower c s) s).pmx.firstOut = s.pmx.firstOut := by
  induction l generalizing s with
  | nil => exact ⟨.rfl', rfl, rfl, rfl⟩
  | cons c l ih =>
    obtain ⟨h, k, log, first⟩ := ih (lower c s)
    obtain ⟨log', first'⟩ := lower_trips c s
    exact ⟨(advised_lower c s).trans h, k.trans (lower_sli c s), log.trans log', first.trans first'⟩

/-- The end of an event: its notices are queued, and then lowerings alone are taken. -/
theorem flush_eq (s : State) : flush s = s.ev.lowers.foldl (fun s c => lower c s)
    (({ s with ev := {} } : State).noted (s.ev.actNotices ++ s.ev.seqs)) := by
  have notes : flushNotices s = ({ s with ev := { s.ev with acts := [], seqs := [] } } : State).noted
      (s.ev.actNotices ++ s.ev.seqs) := rfl
  rw [noted_eq] at notes
  unfold flush
  rw [notes, noted_eq]

theorem flush_spec (s : State) :
    ({ s with ev := {} } : State).Moved (flush s) ∧ Noted s (flush s) (s.ev.actNotices ++ s.ev.seqs) ∧
      (flush s).pmx.tripLog = s.pmx.tripLog ∧ (flush s).pmx.firstOut = s.pmx.firstOut := by
  obtain ⟨h, sli, log, first⟩ := foldl_lower_spec s.ev.lowers
    (({ s with ev := {} } : State).noted (s.ev.actNotices ++ s.ev.seqs))
  rw [← flush_eq] at h sli log first
  refine ⟨(moved_noted _ _).trans h.toMoved, ?_, ?_, ?_⟩
  · have noted := noted_iff.1 ((Noted.noted ({ s with ev := {} } : State) (s.ev.actNotices ++ s.ev.seqs)).congr sli)
    exact noted_iff.2 noted
  · rw [log, noted_eq]
  · rw [first, noted_eq]

/-! ### The unload of a RESTART (R10, R74) -/

/-- The ACT_STATE notices that a RESTART's unload forms of an actuator. -/
def State.restartNotes (a : Fin 8) (s : State) : List Notice :=
  match (s.act a).state with
  | .starting | .low | .raising => [s.actNote a .off (s.act a).state .restart]
  | .off | .active | .unloading | .tripped => []

theorem steps_actOff (a : Fin 8) (c : ActCause) (s : State) : s.Steps (actOff a c s) := by
  unfold actOff
  split
  · exact steps_setActState a (by decide) c s
  · exact steps_setActState a (by decide) c s
  · exact steps_setActState a (by decide) c s
  · exact steps_enterUnloading a true c s
  · exact steps_modAct a s ⟨rfl, rfl, rfl, rfl⟩
  · exact .rfl'
  · exact .rfl'

theorem setActState_acts (a : Fin 8) (x : ActState) (c : ActCause) (s : State) : (setActState a x c s).ev.acts =
    s.ev.acts ++ if x.notified then [(a, s.actNote a x (s.act a).state c)] else [] := by rw [setActState_eq]

theorem actOff_acts (a : Fin 8) (s : State) :
    (actOff a .restart s).ev.acts = s.ev.acts ++ (s.restartNotes a).map fun n => (a, n) := by
  unfold actOff State.restartNotes
  cases h : (s.act a).state with
  | starting => rw [setActState_acts, h]; rfl
  | low => rw [setActState_acts, h]; rfl
  | raising => rw [setActState_acts, h]; rfl
  | active => exact (setActState_acts ..).trans (by rw [h]; rfl)
  | unloading => exact (List.append_nil _).symm
  | off => exact (List.append_nil _).symm
  | tripped => exact (List.append_nil _).symm

theorem setActState_act_other {a b : Fin 8} (h : a ≠ b) (x : ActState) (c : ActCause) (s : State) :
    (setActState a x c s).act b = s.act b := (setActState_act a x c s b).trans (State.modAct_act_other _ _ h)

theorem actOff_other (a b : Fin 8) (c : ActCause) (s : State) (h : a ≠ b) : (actOff a c s).act b = s.act b := by
  unfold actOff
  split
  · exact setActState_act_other h ..
  · exact setActState_act_other h ..
  · exact setActState_act_other h ..
  · exact (State.modAct_act_other _ _ h).trans (setActState_act_other h ..)
  · exact State.modAct_act_other _ _ h
  · rfl
  · rfl

theorem actOff_destOff (a : Fin 8) (c : ActCause) (s : State) (h : (s.act a).state = .active ∨ (s.act a).state = .unloading) :
    ((actOff a c s).act a).destOff = true := by
  unfold actOff
  rcases h with h | h
  · rw [h]
    exact congrArg Actuator.destOff (State.modAct_act_same ..)
  · rw [h]
    exact congrArg Actuator.destOff (State.modAct_act_same ..)

/-- What a RESTART's unload makes of an actuator's state and destination (R10, R76). -/
def Actuator.RestartOff (x y : Actuator) : Prop :=
  y.state = (match x.state with
    | .off | .starting | .low | .raising => .off
    | .active | .unloading => .unloading
    | .tripped => .tripped) ∧
  (x.state = .active ∨ x.state = .unloading → y.destOff = true)

theorem actOff_own (a : Fin 8) (c : ActCause) (s : State) : (s.act a).RestartOff ((actOff a c s).act a) := by
  refine ⟨?_, actOff_destOff a c s⟩
  rw [actOff_state, if_pos rfl]
  cases (s.act a).state <;> rfl

theorem restartNotes_same (a : Fin 8) (s t : State) (h : s.Steps t) (k : t.act a = s.act a) :
    t.restartNotes a = s.restartNotes a := by
  unfold State.restartNotes; rw [k]; simp only [h.actNote]

theorem restartNotes_kind (a : Fin 8) (s : State) : ∀ n ∈ s.restartNotes a, n.kind = .actState := by
  unfold State.restartNotes
  cases (s.act a).state <;> simp [State.actNote]

theorem steps_restartOff (s : State) :
    s.Steps (forAsc 8 (fun a s => actOff a .restart s) s) ∧
      (∀ a, (s.act a).RestartOff ((forAsc 8 (fun a s => actOff a .restart s) s).act a)) ∧
      (forAsc 8 (fun a s => actOff a .restart s) s).ev.acts =
        s.ev.acts ++ (List.finRange 8).flatMap fun a => (s.restartNotes a).map fun n => (a, n) :=
  steps_forAsc (f := fun a s => actOff a .restart s) (fun _ => Actuator.RestartOff) (fun a s => s.restartNotes a)
    (fun a s => steps_actOff a .restart s) (fun a s => actOff_own a .restart s) (fun a b s h => actOff_other a b .restart s h)
    (fun a s => actOff_acts a s) restartNotes_same s

/-- The end of an event that began in `s` with nothing formed: its ACT_STATE notices in actuator order, and no other of them. -/
theorem State.Steps.forms_actState {s u : State} (h : s.Steps u) (ev : s.ev = {}) {note : Fin 8 → List Notice}
    (acts : u.ev.acts = (List.finRange 8).flatMap fun a => (note a).map fun n => (a, n))
    (kinds : ∀ a, ∀ n ∈ note a, n.kind = .actState) :
    Forms s (flush u) (Notice.is .actState) ((List.finRange 8).flatMap note) := by
  obtain ⟨-, m, -, seqs, -, other⟩ := h.formed
  have none : m.filter (Notice.is .actState) = [] := List.filter_eq_nil_iff.2 fun n hn => by
    unfold Notice.is; rw [other n hn]; decide
  have all : ((List.finRange 8).flatMap note).filter (Notice.is .actState) = (List.finRange 8).flatMap note :=
    List.filter_eq_self.2 fun n hn => by
      obtain ⟨a, -, ha⟩ := List.mem_flatMap.1 hn
      exact decide_eq_true (kinds a n ha)
  obtain ⟨-, noted, -⟩ := flush_spec u
  have forms := noted.forms (Notice.is .actState)
  rw [List.filter_append, actNotices_of_ascending acts, all, seqs, ev, List.nil_append, none, List.append_nil] at forms
  have same := (Forms.of_sli (p := Notice.is .actState) h.sli).trans forms
  rwa [List.nil_append] at same

/-- What the end of such an event leaves unchanged. -/
theorem State.Steps.ends {s u : State} (h : s.Steps u) (ev : s.ev = {}) :
    ∃ q v g p l lost, flush u = { s with
      psq := q, svc := { s.svc with acts := v }, lgu := g, pmx := p
      sli := { s.sli with notices := l, noticesLost := lost } } := by
  obtain ⟨v, g, p, l, lost, ends⟩ := (flush_spec u).1.rest
  obtain ⟨q, _, _, _, rfl⟩ := h.rest
  refine ⟨q, v, g, p, l, lost, ends.trans ?_⟩
  rw [State.advisedTo, ← ev]

theorem restartWait_spec {s : State} (ev : s.ev = {}) :
    (∃ q v g p l lost, restartWait s = { s with
      stc := { s.stc with restartPending := true }, psq := q, svc := { s.svc with acts := v }, lgu := g, pmx := p
      sli := { s.sli with notices := l, noticesLost := lost } }) ∧
    (∀ a, (s.act a).RestartOff ((restartWait s).act a)) ∧
    Forms s (restartWait s) (Notice.is .actState) ((List.finRange 8).flatMap fun a => s.restartNotes a) ∧
    (restartWait s).pmx.tripLog = s.pmx.tripLog ∧ (restartWait s).pmx.firstOut = s.pmx.firstOut := by
  obtain ⟨r, hr⟩ : ∃ r, r = s.modStc fun c => { c with restartPending := true } := ⟨_, rfl⟩
  obtain ⟨u, hu⟩ : ∃ u, u = forAsc 8 (fun a s => actOff a .restart s) r := ⟨_, rfl⟩
  have eq : restartWait s = flush u := by rw [hu, hr]; rfl
  obtain ⟨steps, own, acts⟩ := steps_restartOff r
  rw [← hu] at steps own acts
  have empty : r.ev = {} := by rw [hr]; exact ev
  have sli : r.sli = s.sli := by rw [hr]; rfl
  have same (a : Fin 8) : r.restartNotes a = s.restartNotes a := by rw [hr]; rfl
  have pmx : r.pmx = s.pmx := by rw [hr]; rfl
  obtain ⟨moved, -, log, first⟩ := flush_spec u
  simp only [empty, List.nil_append] at acts
  have forms := (Forms.of_sli (p := Notice.is .actState) sli).trans
    (steps.forms_actState empty acts fun a => restartNotes_kind a r)
  simp only [same, List.nil_append] at forms
  rw [eq]
  refine ⟨?_, fun a => ?_, forms, ?_, ?_⟩
  · rw [hr] at steps
    exact steps.ends ev
  · obtain ⟨d, hd⟩ := moved.act a
    rw [hd]
    have := own a
    rw [hr] at this
    exact this
  · rw [log, steps.pmx, pmx]
  · rw [first, steps.pmx, pmx]

theorem map_filter_eq_flatMap {α β : Type} (q : α → Bool) (f : α → β) (l : List α) :
    (l.filter q).map f = l.flatMap fun a => if q a = true then [f a] else [] := by
  induction l with
  | nil => rfl
  | cons a l ih =>
    rw [List.filter_cons, List.flatMap_cons, ← ih]
    split <;> rfl

/-- The actuators that a RESTART's unload takes to OFF, with their notices, ascending. -/
theorem restartNotes_eq {s t : State} (own : ∀ a, (s.act a).RestartOff (t.act a)) :
    ((List.finRange 8).flatMap fun a => s.restartNotes a) =
      ((List.finRange 8).filter fun a => (s.act a).state ≠ .off ∧ (t.act a).state = .off).map fun a =>
        s.actNote a .off (s.act a).state .restart := by
  rw [map_filter_eq_flatMap]
  refine List.flatMap_congr fun a _ => ?_
  have state := (own a).1
  unfold State.restartNotes
  cases h : (s.act a).state <;> rw [h] at state <;> simp [state]

/-- A reply adds no notice to those an event has formed. -/
theorem Forms.answered {s u : State} {p : Notice → Bool} {l : List Notice} (h : Forms s.received u p l) (code : Byte) (f : Frame)
    (payload : List Byte) : Forms s (u.answered code f payload) p l := by
  have before : Forms s s.received p [] := (Noted.of_same (s := s) (t := s.received) ⟨rfl, rfl⟩).forms p
  have after : Forms u (u.answered code f payload) p [] :=
    (Noted.of_same (s := u) (t := u.answered code f payload) ⟨rfl, rfl⟩).forms p
  have := (before.trans h).trans after
  rwa [List.nil_append, List.append_nil] at this

/-- Settles O12. -/
theorem restartWaitsForRest : Obligations.RestartWaitsForRest := by
  intro f s takes ev loaded
  obtain ⟨⟨q, v, g, p, l, lost, rest⟩, own, forms, log, first⟩ := restartWait_spec (s := s.received) ev
  have loaded' : ¬s.received.allAtRest = true := fun rest => by
    obtain ⟨a, ha⟩ := loaded
    rcases (allAtRest_iff s.received).1 rest a with h | h <;> rw [show (s.act a).state = _ from h] at ha <;> simp at ha
  obtain ⟨u, hu⟩ : ∃ u, u = restartWait s.received := ⟨_, rfl⟩
  rw [← hu] at rest own forms log first
  have hunts : u.received = u := received_of_no_rx (by rw [rest]; rfl)
  have run := restartCommand_of_takes takes (u := u) (by rw [if_neg loaded', hunts, hu])
  have due : u.noResetDue := .inr (by
    have := mt (allAtRest_restartWait s.received).1 (not_not.2 loaded)
    rw [hu]; simpa using this)
  refine ⟨u.answered 0x07 f [], ?_, ?_, ?_, ?_, log, first, ?_, repliedDone_answered (by rw [rest]; rfl) _ _ _, ?_⟩
  · show stepDone (restartCommand f s) = _
    rw [run, if_neg (show ¬s.allAtRest = true from loaded')]
    exact stepDone_of_noResetDue (noResetDue_replied due)
  · show u.stc = _
    rw [rest]; rfl
  · exact fun a => (own a).1
  · exact fun a => (own a).2
  · rw [restartNotes_eq own] at forms
    exact forms.answered 0x07 f []
  · show ({ u with sli := _ } : State) = _
    rw [rest]; rfl

end Sys2Proof.Machine

/-!
The pieces of work of a control sample, one by one: conditions, completed unloads, zones and marks (R68, R82, R137, R168, R185).
-/
namespace Sys2Proof.Machine

/-! ### The places of the condition table (R177) -/

theorem actCondBase_injective (k l : ActCond) : actCondBase k = actCondBase l → k = l := by
  cases k <;> cases l <;> decide

/-- Two conditions share no place in the table. -/
theorem Cond.slot_injective {c d : Cond} (h : c.slot = d.slot) : c = d := by
  have val := congrArg Fin.val h
  have base {k l : ActCond} (e : (actCondBase k).val = (actCondBase l).val) : k = l := actCondBase_injective k l (Fin.ext e)
  have lt (k : ActCond) : (actCondBase k).val < 6 := (actCondBase k).isLt
  cases c <;> cases d <;> simp only [Cond.slot] at val <;> grind

theorem Cond.slot_ne {c d : Cond} (h : c ≠ d) : c.slot ≠ d.slot := fun e => h (slot_injective e)

theorem lower_raised_other {c d : Cond} (h : c ≠ d) (s : State) : (lower c s).raised d = s.raised d := by
  rw [lower_raised, if_neg (Cond.slot_ne h)]

theorem foldl_lower_raised (l : List Cond) (s : State) (d : Cond) :
    (l.foldl (fun s c => lower c s) s).raised d = (s.raised d && decide (d ∉ l)) := by
  induction l generalizing s with
  | nil => rw [List.foldl_nil, decide_eq_true List.not_mem_nil, Bool.and_true]
  | cons c l ih =>
    rw [List.foldl_cons, ih]
    by_cases e : c = d
    · subst e
      rw [lower_raised, if_pos rfl, decide_eq_false (p := c ∉ c :: l) (fun h => h List.mem_cons_self), Bool.and_false]; rfl
    · have mem : d ∉ l ↔ d ∉ c :: l := by
        rw [List.mem_cons, not_or]; exact (and_iff_right fun h => e h.symm).symm
      rw [lower_raised_other e, decide_eq_decide.2 mem]

theorem flush_raised (s : State) (d : Cond) : (flush s).raised d = (s.raised d && decide (d ∉ s.ev.lowers)) := by
  rw [flush_eq, foldl_lower_raised, noted_eq]; rfl

theorem Noted.of_start {s u t : State} {l : List Notice} (h : Noted u t l) (k : u.sli = s.sli) : Noted s t l := by
  rw [noted_iff] at h ⊢
  rwa [← k]

/-! ### A completed unload (R82) -/

/-- An actuator whose unload has completed. -/
def Actuator.completed (x : Actuator) : Actuator :=
  if x.destOff then x.entered .off else (bumpless .stroke { x with strokeHold := x.stroke }).entered .low

theorem Actuator.completed_cfg (x : Actuator) : x.completed.cfg = x.cfg := by
  unfold completed
  split <;> exact entered_cfg ..

theorem Actuator.completed_force (x : Actuator) : x.completed.force = x.force := by
  unfold completed
  split <;> exact entered_force ..

theorem Actuator.completed_source (x : Actuator) : x.completed.source = x.source := by
  unfold completed
  split <;> exact entered_source ..

theorem Actuator.completed_withDerate (x : Actuator) (d : Int) : ({ x with derate := d } : Actuator).completed =
    { x.completed with derate := d } := by
  unfold completed entered bumpless
  dsimp only
  split <;> split <;> rfl

/-- The state that a completed unload leads to. -/
def Actuator.goalState (x : Actuator) : ActState := if x.destOff then .off else .low

theorem Actuator.completed_state (x : Actuator) : x.completed.state = x.goalState := by
  unfold completed goalState
  split <;> rfl

/-- The conditions that a completed unload lowers (R50, R82). -/
def completionLowers (x : Actuator) (a : Fin 8) : List Cond :=
  if x.destOff then [.act .following a, .act .stall a, .act .envelope a, .unloadTimeout a] else [.unloadTimeout a]

/-- A completed unload as its event has formed it. -/
theorem completeUnload_eq {s : State} {a : Fin 8} (ev : s.ev = {}) (h : (s.act a).state = .unloading) :
    completeUnload a s = { s.modAct a Actuator.completed with
      ev := { acts := [(a, s.actNote a (s.act a).goalState .unloading .unloadDone)]
              lowers := (completionLowers (s.act a) a).filter s.raised } } := by
  have enters (t : State) (x : ActState) (hx : x = .off ∨ x = .low) (ht : (t.act a).state = .unloading) (evt : t.ev = {}) :
      setActState a x .unloadDone t = { t.modAct a (Actuator.entered x) with
        ev := { acts := [(a, t.actNote a x .unloading .unloadDone)], lowers := t.leaves a x } } := by
    have out : ¬(t.act a).state = .active := by rw [ht]; exact nofun
    have lose : t.losing a x = false := losing_of_not_active fun e => absurd e out
    have same : t.lguEntered a x = t.lgu := lguEntered_same fun e => e.elim out (by rcases hx with rfl | rfl <;> exact nofun)
    have told : x.notified = true := by rcases hx with rfl | rfl <;> rfl
    rw [setActState_eq, lose, same, evt, ht, told]
    simp only [Bool.false_eq_true, if_false, if_true, false_and, List.append_nil, List.nil_append]
    rfl
  cases off : (s.act a).destOff with
  | true =>
    have leaves : s.leaves a .off = (completionLowers (s.act a) a).filter s.raised := by
      rw [State.leaves, if_pos (.inl rfl), if_pos h, ← List.filter_append, completionLowers, if_pos off]; rfl
    have goal : (s.act a).goalState = .off := if_pos off
    have done : s.modAct a (Actuator.entered .off) = s.modAct a Actuator.completed :=
      State.modAct_congr (by rw [Actuator.completed, if_pos off])
    rw [completeUnload, if_pos off, enters s .off (.inl rfl) h ev, leaves, goal, done]
  | false =>
    obtain ⟨f, hf⟩ : ∃ f : Actuator → Actuator, f = fun x => bumpless .stroke { x with strokeHold := x.stroke } := ⟨_, rfl⟩
    have state : ((s.modAct a f).act a).state = .unloading := by
      rw [State.modAct_act, if_pos rfl, hf]; exact h
    have force : ((s.modAct a f).act a).force = (s.act a).force := by rw [State.modAct_act, if_pos rfl, hf]; rfl
    have leaves : (s.modAct a f).leaves a .low = (completionLowers (s.act a) a).filter s.raised := by
      rw [State.leaves, if_neg nofun, if_pos state, List.nil_append, completionLowers, off]; rfl
    have goal : (s.act a).goalState = .low := by rw [Actuator.goalState, off]; rfl
    have done : (s.modAct a f).modAct a (Actuator.entered .low) = s.modAct a Actuator.completed := by
      rw [State.modAct_modAct]
      exact State.modAct_congr (by rw [Actuator.completed, if_neg (by rw [off]; decide), hf])
    have note : (s.modAct a f).actNote a .low .unloading .unloadDone = s.actNote a .low .unloading .unloadDone := by
      unfold State.actNote; rw [force]; rfl
    have eq : completeUnload a s = setActState a .low .unloadDone (s.modAct a f) := by
      rw [completeUnload, off, hf]; rfl
    rw [eq, enters (s.modAct a f) .low (.inr rfl) state ev, leaves, goal, done, note]

/-- A completed unload, whole. -/
theorem flush_completeUnload {s : State} {a : Fin 8} (ev : s.ev = {}) (h : (s.act a).state = .unloading) :
    (s.modAct a Actuator.completed).Moved (flush (completeUnload a s)) ∧
      Noted s (flush (completeUnload a s)) [s.actNote a (s.act a).goalState .unloading .unloadDone] ∧
      ∀ d, (flush (completeUnload a s)).raised d = (s.raised d && decide (d ∉ completionLowers (s.act a) a)) := by
  have eq := completeUnload_eq ev h
  obtain ⟨moved, noted, -⟩ := flush_spec (completeUnload a s)
  have notes : (completeUnload a s).ev.actNotices ++ (completeUnload a s).ev.seqs =
      [s.actNote a (s.act a).goalState .unloading .unloadDone] := by
    rw [eq]
    refine (List.append_nil _).trans ?_
    refine (actNotices_of_ascending (note := fun b => if b = a then [s.actNote a (s.act a).goalState .unloading .unloadDone] else []) ?_).trans ?_
    · fin_cases a <;> rfl
    · fin_cases a <;> rfl
  have raised (d : Cond) : (flush (completeUnload a s)).raised d = (s.raised d && decide (d ∉ completionLowers (s.act a) a)) := by
    rw [flush_raised, eq]
    show (s.raised d && decide (d ∉ (completionLowers (s.act a) a).filter s.raised)) = _
    cases hd : s.raised d with
    | false => rfl
    | true =>
      refine congrArg (true && ·) (decide_eq_decide.2 (not_congr ?_))
      rw [List.mem_filter, and_iff_left hd]
  rw [notes] at noted
  refine ⟨?_, noted.of_start ?_, raised⟩
  · have : ({ completeUnload a s with ev := {} } : State) = s.modAct a Actuator.completed := by
      rw [eq, ← ev]; rfl
    rwa [this] at moved
  · rw [eq]; rfl

/-! ### Conditions of actuators stand apart from zones and marks (R143, R172) -/

/-- The conditions of an actuator, its servo's and its unload's. -/
def Cond.ofActuator : Cond → Bool
  | .act .. | .unloadTimeout _ => true
  | _ => false

/-- Of the conditions of actuators every one stands as before. -/
def State.SameActConds (s t : State) : Prop := ∀ d : Cond, d.ofActuator = true → t.raised d = s.raised d

theorem State.SameActConds.trans {s t u : State} (h : s.SameActConds t) (k : t.SameActConds u) : s.SameActConds u :=
  fun d hd => (k d hd).trans (h d hd)

theorem sameActConds_lower {c : Cond} (hc : c.ofActuator = false) (s : State) : s.SameActConds (lower c s) := fun d hd =>
  lower_raised_other (fun e => by rw [e, hd] at hc; exact nomatch hc) s

theorem sameActConds_raise {s : State} (ev : s.ev = {}) (h : s.advisory) {c : Cond} (ha : c.advisory) (hc : c.ofActuator = false) :
    s.SameActConds (raise c s) := fun d hd => by
  rw [raise_raised ev h ha, if_neg (Cond.slot_ne fun e => by rw [e, hd] at hc; exact nomatch hc)]

theorem sameActConds_zoneConditions {z : Fin 16} {old new : Level} {s : State} (ev : s.ev = {}) (h : s.advisory) :
    s.SameActConds (zoneConditions z old new s) := by
  have either {c : Prop} [Decidable c] {x y : State} :=
    keeps_ite (P := fun t => s.SameActConds t ∧ s.Advised t) (c := c) (x := x) (y := y)
  have self : s.SameActConds s ∧ s.Advised s := ⟨fun _ _ => rfl, .rfl'⟩
  unfold zoneConditions
  split
  · have alert := either (c := new.isAlert = true) ⟨sameActConds_raise ev h (c := .zoneAlert z) ⟨nofun, nofun⟩ rfl,
      advised_raise ev h ⟨nofun, nofun⟩⟩ self
    refine (either (y := if new.isAlert = true then raise (.zoneAlert z) s else s) ⟨alert.1.trans ?_, ?_⟩ alert).1
    · exact sameActConds_raise (alert.2.ev.trans ev) (alert.2.advisory h) ⟨nofun, nofun⟩ rfl
    · exact alert.2.trans (advised_raise (alert.2.ev.trans ev) (alert.2.advisory h) ⟨nofun, nofun⟩)
  · have alarm := either (c := new = .alarm) self ⟨sameActConds_lower (c := .zoneAlarm z) rfl s, advised_lower ..⟩
    exact (either alarm ⟨alarm.1.trans (sameActConds_lower rfl _), alarm.2.trans (advised_lower ..)⟩).1

theorem sameActConds_evaluateEnabled {c : ZoneCause} {z : Fin 16} {s : State} (ev : s.ev = {}) (h : s.advisory) :
    s.SameActConds (evaluateEnabled c z s) := by
  unfold evaluateEnabled evaluateZone
  dsimp only
  split
  · split
    · exact fun _ _ => rfl
    · exact fun d hd => sameActConds_zoneConditions (s := offer _ (s.modZone z Zone.evaluate)) ev h d hd
  · exact fun _ _ => rfl

/-! ### Marks (R137, R141 to R143) -/

/-- What a mark makes of a state: the strain processor's records, and what STIFFNESS brings. -/
def State.Marked (s t : State) : Prop := ({ s with stp := t.stp } : State).Advised t ∧ s.SameActConds t

theorem marked_modStp (f : Strain → Strain) (s : State) : s.Marked (s.modStp f) := ⟨.rfl', fun _ _ => rfl⟩

theorem State.Marked.trans {s t u : State} (h : s.Marked t) (k : t.Marked u) : s.Marked u := by
  refine ⟨State.Advised.trans ?_ k.1, h.2.trans k.2⟩
  obtain ⟨l, hl, noted⟩ := h.1.notes
  exact ⟨h.1.toMoved.modStp fun _ => u.stp, l, hl, by rw [noted_iff] at noted ⊢; exact noted⟩

section

variable {s t : State} (h : s.Marked t)
include h

theorem State.Marked.ev : t.ev = s.ev := h.1.ev
theorem State.Marked.advisory (adv : s.advisory) : t.advisory := h.1.advisory adv

end

theorem marked_lower {c : Cond} (hc : c.ofActuator = false) (s : State) : s.Marked (lower c s) := by
  refine ⟨?_, sameActConds_lower hc s⟩
  have h := advised_lower c s
  have : ({ s with stp := (lower c s).stp } : State) = s := by rw [h.stp]
  rwa [this]

theorem marked_raise {s : State} (ev : s.ev = {}) (adv : s.advisory) {c : Cond} (ha : c.advisory) (hc : c.ofActuator = false) :
    s.Marked (raise c s) := by
  refine ⟨?_, sameActConds_raise ev adv ha hc⟩
  have h := advised_raise ev adv ha
  have : ({ s with stp := (raise c s).stp } : State) = s := by rw [h.stp]
  rwa [this]

theorem marked_setTo {s : State} (ev : s.ev = {}) (adv : s.advisory) {c : Cond} (ha : c.advisory) (hc : c.ofActuator = false)
    (b : Bool) : s.Marked (setTo c b s) :=
  keeps_ite (P := s.Marked) (marked_raise ev adv ha hc) (marked_lower hc s)

theorem marked_newStiffness (k : Fin 8) (n : Nat) {s : State} (ev : s.ev = {}) (adv : s.advisory) :
    s.Marked (newStiffness k n s) := by
  unfold newStiffness
  obtain ⟨ref, href⟩ : ∃ r, r = (s.stp.stiff[k].kRef).getD n := ⟨_, rfl⟩
  obtain ⟨ratio, hr⟩ : ∃ r, r = if ref = 0 then none else some (min (1000 * n / ref) 65535) := ⟨_, rfl⟩
  dsimp only
  rw [← href, ← hr]
  have set (f : Stiff → Stiff) : s.Marked (s.modStiff k f) := marked_modStp (fun x => { x with stiff := vmod x.stiff k f }) s
  have kept := set fun x => { x with kRef := some ref, k := some n, ratio := ratio }
  have ev' := kept.ev.trans ev
  have adv' := kept.advisory adv
  cases ratio with
  | none => exact kept.trans (marked_lower rfl _)
  | some r => exact kept.trans (marked_setTo ev' adv' (c := .stiffness k) ⟨nofun, nofun⟩ rfl _)

theorem marked_fillPeak (m : Mark) (s : State) : s.Marked (fillPeak m s) := by
  have set (f : Stiff → Stiff) : s.Marked (s.modStiff m.track f) :=
    marked_modStp (fun x => { x with stiff := vmod x.stiff m.track f }) s
  unfold fillPeak
  split
  · exact set _
  · exact keeps_ite (P := s.Marked) (set _) (marked_modStp id s)

theorem marked_offerSnap (r : Snapshot) (s : State) : s.Marked (offerSnap r s) := marked_modStp _ s

theorem marked_takeMark (m : Mark) {s : State} (ev : s.ev = {}) (adv : s.advisory) : s.Marked (takeMark m s) := by
  have either {c : Prop} [Decidable c] {x y : State} := keeps_ite (P := s.Marked) (c := c) (x := x) (y := y)
  have self : s.Marked s := marked_modStp id s
  unfold takeMark
  split
  · exact self
  · split
    · have kept := either (c := s.inUse m.track = true) (marked_offerSnap (s.snapshot .peak m.track none) s) self
      exact kept.trans (marked_fillPeak m _)
    · split
      · have emptied := either (c := (valleyStiffness m s).1 = true)
          (marked_modStp (fun x => { x with stiff := vmod x.stiff m.track fun x => { x with peak := none } }) s) self
        refine State.Marked.trans ?_ (marked_offerSnap _ _)
        split
        · exact emptied
        · exact emptied.trans (marked_newStiffness _ _ (emptied.ev.trans ev) (emptied.advisory adv))
      · exact self

/-! ### Conditions of actuators (R50, R68) -/

/-- Whether a condition stands once the change `due` of a sample has been handed on, with the servo running then or not. -/
def condStands (k : ActCond) (due : Option Bool) (runs before : Bool) : Bool :=
  match due with
  | none => before
  | some b => b && (!loopCond k || runs)

theorem advised_judgeCond {k : ActCond} {a : Fin 8} {v s : State} (ev : s.ev = {}) (adv : s.advisory) :
    s.Advised (judgeCond k a v s) := by
  have raised := advised_raise ev adv (c := .act k a) ⟨by cases k <;> exact nofun, by cases k <;> exact nofun⟩
  unfold judgeCond
  split
  · exact .rfl'
  · exact advised_lower ..
  · exact keeps_ite (P := s.Advised) (raised.trans (advised_lower ..)) raised

theorem judgeCond_raised {k : ActCond} {a : Fin 8} {v s : State} (ev : s.ev = {}) (adv : s.advisory) :
    (judgeCond k a v s).raised (.act k a) =
      condStands k (dueChange k a v) (s.act a).state.servoRuns (s.raised (.act k a)) := by
  have c : (Cond.act k a).advisory := ⟨by cases k <;> exact nofun, by cases k <;> exact nofun⟩
  have up : (raise (.act k a) s).raised (.act k a) = true := by rw [raise_raised ev adv c, if_pos rfl]
  have state : ((raise (.act k a) s).act a).state = (s.act a).state := (advised_raise ev adv c).state a
  unfold judgeCond
  cases dueChange k a v with
  | none => rfl
  | some b =>
    cases b with
    | false => exact (lower_raised ..).trans (if_pos rfl)
    | true =>
      dsimp only [condStands]
      rw [state]
      cases loopCond k <;> cases (s.act a).state.servoRuns <;> simp [lower_raised, up]

theorem judgeCond_raised_other {k : ActCond} {a : Fin 8} {v s : State} (ev : s.ev = {}) (adv : s.advisory) {d : Cond}
    (h : .act k a ≠ d) : (judgeCond k a v s).raised d = s.raised d := by
  have c : (Cond.act k a).advisory := ⟨by cases k <;> exact nofun, by cases k <;> exact nofun⟩
  have up : (raise (.act k a) s).raised d = s.raised d := by rw [raise_raised ev adv c, if_neg (Cond.slot_ne h)]
  unfold judgeCond
  split
  · rfl
  · exact lower_raised_other h s
  · exact keeps_ite (P := fun t => t.raised d = s.raised d) ((lower_raised_other h _).trans up) up

/-! ### A piece of work (R68, R82, R137, R168) -/

/-- Any notice but that of an entry of the matrix. -/
def Notice.notEntry (n : Notice) : Bool := decide (n.kind ≠ .entry)

/-- An unload that was due by the values of the sample and still goes on completes. -/
def SampleWork.completes (w : SampleWork) (v s : State) (a : Fin 8) : Bool :=
  decide (w = .completion a) && unloadDue (v.act a) && decide ((s.act a).state = .unloading)

/-- An actuator after a piece of work, its derate apart. -/
def SampleWork.acted (w : SampleWork) (v s : State) (a : Fin 8) : Actuator :=
  if w.completes v s a then (s.act a).completed else s.act a

/-- The zones after a piece of work. -/
def SampleWork.zoned (w : SampleWork) (s : State) : Zones :=
  match w with
  | .zone z => { s.zmn with zones := vmod s.zmn.zones z Zone.walked }
  | .mark _ | .cond .. | .completion _ => s.zmn

/-- The strain processor's records after a piece of work. -/
def SampleWork.marked (w : SampleWork) (s : State) : Strain :=
  match w with
  | .mark m => (takeMark m s).stp
  | .zone _ | .cond .. | .completion _ => s.stp

/-- The notices that a piece of work forms, those of entries apart. -/
def SampleWork.notes (w : SampleWork) (v s : State) : List Notice :=
  match w with
  | .zone z =>
    if s.zmn.zones[z].walked.displayed = s.zmn.zones[z].displayed then []
    else [s.zoneNote .tick z s.zmn.zones[z].walked s.zmn.zones[z].displayed]
  | .completion a =>
    if w.completes v s a then [s.actNote a (s.act a).goalState .unloading .unloadDone] else []
  | .mark _ | .cond .. => []

/-- Whether a condition of an actuator stands after a piece of work. -/
def SampleWork.stands (w : SampleWork) (v s : State) (d : Cond) : Bool :=
  match w with
  | .cond k a =>
    if .act k a = d then condStands k (dueChange k a v) (s.act a).state.servoRuns (s.raised d) else s.raised d
  | .completion a => s.raised d && !(w.completes v s a && decide (d ∈ completionLowers (s.act a) a))
  | .zone _ | .mark _ => s.raised d

/-- What a piece of work makes of a state. -/
structure SampleWork.Makes (w : SampleWork) (v s t : State) : Prop where
  rest : ∃ z p x g m l lost, t = { s with
    zmn := z, stp := p, svc := { s.svc with acts := x }, lgu := g, pmx := m, sli := { s.sli with notices := l, noticesLost := lost } }
  act : ∀ a, ∃ d, t.act a = { w.acted v s a with derate := d }
  members : ∀ g, (t.group g).members = (s.group g).members
  entry : ∀ e : Fin 40, t.pmx.entries[e].cfg = s.pmx.entries[e].cfg
  zmn : t.zmn = w.zoned s
  stp : t.stp = w.marked s
  notes : Forms s t Notice.notEntry (w.notes v s)
  stands : ∀ d, d.ofActuator = true → t.raised d = w.stands v s d

/-- What moves no more than derates, handover records, entries and notices, once zones, records and actuators are as they
are to be. -/
theorem SampleWork.makes_of_moved {w : SampleWork} {v s t : State} {z : Zones} {p : Strain} {x : Vector Actuator 8}
    (moved : ({ s with zmn := z, stp := p, svc := { s.svc with acts := x } } : State).Moved t)
    (act : ∀ a : Fin 8, x[a] = w.acted v s a) (zmn : z = w.zoned s) (stp : p = w.marked s)
    (notes : Forms s t Notice.notEntry (w.notes v s)) (stands : ∀ d, d.ofActuator = true → t.raised d = w.stands v s d) :
    w.Makes v s t where
  rest := by
    obtain ⟨_, _, _, _, _, rfl⟩ := moved.rest
    exact ⟨_, _, _, _, _, _, _, rfl⟩
  act a := by
    obtain ⟨d, h⟩ := moved.act a
    exact ⟨d, by rw [h, ← act a]; rfl⟩
  members g := by
    obtain ⟨_, _, _, _, h⟩ := moved.group g
    rw [h]; rfl
  entry := moved.entry
  zmn := moved.zmn.trans zmn
  stp := moved.stp.trans stp
  notes := notes
  stands := stands

theorem SampleWork.acted_of_other {w : SampleWork} (v s : State) (h : ∀ a, w ≠ .completion a) (a : Fin 8) :
    w.acted v s a = s.act a := by
  rw [acted, completes, decide_eq_false (h a), Bool.false_and, Bool.false_and]; rfl

theorem evaluateEnabled_forms {cause : ZoneCause} {p : Notice → Bool} (hp : ∀ n, n.kind = .zoneLevel → p n = true) {z : Fin 16}
    {s : State} (calm : s.calmAt p z s.zmn.zones[z].displayed s.zmn.zones[z].evaluate.displayed) :
    s.Zoned (evaluateEnabled cause z s) ∧
      (evaluateEnabled cause z s).zmn = { s.zmn with zones := vmod s.zmn.zones z Zone.walked } ∧
      Forms s (evaluateEnabled cause z s) p (if s.zmn.zones[z].walked.displayed = s.zmn.zones[z].displayed then []
        else [s.zoneNote cause z s.zmn.zones[z].walked s.zmn.zones[z].displayed]) := by
  obtain ⟨zoned, ⟨v, zmn⟩, zones, forms⟩ := walk_forms (cause := cause) hp [z] (List.nodup_singleton z) s fun k hk _ => by
    rw [List.mem_singleton.1 hk]; exact calm
  rw [List.foldl_cons, List.foldl_nil] at zoned zmn zones forms
  refine ⟨zoned, ?_, ?_⟩
  · rw [zmn] at zones ⊢
    refine congrArg (fun v => ({ s.zmn with zones := v } : Zones)) (Vector.ext fun k hk => ?_)
    refine (zones ⟨k, hk⟩).trans (Eq.trans (if_congr ?_ rfl rfl) (vmod_get s.zmn.zones z ⟨k, hk⟩ Zone.walked).symm)
    rw [List.mem_singleton]; exact eq_comm
  · by_cases same : s.zmn.zones[z].walked.displayed = s.zmn.zones[z].displayed 
    · rw [List.filter_cons_of_neg (by simpa using same), List.filter_nil] at forms
      rw [if_pos same]; exact forms
    · rw [List.filter_cons_of_pos (by simpa using same), List.filter_nil] at forms
      rw [if_neg same]; exact forms

/-- Each piece of work, where no entry moves anything. -/
theorem doWork_makes {v s : State} (w : SampleWork) (ev : s.ev = {}) (adv : s.advisory) : w.Makes v s (doWork v s w) := by
  have entry (n : Notice) (h : n.kind = .entry) : n.notEntry = false := decide_eq_false (not_not.2 h)
  cases w with
  | zone z =>
    have hz : ∀ n : Notice, n.kind = .zoneLevel → n.notEntry = true := fun n h => decide_eq_true (by rw [h]; exact nofun)
    have one : s.Zoned (evaluateEnabled .tick z s) ∧
        (evaluateEnabled .tick z s).zmn = { s.zmn with zones := vmod s.zmn.zones z Zone.walked } ∧
        Forms s (evaluateEnabled .tick z s) Notice.notEntry ((SampleWork.zone z).notes v s) :=
      evaluateEnabled_forms hz (calmAt_advisory ev adv entry z _ _)
    obtain ⟨zoned, zmn, forms⟩ := one
    exact SampleWork.makes_of_moved (s := s) (z := (evaluateEnabled .tick z s).zmn) (p := s.stp) (x := s.svc.acts) zoned
      (fun a => (SampleWork.acted_of_other (w := .zone z) v s (fun _ => nofun) a).symm) zmn rfl forms (sameActConds_evaluateEnabled ev adv)
  | mark m =>
    obtain ⟨moved, same⟩ := marked_takeMark m ev adv
    have forms : Forms s (takeMark m s) Notice.notEntry [] := (Forms.of_sli (s := s) (t := { s with stp := (takeMark m s).stp }) rfl).trans (moved.forms entry)
    exact SampleWork.makes_of_moved (s := s) (z := s.zmn) (p := (takeMark m s).stp) (x := s.svc.acts) moved.toMoved
      (fun a => (SampleWork.acted_of_other (w := .mark m) v s (fun _ => nofun) a).symm) rfl rfl forms same
  | cond k a =>
    have moved := advised_judgeCond (k := k) (a := a) (v := v) ev adv
    refine SampleWork.makes_of_moved (s := s) (z := s.zmn) (p := s.stp) (x := s.svc.acts) moved.toMoved
      (fun a => (SampleWork.acted_of_other (w := .cond k a) v s (fun _ => nofun) a).symm) rfl rfl (moved.forms entry) fun d _ => ?_
    unfold SampleWork.stands
    by_cases e : .act k a = d
    · subst e
      exact (judgeCond_raised ev adv).trans (if_pos rfl).symm
    · exact (judgeCond_raised_other ev adv e).trans (if_neg e).symm
  | completion a =>
    have completes (b : Fin 8) : (SampleWork.completion a).completes v s b =
        (decide (a = b) && (unloadDue (v.act a) && decide ((s.act a).state = .unloading))) := by
      unfold SampleWork.completes
      by_cases e : a = b
      · subst e; simp
      · have : SampleWork.completion a ≠ .completion b := fun h => e (SampleWork.completion.inj h)
        simp [e]
    obtain ⟨b, hb⟩ : ∃ b, b = (unloadDue (v.act a) && decide ((s.act a).state = .unloading)) := ⟨_, rfl⟩
    have eq : doWork v s (.completion a) = if b then flush (completeUnload a s) else s := by rw [hb]; rfl
    rw [← hb] at completes
    rw [eq]
    cases b with
    | false =>
      have none (c : Fin 8) : (SampleWork.completion a).completes v s c = false := by rw [completes, Bool.and_false]
      refine SampleWork.makes_of_moved (s := s) (z := s.zmn) (p := s.stp) (x := s.svc.acts) State.Moved.rfl'
        (fun c => ?_) rfl rfl ?_ fun d _ => ?_
      · rw [SampleWork.acted, none]; rfl
      · rw [SampleWork.notes, none]; exact Forms.of_sli rfl
      · rw [SampleWork.stands, none, Bool.false_and, Bool.not_false, Bool.and_true]; rfl
    | true =>
      have goes : (s.act a).state = .unloading := by simpa using (Bool.and_eq_true_iff.1 hb.symm).2
      obtain ⟨moved, noted, raised⟩ := flush_completeUnload ev goes
      have own : (SampleWork.completion a).completes v s a = true := by rw [completes]; simp
      refine SampleWork.makes_of_moved (s := s) (z := s.zmn) (p := s.stp) (x := (s.modAct a Actuator.completed).svc.acts) moved
        (fun c => ?_) rfl rfl ?_ fun d _ => ?_
      · refine (State.modAct_act ..).trans ?_
        rw [SampleWork.acted, completes, Bool.and_true]
        simp only [decide_eq_true_eq]
      · rw [SampleWork.notes, own]
        exact noted.forms Notice.notEntry
      · rw [SampleWork.stands, own]
        refine (raised d).trans ?_
        rw [decide_not]; rfl

end Sys2Proof.Machine

/-!
The work of a control sample as a whole: what the marks read, what a list of pieces of work makes, and the end of the segment
in their midst (R30, R68, R82, R137, R168, R185).
-/
namespace Sys2Proof.Machine

/-! ### What the strain processor reads of a mark -/

/-- Two states that the strain processor cannot tell apart when it takes a mark. -/
structure SameMarks (s u : State) : Prop where
  stp : u.stp = s.stp
  psq : u.psq = s.psq
  time : u.time = s.time
  axs : u.axs = s.axs
  glc : u.glc = s.glc
  force : ∀ a, (u.act a).force = (s.act a).force
  used : ∀ a, (u.act a).cfg.enabled = (s.act a).cfg.enabled ∧ (u.act a).source = (s.act a).source
  members : ∀ g, (u.group g).members = (s.group g).members
  advised : s.ev = {} ∧ s.advisory ∧ u.ev = {} ∧ u.advisory

namespace SameMarks

variable {s t u : State}

theorem symm (h : SameMarks s u) : SameMarks u s where
  stp := h.stp.symm
  psq := h.psq.symm
  time := h.time.symm
  axs := h.axs.symm
  glc := h.glc.symm
  force a := (h.force a).symm
  used a := ⟨(h.used a).1.symm, (h.used a).2.symm⟩
  members g := (h.members g).symm
  advised := by
    obtain ⟨a, b, c, d⟩ := h.advised
    exact ⟨c, d, a, b⟩

theorem trans (h : SameMarks s t) (k : SameMarks t u) : SameMarks s u where
  stp := k.stp.trans h.stp
  psq := k.psq.trans h.psq
  time := k.time.trans h.time
  axs := k.axs.trans h.axs
  glc := k.glc.trans h.glc
  force a := (k.force a).trans (h.force a)
  used a := ⟨(k.used a).1.trans (h.used a).1, (k.used a).2.trans (h.used a).2⟩
  members g := (k.members g).trans (h.members g)
  advised := ⟨h.advised.1, h.advised.2.1, k.advised.2.2.1, k.advised.2.2.2⟩

theorem of_moved (h : s.Moved t) (ev : s.ev = {}) (adv : s.advisory) : SameMarks s t where
  stp := h.stp
  psq := h.psq
  time := h.time
  axs := h.axs
  glc := h.glc
  force a := by obtain ⟨_, e⟩ := h.act a; rw [e]
  used a := by obtain ⟨_, e⟩ := h.act a; rw [e]; exact ⟨rfl, rfl⟩
  members g := by obtain ⟨_, _, _, _, e⟩ := h.group g; rw [e]
  advised := ⟨ev, adv, h.ev.trans ev, h.advisory adv⟩

theorem modStp (h : SameMarks s u) (f : Strain → Strain) : SameMarks (s.modStp f) (u.modStp f) where
  stp := congrArg f h.stp
  psq := h.psq
  time := h.time
  axs := h.axs
  glc := h.glc
  force := h.force
  used := h.used
  members := h.members
  advised := h.advised

theorem groupOf (h : SameMarks s u) (k : Fin 8) : u.groupOf k = s.groupOf k := groupOf_of_members h.members k

theorem inUse (h : SameMarks s u) (k : Fin 8) : u.inUse k = s.inUse k := inUse_of_same h.members h.used k

theorem trackForces (h : SameMarks s u) (k : Fin 8) : u.trackForces k = s.trackForces k := by
  unfold State.trackForces Group.lead
  rw [h.groupOf]
  simp only [h.members, h.force]

theorem trackDeflection (h : SameMarks s u) (k : Fin 8) : u.trackDeflection k = s.trackDeflection k := by
  unfold State.trackDeflection
  rw [h.psq, h.axs]

theorem snapshot (h : SameMarks s u) (kind : SnapKind) (k : Fin 8) (n : Option Nat) : u.snapshot kind k n = s.snapshot kind k n := by
  have status (c : Fin 64) : u.chanStatus c = s.chanStatus c := by
    unfold State.chanStatus
    rw [h.stp, h.glc]
  unfold State.snapshot
  rw [h.psq, h.time, h.trackForces, h.trackDeflection, h.stp]
  simp only [status]

theorem lower (h : SameMarks s u) (c : Cond) : SameMarks (lower c s) (lower c u) :=
  (of_moved (advised_lower c s).toMoved h.advised.1 h.advised.2.1).symm.trans
    (h.trans (of_moved (advised_lower c u).toMoved h.advised.2.2.1 h.advised.2.2.2))

theorem setTo (h : SameMarks s u) {c : Cond} (hc : c.advisory) (b : Bool) : SameMarks (setTo c b s) (setTo c b u) :=
  (of_moved (advised_setTo h.advised.1 h.advised.2.1 hc b).toMoved h.advised.1 h.advised.2.1).symm.trans
    (h.trans (of_moved (advised_setTo h.advised.2.2.1 h.advised.2.2.2 hc b).toMoved h.advised.2.2.1 h.advised.2.2.2))

theorem newStiffness (h : SameMarks s u) (k : Fin 8) (n : Nat) : SameMarks (newStiffness k n s) (newStiffness k n u) := by
  unfold Machine.newStiffness
  rw [h.stp]
  obtain ⟨ratio, hr⟩ : ∃ r, r = if ((s.stp.stiff[k].kRef).getD n) = 0 then none
    else some (min (1000 * n / (s.stp.stiff[k].kRef).getD n) 65535) := ⟨_, rfl⟩
  dsimp only
  rw [← hr]
  have stored := h.modStp fun x => { x with stiff := vmod x.stiff k fun x =>
    { x with kRef := some ((s.stp.stiff[k].kRef).getD n), k := some n, ratio := ratio } }
  cases ratio with
  | none => exact stored.lower _
  | some r =>
    show SameMarks (Machine.setTo _ (decide (r < s.psq.tracks[k].threshold)) _)
      (Machine.setTo _ (decide (r < u.psq.tracks[k].threshold)) _)
    rw [h.psq]
    exact stored.setTo (c := .stiffness k) ⟨nofun, nofun⟩ _

theorem offerSnap (h : SameMarks s u) {r r' : Snapshot} (hr : r' = r) : SameMarks (offerSnap r s) (offerSnap r' u) := by
  subst hr
  exact h.modStp _

theorem fillPeak (h : SameMarks s u) (m : Mark) : SameMarks (fillPeak m s) (fillPeak m u) := by
  unfold Machine.fillPeak
  rw [h.trackDeflection, h.inUse, h.trackForces]
  cases s.trackDeflection m.track with
  | none => exact h.modStp _
  | some d =>
    dsimp only
    split
    · exact h.modStp _
    · exact h

theorem valleyStiffness (h : SameMarks s u) (m : Mark) : valleyStiffness m u = valleyStiffness m s := by
  unfold Machine.valleyStiffness
  rw [h.trackDeflection, h.trackForces, h.stp]

/-- A mark is taken alike in both. -/
theorem takeMark (h : SameMarks s u) (m : Mark) : SameMarks (takeMark m s) (takeMark m u) := by
  unfold Machine.takeMark
  rw [h.inUse, h.valleyStiffness]
  split
  · exact h
  · split
    · dsimp only
      split
      · exact (h.offerSnap (h.snapshot ..)).fillPeak m
      · exact h.fillPeak m
    · split
      · obtain ⟨held, k⟩ := Machine.valleyStiffness m s
        dsimp only
        have emptied : SameMarks (if held then s.modStiff m.track fun x => { x with peak := none } else s)
            (if held then u.modStiff m.track fun x => { x with peak := none } else u) := by
          split
          · exact h.modStp _
          · exact h
        cases k with
        | none => exact emptied.offerSnap (emptied.snapshot ..)
        | some k =>
          have formed := emptied.newStiffness m.track k
          exact formed.offerSnap (formed.snapshot ..)
      · exact h

end SameMarks

/-! ### A list of pieces of work -/

/-- Of a list of pieces of work one completes an actuator's unload. -/
def completesIn (l : List SampleWork) (v s : State) (a : Fin 8) : Bool :=
  decide (.completion a ∈ l) && unloadDue (v.act a) && decide ((s.act a).state = .unloading)

/-- What a list of pieces of work makes of a state. -/
structure Worked (l : List SampleWork) (v s t : State) : Prop where
  rest : ∃ z p x g m n lost, t = { s with
    zmn := z, stp := p, svc := { s.svc with acts := x }, lgu := g, pmx := m, sli := { s.sli with notices := n, noticesLost := lost } }
  act : ∀ a, ∃ d, t.act a = { (if completesIn l v s a then (s.act a).completed else s.act a) with derate := d }
  members : ∀ g, (t.group g).members = (s.group g).members
  entry : ∀ e : Fin 40, t.pmx.entries[e].cfg = s.pmx.entries[e].cfg
  zmn : ∃ z, t.zmn = { s.zmn with zones := z }
  stp : ∀ u, SameMarks s u → t.stp = ((l.filterMap SampleWork.mark?).foldl (fun u m => takeMark m u) u).stp
  notes : ∀ p : Notice → Bool, (∀ n, p n = true → n.kind ≠ .entry ∧ n.kind ≠ .zoneLevel ∧ n.kind ≠ .actState) → Forms s t p []
  actNotes : ∀ a : Fin 8, Forms s t (fun n => n.is .actState && decide (n.subject = a.val))
    (if completesIn l v s a then [s.actNote a (s.act a).goalState .unloading .unloadDone] else [])
  stands : ∀ k a, loopCond k = false ∨ completesIn l v s a = false →
    t.raised (.act k a) = if .cond k a ∈ l then
      condStands k (dueChange k a v) (s.act a).state.servoRuns (s.raised (.act k a)) else s.raised (.act k a)
  timeout : ∀ a, t.raised (.unloadTimeout a) = (s.raised (.unloadTimeout a) && !completesIn l v s a)
  zones : (l.filterMap SampleWork.zone?).Nodup →
    (∀ z : Fin 16, t.zmn.zones[z] =
      if z ∈ l.filterMap SampleWork.zone? then s.zmn.zones[z].walked else s.zmn.zones[z]) ∧
    Forms s t (Notice.is .zoneLevel)
      (((l.filterMap SampleWork.zone?).filter fun z => s.zmn.zones[z].walked.displayed ≠ s.zmn.zones[z].displayed).map fun z =>
        s.zoneNote .tick z s.zmn.zones[z].walked s.zmn.zones[z].displayed)

theorem completesIn_nil (v s : State) (a : Fin 8) : completesIn [] v s a = false := by
  rw [completesIn, decide_eq_false List.not_mem_nil]; rfl

theorem worked_nil (v s : State) : Worked [] v s s where
  rest := ⟨_, _, _, _, _, _, _, rfl⟩
  act a := ⟨_, by rw [completesIn_nil]; rfl⟩
  members _ := rfl
  entry _ := rfl
  zmn := ⟨_, rfl⟩
  stp u h := h.stp.symm
  notes _ _ := Forms.of_sli rfl
  actNotes a := by rw [completesIn_nil]; exact Forms.of_sli rfl
  stands k a _ := (if_neg List.not_mem_nil).symm
  timeout a := by rw [completesIn_nil, Bool.not_false, Bool.and_true]
  zones _ := ⟨fun _ => (if_neg List.not_mem_nil).symm, Forms.of_sli rfl⟩

theorem Actuator.goalState_ne (x : Actuator) : x.goalState ≠ .unloading := by
  unfold goalState
  split <;> exact nofun

namespace SampleWork.Makes

variable {w : SampleWork} {l : List SampleWork} {v s t u : State} (h : w.Makes v s t)
include h

theorem ev : t.ev = s.ev := by obtain ⟨_, _, _, _, _, _, _, rfl⟩ := h.rest; rfl
theorem psq : t.psq = s.psq := by obtain ⟨_, _, _, _, _, _, _, rfl⟩ := h.rest; rfl
theorem time : t.time = s.time := by obtain ⟨_, _, _, _, _, _, _, rfl⟩ := h.rest; rfl

theorem advisory (adv : s.advisory) : t.advisory := fun e => by rw [h.entry e]; exact adv e

theorem state (a : Fin 8) : (t.act a).state = (w.acted v s a).state := by
  obtain ⟨_, e⟩ := h.act a
  rw [e]

theorem act_of_not (a : Fin 8) (out : w.completes v s a = false) : ∃ d, t.act a = { s.act a with derate := d } := by
  obtain ⟨d, e⟩ := h.act a
  exact ⟨d, by rw [e, acted, out]; rfl⟩

/-- A completed unload no longer goes on. -/
theorem completesIn_of_completes {a : Fin 8} (done : w.completes v s a = true) : completesIn l v t a = false := by
  have : (t.act a).state ≠ .unloading := by
    rw [h.state, acted, if_pos done, Actuator.completed_state]
    exact (s.act a).goalState_ne
  rw [completesIn, decide_eq_false this, Bool.and_false]

theorem completesIn_cons (a : Fin 8) : completesIn (w :: l) v s a = (w.completes v s a || completesIn l v t a) := by
  cases done : w.completes v s a with
  | true =>
    obtain ⟨first, goes⟩ := Bool.and_eq_true_iff.1 done
    obtain ⟨here, due⟩ := Bool.and_eq_true_iff.1 first
    rw [Bool.true_or, completesIn, due, goes, decide_eq_true (List.mem_cons.2 (.inl (of_decide_eq_true here).symm))]
    rfl
  | false =>
    have state : (t.act a).state = (s.act a).state := by
      rw [h.state, acted, done]; rfl
    rw [Bool.false_or, completesIn, completesIn, state]
    by_cases e : w = .completion a
    · have : (unloadDue (v.act a) && decide ((s.act a).state = .unloading)) = false := by
        rw [SampleWork.completes, decide_eq_true e, Bool.true_and] at done; exact done
      rw [Bool.and_assoc, this, Bool.and_assoc, this, Bool.and_false, Bool.and_false]
    · have : .completion a ∈ w :: l ↔ .completion a ∈ l := by
        rw [List.mem_cons]; exact or_iff_right fun h => e h.symm
      rw [decide_eq_decide.2 this]

/-- The strain processor cannot tell the states before and after work that is no mark. -/
theorem sameMarks (ev : s.ev = {}) (adv : s.advisory) (stp : t.stp = s.stp) : SameMarks s t := by
  have acted (a : Fin 8) : (t.act a).force = (s.act a).force ∧ (t.act a).cfg.enabled = (s.act a).cfg.enabled ∧
      (t.act a).source = (s.act a).source := by
    obtain ⟨_, e⟩ := h.act a
    rw [e, SampleWork.acted]
    split
    · exact ⟨Actuator.completed_force _, by rw [Actuator.completed_cfg], Actuator.completed_source _⟩
    · exact ⟨rfl, rfl, rfl⟩
  exact {
    stp := stp, psq := h.psq, time := h.time, members := h.members
    axs := by obtain ⟨_, _, _, _, _, _, _, rfl⟩ := h.rest; rfl
    glc := by obtain ⟨_, _, _, _, _, _, _, rfl⟩ := h.rest; rfl
    force := fun a => (acted a).1
    used := fun a => (acted a).2
    advised := ⟨ev, adv, h.ev.trans ev, h.advisory adv⟩ }

end SampleWork.Makes

/-! ### Standing conditions over several pieces of work -/

theorem condStands_runs {k : ActCond} {due : Option Bool} {r r' b : Bool} (h : loopCond k = false ∨ r' = r) :
    condStands k due r' b = condStands k due r b := by
  rcases h with h | rfl
  · unfold condStands; rw [h]; rfl
  · rfl

theorem condStands_again (k : ActCond) (due : Option Bool) (r b : Bool) :
    condStands k due r (condStands k due r b) = condStands k due r b := by
  cases due <;> rfl

theorem mem_completionLowers {x : Actuator} {a : Fin 8} {k : ActCond} (h : loopCond k = false) :
    .act k a ∉ completionLowers x a := by
  intro mem
  have : k = .following ∨ k = .stall ∨ k = .envelope := by
    unfold completionLowers at mem
    split at mem <;> simp at mem
    tauto
  rcases this with rfl | rfl | rfl <;> exact nomatch h

theorem timeout_mem_completionLowers (x : Actuator) (a b : Fin 8) : .unloadTimeout b ∈ completionLowers x a ↔ b = a := by
  unfold completionLowers
  split <;> simp

theorem Forms.filter {s t : State} {p q : Notice → Bool} {l : List Notice} (h : Forms s t q l) (hp : ∀ n, p n = true → q n = true) :
    Forms s t p (l.filter p) := by
  obtain ⟨all, rfl, h⟩ := h
  refine ⟨all, ?_, h⟩
  rw [List.filter_filter]
  refine List.filter_congr fun n _ => ?_
  cases hn : p n with
  | false => rfl
  | true => rw [hp n hn]; rfl

namespace SampleWork.Makes

variable {w : SampleWork} {v s t : State} (h : w.Makes v s t)
include h

/-- The notices of a kind that no piece of work but zones and completions forms. -/
theorem forms_none {p : Notice → Bool} (hp : ∀ n, p n = true → n.kind ≠ .entry ∧ n.kind ≠ .zoneLevel ∧ n.kind ≠ .actState) :
    Forms s t p [] := by
  have forms := h.notes.filter (p := p) fun n hn => decide_eq_true (hp n hn).1
  have : (w.notes v s).filter p = [] := List.filter_eq_nil_iff.2 fun n hn pn => by
    obtain ⟨-, zone, act⟩ := hp n pn
    unfold SampleWork.notes at hn
    split at hn
    · split at hn
      · exact nomatch hn
      · rw [List.mem_singleton.1 hn] at zone; exact zone rfl
    · split at hn
      · rw [List.mem_singleton.1 hn] at act; exact act rfl
      · exact nomatch hn
    · exact nomatch hn
    · exact nomatch hn
  rwa [this] at forms

theorem forms_actState (a : Fin 8) : Forms s t (fun n => n.is .actState && decide (n.subject = a.val))
    (if w.completes v s a then [s.actNote a (s.act a).goalState .unloading .unloadDone] else []) := by
  have forms := h.notes.filter (p := fun n => n.is .actState && decide (n.subject = a.val)) fun n hn => by
    have : n.kind = .actState := of_decide_eq_true (Bool.and_eq_true_iff.1 hn).1
    exact decide_eq_true (by rw [this]; exact nofun)
  refine (congrArg (Forms s t _) ?_).mp forms
  cases w with
  | zone z =>
    have never : (SampleWork.zone z).completes v s a = false := rfl
    rw [never, SampleWork.notes]
    split <;> rfl
  | mark m => rfl
  | cond k b => rfl
  | completion b =>
    rw [SampleWork.notes]
    by_cases e : b = a
    · subst e
      split
      · rw [List.filter_cons_of_pos (by simp [Notice.is, State.actNote])]; rfl
      · rfl
    · have other : (SampleWork.completion b).completes v s a = false := by
        rw [SampleWork.completes, decide_eq_false fun h => e (SampleWork.completion.inj h)]; rfl
      rw [other]
      split
      · rw [List.filter_cons_of_neg (by simp [State.actNote, Fin.val_inj, e])]; rfl
      · rfl

theorem forms_zoneLevel : Forms s t (Notice.is .zoneLevel)
    ((w.zone?.toList.filter fun z => s.zmn.zones[z].walked.displayed ≠ s.zmn.zones[z].displayed).map fun z =>
      s.zoneNote .tick z s.zmn.zones[z].walked s.zmn.zones[z].displayed) := by
  have forms := h.notes.filter (p := Notice.is .zoneLevel) fun n hn => by
    have : n.kind = .zoneLevel := of_decide_eq_true hn
    exact decide_eq_true (by rw [this]; exact nofun)
  refine (congrArg (Forms s t _) ?_).mp forms
  cases w with
  | zone z =>
    rw [SampleWork.notes]
    dsimp only [SampleWork.zone?, Option.toList]
    by_cases same : s.zmn.zones[z].walked.displayed = s.zmn.zones[z].displayed
    · have out : ([z].filter fun z => decide (s.zmn.zones[z].walked.displayed ≠ s.zmn.zones[z].displayed)) = [] :=
        List.filter_cons_of_neg (by simpa using same)
      rw [if_pos same, out]; rfl
    · have kept : ([z].filter fun z => decide (s.zmn.zones[z].walked.displayed ≠ s.zmn.zones[z].displayed)) = [z] :=
        List.filter_cons_of_pos (by simpa using same)
      rw [if_neg same, kept]; rfl
  | mark m => rfl
  | cond k b => rfl
  | completion b =>
    rw [SampleWork.notes]
    split <;> rfl

theorem zones (z : Fin 16) : t.zmn.zones[z] = if w.zone? = some z then s.zmn.zones[z].walked else s.zmn.zones[z] := by
  rw [h.zmn]
  cases w with
  | zone y =>
    refine (vmod_get s.zmn.zones y z Zone.walked).trans (if_congr ?_ rfl rfl)
    simp [SampleWork.zone?]
  | mark m => rfl
  | cond k b => rfl
  | completion b => rfl

theorem stands_cond {k : ActCond} {a : Fin 8} (hk : loopCond k = false ∨ w.completes v s a = false) :
    t.raised (.act k a) = if w = .cond k a then
      condStands k (dueChange k a v) (s.act a).state.servoRuns (s.raised (.act k a)) else s.raised (.act k a) := by
  rw [h.stands _ rfl]
  cases w with
  | zone z => exact (if_neg nofun).symm
  | mark m => exact (if_neg nofun).symm
  | cond k' b =>
    rw [SampleWork.stands]
    by_cases e : Cond.act k' b = .act k a
    · obtain ⟨rfl, rfl⟩ := Cond.act.inj e
      rw [if_pos rfl, if_pos rfl]
    · rw [if_neg e, if_neg fun h => e (by obtain ⟨rfl, rfl⟩ := SampleWork.cond.inj h; rfl)]
  | completion b =>
    rw [SampleWork.stands, if_neg nofun]
    have none : ((SampleWork.completion b).completes v s b && decide (Cond.act k a ∈ completionLowers (s.act b) b)) = false := by
      rcases hk with hk | hk
      · by_cases mem : Cond.act k a ∈ completionLowers (s.act b) b
        · have := mem
          unfold completionLowers at this
          have e : a = b := by split at this <;> simp at this; tauto
          subst e
          exact absurd mem (mem_completionLowers hk)
        · rw [decide_eq_false mem, Bool.and_false]
      · by_cases e : b = a
        · subst e; rw [hk]; rfl
        · have mem : Cond.act k a ∉ completionLowers (s.act b) b := by
            unfold completionLowers
            split <;> simp [Ne.symm e]
          rw [decide_eq_false mem, Bool.and_false]
    rw [none, Bool.not_false, Bool.and_true]

theorem stands_timeout (a : Fin 8) :
    t.raised (.unloadTimeout a) = (s.raised (.unloadTimeout a) && !w.completes v s a) := by
  rw [h.stands _ rfl]
  cases w with
  | zone z => exact (Bool.and_true _).symm
  | mark m => exact (Bool.and_true _).symm
  | cond k b =>
    rw [SampleWork.stands, if_neg nofun]
    exact (Bool.and_true _).symm
  | completion b =>
    rw [SampleWork.stands, decide_eq_decide.2 (timeout_mem_completionLowers (s.act b) b a)]
    by_cases e : a = b
    · subst e; rw [decide_eq_true (p := a = a) rfl, Bool.and_true]
    · have other : (SampleWork.completion b).completes v s a = false := by
        rw [SampleWork.completes, decide_eq_false fun h => e (SampleWork.completion.inj h).symm]; rfl
      rw [other, decide_eq_false e, Bool.and_false]

end SampleWork.Makes

/-! ### The list taken piece by piece -/

theorem worked_cons {w : SampleWork} {l : List SampleWork} {v s t u : State} (ev : s.ev = {}) (adv : s.advisory)
    (take : t = doWork v s w) (h : w.Makes v s t) (k : Worked l v t u) : Worked (w :: l) v s u where
  rest := by
    obtain ⟨_, _, _, _, _, _, _, ht⟩ := h.rest
    obtain ⟨_, _, _, _, _, _, _, hu⟩ := k.rest
    exact ⟨_, _, _, _, _, _, _, by rw [hu, ht]⟩
  act a := by
    obtain ⟨d, ha⟩ := h.act a
    obtain ⟨d', ka⟩ := k.act a
    refine ⟨d', ?_⟩
    rw [ka, h.completesIn_cons (l := l)]
    cases done : w.completes v s a with
    | true =>
      rw [h.completesIn_of_completes done, ha, SampleWork.acted, if_pos done]; rfl
    | false =>
      rw [ha, SampleWork.acted, done, Bool.false_or]
      simp only [Bool.false_eq_true, if_false]
      split
      · rw [Actuator.completed_withDerate]
      · rfl
  members g := (k.members g).trans (h.members g)
  entry e := (k.entry e).trans (h.entry e)
  zmn := by
    obtain ⟨z, e⟩ := k.zmn
    have : ∃ z, t.zmn = { s.zmn with zones := z } := by
      rw [h.zmn]
      cases w <;> exact ⟨_, rfl⟩
    obtain ⟨z', e'⟩ := this
    exact ⟨z, by rw [e, e']⟩
  stp x hx := by
    cases w with
    | mark m =>
      have same : SameMarks t (takeMark m x) := by rw [take]; exact hx.takeMark m
      exact k.stp _ same
    | zone z => exact k.stp _ ((h.sameMarks ev adv h.stp).symm.trans hx)
    | cond c b => exact k.stp _ ((h.sameMarks ev adv h.stp).symm.trans hx)
    | completion b => exact k.stp _ ((h.sameMarks ev adv h.stp).symm.trans hx)
  notes p hp := (h.forms_none hp).trans (k.notes p hp)
  actNotes a := by
    have forms := (h.forms_actState a).trans (k.actNotes a)
    refine (congrArg (Forms s u _) ?_).mp forms
    rw [h.completesIn_cons (l := l)]
    cases done : w.completes v s a with
    | true => rw [h.completesIn_of_completes done]; rfl
    | false =>
      obtain ⟨d, ha⟩ := h.act_of_not a done
      have note : t.actNote a (t.act a).goalState .unloading .unloadDone =
          s.actNote a (s.act a).goalState .unloading .unloadDone := by
        unfold State.actNote
        rw [h.time, h.psq, ha]; rfl
      rw [note, Bool.false_or]; rfl
  stands c a hk := by
    have first : loopCond c = false ∨ w.completes v s a = false :=
      hk.imp_right fun none => by rw [h.completesIn_cons (l := l), Bool.or_eq_false_iff] at none; exact none.1
    have rest : loopCond c = false ∨ completesIn l v t a = false :=
      hk.imp_right fun none => by rw [h.completesIn_cons (l := l), Bool.or_eq_false_iff] at none; exact none.2
    have runs : loopCond c = false ∨ (t.act a).state.servoRuns = (s.act a).state.servoRuns :=
      first.imp_right fun none => by obtain ⟨_, e⟩ := h.act_of_not a none; rw [e]
    rw [k.stands c a rest, h.stands_cond first, condStands_runs runs]
    by_cases e : w = .cond c a
    · rw [if_pos e, condStands_again, ite_self, if_pos (e ▸ List.mem_cons_self)]
    · rw [if_neg e]
      refine if_congr ?_ rfl rfl
      rw [List.mem_cons]; exact (or_iff_right fun h => e h.symm).symm
  timeout a := by
    rw [k.timeout, h.stands_timeout, h.completesIn_cons (l := l), Bool.not_or, Bool.and_assoc]
  zones nodup := by
    have split : (w :: l).filterMap SampleWork.zone? = w.zone?.toList ++ l.filterMap SampleWork.zone? := by
      rw [List.filterMap_cons]
      cases w.zone? <;> rfl
    rw [split] at nodup ⊢
    obtain ⟨-, once, apart⟩ := List.nodup_append.1 nodup
    obtain ⟨zones, forms⟩ := k.zones once
    have later {z : Fin 16} (hz : z ∈ l.filterMap SampleWork.zone?) : t.zmn.zones[z] = s.zmn.zones[z] := by
      rw [h.zones, if_neg fun e => apart z (by rw [e]; exact List.mem_singleton_self z) z hz rfl]
    refine ⟨fun z => ?_, ?_⟩
    · rw [zones z]
      by_cases hz : z ∈ l.filterMap SampleWork.zone?
      · rw [if_pos hz, later hz, if_pos (List.mem_append_right _ hz)]
      · rw [if_neg hz, h.zones]
        refine if_congr ?_ rfl rfl
        rw [List.mem_append, or_iff_left hz]
        cases w.zone? <;> simp [eq_comm]
    · have both := h.forms_zoneLevel.trans forms
      refine (congrArg (Forms s u _) ?_).mp both
      rw [List.filter_append, List.map_append]
      refine congrArg (_ ++ ·) ?_
      rw [List.filter_congr fun z hz => by rw [later hz]]
      refine List.map_congr_left fun z hz => ?_
      rw [later (List.mem_of_mem_filter hz)]
      unfold State.zoneNote State.notice
      rw [h.time, h.psq]

/-- The work of a list, where no entry moves anything. -/
theorem worked {v s : State} (l : List SampleWork) (ev : s.ev = {}) (adv : s.advisory) : Worked l v s (l.foldl (doWork v) s) := by
  induction l generalizing s with
  | nil => exact worked_nil v s
  | cons w l ih =>
    have h := doWork_makes (v := v) w ev adv
    exact worked_cons ev adv rfl h (ih (h.ev.trans ev) (h.advisory adv))

end Sys2Proof.Machine

/-!
The end of a control sample's segment, and all that a sample brings besides its values (R30, R32, R43, R166, R168, R185).
-/
namespace Sys2Proof.Machine

/-! ### What entering a segment leaves unchanged (R30) -/

/-- Levels, tracks and cycles counted are the same. -/
def Sequencer.Alike (q r : Sequencer) : Prop := r.levels = q.levels ∧ r.tracks = q.tracks ∧ r.totalCycles = q.totalCycles

theorem Sequencer.Alike.trans {q r u : Sequencer} (h : q.Alike r) (k : r.Alike u) : q.Alike u :=
  ⟨k.1.trans h.1, k.2.1.trans h.2.1, k.2.2.trans h.2.2⟩

theorem Sequencer.alike_stopped (q : Sequencer) : q.Alike q.stopped := by
  by_cases h : q.activity.isWave = true
  · by_cases hm : q.pauseLength = 0
    · rw [Sequencer.stopped_of_no_pause h hm]; exact ⟨rfl, rfl, rfl⟩
    · rw [Sequencer.stopped_of_pause h hm]; exact ⟨rfl, rfl, rfl⟩
  · rw [Sequencer.stopped_of_level (by simpa using h)]; exact ⟨rfl, rfl, rfl⟩

theorem alike_enterCycle (m : Int) (q : Sequencer) : q.Alike (enterCycle m q) := by
  unfold enterCycle beginTaperUp beginSteady
  dsimp only
  split
  · split <;> exact ⟨rfl, rfl, rfl⟩
  · exact ⟨rfl, rfl, rfl⟩

theorem alike_enterFrom (n i : Nat) (q : Sequencer) : q.Alike (enterFrom n i q) := by
  induction n generalizing i q with
  | zero => exact ⟨rfl, rfl, rfl⟩
  | succ n ih =>
    unfold enterFrom
    split
    · split
      · exact ⟨rfl, rfl, rfl⟩
      · exact ⟨rfl, rfl, rfl⟩
      · exact Sequencer.Alike.trans (q := q) ⟨rfl, rfl, rfl⟩ (alike_enterCycle _ _)
      · split <;> exact Sequencer.Alike.trans (q := q) ⟨rfl, rfl, rfl⟩ (ih ..)
      · exact ⟨rfl, rfl, rfl⟩
    · exact ⟨rfl, rfl, rfl⟩

theorem Sequencer.alike_next (q : Sequencer) : q.Alike q.next := by
  have entered := alike_enterFrom loopFuel (q.segment.val + 1) q
  unfold Sequencer.next Sequencer.afterEntry
  generalize enterFrom loopFuel (q.segment.val + 1) q = e at entered ⊢
  split
  · exact entered
  · split
    · exact entered.trans e.alike_stopped
    · exact entered

/-! ### The end of the segment (R30, R32, R43) -/

/-- The sequencer after a pause that has run its length. -/
def SeqOut.heldPlan (o : SeqOut) (q : Sequencer) : Sequencer :=
  if o.held = true ∧ q.state = .pausing then { q with state := .holding } else q

/-- The sequencer after the end of its segment. -/
def SeqOut.endPlan (o : SeqOut) (q : Sequencer) : Sequencer :=
  if o.next = true ∧ (o.heldPlan q).state = .running then (o.heldPlan q).next else o.heldPlan q

/-- The SEQ_STATE notices of the end of the segment. -/
def SeqOut.endNotes (o : SeqOut) (q : Sequencer) (time : Nat) : List Notice :=
  (if o.held = true ∧ q.state = .pausing then [(o.heldPlan q).note time .pausing] else []) ++
    if o.next = true ∧ (o.heldPlan q).state = .running then (o.heldPlan q).nextNotes time else []

theorem SeqOut.alike_endPlan (o : SeqOut) (q : Sequencer) : q.Alike (o.endPlan q) := by
  have held : q.Alike (o.heldPlan q) := by
    unfold heldPlan
    split <;> exact ⟨rfl, rfl, rfl⟩
  unfold endPlan
  split
  · exact held.trans (Sequencer.alike_next _)
  · exact held

theorem dwellEndTrigger_eq (s : State) : ∃ p, dwellEndTrigger s = { s with stp := p } :=
  forAsc_keeps (fun t => ∃ p, t = { s with stp := p }) (fun _ _ h => by
    obtain ⟨p, rfl⟩ := h
    exact keeps_ite (P := fun t => ∃ p, t = { s with stp := p }) ⟨_, rfl⟩ ⟨_, rfl⟩) ⟨_, rfl⟩

theorem endSegment_eq (o : SeqOut) {s : State} (ev : s.ev = {}) :
    endSegment o s = ({ s with
      stp := if o.dwellEnd then (dwellEndTrigger s).stp else s.stp
      psq := o.endPlan s.psq } : State).noted (o.endNotes s.psq s.time) := by
  obtain ⟨d, hd⟩ : ∃ d, d = if o.dwellEnd then dwellEndTrigger s else s := ⟨_, rfl⟩
  have taken : d = { s with stp := if o.dwellEnd then (dwellEndTrigger s).stp else s.stp } := by
    rw [hd]
    split
    · obtain ⟨p, e⟩ := dwellEndTrigger_eq s
      rw [e]
    · rfl
  have psq : d.psq = s.psq := by rw [taken]
  have time : d.time = s.time := by rw [taken]; rfl
  have dev : d.ev = {} := by rw [taken]; exact ev
  have held : (if o.held then seqHeld d else d) = d.withPlan (o.heldPlan s.psq)
      (if o.held = true ∧ s.psq.state = .pausing then [(o.heldPlan s.psq).note s.time .pausing] else []) := by
    have self : d = d.withPlan s.psq [] := by rw [← psq, State.withPlan, show ([] : List Notice) = d.ev.seqs by rw [dev]]
    unfold SeqOut.heldPlan
    cases o.held with
    | false => simpa using self
    | true =>
      unfold seqHeld
      rw [psq]
      by_cases h : s.psq.state = .pausing
      · simp only [h, if_true, and_self, seqChange_eq, psq, time, dev, List.nil_append]
      · simpa [h] using self
  have next (q : Sequencer) (l : List Notice) : (if o.next then enterNext (d.withPlan q l) else d.withPlan q l) =
      d.withPlan (if o.next = true ∧ q.state = .running then q.next else q)
        (l ++ if o.next = true ∧ q.state = .running then q.nextNotes s.time else []) := by
    cases o.next with
    | false => simp
    | true =>
      by_cases h : q.state = .running
      · rw [if_pos rfl, enterNext_eq (s := d.withPlan q l) h]
        simp only [h, and_self, if_true, withPlan_psq, withPlan_seqs, withPlan_time, withPlan_withPlan, time]
      · simp [enterNext, h]
  have eq : endSegment o s = flush (d.withPlan (o.endPlan s.psq) (o.endNotes s.psq s.time)) := by
    unfold endSegment
    dsimp only
    rw [← hd, held, next]
    rfl
  rw [eq, flush_withPlan dev, taken]

theorem Sequencer.nextNotes_kind (q : Sequencer) (time : Nat) : ∀ n ∈ q.nextNotes time, n.kind = .seqState := by
  unfold Sequencer.nextNotes
  dsimp only
  split
  · simp [Sequencer.note]
  · split
    · exact Sequencer.stopNotes_kind _ _
    · exact nofun

theorem SeqOut.endNotes_kind (o : SeqOut) (q : Sequencer) (time : Nat) : ∀ n ∈ o.endNotes q time, n.kind = .seqState := by
  intro n hn
  rcases List.mem_append.1 hn with hn | hn
  · split at hn
    · rw [List.mem_singleton.1 hn]; rfl
    · exact nomatch hn
  · split at hn
    · exact Sequencer.nextNotes_kind _ _ n hn
    · exact nomatch hn

/-! ### The work of a sample, before and after the end of the segment -/

/-- The state in which the work of a sample begins: the tick, where there is one, has moved the bins (R168). -/
def SeqOut.begun (o : SeqOut) (v : State) : State := if o.tick then startTick .cycle v else v

theorem SeqOut.begun_eq (o : SeqOut) (v : State) : o.begun v = { v with zmn := (o.begun v).zmn } := by
  unfold begun
  split <;> rfl

/-- All the work of a sample. -/
def SeqOut.work (o : SeqOut) (first : List SampleItem) : List SampleWork :=
  sampleWork first (if o.tick then List.finRange 16 else []) o.marks

/-- The work before the end of the segment, and after it. -/
def SeqOut.before (o : SeqOut) (first : List SampleItem) : List SampleWork := (o.work first).takeWhile SampleWork.ofSequencer
def SeqOut.after (o : SeqOut) (first : List SampleItem) : List SampleWork := (o.work first).dropWhile SampleWork.ofSequencer

theorem SeqOut.before_append_after (o : SeqOut) (first : List SampleItem) : o.before first ++ o.after first = o.work first :=
  List.takeWhile_append_dropWhile

theorem SeqOut.mem_before {o : SeqOut} {first : List SampleItem} {w : SampleWork} (h : w ∈ o.before first) :
    w.ofSequencer = true := List.mem_takeWhile_imp h

theorem SeqOut.mem_after {o : SeqOut} {first : List SampleItem} {w : SampleWork} (h : w ∈ o.work first)
    (out : w.ofSequencer = false) : w ∈ o.after first := by
  rw [← o.before_append_after first] at h
  rcases List.mem_append.1 h with h | h
  · rw [mem_before h] at out; exact nomatch out
  · exact h

/-- Every unload is looked at (R82). -/
theorem completion_mem_sampleWork (a : Fin 8) (first : List SampleItem) (zones : List (Fin 16)) (marks : List Mark) :
    .completion a ∈ sampleWork first zones marks := by
  have items (l : List SampleItem) (zones : List (Fin 16)) (marks : List Mark) (h : .completion a ∈ l) :
      SampleWork.completion a ∈ workOf l zones marks := by
    induction l generalizing zones marks with
    | nil => exact nomatch h
    | cons i l ih =>
      rcases List.mem_cons.1 h with e | later
      · subst e
        rw [workOf]; exact List.mem_cons_self
      · cases i <;> cases zones <;> cases marks <;> simp [workOf, ih _ _ later]
  have once (seen l : List SampleItem) (h : .completion a ∈ l) (new : .completion a ∉ seen) :
      SampleItem.completion a ∈ onceEach seen l := by
    induction l generalizing seen with
    | nil => exact nomatch h
    | cons i l ih =>
      by_cases e : i = .completion a
      · subst e
        unfold onceEach
        rw [if_neg (by simpa using new)]
        exact List.mem_cons_self
      · have later : SampleItem.completion a ∈ l := (List.mem_cons.1 h).resolve_left fun h => e h.symm
        have still : SampleItem.completion a ∉ i :: seen := fun h => (List.mem_cons.1 h).elim (fun h => e h.symm) new
        cases i with
        | zone => exact List.mem_cons_of_mem _ (ih seen later new)
        | mark => exact List.mem_cons_of_mem _ (ih seen later new)
        | cond k b =>
          unfold onceEach
          split
          · exact ih seen later new
          · exact List.mem_cons_of_mem _ (ih _ later still)
        | completion b =>
          unfold onceEach
          split
          · exact ih seen later new
          · exact List.mem_cons_of_mem _ (ih _ later still)
  have all : .completion a ∈ sampleItems := List.mem_flatMap.2 ⟨a, List.mem_finRange a, by simp⟩
  rw [sampleWork, List.mem_append]
  by_cases h : .completion a ∈ first
  · exact .inl (items _ _ _ (once [] first h List.not_mem_nil))
  · exact .inr (items _ _ _ (List.mem_filter.2 ⟨all, by simpa using h⟩))

theorem cond_mem_sampleWork (k : ActCond) (a : Fin 8) (first : List SampleItem) (zones : List (Fin 16)) (marks : List Mark) :
    .cond k a ∈ sampleWork first zones marks :=
  List.count_pos_iff.1 (by rw [sampleWork_cond]; decide)

/-- An ACT_STATE notice of an actuator. -/
def Notice.isActOf (a : Fin 8) (n : Notice) : Bool := n.is .actState && decide (n.subject = a.val)

/-- What a control sample makes of the state `v` that holds its values, where no entry moves anything. -/
structure Sampled (o : SeqOut) (v t : State) : Prop where
  rest : ∃ z p x g m n lost, t = { v with
    psq := o.endPlan v.psq, zmn := z, stp := p, svc := { v.svc with acts := x }, lgu := g, pmx := m
    sli := { v.sli with notices := n, noticesLost := lost } }
  act : ∀ a, ∃ d, t.act a = { (if unloadDue (v.act a) then (v.act a).completed else v.act a) with derate := d }
  members : ∀ g, (t.group g).members = (v.group g).members
  entry : ∀ e : Fin 40, t.pmx.entries[e].cfg = v.pmx.entries[e].cfg
  still : o.tick = false → t.zmn = v.zmn
  ticked : o.tick = true → (∃ z, t.zmn = { (startTick .cycle v).zmn with zones := z }) ∧
    ∀ z : Fin 16, t.zmn.zones[z] = ((startTick .cycle v).zmn.zones[z]).walked
  zoneNotes : Forms v t (Notice.is .zoneLevel) (zoneNotes .tick v t)
  marks : o.dwellEnd = false → (o.marks = [] ∨ o.endPlan v.psq = v.psq) → ∀ u, SameMarks v u →
    t.stp = (o.marks.foldl (fun u m => takeMark m u) u).stp
  dwell : o.marks = [] → o.dwellEnd = true → ∃ m, SameMarks v m ∧ t.stp = (dwellEndTrigger m).stp
  notes : ∀ p : Notice → Bool, (∀ n, p n = true → n.kind ≠ .entry ∧ n.kind ≠ .zoneLevel ∧ n.kind ≠ .actState) →
    Forms v t p ((o.endNotes v.psq v.time).filter p)
  actNotes : ∀ a, Forms v t (Notice.isActOf a)
    (if unloadDue (v.act a) then [v.actNote a (v.act a).goalState .unloading .unloadDone] else [])
  stands : ∀ k a, loopCond k = false ∨ unloadDue (v.act a) = false →
    t.raised (.act k a) = condStands k (dueChange k a v) (v.act a).state.servoRuns (v.raised (.act k a))
  timeout : ∀ a, t.raised (.unloadTimeout a) = (v.raised (.unloadTimeout a) && !unloadDue (v.act a))

theorem unloadDue_state {x : Actuator} (h : unloadDue x = true) : x.state = .unloading :=
  of_decide_eq_true (Bool.and_eq_true_iff.1 h).1

namespace SeqOut

variable (o : SeqOut) (first : List SampleItem) {v b m e t : State}

theorem completesIn_before (a : Fin 8) (s : State) : completesIn (o.before first) v s a = false := by
  rw [completesIn, decide_eq_false fun h => nomatch (mem_before h : SampleWork.ofSequencer (.completion a) = true)]; rfl

theorem completesIn_after (a : Fin 8) (h : (e.act a).state = (v.act a).state) :
    completesIn (o.after first) v e a = unloadDue (v.act a) := by
  rw [completesIn, decide_eq_true (mem_after (completion_mem_sampleWork a first _ _) rfl), Bool.true_and, h]
  cases due : unloadDue (v.act a) with
  | false => rfl
  | true => rw [unloadDue_state due]; rfl

theorem filterMap_zone : (o.before first).filterMap SampleWork.zone? ++ (o.after first).filterMap SampleWork.zone? =
    if o.tick then List.finRange 16 else [] := by
  rw [← List.filterMap_append, before_append_after]
  exact sampleWork_zones ..

theorem filterMap_mark : (o.before first).filterMap SampleWork.mark? ++ (o.after first).filterMap SampleWork.mark? = o.marks := by
  rw [← List.filterMap_append, before_append_after]
  exact sampleWork_marks ..

theorem zones_once :
    ((o.before first).filterMap SampleWork.zone? ++ (o.after first).filterMap SampleWork.zone?).Nodup := by
  rw [filterMap_zone]
  split
  · exact List.nodup_finRange 16
  · exact List.nodup_nil

end SeqOut

/-! ### The sample's events, put together -/

theorem SameMarks.rfl' {s : State} (ev : s.ev = {}) (adv : s.advisory) : SameMarks s s := .of_moved .rfl' ev adv

/-- The start of a tick does not concern the strain processor. -/
theorem SeqOut.sameMarks_begun (o : SeqOut) {v : State} (ev : v.ev = {}) (adv : v.advisory) : SameMarks v (o.begun v) := by
  rw [o.begun_eq]
  exact ⟨rfl, rfl, rfl, rfl, rfl, fun _ => rfl, fun _ => ⟨rfl, rfl⟩, fun _ => rfl, ev, adv, ev, adv⟩

theorem Worked.sameMarks {l : List SampleWork} {v s t : State} (h : Worked l v s t) (ev : s.ev = {}) (adv : s.advisory)
    (stp : t.stp = s.stp) : SameMarks s t := by
  have acted (a : Fin 8) : (t.act a).force = (s.act a).force ∧ (t.act a).cfg.enabled = (s.act a).cfg.enabled ∧
      (t.act a).source = (s.act a).source := by
    obtain ⟨_, e⟩ := h.act a
    rw [e]
    split
    · exact ⟨Actuator.completed_force _, by rw [Actuator.completed_cfg], Actuator.completed_source _⟩
    · exact ⟨rfl, rfl, rfl⟩
  obtain ⟨_, _, _, _, _, _, _, e⟩ := h.rest
  exact {
    stp := stp, members := h.members
    psq := by rw [e]
    time := by rw [e]; rfl
    axs := by rw [e]
    glc := by rw [e]
    force := fun a => (acted a).1
    used := fun a => (acted a).2
    advised := ⟨ev, adv, by rw [e]; exact ev, fun k => by rw [h.entry k]; exact adv k⟩ }

/-- The evaluated zones of a tick, before or after the end of the segment, are those of all sixteen. -/
theorem zoneNotes_eq {v b t : State} (shown : ∀ z : Fin 16, b.zmn.zones[z].displayed = v.zmn.zones[z].displayed)
    (zones : ∀ z : Fin 16, t.zmn.zones[z] = b.zmn.zones[z].walked) (time : t.time = b.time)
    (cycles : t.psq.totalCycles = b.psq.totalCycles) :
    zoneNotes .tick v t =
      ((List.finRange 16).filter fun z => b.zmn.zones[z].walked.displayed ≠ b.zmn.zones[z].displayed).map fun z =>
        b.zoneNote .tick z b.zmn.zones[z].walked b.zmn.zones[z].displayed := by
  unfold zoneNotes
  rw [List.filter_congr fun z _ => by rw [zones z, ← shown z]]
  refine List.map_congr_left fun z _ => ?_
  unfold State.zoneNote State.notice
  rw [zones z, shown z, time, cycles]

/-- The same work on marks leaves states that the strain processor cannot tell apart. -/
theorem worked_sameMarks {v s u : State} (l : List SampleWork) (h : SameMarks s u) (ev : s.ev = {}) (adv : s.advisory) :
    SameMarks (l.foldl (doWork v) s) ((l.filterMap SampleWork.mark?).foldl (fun u m => takeMark m u) u) := by
  induction l generalizing s u with
  | nil => exact h
  | cons w l ih =>
    have makes := doWork_makes (v := v) w ev adv
    have ev' := makes.ev.trans ev
    have adv' := makes.advisory adv
    cases w with
    | mark m => exact ih (h.takeMark m) ev' adv'
    | zone z => exact ih ((makes.sameMarks ev adv makes.stp).symm.trans h) ev' adv'
    | cond k a => exact ih ((makes.sameMarks ev adv makes.stp).symm.trans h) ev' adv'
    | completion a => exact ih ((makes.sameMarks ev adv makes.stp).symm.trans h) ev' adv'

/-- The marks of a list are taken alike in states that the strain processor cannot tell apart. -/
theorem sameMarks_foldl (l : List Mark) {s u : State} (h : SameMarks s u) :
    SameMarks (l.foldl (fun u m => takeMark m u) s) (l.foldl (fun u m => takeMark m u) u) := by
  induction l generalizing s u with
  | nil => exact h
  | cons m l ih => exact ih (h.takeMark m)

/-- The two halves of a sample's work, with the end of the segment between them. -/
structure Halves (o : SeqOut) (first : List SampleItem) (v b m e t : State) : Prop where
  same : SameMarks v b
  begun : b = { v with zmn := b.zmn }
  before : Worked (o.before first) v b m
  marked : SameMarks m (((o.before first).filterMap SampleWork.mark?).foldl (fun u m => takeMark m u) b)
  ended : ∃ n lost, e = { m with
    stp := if o.dwellEnd then (dwellEndTrigger m).stp else m.stp, psq := o.endPlan v.psq
    sli := { m.sli with notices := n, noticesLost := lost } }
  between : ∀ p, Forms m e p ((o.endNotes v.psq v.time).filter p)
  after : Worked (o.after first) v e t

namespace Halves

variable {o : SeqOut} {first : List SampleItem} {v b m e t : State} (h : Halves o first v b m e t)
include h

theorem bev : b.ev = {} := h.same.advised.2.2.1
theorem badv : b.advisory := h.same.advised.2.2.2
theorem mev : m.ev = {} := h.marked.advised.1
theorem madv : m.advisory := h.marked.advised.2.1

theorem mpsq : m.psq = v.psq := by
  obtain ⟨_, _, _, _, _, _, _, e⟩ := h.before.rest
  rw [e]; exact h.same.psq

theorem mtime : m.time = v.time := by
  obtain ⟨_, _, _, _, _, _, _, e⟩ := h.before.rest
  rw [e]; exact h.same.time

theorem eev : e.ev = {} := by
  obtain ⟨_, _, rfl⟩ := h.ended
  exact h.mev

theorem eadv : e.advisory := by
  obtain ⟨_, _, rfl⟩ := h.ended
  exact h.madv

theorem etime : e.time = v.time := by
  obtain ⟨_, _, rfl⟩ := h.ended
  exact h.mtime

theorem epsq : e.psq = o.endPlan v.psq := by
  obtain ⟨_, _, rfl⟩ := h.ended
  rfl

theorem ecycles : e.psq.totalCycles = v.psq.totalCycles := by
  rw [h.epsq]
  exact (o.alike_endPlan v.psq).2.2

theorem ezmn : e.zmn = m.zmn := by
  obtain ⟨_, _, rfl⟩ := h.ended
  rfl

theorem estp : e.stp = if o.dwellEnd then (dwellEndTrigger m).stp else m.stp := by
  obtain ⟨_, _, rfl⟩ := h.ended
  rfl

theorem eraised (d : Cond) : e.raised d = m.raised d := by
  obtain ⟨_, _, rfl⟩ := h.ended
  rfl

theorem braised (d : Cond) : b.raised d = v.raised d := by
  rw [h.begun]; rfl

/-- Before the end of the segment derates alone have changed of the actuators. -/
theorem eact (a : Fin 8) : ∃ d, e.act a = { v.act a with derate := d } := by
  obtain ⟨d, k⟩ := h.before.act a
  rw [o.completesIn_before] at k
  refine ⟨d, ?_⟩
  obtain ⟨_, _, rfl⟩ := h.ended
  refine k.trans ?_
  rw [h.begun]; rfl

theorem completesIn_after (a : Fin 8) : completesIn (o.after first) v e a = unloadDue (v.act a) := by
  obtain ⟨_, k⟩ := h.eact a
  exact o.completesIn_after first a (by rw [k])

theorem startNotes (p : Notice → Bool) : Forms v b p [] := Forms.of_sli (by rw [h.begun])

theorem rest : ∃ z p x g m n lost, t = { v with
    psq := o.endPlan v.psq, zmn := z, stp := p, svc := { v.svc with acts := x }, lgu := g, pmx := m
    sli := { v.sli with notices := n, noticesLost := lost } } := by
  obtain ⟨_, _, _, _, _, _, _, et⟩ := h.after.rest
  obtain ⟨_, _, ee⟩ := h.ended
  obtain ⟨_, _, _, _, _, _, _, em⟩ := h.before.rest
  rw [et, ee, em, h.begun]
  exact ⟨_, _, _, _, _, _, _, rfl⟩

theorem act (a : Fin 8) : ∃ d, t.act a = { (if unloadDue (v.act a) then (v.act a).completed else v.act a) with derate := d } := by
  obtain ⟨d, k⟩ := h.after.act a
  obtain ⟨_, j⟩ := h.eact a
  refine ⟨d, ?_⟩
  rw [k, h.completesIn_after, j]
  split
  · rw [Actuator.completed_withDerate]
  · rfl

theorem members (g : Fin 4) : (t.group g).members = (v.group g).members := by
  have mid : (e.group g).members = (m.group g).members := by
    obtain ⟨_, _, rfl⟩ := h.ended
    rfl
  rw [h.after.members, mid, h.before.members, h.begun]; rfl

theorem entry (k : Fin 40) : t.pmx.entries[k].cfg = v.pmx.entries[k].cfg := by
  have mid : e.pmx.entries[k].cfg = m.pmx.entries[k].cfg := by
    obtain ⟨_, _, rfl⟩ := h.ended
    rfl
  rw [h.after.entry, mid, h.before.entry, h.begun]

theorem timeout (a : Fin 8) : t.raised (.unloadTimeout a) = (v.raised (.unloadTimeout a) && !unloadDue (v.act a)) := by
  rw [h.after.timeout, h.eraised, h.before.timeout, h.braised, h.completesIn_after, o.completesIn_before, Bool.not_false,
    Bool.and_true]

theorem stands (k : ActCond) (a : Fin 8) (hk : loopCond k = false ∨ unloadDue (v.act a) = false) :
    t.raised (.act k a) = condStands k (dueChange k a v) (v.act a).state.servoRuns (v.raised (.act k a)) := by
  obtain ⟨_, ha⟩ := h.eact a
  have out : .cond k a ∉ o.before first := fun j => nomatch (SeqOut.mem_before j : SampleWork.ofSequencer (.cond k a) = true)
  have mid : m.raised (.act k a) = v.raised (.act k a) := by
    rw [h.before.stands k a (.inr (o.completesIn_before ..)), if_neg out, h.braised]
  rw [h.after.stands k a (by rw [h.completesIn_after]; exact hk), if_pos (SeqOut.mem_after (cond_mem_sampleWork ..) rfl),
    h.eraised, mid, ha]

/-- No notice of the end of the segment has another kind than SEQ_STATE. -/
theorem between_none {p : Notice → Bool} (hp : ∀ n, p n = true → n.kind ≠ .seqState) : Forms m e p [] := by
  have forms := h.between p
  rwa [List.filter_eq_nil_iff.2 fun n hn pn => hp n pn (o.endNotes_kind _ _ n hn)] at forms

theorem actNotes (a : Fin 8) : Forms v t (Notice.isActOf a)
    (if unloadDue (v.act a) then [v.actNote a (v.act a).goalState .unloading .unloadDone] else []) := by
  have none : Forms m e (Notice.isActOf a) [] :=
    h.between_none fun n hn => by rw [of_decide_eq_true (Bool.and_eq_true_iff.1 hn).1]; exact nofun
  have forms := ((h.startNotes _).trans (h.before.actNotes a)).trans (none.trans (h.after.actNotes a))
  obtain ⟨_, ha⟩ := h.eact a
  have note : e.actNote a (e.act a).goalState .unloading .unloadDone = v.actNote a (v.act a).goalState .unloading .unloadDone := by
    unfold State.actNote
    rw [ha, h.etime, h.ecycles]; rfl
  rwa [o.completesIn_before, h.completesIn_after, note] at forms

theorem notes {p : Notice → Bool} (hp : ∀ n, p n = true → n.kind ≠ .entry ∧ n.kind ≠ .zoneLevel ∧ n.kind ≠ .actState) :
    Forms v t p ((o.endNotes v.psq v.time).filter p) := by
  have forms := ((h.startNotes p).trans (h.before.notes p hp)).trans ((h.between p).trans (h.after.notes p hp))
  rwa [List.append_nil, List.nil_append, List.append_nil] at forms

/-! The marks. -/

theorem marks (dwell : o.dwellEnd = false) (plan : o.marks = [] ∨ o.endPlan v.psq = v.psq) (u : State) (hu : SameMarks v u) :
    t.stp = (o.marks.foldl (fun u m => takeMark m u) u).stp := by
  have split := o.filterMap_mark first
  have stp : e.stp = m.stp := by rw [h.estp, dwell]; rfl
  rcases plan with none | kept
  · rw [none] at split ⊢
    obtain ⟨before, later⟩ := List.append_eq_nil_iff.1 split
    have mstp := h.before.stp u (h.same.symm.trans hu)
    have tstp := h.after.stp e (.rfl' h.eev h.eadv)
    rw [before] at mstp
    rw [later] at tstp
    exact (tstp.trans stp).trans mstp
  · obtain ⟨r, hr⟩ : ∃ r, r = ((o.before first).filterMap SampleWork.mark?).foldl (fun u m => takeMark m u) u := ⟨_, rfl⟩
    have mid : SameMarks m r := by
      rw [hr]
      exact h.marked.trans (sameMarks_foldl _ (h.same.symm.trans hu))
    have past : SameMarks e m := by
      have psq : m.psq = e.psq := by rw [h.epsq, kept, h.mpsq]
      obtain ⟨_, _, rfl⟩ := h.ended
      exact ⟨stp.symm, psq, rfl, rfl, rfl, fun _ => rfl, fun _ => ⟨rfl, rfl⟩, fun _ => rfl, h.mev, h.madv, h.mev, h.madv⟩
    rw [h.after.stp r (past.trans mid), hr, ← List.foldl_append, split]

theorem dwell (none : o.marks = []) (dwell : o.dwellEnd = true) : ∃ m, SameMarks v m ∧ t.stp = (dwellEndTrigger m).stp := by
  have split := o.filterMap_mark first
  rw [none] at split
  obtain ⟨before, later⟩ := List.append_eq_nil_iff.1 split
  have mstp := h.before.stp v h.same.symm
  have tstp := h.after.stp e (.rfl' h.eev h.eadv)
  rw [before] at mstp
  rw [later] at tstp
  refine ⟨m, h.same.trans (h.before.sameMarks h.bev h.badv (mstp.trans h.same.stp.symm)), tstp.trans ?_⟩
  exact h.estp.trans (if_pos dwell)

/-! The zones. -/

/-- A zone evaluated after the end of the segment was as the start of the tick left it. -/
theorem untouched {z : Fin 16} (hz : z ∈ (o.after first).filterMap SampleWork.zone?) : e.zmn.zones[z] = b.zmn.zones[z] := by
  obtain ⟨once, -, apart⟩ := List.nodup_append.1 (o.zones_once first)
  rw [h.ezmn, (h.before.zones once).1, if_neg fun h => apart z h z hz rfl]

theorem zmn_rest : ∃ z, t.zmn = { b.zmn with zones := z } := by
  obtain ⟨_, et⟩ := h.after.zmn
  obtain ⟨_, em⟩ := h.before.zmn
  rw [et, h.ezmn, em]
  exact ⟨_, rfl⟩

theorem zones (z : Fin 16) : t.zmn.zones[z] =
    if z ∈ (if o.tick then List.finRange 16 else []) then b.zmn.zones[z].walked else b.zmn.zones[z] := by
  obtain ⟨once, later, -⟩ := List.nodup_append.1 (o.zones_once first)
  rw [← o.filterMap_zone first, (h.after.zones later).1]
  by_cases hz : z ∈ (o.after first).filterMap SampleWork.zone?
  · rw [if_pos hz, h.untouched hz, if_pos (List.mem_append_right _ hz)]
  · rw [if_neg hz, h.ezmn, (h.before.zones once).1]
    exact if_congr (by rw [List.mem_append, or_iff_left hz]) rfl rfl

theorem forms_zoneLevel : Forms v t (Notice.is .zoneLevel)
    (((if o.tick then List.finRange 16 else []).filter fun z =>
      b.zmn.zones[z].walked.displayed ≠ b.zmn.zones[z].displayed).map fun z =>
        b.zoneNote .tick z b.zmn.zones[z].walked b.zmn.zones[z].displayed) := by
  obtain ⟨once, later, -⟩ := List.nodup_append.1 (o.zones_once first)
  have none : Forms m e (Notice.is .zoneLevel) [] :=
    h.between_none fun n hn => by rw [of_decide_eq_true hn]; exact nofun
  have all := ((h.startNotes _).trans (h.before.zones once).2).trans (none.trans (h.after.zones later).2)
  have notes : (((o.after first).filterMap SampleWork.zone?).filter fun z =>
        e.zmn.zones[z].walked.displayed ≠ e.zmn.zones[z].displayed).map (fun z =>
          e.zoneNote .tick z e.zmn.zones[z].walked e.zmn.zones[z].displayed) =
      (((o.after first).filterMap SampleWork.zone?).filter fun z =>
        b.zmn.zones[z].walked.displayed ≠ b.zmn.zones[z].displayed).map fun z =>
          b.zoneNote .tick z b.zmn.zones[z].walked b.zmn.zones[z].displayed := by
    rw [List.filter_congr fun z hz => by rw [h.untouched hz]]
    refine List.map_congr_left fun z hz => ?_
    unfold State.zoneNote State.notice
    rw [h.untouched (List.mem_of_mem_filter hz), h.etime, h.ecycles, h.same.time, h.same.psq]
  rwa [notes, List.nil_append, List.nil_append, ← List.map_append, ← List.filter_append, o.filterMap_zone] at all

end Halves

/-- The halves of every sample where no entry moves anything. -/
theorem halves_of_sample (o : SeqOut) (first : List SampleItem) {v : State} (ev : v.ev = {}) (adv : v.advisory) :
    ∃ b m e, b = o.begun v ∧ Halves o first v b m e (sampleEvents first o v) := by
  have same := o.sameMarks_begun ev adv
  obtain ⟨-, -, bev, badv⟩ := same.advised
  obtain ⟨m, hm⟩ : ∃ m, m = (o.before first).foldl (doWork v) (o.begun v) := ⟨_, rfl⟩
  have marked := worked_sameMarks (v := v) (o.before first) (.rfl' bev badv) bev badv
  have before := worked (v := v) (o.before first) bev badv
  rw [← hm] at marked before
  obtain ⟨_, _, _, _, _, _, _, rest⟩ := before.rest
  have psq : m.psq = v.psq := by rw [rest]; exact same.psq
  have time : m.time = v.time := by rw [rest]; exact same.time
  obtain ⟨mev, madv, -, -⟩ := marked.advised
  have ends := endSegment_eq o mev
  rw [psq, time] at ends
  obtain ⟨e, he⟩ : ∃ e, e = endSegment o m := ⟨_, rfl⟩
  rw [← he] at ends
  have ended : ∃ n lost, e = { m with
      stp := if o.dwellEnd then (dwellEndTrigger m).stp else m.stp, psq := o.endPlan v.psq
      sli := { m.sli with notices := n, noticesLost := lost } } := by
    obtain ⟨n, lost, queued⟩ := m.sli.queued_rest (o.endNotes v.psq v.time)
    refine ⟨n, lost, ?_⟩
    rw [ends, noted_eq, ← queued]
  have between (p : Notice → Bool) : Forms m e p ((o.endNotes v.psq v.time).filter p) := by
    have h := (Noted.noted ({ m with
      stp := if o.dwellEnd then (dwellEndTrigger m).stp else m.stp, psq := o.endPlan v.psq } : State)
      (o.endNotes v.psq v.time)).of_start (s := m) rfl
    rw [← ends] at h
    exact h.forms p
  have eadv : e.advisory := by
    obtain ⟨_, _, h⟩ := ended
    rw [h]; exact madv
  have eev : e.ev = {} := by
    obtain ⟨_, _, h⟩ := ended
    rw [h]; exact mev
  have eq : sampleEvents first o v = (o.after first).foldl (doWork v) e := by rw [he, hm]; rfl
  rw [eq]
  exact ⟨_, m, e, rfl, same, o.begun_eq v, before, marked, ended, between, worked _ eev eadv⟩

/-- A control sample beyond its values, where no entry moves anything. -/
theorem sampled (o : SeqOut) (first : List SampleItem) {v : State} (ev : v.ev = {}) (adv : v.advisory) :
    Sampled o v (sampleEvents first o v) := by
  obtain ⟨b, m, e, hb, h⟩ := halves_of_sample o first ev adv
  generalize sampleEvents first o v = t at h ⊢
  have shown (z : Fin 16) : b.zmn.zones[z].displayed = v.zmn.zones[z].displayed := by
    rw [hb, SeqOut.begun]
    split
    · have moved := Vector.getElem_map (xs := v.zmn.zones) (fun z : Zone => { z with bins := advanceBins z.bins }) z.isLt
      exact (congrArg Zone.displayed moved).trans rfl
    · rfl
  have still (tick : o.tick = false) : t.zmn = v.zmn := by
    have bzmn : b.zmn = v.zmn := by rw [hb, SeqOut.begun, tick]; rfl
    obtain ⟨zones, hz⟩ := h.zmn_rest
    have all := h.zones
    rw [tick] at all
    have : zones = b.zmn.zones := Vector.ext fun k hk => by
      have := all ⟨k, hk⟩
      rw [hz] at this
      exact this.trans (if_neg List.not_mem_nil)
    rw [hz, this, ← bzmn]
  have ticked (tick : o.tick = true) (z : Fin 16) : t.zmn.zones[z] = b.zmn.zones[z].walked := by
    rw [h.zones, tick]
    exact if_pos (List.mem_finRange z)
  have time : t.time = b.time := by
    obtain ⟨_, _, _, _, _, _, _, e⟩ := h.rest
    rw [e, h.same.time]; rfl
  have cycles : t.psq.totalCycles = b.psq.totalCycles := by
    obtain ⟨_, _, _, _, _, _, _, e⟩ := h.rest
    rw [e, h.same.psq]
    exact (o.alike_endPlan v.psq).2.2
  have zoneNotes : Forms v t (Notice.is .zoneLevel) (zoneNotes .tick v t) := by
    have forms := h.forms_zoneLevel
    cases tick : o.tick with
    | false =>
      rw [tick] at forms
      have none : Machine.zoneNotes .tick v t = [] := by
        unfold Machine.zoneNotes
        rw [still tick, List.filter_eq_nil_iff.2 fun z _ => by simp]; rfl
      rw [none]
      exact forms
    | true =>
      rw [tick] at forms
      rw [zoneNotes_eq shown (ticked tick) time cycles]
      exact forms
  exact {
    rest := h.rest, act := h.act, members := h.members, entry := h.entry, still := still, zoneNotes := zoneNotes
    ticked := fun tick => by
      have : b = startTick .cycle v := by rw [hb, SeqOut.begun, tick]; rfl
      rw [← this]
      exact ⟨h.zmn_rest, ticked tick⟩
    marks := h.marks, dwell := h.dwell, notes := fun _ => h.notes, actNotes := h.actNotes, stands := h.stands, timeout := h.timeout }

end Sys2Proof.Machine

/-!
The values of a control sample: what the readings, the load groups and the servos write (R48, R49, R81, R82, R104).
-/
namespace Sys2Proof.Machine

/-! ### The load groups' part (R104) -/

/-- What the load groups' work writes: registers of stages 1 to 4, group records, and handover notices. -/
structure State.Grouped (s t : State) : Prop where
  rest : ∃ x g n lost, t = { s with
    svc := { s.svc with acts := x }, lgu := g, sli := { s.sli with notices := n, noticesLost := lost } }
  act : ∀ a, ∃ l b c d, t.act a = { s.act a with regs := { (s.act a).regs with l := l, b := b, s := c, d := d } }
  members : ∀ g, (t.group g).members = (s.group g).members
  notes : ∀ p : Notice → Bool, (∀ n, p n = true → n.kind ≠ .handover ∧ n.kind ≠ .handoverNone) → Forms s t p []
  free : ∀ a, s.groupOf a = none ∨ (s.act a).state ≠ .active → t.act a = s.act a

theorem State.Grouped.rfl' {s : State} : s.Grouped s :=
  ⟨⟨_, _, _, _, rfl⟩, fun _ => ⟨_, _, _, _, rfl⟩, fun _ => rfl, fun _ _ => Forms.of_sli rfl, fun _ _ => rfl⟩

theorem State.Grouped.groupOf {s t : State} (h : s.Grouped t) (a : Fin 8) : t.groupOf a = s.groupOf a :=
  groupOf_of_members h.members a

theorem State.Grouped.trans {s t u : State} (h : s.Grouped t) (k : t.Grouped u) : s.Grouped u where
  rest := by
    obtain ⟨_, _, _, _, rfl⟩ := h.rest
    obtain ⟨_, _, _, _, rfl⟩ := k.rest
    exact ⟨_, _, _, _, rfl⟩
  act a := by
    obtain ⟨_, _, _, _, ha⟩ := h.act a
    obtain ⟨l, b, c, d, ka⟩ := k.act a
    exact ⟨l, b, c, d, by rw [ka, ha]⟩
  members g := (k.members g).trans (h.members g)
  notes p hp := (h.notes p hp).trans (k.notes p hp)
  free a ha := by
    have kept : (t.act a).state = (s.act a).state := by rw [h.free a ha]
    exact (k.free a (by rw [h.groupOf, kept]; exact ha)).trans (h.free a ha)

theorem grouped_modGroup (g : Fin 4) {f : Group → Group} (hf : ∀ x, (f x).members = x.members) (s : State) :
    s.Grouped (s.modGroup g f) := by
  refine ⟨⟨_, _, _, _, rfl⟩, fun _ => ⟨_, _, _, _, rfl⟩, fun k => ?_, fun _ _ => Forms.of_sli rfl, fun _ _ => rfl⟩
  rw [State.modGroup_group]
  split
  · rename_i e; subst e; exact hf _
  · rfl

theorem grouped_offer {n : Notice} (h : n.kind = .handover ∨ n.kind = .handoverNone) (s : State) : s.Grouped (offer n s) := by
  refine ⟨⟨_, _, _, _, rfl⟩, fun _ => ⟨_, _, _, _, rfl⟩, fun _ => rfl, fun p hp => ?_, fun _ _ => rfl⟩
  have forms := Forms.offer (p := p) n s
  rwa [if_neg fun hn => by
    obtain ⟨one, other⟩ := hp n hn
    exact h.elim one other] at forms

/-- What the shares write to one member. -/
def Actuator.shared (level base share : Int) (x : Actuator) : Actuator :=
  { x with regs := { x.regs with l := level, b := base, s := share, d := derated share x.derate } }

theorem grouped_share {a : Fin 8} {s : State} (ha : s.groupOf a ≠ none ∧ (s.act a).state = .active) (level base share : Int) :
    s.Grouped (s.modAct a (Actuator.shared level base share)) := by
  refine ⟨⟨_, _, _, _, rfl⟩, fun b => ?_, fun _ => rfl, fun _ _ => Forms.of_sli rfl, fun b hb => ?_⟩
  · rw [State.modAct_act]
    split
    · rename_i e; subst e; exact ⟨_, _, _, _, rfl⟩
    · exact ⟨_, _, _, _, rfl⟩
  · rw [State.modAct_act, if_neg fun e => by subst e; exact hb.elim ha.1 fun h => h ha.2]

theorem groupOf_of_member {s : State} {g : Fin 4} {m : Fin 8 × Nat} (h : m ∈ (s.group g).members) : s.groupOf m.1 ≠ none := by
  intro none
  have := List.find?_eq_none.1 none g (List.mem_finRange g)
  exact this (List.any_eq_true.2 ⟨m, h, decide_eq_true rfl⟩)

theorem shares_members (total : Int) (l : List (Fin 8 × Nat)) : (shares total l).map Prod.fst = l.map Prod.fst := by
  cases l with
  | nil => rfl
  | cons m l => simp [shares, Function.comp_def]

/-- The registers that the shares of a list write. -/
def State.shareTo (level base : Int) (l : List (Fin 8 × Int)) (s : State) : State :=
  l.foldl (fun s m => s.modAct m.1 (Actuator.shared level base m.2)) s

theorem grouped_shareTo (level base : Int) (l : List (Fin 8 × Int)) {s : State} (h : ∀ a ∈ l.map Prod.fst, s.groupOf a ≠ none ∧ (s.act a).state = .active) :
    s.Grouped (s.shareTo level base l) := by
  induction l generalizing s with
  | nil => exact .rfl'
  | cons m l ih =>
    have one := grouped_share (h m.1 List.mem_cons_self) level base m.2
    refine one.trans (ih fun a ha => ?_)
    obtain ⟨_, _, _, _, act⟩ := one.act a
    rw [one.groupOf, act]
    exact h a (List.mem_cons_of_mem _ ha)

/-- The totals of a group (R104). -/
def Group.totalled (shared : List (Fin 8)) (base total : Int) (wIn : Nat) (x : Group) : Group :=
  { x with shared := shared, base := base, total := total, wIn := wIn }

theorem formShares_eq (g : Fin 4) (lead : Fin 8) (s : State) : formShares g lead s =
    (let total := groupTotal (s.group g).carry (trackBase s lead) (weightSum (s.sharing g)) (weightSum (s.group g).members)
     (s.shareTo s.psq.levels[lead] (trackBase s lead) (shares total (s.sharing g))).modGroup g
       (Group.totalled ((s.sharing g).map Prod.fst) (trackBase s lead) total (weightSum (s.sharing g)))) := rfl

theorem sharing_members {s : State} {g : Fin 4} {a : Fin 8} (h : a ∈ (s.sharing g).map Prod.fst) :
    s.groupOf a ≠ none ∧ (s.act a).state = .active := by
  obtain ⟨m, hm, rfl⟩ := List.mem_map.1 h
  exact ⟨groupOf_of_member (List.mem_of_mem_filter hm), of_decide_eq_true (List.mem_filter.1 hm).2⟩

theorem grouped_formShares (g : Fin 4) (lead : Fin 8) (s : State) : s.Grouped (formShares g lead s) := by
  rw [formShares_eq]
  refine State.Grouped.trans ?_ (grouped_modGroup g (f := Group.totalled _ _ _ _) (fun _ => rfl) _)
  exact grouped_shareTo _ _ _ fun a ha => sharing_members (by rw [shares_members] at ha; exact ha)

theorem grouped_selectRecipient (g : Fin 4) (s : State) : s.Grouped (selectRecipient g s) := by
  unfold selectRecipient
  dsimp only
  split
  · split
    · refine State.Grouped.trans ?_ (grouped_offer (.inl rfl) _)
      refine grouped_modGroup g ?_ s
      exact fun _ => rfl
    · refine State.Grouped.trans ?_ (grouped_offer (.inr rfl) _)
      refine grouped_modGroup g ?_ s
      exact fun _ => rfl
  · exact .rfl'

theorem grouped_formHandover (g : Fin 4) (s : State) : s.Grouped (formHandover g s) :=
  grouped_modGroup g (fun x => by dsimp only; split <;> rfl) s

/-- The work of a group that has members in share, after its shares. -/
def handGroup (g : Fin 4) (s : State) : State :=
  formHandover g (selectRecipient g (s.modGroup g fun y => { y with sf := shortfall g s }))

/-- The record of a group without a member in share (R95). -/
def Group.idle (x : Group) : Group := { x with shared := [], base := 0, total := 0, wIn := 0, sf := 0, h := 0, uncarried := 0 }

theorem groupSample_sharing {g : Fin 4} {s : State} {lead : Fin 8} (hl : (s.group g).lead = some lead) (hs : s.sharing g ≠ []) :
    groupSample g s = handGroup g (formShares g lead s) := by
  obtain ⟨m, l, e⟩ := List.exists_cons_of_ne_nil hs
  unfold groupSample
  rw [hl, e]; rfl

theorem groupSample_idle {g : Fin 4} {s : State} (h : (s.group g).lead = none ∨ s.sharing g = []) :
    groupSample g s = s.modGroup g Group.idle := by
  unfold groupSample
  rcases h with h | h
  · rw [h]; rfl
  · rw [h]
    cases (s.group g).lead <;> rfl

theorem grouped_handGroup (g : Fin 4) (s : State) : s.Grouped (handGroup g s) := by
  refine State.Grouped.trans ?_ (grouped_formHandover g _)
  refine State.Grouped.trans ?_ (grouped_selectRecipient g _)
  refine grouped_modGroup g ?_ s
  exact fun _ => rfl

theorem grouped_groupSample (g : Fin 4) (s : State) : s.Grouped (groupSample g s) := by
  by_cases hs : s.sharing g = []
  · rw [groupSample_idle (.inr hs)]
    exact grouped_modGroup g (f := Group.idle) (fun _ => rfl) s
  · cases hl : (s.group g).lead with
    | none =>
      rw [groupSample_idle (.inl hl)]
      exact grouped_modGroup g (f := Group.idle) (fun _ => rfl) s
    | some lead =>
      rw [groupSample_sharing hl hs]
      exact (grouped_formShares g lead s).trans (grouped_handGroup g _)

/-! ### The readings and the servos (R48, R49, R81, R82) -/

/-- An actuator with its readings taken (R49). -/
def Actuator.sensed (r : Readings) (a : Fin 8) (x : Actuator) : Actuator :=
  { x with force := clamp r.force[a] (-32768) 32767, stroke := clamp r.stroke[a] (-32768) 32767
           forceSat := saturated r.force[a], strokeSat := saturated r.stroke[a] }

/-- The state whose groups and servos a control sample works: its time, its readings and its levels. -/
def State.sampleStart (r : Readings) (s : State) : State := (readSensors r (sampleTime s)).modSeq fun _ => (seqSample s.psq).1

/-- That state after the load groups' work. -/
def State.sampleGroups (r : Readings) (s : State) : State := forAsc 4 groupSample (s.sampleStart r)

theorem sampleValues_eq (r : Readings) (s : State) : sampleValues r s = (runServos (s.sampleGroups r), (seqSample s.psq).2) := rfl

theorem sampleStart_act (r : Readings) (s : State) (a : Fin 8) : (s.sampleStart r).act a = (s.act a).sensed r a := by
  simp [State.sampleStart, State.act, readSensors, State.modSeq, sampleTime, State.advanceTo, Actuator.sensed]

theorem grouped_sampleGroups (r : Readings) (s : State) : (s.sampleStart r).Grouped (s.sampleGroups r) :=
  forAsc_keeps (s.sampleStart r).Grouped (fun g _ h => h.trans (grouped_groupSample g _)) .rfl'

/-- What the servo's part of a sample leaves of an actuator: all but its registers, the clamp, the counters and the unload. -/
theorem servoSample_eq (s : State) (a : Fin 8) : ∃ r w f c, servoSample s a =
    { unloadSample (s.act a) with regs := r, clampWindow := w, follow := f, stall := c } := by
  unfold servoSample
  dsimp only
  split
  · exact ⟨_, _, _, _, rfl⟩
  · exact ⟨_, _, _, _, rfl⟩

/-- An actuator after the values of a sample. -/
structure Actuator.Valued (r : Readings) (a : Fin 8) (x y : Actuator) : Prop where
  rest : ∃ g w f c u, y = { x.sensed r a with regs := g, clampWindow := w, follow := f, stall := c, unload := u }
  unload : y.unload = (unloadSample (x.sensed r a)).unload

namespace Actuator.Valued

variable {r : Readings} {a : Fin 8} {x y : Actuator} (h : x.Valued r a y)
include h

theorem state : y.state = x.state := by obtain ⟨_, _, _, _, _, rfl⟩ := h.rest; rfl
theorem cfg : y.cfg = x.cfg := by obtain ⟨_, _, _, _, _, rfl⟩ := h.rest; rfl
theorem source : y.source = x.source := by obtain ⟨_, _, _, _, _, rfl⟩ := h.rest; rfl
theorem derate : y.derate = x.derate := by obtain ⟨_, _, _, _, _, rfl⟩ := h.rest; rfl
theorem present : y.present = x.present := by obtain ⟨_, _, _, _, _, rfl⟩ := h.rest; rfl
theorem destOff : y.destOff = x.destOff := by obtain ⟨_, _, _, _, _, rfl⟩ := h.rest; rfl
theorem force : y.force = clamp r.force[a] (-32768) 32767 := by obtain ⟨_, _, _, _, _, rfl⟩ := h.rest; rfl
theorem stroke : y.stroke = clamp r.stroke[a] (-32768) 32767 := by obtain ⟨_, _, _, _, _, rfl⟩ := h.rest; rfl
theorem forceSat : y.forceSat = saturated r.force[a] := by obtain ⟨_, _, _, _, _, rfl⟩ := h.rest; rfl
theorem strokeSat : y.strokeSat = saturated r.stroke[a] := by obtain ⟨_, _, _, _, _, rfl⟩ := h.rest; rfl
theorem gains (q : Quantity) : y.gains q = x.gains q := by obtain ⟨_, _, _, _, _, rfl⟩ := h.rest; cases q <;> rfl

end Actuator.Valued

theorem valued_sampleValues (r : Readings) (s : State) (a : Fin 8) : (s.act a).Valued r a ((sampleValues r s).1.act a) := by
  obtain ⟨_, _, _, _, grouped⟩ := (grouped_sampleGroups r s).act a
  obtain ⟨_, _, _, _, servo⟩ := servoSample_eq (s.sampleGroups r) a
  rw [sampleValues_eq, runServos_act, servo, grouped, sampleStart_act]
  refine ⟨?_, ?_⟩
  · unfold unloadSample
    split <;> exact ⟨_, _, _, _, _, rfl⟩
  · unfold unloadSample
    dsimp only
    split <;> rfl

/-- What the values of a sample leave. -/
theorem sampleValues_rest (r : Readings) (s : State) : ∃ x g n lost, (sampleValues r s).1 = { s with
    clock := (sampleTime s).clock, psq := (seqSample s.psq).1, svc := { s.svc with acts := x }, lgu := g
    sli := { s.sli with notices := n, noticesLost := lost } } := by
  obtain ⟨_, _, _, _, e⟩ := (grouped_sampleGroups r s).rest
  rw [sampleValues_eq, e]
  exact ⟨_, _, _, _, rfl⟩

theorem sampleValues_members (r : Readings) (s : State) (g : Fin 4) :
    ((sampleValues r s).1.group g).members = (s.group g).members := (grouped_sampleGroups r s).members g

theorem sampleValues_forms (r : Readings) (s : State) {p : Notice → Bool}
    (hp : ∀ n, p n = true → n.kind ≠ .handover ∧ n.kind ≠ .handoverNone) : Forms s (sampleValues r s).1 p [] := by
  have := (Forms.of_sli (s := s) (t := s.sampleStart r) rfl).trans ((grouped_sampleGroups r s).notes p hp)
  exact this.trans (Forms.of_sli (s := s.sampleGroups r) rfl)

end Sys2Proof.Machine

/-!
Control samples run as commands; the samples of level segments, of APPROACH and of TAPER_UP (R22, R30 to R35, R48).
-/
namespace Sys2Proof.Machine

/-! ### A control sample as a command (R48) -/

/-- What CONTROL_SAMPLE makes of a settled station in which no entry moves anything. -/
structure State.Samples (r : Readings) (s t : State) : Prop where
  run : exec (.controlSample r) s = .next t
  row : ∀ b : Bool, stepDone (sampleIf b r s) = .next (if b then t else s)
  frame : SampleFrame s t
  sampled : Sampled (seqSample s.psq).2 (sampleValues r s).1 t

theorem samples {r : Readings} {s : State} (hs : s.settled) (adv : s.advisory) : ∃ t, s.Samples r t := by
  obtain ⟨ev, pending⟩ := hs
  obtain ⟨x, g, n, lost, rest⟩ := sampleValues_rest r s
  have vev : (sampleValues r s).1.ev = {} := by rw [rest]; exact ev
  have vadv : (sampleValues r s).1.advisory := by rw [rest]; exact adv
  have done := sampled (seqSample s.psq).2 r.first vev vadv
  obtain ⟨t, ht⟩ : ∃ t, t = controlSample r s := ⟨_, rfl⟩
  have eq : sampleEvents r.first (seqSample s.psq).2 (sampleValues r s).1 = t := ht.symm
  rw [eq] at done
  obtain ⟨z, p, x', g', m, n', lost', rest'⟩ := done.rest
  have stc : t.stc = s.stc := by rw [rest', rest]
  have due : t.noResetDue := .inl (by rw [stc]; exact pending)
  have run : stepDone (controlSample r s) = .next t := by
    rw [← ht]
    exact stepDone_of_noResetDue due
  refine ⟨t, run, fun b => ?_, ?_, done⟩
  · cases b with
    | true => exact run
    | false => exact stepDone_of_noResetDue (.inl pending)
  · have cfg (a : Fin 8) : (t.act a).cfg = (s.act a).cfg := by
      obtain ⟨_, h⟩ := done.act a
      rw [h]
      have kept := (valued_sampleValues r s a).cfg
      split
      · exact (Actuator.completed_cfg _).trans kept
      · exact kept
    refine ⟨?_, ?_, ?_, ?_, cfg, ?_⟩
    · rw [rest', rest]
    · rw [rest', rest]; rfl
    · rw [rest', rest]; rfl
    · rw [rest', rest]
    · rw [rest', rest]

namespace State.Samples

variable {r : Readings} {s t : State} (h : s.Samples r t)
include h

theorem psq : t.psq = (seqSample s.psq).2.endPlan (seqSample s.psq).1 := by
  obtain ⟨_, _, _, _, rest⟩ := sampleValues_rest r s
  obtain ⟨_, _, _, _, _, _, _, rest'⟩ := h.sampled.rest
  rw [rest', rest]

theorem time : t.time = (sampleValues r s).1.time := by
  obtain ⟨_, _, _, _, _, _, _, rest'⟩ := h.sampled.rest
  rw [rest']; rfl

/-- The SEQ_STATE notices of a sample are those of the end of its segment. -/
theorem seqNotes : Forms s t (Notice.is .seqState) ((seqSample s.psq).2.endNotes (seqSample s.psq).1 t.time) := by
  have kind (n : Notice) (hn : n.is .seqState = true) : n.kind = .seqState := of_decide_eq_true hn
  have before := sampleValues_forms r s (p := Notice.is .seqState) fun n hn => by
    rw [kind n hn]; exact ⟨nofun, nofun⟩
  have forms := before.trans (h.sampled.notes (Notice.is .seqState) fun n hn => by
    rw [kind n hn]; exact ⟨nofun, nofun, nofun⟩)
  obtain ⟨_, _, _, _, rest⟩ := sampleValues_rest r s
  have plan : (sampleValues r s).1.psq = (seqSample s.psq).1 := by rw [rest]
  have all (l : List Notice) (hl : ∀ n ∈ l, n.kind = .seqState) : l.filter (Notice.is .seqState) = l :=
    List.filter_eq_self.2 fun n hn => decide_eq_true (hl n hn)
  rw [plan, ← h.time, all _ ((seqSample s.psq).2.endNotes_kind _ _)] at forms
  exact forms

theorem zmn (tick : (seqSample s.psq).2.tick = false) : t.zmn = s.zmn := by
  obtain ⟨_, _, _, _, rest⟩ := sampleValues_rest r s
  rw [h.sampled.still tick, rest]

/-- Without marks and dwell ends the strain processor's records stay. -/
theorem stp (ev : s.ev = {}) (adv : s.advisory) (dwell : (seqSample s.psq).2.dwellEnd = false)
    (marks : (seqSample s.psq).2.marks = []) : t.stp = s.stp := by
  obtain ⟨_, _, _, _, rest⟩ := sampleValues_rest r s
  have same := SameMarks.rfl' (s := (sampleValues r s).1) (by rw [rest]; exact ev) (by rw [rest]; exact adv)
  have := h.sampled.marks dwell (.inl marks) _ same
  rw [marks] at this
  rw [this, List.foldl_nil, rest]

end State.Samples

/-- A sample that hands nothing on but levels. -/
theorem samples_plain {r : Readings} {s : State} (hs : s.settled) (adv : s.advisory) {q : Sequencer}
    (hq : seqSample s.psq = (q, {})) :
    ∃ t, exec (.controlSample r) s = .next t ∧ SampleFrame s t ∧ t.stp = s.stp ∧ t.zmn = s.zmn ∧
      Forms s t (Notice.is .seqState) [] ∧ t.psq = q ∧ ∀ b : Bool, stepDone (sampleIf b r s) = .next (if b then t else s) := by
  obtain ⟨t, h⟩ := samples (r := r) hs adv
  have psq := h.psq
  have notes := h.seqNotes
  have zmn := h.zmn
  have stp := h.stp hs.1 adv
  rw [hq] at psq notes zmn stp
  refine ⟨t, h.run, h.frame, stp rfl rfl, zmn rfl, notes, psq, h.row⟩

/-! ### The records of a dwell's end (R137, R140) -/

/-- Records offered one after the other: those with room are kept, the rest are counted. -/
theorem offerSnaps_stp (rec : Fin 8 → Snapshot) (l : List (Fin 8)) (s : State) (h : s.stp.skipped ≤ 255) :
    let t := l.foldl (fun s k => offerSnap (rec k) s) s
    t.stp = { s.stp with
      snaps := s.stp.snaps ++ (l.take (24 - s.stp.snaps.length)).map rec
      skipped := min 255 (s.stp.skipped + (l.length - (24 - s.stp.snaps.length))) } := by
  induction l generalizing s with
  | nil =>
    have : min 255 s.stp.skipped = s.stp.skipped := Nat.min_eq_right h
    simp [this]
  | cons k l ih =>
    dsimp only at ih ⊢
    rw [List.foldl_cons]
    by_cases room : s.stp.snaps.length < 24
    · have stored := congrArg State.stp (offerSnap_room room (rec k))
      have kept : (offerSnap (rec k) s).stp.skipped = s.stp.skipped := by rw [stored]
      have length : (offerSnap (rec k) s).stp.snaps.length = s.stp.snaps.length + 1 := by rw [stored]; simp
      rw [ih _ (by rw [kept]; exact h), length, kept]
      obtain ⟨n, hn⟩ : ∃ n, 24 - s.stp.snaps.length = n + 1 := ⟨23 - s.stp.snaps.length, by omega⟩
      have less : 24 - (s.stp.snaps.length + 1) = n := by omega
      rw [hn, less, List.take_succ_cons, List.map_cons, List.length_cons, Nat.add_sub_add_right, stored]
      simp
    · have stored := congrArg State.stp (offerSnap_full room (rec k))
      have kept : (offerSnap (rec k) s).stp.snaps = s.stp.snaps := by rw [stored]
      have counted : (offerSnap (rec k) s).stp.skipped = min 255 (s.stp.skipped + 1) := by
        rw [stored]; exact (satAdd_eq_min ..).trans (Nat.min_comm ..)
      rw [ih _ (by rw [counted]; omega), kept, counted]
      have none : 24 - s.stp.snaps.length = 0 := by omega
      rw [none, List.take_zero, List.take_zero, stored, List.length_cons]
      have : min 255 (min 255 (s.stp.skipped + 1) + (l.length - 0)) = min 255 (s.stp.skipped + (l.length + 1 - 0)) := by omega
      rw [this]

/-- A DWELL_END trigger: a record of every track in use, in track order. -/
theorem dwellEndTrigger_stp {s : State} (h : s.stp.skipped ≤ 255) :
    (dwellEndTrigger s).stp = { s.stp with
      snaps := s.stp.snaps ++ (((List.finRange 8).filter s.inUse).take (24 - s.stp.snaps.length)).map fun k =>
        s.snapshot .dwellEnd k none
      skipped := min 255 (s.stp.skipped + (((List.finRange 8).filter s.inUse).length - (24 - s.stp.snaps.length))) } := by
  have walk (l : List (Fin 8)) (u : State) (hu : ∃ n k, u = { s with stp := { s.stp with snaps := n, skipped := k } }) :
      l.foldl (fun u k => if u.inUse k then offerSnap (u.snapshot .dwellEnd k none) u else u) u =
        (l.filter s.inUse).foldl (fun u k => offerSnap (s.snapshot .dwellEnd k none) u) u := by
    induction l generalizing u with
    | nil => rfl
    | cons k l ih =>
      obtain ⟨n, c, hu⟩ := hu
      have same : u.inUse k = s.inUse k ∧ u.snapshot .dwellEnd k none = s.snapshot .dwellEnd k none := by
        rw [hu]; exact ⟨rfl, rfl⟩
      rw [List.foldl_cons, List.filter_cons, same.1, same.2]
      split
      · rw [List.foldl_cons]
        refine ih _ ?_
        rw [hu]
        by_cases room : n.length < 24
        · exact ⟨_, _, offerSnap_room room _⟩
        · exact ⟨_, _, offerSnap_full room _⟩
      · exact ih _ ⟨n, c, hu⟩
  have all := offerSnaps_stp (fun k => s.snapshot .dwellEnd k none) ((List.finRange 8).filter s.inUse) s h
  dsimp only at all
  rw [← walk (List.finRange 8) s ⟨_, _, rfl⟩] at all
  exact all

/-- Two states that give the same snapshot records. -/
structure SameRecords (s u : State) : Prop where
  plan : s.psq.Alike u.psq
  time : u.time = s.time
  axs : u.axs = s.axs
  glc : u.glc = s.glc
  force : ∀ a, (u.act a).force = (s.act a).force
  members : ∀ g, (u.group g).members = (s.group g).members
  chans : u.stp.chans = s.stp.chans
  list : u.stp.snapList = s.stp.snapList

theorem SameRecords.snapshot {s u : State} (h : SameRecords s u) (kind : SnapKind) (k : Fin 8) :
    u.snapshot kind k none = s.snapshot kind k none := by
  obtain ⟨levels, tracks, cycles⟩ := h.plan
  have forces : u.trackForces k = s.trackForces k := by
    unfold State.trackForces Group.lead
    rw [groupOf_of_members h.members]
    simp only [h.members, h.force]
  have deflection : u.trackDeflection k = s.trackDeflection k := by
    unfold State.trackDeflection
    rw [tracks, h.axs]
  have status (c : Fin 64) : u.chanStatus c = s.chanStatus c := by
    unfold State.chanStatus
    rw [h.chans, h.glc]
  unfold State.snapshot
  rw [levels, cycles, h.time, forces, deflection, h.list, h.chans]
  simp only [status]

/-- The records of a sample are those of its values: the end of the segment moves neither levels nor counts. -/
theorem State.Samples.records {r : Readings} {s t : State} (h : s.Samples r t)
    (chans : t.stp.chans = s.stp.chans) (list : t.stp.snapList = s.stp.snapList) : SameRecords (sampleValues r s).1 t := by
  obtain ⟨_, _, _, _, rest⟩ := sampleValues_rest r s
  obtain ⟨_, _, _, _, _, _, _, rest'⟩ := h.sampled.rest
  have plan : t.psq = (seqSample s.psq).2.endPlan (sampleValues r s).1.psq := by rw [rest']
  have stp : (sampleValues r s).1.stp = s.stp := by rw [rest]
  have force (a : Fin 8) : (t.act a).force = ((sampleValues r s).1.act a).force := by
    obtain ⟨_, e⟩ := h.sampled.act a
    rw [e]
    split
    · exact Actuator.completed_force _
    · rfl
  refine ⟨?_, h.time, ?_, ?_, force, h.sampled.members, by rw [chans, stp], by rw [list, stp]⟩
  · rw [plan]; exact SeqOut.alike_endPlan ..
  · rw [rest']
  · rw [rest']

theorem SameMarks.records {s u : State} (h : SameMarks s u) : SameRecords s u :=
  ⟨by rw [h.psq]; exact ⟨rfl, rfl, rfl⟩, h.time, h.axs, h.glc, h.force, h.members, by rw [h.stp], by rw [h.stp]⟩

/-! ### Level segments (R22, R30 to R32) -/

theorem seqSample_level {q : Sequencer} (run : q.state ≠ .running) (pause : q.state ≠ .pausing)
    (wave : q.state ≠ .holding ∨ q.activity.isWave = false) :
    seqSample q = (if q.state = .idle then { q with levels := Vector.replicate 8 0 } else q, {}) := by
  unfold seqSample
  cases h : q.state with
  | running => exact absurd h run
  | pausing => exact absurd h pause
  | holding =>
    rcases wave with wave | wave
    · exact absurd h wave
    · simp [wave]
  | idle => rfl
  | waitingGo => rfl
  | done => rfl
  | aborted => rfl

theorem seqSample_ramp {q : Sequencer} (run : q.state = .running) (ramp : q.activity = .ramp) {hold : Bool} {level : Int} {ms : Nat}
    (here : q.here = .ramp hold level ms) :
    seqSample q = ({ q with ctr := q.ctr + 1, levels := q.l0.map fun l => rampLevel l level (q.ctr + 1) q.ctrEnd },
      { next := decide (q.ctrEnd ≤ q.ctr + 1) }) := by
  unfold seqSample
  simp only [run, ramp, here]

theorem seqSample_dwell {q : Sequencer} (run : q.state = .running) (dwell : q.activity = .dwell) {hold : Bool} {ms : Nat} {snap : Bool}
    (here : q.here = .dwell hold ms snap) :
    seqSample q = ({ q with ctr := q.ctr + 1 },
      { dwellEnd := decide (q.ctrEnd ≤ q.ctr + 1) && snap, next := decide (q.ctrEnd ≤ q.ctr + 1) }) := by
  unfold seqSample
  simp only [run, dwell, here]

/-- The levels of a RAMP: on the straight line before its end, at its level from then on (R31). -/
theorem rampLevels_eq (l0 : Vector Int 8) (level : Int) (n total : Nat) : (l0.map fun l => rampLevel l level n total) =
    if n < total then l0.map fun l => roundDiv (l * total + (level - l) * n) total else Vector.replicate 8 level := by
  unfold rampLevel
  by_cases h : n < total
  · simp only [if_pos h, if_neg (Nat.not_le.2 h)]
  · simp only [if_neg h, if_pos (Nat.not_lt.1 h)]
    exact Vector.ext fun i hi => by rw [Vector.getElem_map, Vector.getElem_replicate]

/-- A sample that counts to N, at which it ends its segment. -/
theorem State.Samples.counted {r : Readings} {s t : State} (h : s.Samples r t) {q q' : Sequencer} {n N : Nat} {d : Bool}
    (running : q'.state = .running)
    (hq : seqSample s.psq = (if n < N then q else q', { dwellEnd := d, next := decide (N ≤ n) })) :
    t.zmn = s.zmn ∧ t.psq = (if n < N then q else q'.next) ∧
      Forms s t (Notice.is .seqState) (if n < N then [] else q'.nextNotes t.time) ∧
      stepDone (sampleIf (decide (N ≤ n)) r s) = .next (if n < N then s else t) := by
  have psq := h.psq
  have notes := h.seqNotes
  have zmn := h.zmn
  rw [hq] at psq notes zmn
  refine ⟨zmn rfl, ?_⟩
  rw [h.row]
  by_cases less : n < N
  · rw [if_pos less, decide_eq_false (Nat.not_le.2 less)] at psq notes
    rw [if_pos less, if_pos less, if_pos less, decide_eq_false (Nat.not_le.2 less)]
    exact ⟨psq, notes, rfl⟩
  · rw [if_neg less, decide_eq_true (Nat.not_lt.1 less)] at psq notes
    rw [if_neg less, if_neg less, if_neg less, decide_eq_true (Nat.not_lt.1 less)]
    refine ⟨psq.trans ?_, ?_, rfl⟩
    · simp [SeqOut.endPlan, SeqOut.heldPlan, running]
    · simpa [SeqOut.endNotes, SeqOut.heldPlan, running] using notes

theorem sampleValues_inUse (r : Readings) (s : State) (k : Fin 8) : (sampleValues r s).1.inUse k = s.inUse k :=
  inUse_of_same (s := s) (t := (sampleValues r s).1) (sampleValues_members r s) (fun a => by
    have h := valued_sampleValues r s a
    exact ⟨by rw [h.cfg], h.source⟩) k

/-- A DWELL_END trigger's records, as they read once the sample is whole. -/
theorem State.Samples.dwellRecords {r : Readings} {s t : State} (h : s.Samples r t) (below : s.stp.skipped ≤ 255)
    (marks : (seqSample s.psq).2.marks = []) (dwell : (seqSample s.psq).2.dwellEnd = true) :
    t.stp = { s.stp with
      snaps := s.stp.snaps ++ (((List.finRange 8).filter s.inUse).take (24 - s.stp.snaps.length)).map fun k =>
        t.snapshot .dwellEnd k none
      skipped := min 255 (s.stp.skipped + (((List.finRange 8).filter s.inUse).length - (24 - s.stp.snaps.length))) } := by
  obtain ⟨_, _, _, _, rest⟩ := sampleValues_rest r s
  obtain ⟨m, same, stp⟩ := h.sampled.dwell marks dwell
  have mstp : m.stp = s.stp := by rw [same.stp, rest]
  have used : m.inUse = s.inUse := funext fun k => (same.inUse k).trans (sampleValues_inUse r s k)
  rw [dwellEndTrigger_stp (by rw [mstp]; exact below), mstp, used] at stp
  have records := h.records (by rw [stp]) (by rw [stp])
  have snapshots (k : Fin 8) : m.snapshot .dwellEnd k none = t.snapshot .dwellEnd k none :=
    (same.records.snapshot .dwellEnd k).trans (records.snapshot .dwellEnd k).symm
  simp only [snapshots] at stp
  exact stp

/-- Settles O21. -/
theorem levelSegmentSamples : Obligations.LevelSegmentSamples := by
  intro r s hs adv
  refine ⟨fun run pause wave => ?_, fun run ramp hold level ms here => ?_, fun run dwell hold ms snap here => ?_⟩
  · obtain ⟨t, exec, frame, stp, zmn, notes, psq, -⟩ := samples_plain (r := r) hs adv (seqSample_level run pause wave)
    exact ⟨t, exec, frame, stp, zmn, notes, psq⟩
  · obtain ⟨t, h⟩ := samples (r := r) hs adv
    intro n N q
    have eq := seqSample_ramp run ramp here
    rw [rampLevels_eq] at eq
    have ends : endsActivity .ramp s = decide (N ≤ n) := by
      unfold endsActivity
      rw [eq]
      simp [run, ramp, n, N]
    have stp := h.stp hs.1 adv (by rw [eq]) (by rw [eq])
    have apart : seqSample s.psq = (if n < N then
        { s.psq with ctr := n, levels := s.psq.l0.map fun l => roundDiv (l * N + (level - l) * n) N } else q,
        { dwellEnd := false, next := decide (N ≤ n) }) := by
      rw [eq]
      by_cases less : n < N
      · rw [if_pos less, if_pos less]
      · rw [if_neg less, if_neg less]
    obtain ⟨zmn, psq, notes, row⟩ := h.counted (q' := q) run apart
    rw [← ends] at row
    exact ⟨t, h.run, h.frame, stp, zmn, psq, notes, row⟩
  · obtain ⟨t, h⟩ := samples (r := r) hs adv
    intro n N q tracks room
    have eq := seqSample_dwell run dwell here
    have ends : endsActivity .dwell s = decide (N ≤ n) := by
      unfold endsActivity
      rw [eq]
      simp [run, dwell, n, N]
    have apart : seqSample s.psq = (if n < N then q else q, { dwellEnd := decide (N ≤ n) && snap, next := decide (N ≤ n) }) := by
      rw [eq, ite_self]
    obtain ⟨zmn, psq, notes, row⟩ := h.counted (q' := q) run apart
    rw [← ends] at row
    refine ⟨t, h.run, h.frame, zmn, fun still => ?_, fun ended taken below => ?_, psq, notes, row⟩
    · refine h.stp hs.1 adv ?_ (by rw [eq])
      rw [eq]
      rcases still with less | quiet
      · rw [decide_eq_false (Nat.not_le.2 less), Bool.false_and]
      · rw [quiet, Bool.and_false]
    · exact h.dwellRecords below (by rw [eq]) (by rw [eq, taken, Bool.and_true]; exact decide_eq_true ended)

end Sys2Proof.Machine

/-!
The samples of APPROACH, of TAPER_UP and of the wave (R33 to R38, R43).
-/
namespace Sys2Proof.Machine

/-! ### The end of an APPROACH (R33) -/

/-- A level counted in 2000ths of a unit rounds to the mean or beyond: from half a unit below a positive mean on, and from
more than that for any other. -/
theorem le_roundDiv_2000 (m y : Int) : m ≤ roundDiv y 2000 ↔ if 1 ≤ m then 2000 * m - 1000 ≤ y else 2000 * m - 1000 < y := by
  by_cases h : 0 ≤ y
  · rw [roundDiv_of_nonneg (by decide) h, show (2000 : Int).natAbs = 2000 from rfl]
    split <;> omega
  · rw [roundDiv_of_neg (by decide) (by omega), show (2000 : Int).natAbs = 2000 from rfl]
    split <;> omega

/-- The samples that cover a distance d at a rate: up to it, or past it. -/
theorem steps_le_iff (d rate n : Nat) (h : 1 ≤ rate) :
    ((d + rate - 1) / rate ≤ n ↔ d ≤ rate * n) ∧ (d / rate + 1 ≤ n ↔ d < rate * n) := by
  have product : rate * (n + 1) = rate * n + rate := Nat.mul_succ ..
  constructor
  · rw [← Nat.lt_succ_iff, Nat.div_lt_iff_lt_mul h, Nat.mul_comm, product]
    omega
  · rw [Nat.succ_le_iff, Nat.div_lt_iff_lt_mul h, Nat.mul_comm]

/-- An approach from below reaches the mean with its steps. -/
theorem approach_below {l m : Int} (h : l < m) {rate : Nat} (hr : 1 ≤ rate) (n : Nat) :
    m ≤ roundDiv (l * 2000 + (rate * n : Nat)) 2000 ↔
      (if 1 ≤ m then ((2000 * (m - l) - 1000).toNat + rate - 1) / rate else (2000 * (m - l) - 1000).toNat / rate + 1) ≤ n := by
  obtain ⟨upTo, past⟩ := steps_le_iff (2000 * (m - l) - 1000).toNat rate n hr
  rw [le_roundDiv_2000]
  split
  · rw [upTo]; omega
  · rw [past]; omega

theorem approachLevel_eq_mean_iff (l0 mean : Int) (rate n : Nat) (hr : 1 ≤ rate) :
    approachLevel l0 mean rate n = mean ↔ approachSteps l0 mean rate ≤ n := by
  unfold approachLevel approachSteps
  by_cases same : l0 = mean
  · simp [same]
  · rw [if_neg same, if_neg same]
    have reaches (x y : Int) (p : Prop) [Decidable p] (hp : p ∨ y ≠ x) : (if p then x else y) = x ↔ p := by
      by_cases h : p
      · simp [h]
      · simp [h, hp.resolve_left h]
    by_cases below : l0 < mean
    · simp only [if_pos below]
      rw [reaches _ _ _ (by omega)]
      exact approach_below below hr n
    · simp only [if_neg below]
      rw [reaches _ _ _ (by omega)]
      have mirror : l0 * 2000 - (rate * n : Nat) = -(-l0 * 2000 + (rate * n : Nat)) := by
        rw [neg_add, neg_mul, neg_neg]; rfl
      rw [mirror, roundDiv_neg _ (by decide)]
      exact (neg_le (a := mean)).symm.trans (approach_below (by omega) hr n)

/-! ### The samples of APPROACH and TAPER_UP (R33 to R35) -/

theorem Sequencer.wave_of_cycle {q : Sequencer} {hold : Bool} {mean : Int} {a freq : Nat} {shape : Shape} {count interval : Nat}
    (here : q.here = .cycle hold mean a freq shape count interval) : q.wave = (mean, a, freq, shape, count, interval) := by
  unfold wave
  rw [here]

/-- The levels of a wave with an amplitude, at a phase. -/
def Sequencer.waveAt (q : Sequencer) (mean : Int) (shape : Shape) (amp phase : Nat) : Vector Int 8 :=
  Vector.ofFn fun k => waveLevel mean amp shape (trackPhase phase q.tracks[k].offset)

theorem waveLevels_eq {q : Sequencer} {mean : Int} {a freq : Nat} {shape : Shape} {count interval : Nat}
    (wave : q.wave = (mean, a, freq, shape, count, interval)) :
    waveLevels q = { q with levels := q.waveAt mean shape q.amp q.phase } := by
  unfold waveLevels
  rw [wave]; rfl

theorem approachLevel_eq (l mean : Int) (rate n : Nat) : approachLevel l mean rate n =
    if l < mean then min mean (roundDiv (l * 2000 + (rate * n : Nat)) 2000)
    else max mean (roundDiv (l * 2000 - (rate * n : Nat)) 2000) := by
  unfold approachLevel
  by_cases same : l = mean
  · subst same
    have below : roundDiv (l * 2000 - (rate * n : Nat)) 2000 ≤ l := by
      have := roundDiv_mono (show (0 : Int) < 2000 by decide) (show l * 2000 - (rate * n : Nat) ≤ l * 2000 by omega)
      rwa [roundDiv_mul l (by decide)] at this
    rw [if_pos rfl, if_neg (lt_irrefl l), max_eq_left below]
  · rw [if_neg same]
    split
    · dsimp only
      split
      · rw [min_eq_left ‹_›]
      · rw [min_eq_right (by omega)]
    · dsimp only
      split
      · rw [max_eq_left ‹_›]
      · rw [max_eq_right (by omega)]

theorem seqSample_approach {q : Sequencer} (run : q.state = .running) (app : q.activity = .approach) {mean : Int}
    (hm : q.wave.1 = mean) :
    seqSample q =
      (let y : Sequencer := { q with
        ctr := q.ctr + 1
        levels := q.l0.map fun l =>
          if l < mean then min mean (roundDiv (l * 2000 + (q.approachRate * (q.ctr + 1) : Nat)) 2000)
          else max mean (roundDiv (l * 2000 - (q.approachRate * (q.ctr + 1) : Nat)) 2000) }
       (if (∀ k : Fin 8, y.levels[k] = mean) then beginTaperUp y else y, {})) := by
  have all (v : Vector Int 8) : (v.all fun l => decide (l = mean)) = true ↔ ∀ k : Fin 8, v[k] = mean := by
    rw [Vector.all_eq_true]
    exact ⟨fun h k => of_decide_eq_true (h k.val k.isLt), fun h i hi => decide_eq_true (h ⟨i, hi⟩)⟩
  unfold seqSample
  simp only [run, app, hm, approachLevel_eq]
  refine congrArg (fun x : Sequencer => (x, ({} : SeqOut))) ?_
  exact if_congr (all _) rfl rfl

theorem beginTaperUp_eq (q : Sequencer) : beginTaperUp q =
    if q.taper = 0 then { q with activity := .steady, phase := 0, amp := q.amplitude, ctr := 0, ctrEnd := 0 }
    else { q with activity := .taperUp, phase := 0, amp := 0, ctr := 0, ctrEnd := q.taper } := by
  unfold beginTaperUp beginSteady
  dsimp only
  by_cases h : q.taper = 0
  · rw [if_pos h]
    exact if_pos h
  · rw [if_neg h]
    exact if_neg h

theorem beginTaperUp_activity (q : Sequencer) : (beginTaperUp q).activity ≠ .approach := by
  rw [beginTaperUp_eq]
  split <;> exact nofun

/-- A sample of a taper or a pause: the next count, the phase advanced, and the levels of an amplitude. -/
def Sequencer.wavesOn (q : Sequencer) (amp : Nat) : Sequencer :=
  waveLevels { q with ctr := q.ctr + 1, phase := (advancePhase q.phase q.wave.2.2.1).1, amp := amp }

theorem Sequencer.wavesOn_eq {q : Sequencer} {mean : Int} {a freq : Nat} {shape : Shape} {count interval : Nat}
    (wave : q.wave = (mean, a, freq, shape, count, interval)) (amp : Nat) : q.wavesOn amp =
      (let phase := (advancePhase q.phase freq).1
       { q with ctr := q.ctr + 1, phase := phase, amp := amp, levels := q.waveAt mean shape amp phase }) := by
  unfold wavesOn
  rw [waveLevels_eq (q := { q with ctr := q.ctr + 1, phase := _, amp := amp }) wave, wave]
  rfl

theorem Sequencer.amplitude_of_wave {q : Sequencer} {mean : Int} {a freq : Nat} {shape : Shape} {count interval : Nat}
    (wave : q.wave = (mean, a, freq, shape, count, interval)) : q.amplitude = a := by
  unfold amplitude
  rw [wave]

theorem seqSample_taperUp {q : Sequencer} (run : q.state = .running) (up : q.activity = .taperUp) :
    seqSample q =
      (let y := q.wavesOn (roundDiv (q.amplitude * (q.ctr + 1) : Nat) (q.taper : Nat)).toNat
       (if q.ctr + 1 < q.taper then y else beginSteady y, {})) := by
  have sample : seqSample q = (taperUpSample q, {}) := by
    unfold seqSample
    simp only [run, up]
  have eq : taperUpSample q = (let y := q.wavesOn (roundDiv (q.amplitude * (q.ctr + 1) : Nat) (q.taper : Nat)).toNat
      if q.taper ≤ q.ctr + 1 then beginSteady y else y) := rfl
  rw [sample, eq]
  dsimp only
  by_cases h : q.ctr + 1 < q.taper
  · rw [if_pos h, if_neg (Nat.not_le.2 h)]
  · rw [if_neg h, if_pos (Nat.not_lt.1 h)]

/-- Settles O22. -/
theorem approachAndTaperUpSamples : Obligations.ApproachAndTaperUpSamples := by
  refine ⟨approachLevel_eq_mean_iff, ?_⟩
  intro r s hs adv run hold mean a freq shape count interval here n K
  have wave := Sequencer.wave_of_cycle here
  have amplitude := Sequencer.amplitude_of_wave wave
  refine ⟨fun app => ?_, fun up => ?_⟩
  · intro q
    have eq := seqSample_approach run app (mean := mean) (by rw [wave])
    obtain ⟨t, ran, frame, stp, zmn, notes, psq, row⟩ := samples_plain (r := r) hs adv eq
    have ends : exec (.approachEnd r) s = .next (if endsActivity .approach s then t else s) := row _
    refine ⟨t, ran, frame, stp, zmn, notes, fun there => ?_, fun away => ?_⟩
    · have psq' : t.psq = beginTaperUp q := psq.trans (if_pos there)
      have begun := beginTaperUp_eq q
      have done : endsActivity .approach s = true := by
        unfold endsActivity
        rw [eq]
        dsimp only
        rw [if_pos there]
        simp [run, app, beginTaperUp_activity]
      refine ⟨?_, by rw [ends, done]; rfl⟩
      rw [psq', begun, show q.amplitude = a from amplitude]
      rfl
    · have not : ¬∀ k : Fin 8, q.levels[k] = mean := fun h => by
        obtain ⟨k, hk⟩ := away
        exact hk (h k)
      have still : endsActivity .approach s = false := by
        unfold endsActivity
        rw [eq]
        dsimp only
        rw [if_neg not]
        simp [run, app]
      exact ⟨psq.trans (if_neg not), by rw [ends, still]; rfl⟩
  · intro phase amp q
    have eq := seqSample_taperUp run up
    rw [amplitude, Sequencer.wavesOn_eq wave] at eq
    obtain ⟨t, ran, frame, stp, zmn, notes, psq, row⟩ := samples_plain (r := r) hs adv eq
    have ends : exec (.taperUpEnd r) s = .next (if endsActivity .taperUp s then t else s) := row _
    have steady : beginSteady q = { q with activity := .steady, amp := a, ctr := 0, ctrEnd := 0 } := by
      unfold beginSteady
      rw [show q.amplitude = a from amplitude]
    refine ⟨t, ran, frame, stp, zmn, notes, ?_, ?_⟩
    · rw [← steady]
      exact psq
    · have done : endsActivity .taperUp s = !decide (n < K) := by
        unfold endsActivity
        rw [eq]
        dsimp only
        by_cases h : s.psq.ctr + 1 < s.psq.taper
        · rw [if_pos h, decide_eq_true (show n < K from h)]
          simp [run, up]
        · rw [if_neg h, decide_eq_false (show ¬n < K from h)]
          simp [run, up, beginSteady]
      rw [ends, done]
      by_cases h : n < K
      · rw [if_pos h, decide_eq_true h]; rfl
      · rw [if_neg h, decide_eq_false h]; rfl

end Sys2Proof.Machine

/-!
The samples of STEADY, of TAPER_DOWN, of PAUSING and of a held wave (R36 to R38, R43).
-/
namespace Sys2Proof.Machine

/-! ### Marks of a STEADY sample (R37) -/

/-- The marks a track gives at a sample, and the peak it then has pending. -/
structure MarkRule where
  passesPeak : Bool
  passesValley : Bool
  peakCycle : Nat
  snapAt : Nat → Bool

/-- The peak pending once the track has been tested for a peak. -/
def MarkRule.pending (x : MarkRule) (before : Option Nat) : Option Nat := if x.passesPeak then some x.peakCycle else before

/-- The marks of a track. -/
def MarkRule.marks (x : MarkRule) (k : Fin 8) (before : Option Nat) : List Mark :=
  (if x.passesPeak then [{ track := k, peak := true, cycle := x.peakCycle, snap := x.snapAt x.peakCycle }] else []) ++
    if x.passesValley then (x.pending before).toList.map fun c => { track := k, peak := false, cycle := c, snap := x.snapAt c }
    else []

/-- The peak pending after the sample. -/
def MarkRule.after (x : MarkRule) (before : Option Nat) : Option Nat := if x.passesValley then none else x.pending before

/-- The rule of a track at a STEADY sample. -/
def markRule (tracks : Vector Track 8) (master step cycles interval : Nat) (k : Fin 8) : MarkRule :=
  { passesPeak := crosses (trackPhase master tracks[k].offset) step 5000000
    passesValley := crosses (trackPhase master tracks[k].offset) step 15000000
    peakCycle := cycles + 1
    snapAt := fun c => decide (interval ≠ 0 ∧ c % interval = 0) }

theorem vector_set_self {n : Nat} {α : Type} (v : Vector α n) (k : Fin n) (x : α) : (v.set k x)[k] = x :=
  Vector.getElem_set_self k.isLt

theorem vector_set_other {n : Nat} {α : Type} (v : Vector α n) {k j : Fin n} (h : k ≠ j) (x : α) : (v.set k x)[j] = v[j] :=
  Vector.getElem_set_ne k.isLt j.isLt fun e => h (Fin.ext e)

/-- The test of one track. -/
theorem markTrack_eq (tracks : Vector Track 8) (master step cycles interval : Nat) (k : Fin 8)
    (acc : List Mark × Vector (Option Nat) 8) :
    (markTrack tracks master step cycles interval k acc).1 =
        acc.1 ++ (markRule tracks master step cycles interval k).marks k acc.2[k] ∧
      ∀ j : Fin 8, (markTrack tracks master step cycles interval k acc).2[j] =
        if j = k then (markRule tracks master step cycles interval k).after acc.2[k] else acc.2[j] := by
  obtain ⟨x, hx⟩ : ∃ x, x = markRule tracks master step cycles interval k := ⟨_, rfl⟩
  have eq : markTrack tracks master step cycles interval k acc =
      (let acc := if x.passesPeak then
          (acc.1 ++ [{ track := k, peak := true, cycle := x.peakCycle, snap := x.snapAt x.peakCycle }], acc.2.set k (some x.peakCycle))
        else acc
       if x.passesValley then
         match acc.2[k] with
         | some c => (acc.1 ++ [{ track := k, peak := false, cycle := c, snap := x.snapAt c }], acc.2.set k none)
         | none => acc
       else acc) := by
    rw [hx]
    unfold markTrack markRule
    simp only [Bool.decide_and] <;> rfl
  rw [← hx, eq]
  unfold MarkRule.marks MarkRule.after MarkRule.pending
  obtain ⟨marks, peaks⟩ := acc
  have set_get (y : Option Nat) (j : Fin 8) : (peaks.set k y)[j] = if j = k then y else peaks[j] := by
    by_cases e : j = k
    · subst e; rw [if_pos rfl, vector_set_self]
    · rw [if_neg e, vector_set_other _ (Ne.symm e)]
  have keep (j : Fin 8) : peaks[j] = if j = k then peaks[k] else peaks[j] := by
    split
    · rename_i e; rw [e]
    · rfl
  have twice (y z : Option Nat) : (peaks.set k y).set k z = peaks.set k z := Vector.set_set ..
  cases x.passesPeak with
  | true =>
    cases x.passesValley with
    | true => simp [twice, set_get]
    | false => simp [set_get]
  | false =>
    cases x.passesValley with
    | true =>
      cases pending : peaks[k] with
      | none => simpa [pending] using keep
      | some c => simp [pending, set_get]
    | false => simp

/-- The tests of the tracks of a list, one after the other. -/
theorem markTracks_eq (tracks : Vector Track 8) (master step cycles interval : Nat) (l : List (Fin 8)) (once : l.Nodup)
    (acc : List Mark × Vector (Option Nat) 8) :
    let rule := markRule tracks master step cycles interval
    let out := l.foldl (fun acc k => markTrack tracks master step cycles interval k acc) acc
    out.1 = acc.1 ++ l.flatMap (fun k => (rule k).marks k acc.2[k]) ∧
      ∀ j : Fin 8, out.2[j] = if j ∈ l then (rule j).after acc.2[j] else acc.2[j] := by
  intro rule
  induction l generalizing acc with
  | nil => exact ⟨(List.append_nil _).symm, fun j => (if_neg List.not_mem_nil).symm⟩
  | cons k l ih =>
    obtain ⟨out, rest⟩ := List.nodup_cons.1 once
    obtain ⟨marks, peaks⟩ := markTrack_eq tracks master step cycles interval k acc
    obtain ⟨marks', peaks'⟩ := ih rest (markTrack tracks master step cycles interval k acc)
    have untouched {j : Fin 8} (h : j ∈ l) : (markTrack tracks master step cycles interval k acc).2[j] = acc.2[j] := by
      rw [peaks, if_neg fun e : j = k => out (e ▸ h)]
    dsimp only at marks' peaks' ⊢
    rw [List.foldl_cons]
    refine ⟨?_, fun j => ?_⟩
    · rw [marks', marks, List.append_assoc, List.flatMap_cons]
      refine congrArg (fun m => acc.1 ++ ((rule k).marks k acc.2[k] ++ m)) ?_
      exact List.flatMap_congr fun j hj => by rw [untouched hj]
    · rw [peaks' j]
      by_cases hj : j ∈ l
      · rw [if_pos hj, untouched hj, if_pos (List.mem_cons_of_mem k hj)]
      · rw [if_neg hj, peaks j]
        by_cases e : j = k
        · subst e
          rw [if_pos rfl, if_pos List.mem_cons_self]
        · rw [if_neg e, if_neg fun h => (List.mem_cons.1 h).elim e hj]

/-! ### The sample of STEADY (R36, R37) -/

/-- The sequencer after a STEADY sample's advance, its levels and its counts. -/
def Sequencer.advanced (q : Sequencer) : Sequencer :=
  let wrap := (advancePhase q.phase q.wave.2.2.1).2
  waveLevels { q with
    phase := (advancePhase q.phase q.wave.2.2.1).1, amp := q.amplitude
    segCycles := if wrap then q.segCycles + 1 else q.segCycles
    totalCycles := if wrap then satAdd q.totalCycles 1 4294967295 else q.totalCycles }

/-- TAPER_DOWN begins (R36). -/
def Sequencer.lowered (q : Sequencer) : Sequencer := leaveSteady { q with activity := .taperDown, ctr := 0, ctrEnd := q.taper }

theorem steadySample_eq (q : Sequencer) : steadySample q =
    (let wrap := (advancePhase q.phase q.wave.2.2.1).2
     let y := q.advanced
     if wrap = true ∧ q.wave.2.2.2.2.1 ≤ y.segCycles then (y.lowered, { tick := true, next := decide (y.taper = 0) })
     else
       let out := (List.finRange 8).foldl
         (fun acc k => markTrack y.tracks q.phase (q.wave.2.2.1 * 100) y.segCycles q.wave.2.2.2.2.2 k acc) ([], y.peaks)
       ({ y with peaks := out.2 }, { tick := wrap, marks := out.1 })) := by
  unfold steadySample
  rcases hw : q.wave with ⟨mean, a, freq, shape, count, interval⟩
  rcases hp : advancePhase q.phase freq with ⟨phase, wrap⟩
  have amplitude := Sequencer.amplitude_of_wave hw
  unfold Sequencer.advanced Sequencer.lowered
  rw [hw, amplitude]
  dsimp only
  rw [hp]
  cases wrap <;> rfl

theorem Sequencer.advanced_eq {q : Sequencer} {mean : Int} {a freq : Nat} {shape : Shape} {count interval : Nat}
    (wave : q.wave = (mean, a, freq, shape, count, interval)) : q.advanced =
      (let phase := (advancePhase q.phase freq).1
       let wrap := (advancePhase q.phase freq).2
       { q with
         phase := phase, amp := a, levels := q.waveAt mean shape a phase
         segCycles := if wrap then q.segCycles + 1 else q.segCycles
         totalCycles := if wrap then min 4294967295 (q.totalCycles + 1) else q.totalCycles }) := by
  have saturated : satAdd q.totalCycles 1 4294967295 = min 4294967295 (q.totalCycles + 1) :=
    (satAdd_eq_min ..).trans (Nat.min_comm ..)
  unfold advanced
  rw [Sequencer.amplitude_of_wave wave, saturated]
  dsimp only
  rw [wave]
  refine (waveLevels_eq (mean := mean) (a := a) (freq := freq) (shape := shape) (count := count) (interval := interval) ?_).trans rfl
  exact wave

theorem seqSample_steady {q : Sequencer} (run : q.state = .running) (steady : q.activity = .steady) :
    seqSample q = steadySample q := by
  unfold seqSample
  simp only [run, steady]

/-- The last STEADY sample: TAPER_DOWN stands, and with no taper the segment ends (R36). -/
theorem seqSample_steady_ended {q : Sequencer} (run : q.state = .running) (steady : q.activity = .steady) {mean : Int} {a freq : Nat}
    {shape : Shape} {count interval : Nat} (wave : q.wave = (mean, a, freq, shape, count, interval))
    (ended : (advancePhase q.phase freq).2 = true ∧ count ≤ q.advanced.segCycles) :
    seqSample q = (q.advanced.lowered, { tick := true, next := decide (q.taper = 0) }) := by
  rw [seqSample_steady run steady, steadySample_eq, wave]
  exact if_pos ended

/-- Any other STEADY sample: the marks of the tracks in order, and the tick of a wrap (R36, R37). -/
theorem seqSample_steady_going {q : Sequencer} (run : q.state = .running) (steady : q.activity = .steady) {mean : Int} {a freq : Nat}
    {shape : Shape} {count interval : Nat} (wave : q.wave = (mean, a, freq, shape, count, interval))
    (going : ¬((advancePhase q.phase freq).2 = true ∧ count ≤ q.advanced.segCycles)) :
    let rule := markRule q.tracks q.phase (freq * 100) q.advanced.segCycles interval
    seqSample q = ({ q.advanced with peaks := Vector.ofFn fun k => (rule k).after q.peaks[k] },
      { tick := (advancePhase q.phase freq).2
        marks := (List.finRange 8).flatMap fun k => (rule k).marks k q.peaks[k] }) := by
  intro rule
  have kept : q.advanced.tracks = q.tracks ∧ q.advanced.peaks = q.peaks := by
    rw [Sequencer.advanced_eq wave]; exact ⟨rfl, rfl⟩
  obtain ⟨marks, peaks⟩ := markTracks_eq q.tracks q.phase (freq * 100) q.advanced.segCycles interval (List.finRange 8)
    (List.nodup_finRange 8) ([], q.peaks)
  rw [seqSample_steady run steady, steadySample_eq, wave]
  dsimp only
  rw [if_neg going, kept.1, kept.2]
  dsimp only at marks peaks
  rw [marks, List.nil_append]
  refine congrArg (fun p : Vector (Option Nat) 8 => (({ q.advanced with peaks := p } : Sequencer), (_ : SeqOut))) ?_
  refine Vector.ext fun k hk => ?_
  rw [Vector.getElem_ofFn]
  exact (peaks ⟨k, hk⟩).trans (if_pos (List.mem_finRange _))

/-! ### The tick of a counted cycle (R166 to R168) -/

theorem Zone.walked_bins (x : Zone) : x.walked.bins = x.bins := by
  unfold walked
  split <;> rfl

/-- What a sample makes of the zones. -/
theorem State.Samples.zones {r : Readings} {s t : State} (h : s.Samples r t) {wrap : Bool}
    (tick : (seqSample s.psq).2.tick = wrap) :
    Forms s t (Notice.is .zoneLevel) (zoneNotes .tick s t) ∧ (wrap = false → t.zmn = s.zmn) ∧
      (wrap = true →
        t.zmn.tickCount = (s.zmn.tickCount + 1) % 4294967296 ∧ t.zmn.lastTick = .cycle ∧
        t.zmn.timerStart = t.clock.now ∧ t.zmn.timerSec = s.stc.settings.binTime ∧
        ∀ z : Fin 16, s.zmn.zones[z].bins ≠ [] → t.zmn.zones[z].bins = {} :: s.zmn.zones[z].bins.dropLast) := by
  obtain ⟨_, _, _, _, rest⟩ := sampleValues_rest r s
  obtain ⟨_, _, _, _, _, _, _, rest'⟩ := h.sampled.rest
  have kept : (sampleValues r s).1.zmn = s.zmn := by rw [rest]
  refine ⟨?_, fun off => h.zmn (tick.trans off), fun on => ?_⟩
  · have before := sampleValues_forms r s (p := Notice.is .zoneLevel) fun n hn => by
      rw [of_decide_eq_true hn]; exact ⟨nofun, nofun⟩
    have same : zoneNotes .tick (sampleValues r s).1 t = zoneNotes .tick s t := by
      unfold zoneNotes
      rw [kept]
    have forms := before.trans h.sampled.zoneNotes
    rwa [same] at forms
  · obtain ⟨⟨_, zmn⟩, zones⟩ := h.sampled.ticked (tick.trans on)
    have clock : t.clock = (sampleValues r s).1.clock := by rw [rest']
    have stc : (sampleValues r s).1.stc = s.stc := by rw [rest]
    refine ⟨?_, ?_, ?_, ?_, fun z filled => ?_⟩
    · rw [zmn, ← kept]; rfl
    · rw [zmn]; rfl
    · rw [zmn, clock]; rfl
    · rw [zmn, ← stc]; rfl
    · have moved := Vector.getElem_map (xs := (sampleValues r s).1.zmn.zones)
        (fun z : Zone => { z with bins := advanceBins z.bins }) z.isLt
      rw [zones z, Zone.walked_bins]
      refine (congrArg Zone.bins moved).trans ?_
      rw [kept]
      exact if_neg filled

/-! ### The marks handed to the strain processor (R137) -/

/-- Where the plan stays as its sample makes it, the marks are taken one after the other, on any state that the strain
processor cannot tell from the one left. -/
theorem State.Samples.marksTaken {r : Readings} {s t : State} (h : s.Samples r t) (ev : s.ev = {}) (adv : s.advisory)
    (dwell : (seqSample s.psq).2.dwellEnd = false)
    (plan : (seqSample s.psq).2.endPlan (seqSample s.psq).1 = (seqSample s.psq).1) :
    t.stp = ((seqSample s.psq).2.marks.foldl (fun u m => takeMark m u)
      { s with clock := t.clock, psq := t.psq, svc := t.svc, lgu := t.lgu }).stp := by
  obtain ⟨_, _, _, _, rest⟩ := sampleValues_rest r s
  obtain ⟨_, _, _, _, _, _, _, rest'⟩ := h.sampled.rest
  have psq : (sampleValues r s).1.psq = (seqSample s.psq).1 := by rw [rest]
  have acted (a : Fin 8) : (t.act a).force = ((sampleValues r s).1.act a).force ∧
      (t.act a).cfg.enabled = ((sampleValues r s).1.act a).cfg.enabled ∧ (t.act a).source = ((sampleValues r s).1.act a).source := by
    obtain ⟨_, e⟩ := h.sampled.act a
    rw [e]
    split
    · exact ⟨Actuator.completed_force _, by rw [Actuator.completed_cfg], Actuator.completed_source _⟩
    · exact ⟨rfl, rfl, rfl⟩
  refine h.sampled.marks dwell (.inr ?_) _ ?_
  · rw [psq]; exact plan
  · refine ⟨?_, ?_, h.time, ?_, ?_, fun a => (acted a).1, fun a => (acted a).2, h.sampled.members, ?_⟩
    · rw [rest]
    · rw [psq]
      exact h.psq.trans plan
    · rw [rest]
    · rw [rest]
    · refine ⟨by rw [rest]; exact ev, by rw [rest]; exact adv, ev, adv⟩

theorem seqSample_taperDown {q : Sequencer} (run : q.state = .running) (down : q.activity = .taperDown) :
    seqSample q = (q.wavesOn (roundDiv (q.amplitude * (q.taper - (q.ctr + 1)) : Nat) (q.taper : Nat)).toNat,
      { next := decide (q.taper ≤ q.ctr + 1) }) := by
  unfold seqSample
  simp only [run, down]
  rfl

theorem seqSample_pausing {q : Sequencer} (pause : q.state = .pausing) :
    seqSample q = (q.wavesOn (roundDiv (q.pauseAmp * (q.ctrEnd - (q.ctr + 1)) : Nat) (q.ctrEnd : Nat)).toNat,
      { held := decide (q.ctrEnd ≤ q.ctr + 1) }) := by
  unfold seqSample
  simp only [pause]
  rfl

/-- Settles O23. -/
theorem steadyTaperDownAndPausingSamples : Obligations.SteadyTaperDownAndPausingSamples := by
  intro r s hs adv hold mean a freq shape count interval here n K phase levels
  have wave := Sequencer.wave_of_cycle here
  have amplitude := Sequencer.amplitude_of_wave wave
  obtain ⟨t, h⟩ := samples (r := r) hs adv
  refine ⟨fun run steady => ?_, fun run down => ?_, fun pause => ?_, fun held wavy => ?_⟩
  · intro wrap cycles ended q down passes snapAt pending marks
    have advanced : s.psq.advanced = q := Sequencer.advanced_eq wave
    have counted : exec (.countedCycle r) s = .next (if countsCycle s then t else s) := h.row _
    have ends : exec (.steadyEnd r) s = .next (if endsActivity .steady s then t else s) := h.row _
    by_cases last : ended
    · have eq := seqSample_steady_ended run steady wave (by rw [advanced]; exact last)
      rw [advanced, show q.lowered = down from rfl] at eq
      have tick : (seqSample s.psq).2.tick = wrap := by rw [eq, last.1]
      obtain ⟨zoneForms, still, ticked⟩ := h.zones tick
      have notes := h.seqNotes
      have psq := h.psq
      rw [eq] at notes psq
      have done : endsActivity .steady s = true := by
        unfold endsActivity
        rw [eq]
        simp [run, steady, down]
      refine ⟨t, h.run, h.frame, fun _ => h.stp hs.1 adv (by rw [eq]) (by rw [eq]), fun e => absurd last e, fun e => absurd last e,
        fun _ => ?_, ?_, zoneForms, still, ticked, ?_, fun _ => by rw [ends, done]; rfl, fun e => absurd last e⟩
      · rw [psq]
        by_cases none : K = 0
        · rw [if_pos none, show decide (s.psq.taper = 0) = true from decide_eq_true none]
          exact if_pos ⟨rfl, run⟩
        · rw [if_neg none, show decide (s.psq.taper = 0) = false from decide_eq_false none]
          exact if_neg fun e => nomatch e.1
      · by_cases none : K = 0
        · rw [if_pos ⟨last, none⟩]
          rw [show decide (s.psq.taper = 0) = true from decide_eq_true none] at notes
          have all : ({ tick := true, next := true } : SeqOut).endNotes down t.time = down.nextNotes t.time :=
            (List.nil_append _).trans (if_pos ⟨rfl, run⟩)
          rwa [all] at notes
        · rw [if_neg fun e => none e.2]
          rw [show decide (s.psq.taper = 0) = false from decide_eq_false none] at notes
          exact notes
      · rw [counted, countsCycle, tick]
    · have eq := seqSample_steady_going run steady wave (by rw [advanced]; exact last)
      rw [advanced] at eq
      have tick : (seqSample s.psq).2.tick = wrap := by rw [eq]
      have stays : (seqSample s.psq).2.endPlan (seqSample s.psq).1 = (seqSample s.psq).1 := by rw [eq]; rfl
      have taken := h.marksTaken hs.1 adv (by rw [eq]) stays
      obtain ⟨zoneForms, still, ticked⟩ := h.zones tick
      have notes := h.seqNotes
      have psq := h.psq
      rw [stays] at psq
      rw [eq] at notes psq taken
      have going : endsActivity .steady s = false := by
        unfold endsActivity
        rw [eq]
        simp [run, steady, q]
      refine ⟨t, h.run, h.frame, fun e => absurd e last, fun _ => taken, fun _ => psq, fun e => absurd e last, ?_, zoneForms, still,
        ticked, ?_, fun e => absurd e last, fun _ => by rw [ends, going]; rfl⟩
      · rw [if_neg fun e => last e.1]
        exact notes
      · rw [counted, countsCycle, tick]
  · intro amp q
    have eq := seqSample_taperDown run down
    rw [amplitude, Sequencer.wavesOn_eq wave] at eq
    have apart : seqSample s.psq = (if n < K then q else q, { dwellEnd := false, next := decide (K ≤ n) }) := by
      rw [eq, ite_self]; rfl
    have ends : endsActivity .taperDown s = decide (K ≤ n) := by
      unfold endsActivity
      rw [apart, ite_self]
      simp [run, down, q]
    have stp := h.stp hs.1 adv (by rw [apart]) (by rw [apart])
    obtain ⟨zmn, psq, notes, row⟩ := h.counted (q' := q) run apart
    rw [← ends] at row
    exact ⟨t, h.run, h.frame, stp, zmn, psq, notes, row⟩
  · intro M amp q
    have eq := seqSample_pausing pause
    rw [Sequencer.wavesOn_eq wave] at eq
    have eq : seqSample s.psq = (q, { held := decide (M ≤ n) }) := eq
    have stp := h.stp hs.1 adv (by rw [eq]) (by rw [eq])
    have zmn := h.zmn (by rw [eq])
    have row : exec (.pausingEnd r) s = .next (if endsPause s then t else s) := h.row _
    have ends : endsPause s = decide (M ≤ n) := by unfold endsPause; rw [eq]
    have notes := h.seqNotes
    have psq := h.psq
    rw [eq] at notes psq
    rw [row, ends]
    by_cases less : n < M
    · rw [decide_eq_false (Nat.not_le.2 less)] at notes psq ⊢
      refine ⟨t, h.run, h.frame, stp, zmn, ?_, ?_, ?_⟩ <;> rw [if_pos less]
      · exact psq
      · exact notes
      · rfl
    · rw [decide_eq_true (Nat.not_lt.1 less)] at notes psq ⊢
      have holds : ({ held := true } : SeqOut).heldPlan q = { q with state := .holding } := if_pos ⟨rfl, pause⟩
      have plan : ({ held := true } : SeqOut).endPlan q = { q with state := .holding } := by
        rw [← holds]
        exact if_neg fun e => nomatch e.1
      have all : ({ held := true } : SeqOut).endNotes q t.time = [({ q with state := .holding } : Sequencer).note t.time .pausing] := by
        rw [← holds]
        refine (congrArg₂ (· ++ ·) (if_pos ⟨rfl, pause⟩) (if_neg fun e => nomatch e.1)).trans ?_
        exact List.append_nil _
      rw [plan] at psq
      rw [all] at notes
      refine ⟨t, h.run, h.frame, stp, zmn, ?_, ?_, ?_⟩ <;> rw [if_neg less]
      · exact psq
      · rw [psq]; exact notes
      · rfl
  · have eq : seqSample s.psq = ({ s.psq with levels := Vector.replicate 8 mean }, {}) := by
      unfold seqSample
      simp only [held, wavy, if_true, wave]
    obtain ⟨t, ran, frame, stp, zmn, notes, psq, -⟩ := samples_plain (r := r) hs adv eq
    exact ⟨t, ran, frame, stp, zmn, notes, psq⟩

end Sys2Proof.Machine

/-!
The conditions of a control sample, and the ends of unloads (R49, R57, R65 to R68, R74, R81 to R83).
-/
namespace Sys2Proof.Machine

/-! ### What is read of an actuator after a sample -/

theorem Actuator.completed_sensors (x : Actuator) : x.completed.force = x.force ∧ x.completed.stroke = x.stroke ∧
    x.completed.forceSat = x.forceSat ∧ x.completed.strokeSat = x.strokeSat := by
  unfold completed entered bumpless
  dsimp only
  split <;> split <;> exact ⟨rfl, rfl, rfl, rfl⟩

/-- The readings an actuator has after a sample are those of the sample. -/
theorem State.Samples.sensors {r : Readings} {s t : State} (h : s.Samples r t) (a : Fin 8) :
    (t.act a).force = ((sampleValues r s).1.act a).force ∧ (t.act a).stroke = ((sampleValues r s).1.act a).stroke ∧
      (t.act a).forceSat = ((sampleValues r s).1.act a).forceSat ∧ (t.act a).strokeSat = ((sampleValues r s).1.act a).strokeSat := by
  obtain ⟨_, e⟩ := h.sampled.act a
  rw [e]
  split
  · exact Actuator.completed_sensors _
  · exact ⟨rfl, rfl, rfl, rfl⟩

/-- Where no unload completes an actuator is as the values of the sample left it, but for its derate. -/
theorem State.Samples.act_of_not_due {r : Readings} {s t : State} (h : s.Samples r t) {a : Fin 8}
    (going : unloadDue ((sampleValues r s).1.act a) = false) : ∃ d, t.act a = { (sampleValues r s).1.act a with derate := d } := by
  obtain ⟨d, e⟩ := h.sampled.act a
  exact ⟨d, by rw [e, going]; rfl⟩

theorem sampleValues_raised (r : Readings) (s : State) (c : Cond) : (sampleValues r s).1.raised c = s.raised c := by
  obtain ⟨_, _, _, _, rest⟩ := sampleValues_rest r s
  rw [rest]; rfl

/-! ### Conditions (R68) -/

/-- What a sample's values ask of a condition of an enabled actuator is how it stands, where the rule of the loop does not
hold it down. -/
theorem condStands_asked {k : ActCond} {a : Fin 8} {v : State} (on : (v.act a).cfg.enabled = true)
    (free : loopCond k = false ∨ (v.act a).state.servoRuns = true) :
    condStands k (dueChange k a v) (v.act a).state.servoRuns (v.raised (.act k a)) =
      (askedCond k a v).getD (v.raised (.act k a)) := by
  have down : (!loopCond k || (v.act a).state.servoRuns) = true := by
    rcases free with h | h <;> rw [h]
    · rfl
    · exact Bool.or_true _
  unfold dueChange condStands
  rw [if_pos on, down]
  cases askedCond k a v with
  | none => rfl
  | some b => cases b <;> cases v.raised (.act k a) <;> rfl

theorem State.Samples.stands {r : Readings} {s t : State} (h : s.Samples r t) {k : ActCond} {a : Fin 8}
    (on : (s.act a).cfg.enabled = true)
    (free : loopCond k = false ∨ (s.act a).state.servoRuns = true ∧ unloadDue ((sampleValues r s).1.act a) = false) :
    t.raised (.act k a) = (askedCond k a (sampleValues r s).1).getD (s.raised (.act k a)) := by
  have x := valued_sampleValues r s a
  rw [h.sampled.stands k a (free.imp_right fun h => h.2), condStands_asked (by rw [x.cfg]; exact on)
    (free.imp_right fun h => by rw [x.state]; exact h.1), sampleValues_raised]

/-- The counters of a running servo (R66, R67). -/
theorem servoSample_counters (s : State) (a : Fin 8) (runs : (s.act a).state.servoRuns = true) :
    let y := servoSample s a
    y.follow = (if (s.act a).cfg.followLimit < y.regs.err.natAbs then (s.act a).follow + 1 else 0) ∧
      y.stall = if y.regs.u.natAbs = 10000 then (s.act a).stall + 1 else 0 := by
  have x : (unloadSample (s.act a)).state = (s.act a).state ∧ (unloadSample (s.act a)).cfg = (s.act a).cfg ∧
      (unloadSample (s.act a)).follow = (s.act a).follow ∧ (unloadSample (s.act a)).stall = (s.act a).stall := by
    unfold unloadSample
    split <;> exact ⟨rfl, rfl, rfl, rfl⟩
  obtain ⟨state, cfg, follow, stall⟩ := x
  unfold servoSample
  dsimp only
  rw [if_pos (by rw [state]; exact runs), ← cfg, ← follow, ← stall]
  exact ⟨rfl, rfl⟩

theorem sampleValues_counters (r : Readings) (s : State) (a : Fin 8) (runs : (s.act a).state.servoRuns = true) :
    let y := (sampleValues r s).1.act a
    y.follow = (if (s.act a).cfg.followLimit < y.regs.err.natAbs then (s.act a).follow + 1 else 0) ∧
      y.stall = if y.regs.u.natAbs = 10000 then (s.act a).stall + 1 else 0 := by
  obtain ⟨_, _, _, _, grouped⟩ := (grouped_sampleGroups r s).act a
  rw [sampleStart_act] at grouped
  have counters := servoSample_counters (s.sampleGroups r) a (by rw [grouped]; exact runs)
  rw [sampleValues_eq, runServos_act]
  rw [grouped] at counters
  exact counters

/-- A row that names a counter is taken where the counter brings its condition. -/
theorem counted_due_iff {k : ActCond} {a : Fin 8} {v : State} {count ms : Nat} (on : (v.act a).cfg.enabled = true)
    (asked : askedCond k a v = counterCond count ms) (pos : 1 ≤ ms) :
    dueChange k a v = some true ↔ v.raised (.act k a) = false ∧ 2 * ms ≤ count := by
  unfold dueChange
  rw [if_pos on, asked]
  unfold counterCond
  by_cases none : count = 0
  · subst none
    have : ¬2 * ms ≤ 0 := by omega
    cases v.raised (.act k a) <;> simp [this]
  · rw [if_neg none]
    by_cases reached : 2 * ms ≤ count
    · rw [if_pos reached]
      cases v.raised (.act k a) <;> simp [reached]
    · rw [if_neg reached]
      simp [reached]

/-- Settles O30. -/
theorem sampleConditionsAreJudged : Obligations.SampleConditionsAreJudged := by
  intro r s a hs adv on
  obtain ⟨t, h⟩ := samples (r := r) hs adv
  obtain ⟨force, stroke, forceSat, strokeSat⟩ := h.sensors a
  have x := valued_sampleValues r s a
  refine ⟨t, h.run, h.frame, ?_⟩
  intro c y
  refine ⟨?_, ?_, ?_, fun state followMs stallMs => ?_⟩
  · rw [h.stands on (.inl rfl), show y.force = _ from force, ← sampleValues_raised r s, show c = _ from x.cfg.symm]
    rfl
  · rw [h.stands on (.inl rfl), show y.stroke = _ from stroke, ← sampleValues_raised r s, show c = _ from x.cfg.symm]
    rfl
  · rw [h.stands on (.inl rfl), show y.forceSat = _ from forceSat, show y.strokeSat = _ from strokeSat]
    rfl
  · have runs : (s.act a).state.servoRuns = true := by
      rcases state with h | h | h | ⟨h, -⟩ <;> rw [h] <;> rfl
    have going : unloadDue ((sampleValues r s).1.act a) = false := by
      by_contra due
      rw [Bool.not_eq_false] at due
      have unloading := (x.state.symm.trans (unloadDue_state due))
      have stays : y.state = .unloading := by
        rcases state with h | h | h | ⟨-, h⟩
        · rw [h] at unloading; exact nomatch unloading
        · rw [h] at unloading; exact nomatch unloading
        · rw [h] at unloading; exact nomatch unloading
        · exact h
      obtain ⟨_, e⟩ := h.sampled.act a
      rw [show y = t.act a from rfl, e, if_pos due] at stays
      exact Actuator.goalState_ne _ ((Actuator.completed_state _).symm.trans stays)
    obtain ⟨_, same⟩ := h.act_of_not_due going
    obtain ⟨follow, stall⟩ := sampleValues_counters r s a runs
    have follow' : y.follow = ((sampleValues r s).1.act a).follow := by rw [show y = t.act a from rfl, same]
    have stall' : y.stall = ((sampleValues r s).1.act a).stall := by rw [show y = t.act a from rfl, same]
    have clamped : y.clampWindow = ((sampleValues r s).1.act a).clampWindow := by rw [show y = t.act a from rfl, same]
    have regs : y.regs = ((sampleValues r s).1.act a).regs := by rw [show y = t.act a from rfl, same]
    have vruns : ((sampleValues r s).1.act a).state.servoRuns = true := by rw [x.state]; exact runs
    have von : ((sampleValues r s).1.act a).cfg.enabled = true := by rw [x.cfg]; exact on
    have askedFollow : askedCond .following a (sampleValues r s).1 = counterCond y.follow c.followMs := by
      rw [follow', show c = _ from x.cfg.symm]
      exact if_pos vruns
    have askedStall : askedCond .stall a (sampleValues r s).1 = counterCond y.stall c.stallMs := by
      rw [stall', show c = _ from x.cfg.symm]
      exact if_pos vruns
    have counts (count ms : Nat) (b : Bool) : (counterCond count ms).getD b =
        if count = 0 then false else if 2 * ms ≤ count then true else b := by
      unfold counterCond
      split
      · rfl
      · split <;> rfl
    have row {b : Bool} {p : Prop} [Decidable p] (hp : b = true ↔ p) : stepDone (sampleIf b r s) = .next (if p then t else s) := by
      rw [h.row]
      exact congrArg _ (if_congr hp rfl rfl)
    refine ⟨?_, ?_, ?_, ?_, ?_, ?_, ?_⟩
    · rw [h.stands on (.inr ⟨runs, going⟩), clamped]
      exact congrArg (Option.getD · _) (if_pos vruns)
    · rw [follow', regs]; exact follow
    · rw [stall', regs]; exact stall
    · rw [h.stands on (.inr ⟨runs, going⟩), askedFollow, counts]
    · rw [h.stands on (.inr ⟨runs, going⟩), askedStall, counts]
    · refine row ?_
      rw [followingReached, decide_eq_true_eq, counted_due_iff von askedFollow followMs, sampleValues_raised]
    · refine row ?_
      rw [stallReached, decide_eq_true_eq, counted_due_iff von askedStall stallMs, sampleValues_raised]

/-! ### Unloads (R81 to R83) -/

theorem unloadRamp_eq (c0 target rate : Int) (n : Nat) : unloadRamp c0 target rate n =
    if c0 < target then min target (roundDiv (c0 * 2000 + rate * n) 2000)
    else if target < c0 then max target (roundDiv (c0 * 2000 - rate * n) 2000)
    else target := by
  unfold unloadRamp
  by_cases same : c0 = target
  · subst same
    rw [if_pos rfl, if_neg (lt_irrefl _), if_neg (lt_irrefl _)]
  · rw [if_neg same]
    by_cases below : c0 < target
    · rw [if_pos below, if_pos below]
      dsimp only
      split
      · rw [min_eq_left ‹_›]
      · rw [min_eq_right (by omega)]
    · rw [if_neg below, if_neg below, if_pos (show target < c0 by omega)]
      dsimp only
      split
      · rw [max_eq_left ‹_›]
      · rw [max_eq_right (by omega)]

/-- The unload's counters at a sample, from the force of that sample. -/
def Unload.sampled (u : Unload) (force : Int) : Unload :=
  { u with
    n := u.n + 1
    settle := if (force - u.target).natAbs ≤ u.tol then u.settle + 1 else 0
    ramp := unloadRamp u.c0 u.target u.rate (u.n + 1) }

theorem sampleValues_unload (r : Readings) (s : State) (a : Fin 8) (h : (s.act a).state = .unloading) :
    ((sampleValues r s).1.act a).unload = (s.act a).unload.sampled (clamp r.force[a] (-32768) 32767) := by
  rw [(valued_sampleValues r s a).unload]
  exact congrArg Actuator.unload (if_pos (show ((s.act a).sensed r a).state = .unloading from h))

/-- The servo of an unloading actuator works on its ramp value (R81). -/
theorem servoSample_unloading (s : State) (a : Fin 8) (h : (s.act a).state = .unloading) :
    (servoSample s a).regs.h = capacityClamp (servoSample s a) (servoSample s a).unload.ramp := by
  have state : (unloadSample (s.act a)).state = .unloading := by
    unfold unloadSample
    split <;> exact h
  have regs : demand s a (unloadSample (s.act a)) = ((unloadSample (s.act a)).regs, (unloadSample (s.act a)).unload.ramp) := by
    unfold demand
    rw [state]
  unfold servoSample
  dsimp only
  rw [if_pos (by rw [state]; rfl), regs]
  rfl

theorem sampleValues_unloading (r : Readings) (s : State) (a : Fin 8) (h : (s.act a).state = .unloading) :
    let y := (sampleValues r s).1.act a
    y.regs.h = capacityClamp y y.unload.ramp := by
  obtain ⟨_, _, _, _, grouped⟩ := (grouped_sampleGroups r s).act a
  rw [sampleStart_act] at grouped
  rw [sampleValues_eq, runServos_act]
  exact servoSample_unloading (s.sampleGroups r) a (by rw [grouped]; exact h)

/-- The unload timer's expiry where the timer runs: UNLOAD_TIMEOUT, and the unload goes on (R83). -/
theorem unloadExpiry_running {s : State} {a : Fin 8} (ev : s.ev = {}) (adv : s.advisory) (unloading : (s.act a).state = .unloading)
    (runs : (s.act a).unload.timerOn = true) :
    let timed : State := { s with clock := { s.clock with
      now := max s.clock.now ((s.act a).unload.start + (s.act a).unload.timeoutS * 1000000) } }
    (timed.modAct a fun x => { x with unload := { x.unload with timerOn := false } }).Advised (unloadExpiry a s) ∧
      (unloadExpiry a s).raised (.unloadTimeout a) = true := by
  intro timed
  have eq : unloadExpiry a s = raise (.unloadTimeout a)
      (timed.modAct a fun x => { x with unload := { x.unload with timerOn := false } }) := if_pos ⟨unloading, runs⟩
  have raised (u : State) (ev : u.ev = {}) (adv : u.advisory) : u.Advised (raise (.unloadTimeout a) u) ∧
      (raise (.unloadTimeout a) u).raised (.unloadTimeout a) = true := by
    have timeout : (Cond.unloadTimeout a).advisory := ⟨nofun, nofun⟩
    exact ⟨advised_raise ev adv timeout, (raise_raised ev adv timeout _).trans (if_pos rfl)⟩
  rw [eq]
  exact raised _ ev adv

theorem Actuator.entered_off (y : Actuator) :
    (y.entered .off).regs.c = 0 ∧ (y.entered .off).regs.a = 0 ∧ (y.entered .off).regs.u = 0 := by
  by_cases h : y.state = .unloading <;> simp [entered, h]

theorem Actuator.entered_low (y : Actuator) : (y.entered .low).present = y.present ∧
    (y.entered .low).strokeHold = y.strokeHold ∧ (y.entered .low).stroke = y.stroke ∧ (y.entered .low).regs = y.regs := by
  by_cases h : y.state = .unloading <;> simp [entered, h]

theorem Actuator.entered_timerOff {y : Actuator} (h : y.state = .unloading) (x : ActState) :
    (y.entered x).unload.timerOn = false := by
  simp [entered, h]

/-- A completed unload to OFF (R50, R82). -/
theorem Actuator.completed_off {x : Actuator} (off : x.destOff = true) :
    x.completed.state = .off ∧ x.completed.regs.c = 0 ∧ x.completed.regs.a = 0 ∧ x.completed.regs.u = 0 := by
  unfold completed
  rw [if_pos off]
  exact ⟨rfl, x.entered_off⟩

/-- A completed unload to LOW: the switch of R63 to a stroke hold (R82). -/
theorem Actuator.completed_low {x : Actuator} (low : x.destOff = false) :
    x.completed.state = .low ∧ x.completed.present = .stroke ∧ x.completed.strokeHold = x.completed.stroke ∧
      x.completed.regs.c = x.completed.stroke := by
  unfold completed
  rw [if_neg (by rw [low]; decide)]
  obtain ⟨present, hold, stroke, regs⟩ := (bumpless .stroke { x with strokeHold := x.stroke }).entered_low
  rw [present, hold, stroke, regs]
  exact ⟨rfl, rfl, rfl, rfl⟩

theorem Actuator.completed_timer {x : Actuator} (h : x.state = .unloading) : x.completed.unload.timerOn = false := by
  unfold completed
  split
  · exact entered_timerOff h _
  · exact entered_timerOff (y := bumpless .stroke { x with strokeHold := x.stroke }) h _

/-- Settles O35. -/
theorem unloadsEnd : Obligations.UnloadsEnd := by
  intro s a hs adv x
  refine ⟨fun still => ?_, fun unloading runs => ?_, fun out r => ?_, fun unloading settleMs r => ?_⟩
  · have eq : unloadExpiry a s = s := if_neg fun h => still.elim (fun e => e h.1) (fun e => by
      rw [show (s.act a).unload.timerOn = false from e] at h; exact nomatch h.2)
    show stepDone (unloadExpiry a s) = _
    rw [eq]
    exact stepDone_of_noResetDue (.inl hs.2)
  · obtain ⟨moved, raised⟩ := unloadExpiry_running hs.1 adv unloading runs
    have stc : (unloadExpiry a s).stc = s.stc := moved.stc
    obtain ⟨_, act⟩ := moved.act a
    rw [State.modAct_act, if_pos rfl] at act
    refine ⟨unloadExpiry a s, stepDone_of_noResetDue (.inl (by rw [stc]; exact hs.2)), moved.clock, raised, by rw [act]; rfl,
      fun b => ?_, ?_⟩
    · obtain ⟨_, e⟩ := moved.act b
      rw [e, State.modAct_act]
      split
      · rename_i e; subst e; rfl
      · rfl
    · rw [moved.toMoved.eq]
      rfl
  · have none : completionReached a r s = false := by
      unfold completionReached unloadDue
      rw [(valued_sampleValues r s a).state, decide_eq_false out, Bool.false_and]
    show stepDone (sampleIf (completionReached a r s) r s) = _
    rw [none]
    exact stepDone_of_noResetDue (.inl hs.2)
  · intro settle
    obtain ⟨t, h⟩ := samples (r := r) hs adv
    have y := valued_sampleValues r s a
    have unload := sampleValues_unload r s a unloading
    have state : ((sampleValues r s).1.act a).state = .unloading := y.state.trans unloading
    have due : unloadDue ((sampleValues r s).1.act a) = decide (2 * x.unload.settleMs ≤ settle) := by
      unfold unloadDue
      rw [state, unload]; rfl
    have row : exec (.unloadCompletion a r) s = .next (if unloadDue ((sampleValues r s).1.act a) then t else s) := h.row _
    rw [due] at row
    refine ⟨t, h.run, h.frame, fun going => ?_, fun done => ?_⟩
    · have not := decide_eq_false (Nat.not_le.2 going)
      obtain ⟨_, same⟩ := h.act_of_not_due (due.trans not)
      rw [not] at row
      refine ⟨row, by rw [same]; exact state, ?_, ?_⟩
      · rw [same]
        refine unload.trans ?_
        unfold Unload.sampled
        rw [unloadRamp_eq]
      · have worked := sampleValues_unloading r s a unloading
        rw [same]
        refine worked.trans ?_
        unfold capacityClamp
        rw [y.present, y.cfg]
        rfl
    · have reached := decide_eq_true done
      rw [reached] at row due
      obtain ⟨d, act⟩ := h.sampled.act a
      rw [if_pos due] at act
      have timeout := h.sampled.timeout a
      rw [due, Bool.not_true, Bool.and_false] at timeout
      have forms := (sampleValues_forms r s (p := Notice.isActOf a) fun n hn => by
        rw [of_decide_eq_true (Bool.and_eq_true_iff.1 hn).1]; exact ⟨nofun, nofun⟩).trans (h.sampled.actNotes a)
      rw [if_pos due, List.nil_append] at forms
      have note : ({ t.actNote a (t.act a).state .unloading .unloadDone with
          cycles := (sampleValues r s).1.psq.totalCycles } : Notice) =
          (sampleValues r s).1.actNote a ((sampleValues r s).1.act a).goalState .unloading .unloadDone := by
        unfold State.actNote
        rw [h.time, act]
        dsimp only
        rw [Actuator.completed_force, Actuator.completed_state]
      refine ⟨row, ?_, timeout, ?_, fun off => ?_, fun low => ?_⟩
      · rw [act]
        exact Actuator.completed_timer state
      · rw [note]
        exact forms
      · rw [act]
        exact Actuator.completed_off (y.destOff.trans off)
      · rw [act]
        exact Actuator.completed_low (y.destOff.trans low)

end Sys2Proof.Machine

/-!
The setpoint chain of a control sample (R48 to R59, R62, R81, R103, R104).
-/
namespace Sys2Proof.Machine

/-! ### Stages 6 to 9 (R55 to R59) -/

/-- The registers after stages 6 to 9 on a value, from the registers that stage finds. -/
def Actuator.chained (w : Vector Window 6) (a : Fin 8) (x : Actuator) (force stroke : Int) (pre : Regs) (v : Int) : Regs :=
  let h := capacityClamp x v
  let e := (windowClamp w x.present a h).1
  let g := x.gains x.present
  let c := pre.c + clampSym (e - pre.c) g.rate
  let o := piLoop g (match x.present with
    | .force => force
    | .stroke => stroke) c pre.a
  { pre with h := h, e := e, c := c, err := o.1, p := o.2.1, ut := o.2.2.1, a := o.2.2.2.1, u := o.2.2.2.2 }

theorem loopStages_regs (w : Vector Window 6) (a : Fin 8) (r : Regs) (h : Int) (x : Actuator) :
    (loopStages w a r h x).regs = x.chained w a x.force x.stroke r h := by
  unfold loopStages Actuator.chained Actuator.measured
  rfl

/-- A running servo's registers: stages 6 to 9 on what stages 1 to 5 hand on. -/
theorem servoSample_runs (s : State) (a : Fin 8) (runs : (s.act a).state.servoRuns = true) :
    (servoSample s a).regs = (s.act a).chained s.svc.windows a (s.act a).force (s.act a).stroke
      (demand s a (unloadSample (s.act a))).1 (demand s a (unloadSample (s.act a))).2 := by
  have state : (unloadSample (s.act a)).state = (s.act a).state := by
    unfold unloadSample
    split <;> rfl
  unfold servoSample
  dsimp only
  rw [if_pos (by rw [state]; exact runs), loopStages_regs]
  unfold unloadSample
  split <;> rfl

theorem servoSample_stands (s : State) (a : Fin 8) (rests : (s.act a).state.servoRuns = false) :
    (servoSample s a).regs = (s.act a).regs := by
  have state : (unloadSample (s.act a)).state = (s.act a).state := by
    unfold unloadSample
    split <;> rfl
  unfold servoSample
  dsimp only
  rw [if_neg (by rw [state, rests]; decide)]
  exact unloadSample_regs _

/-! ### Stages 1 to 5 (R48, R51 to R54) -/

theorem unloadSample_of_not {x : Actuator} (h : x.state ≠ .unloading) : unloadSample x = x := if_neg h

theorem demand_hold {s : State} {a : Fin 8} {x : Actuator} (h : x.state = .low ∨ x.state = .raising) :
    demand s a x = (x.regs, x.strokeHold) := by
  unfold demand
  rcases h with h | h <;> rw [h]

theorem demand_unloading {s : State} {a : Fin 8} {x : Actuator} (h : x.state = .unloading) :
    demand s a x = (x.regs, x.unload.ramp) := by
  unfold demand
  rw [h]

theorem demand_member {s : State} {a : Fin 8} {x : Actuator} (h : x.state = .active) {g : Fin 4} (hg : s.groupOf a = some g) :
    demand s a x = (x.regs, x.regs.d + if (s.group g).recipient = some a then (s.group g).h else 0) := by
  unfold demand
  rw [h, hg]

theorem demand_manual {s : State} {a : Fin 8} {x : Actuator} (h : x.state = .active) (hg : s.groupOf a = none)
    (source : x.source = .manual) : demand s a x =
      (let r := soloStages (match x.present with
        | .force => x.manualForce
        | .stroke => x.manualStroke) x
       (r, r.d)) := by
  unfold demand
  rw [h, hg, source] <;> rfl

theorem demand_sequencer {s : State} {a : Fin 8} {x : Actuator} (h : x.state = .active) (hg : s.groupOf a = none)
    (source : x.source = .sequencer) : demand s a x =
      if s.psq.tracks[a].quantity = x.present then
        (let r := soloStages (trackBase s a) { x with regs := { x.regs with l := s.psq.levels[a] } }
         (r, r.d))
      else (x.regs, x.regs.c) := by
  unfold demand
  rw [h, hg, source]

/-- A sample of the sequencer keeps the track records. -/
theorem steadySample_tracks (q : Sequencer) : (steadySample q).1.tracks = q.tracks := by
  unfold steadySample
  dsimp only
  split <;> split <;> rfl

theorem seqSample_tracks (q : Sequencer) : (seqSample q).1.tracks = q.tracks := by
  unfold seqSample
  split
  · split
    · rfl
    · split <;> rfl
    · split <;> rfl
    · dsimp only
      split
      · unfold beginTaperUp
        dsimp only
        split <;> rfl
      · rfl
    · unfold taperUpSample
      dsimp only
      split <;> rfl
    · exact steadySample_tracks q
    · rfl
  · rfl
  · dsimp only
    split <;> rfl
  all_goals rfl

/-- Stages 2 to 4 by the present control quantity (R52, R53). -/
theorem soloStages_eq (base : Int) (x : Actuator) : soloStages base x =
    { x.regs with b := base, s := base, d := match x.present with
      | .force => roundDiv (base * x.derate) 1000
      | .stroke => base } := by
  unfold soloStages derated
  cases x.present <;> rfl

theorem runServos_group (s : State) (g : Fin 4) : (runServos s).group g = s.group g := rfl

/-- What the servos find: the sample's readings, windows and levels, and of registers what the groups have written. -/
structure State.Finds (r : Readings) (s m : State) (a : Fin 8) : Prop where
  act : ∃ l b c d, m.act a = { (s.act a).sensed r a with regs := { (s.act a).regs with l := l, b := b, s := c, d := d } }
  free : s.groupOf a = none ∨ (s.act a).state ≠ .active → m.act a = (s.act a).sensed r a
  group : m.groupOf a = s.groupOf a
  windows : m.svc.windows = s.svc.windows
  psq : m.psq = (seqSample s.psq).1

theorem finds_sampleGroups (r : Readings) (s : State) (a : Fin 8) : s.Finds r (s.sampleGroups r) a := by
  have grouped := grouped_sampleGroups r s
  obtain ⟨_, _, _, _, rest⟩ := grouped.rest
  refine ⟨?_, fun h => ?_, grouped.groupOf a, by rw [rest]; rfl, by rw [rest]; rfl⟩
  · obtain ⟨l, b, c, d, h⟩ := grouped.act a
    exact ⟨l, b, c, d, by rw [h, sampleStart_act]; rfl⟩
  · rw [grouped.free a ?_, sampleStart_act]
    rw [sampleStart_act]
    exact h

/-- The registers a sample leaves, where its servo runs. -/
theorem sampleValues_runs (r : Readings) (s : State) (a : Fin 8) (runs : (s.act a).state.servoRuns = true) {pre : Regs} {v : Int}
    (handed : demand (s.sampleGroups r) a (unloadSample ((s.sampleGroups r).act a)) = (pre, v)) :
    ((sampleValues r s).1.act a).regs = (s.act a).chained s.svc.windows a ((sampleValues r s).1.act a).force
      ((sampleValues r s).1.act a).stroke pre v := by
  obtain ⟨m, hm⟩ : ∃ m, m = s.sampleGroups r := ⟨_, rfl⟩
  have finds := finds_sampleGroups r s a
  rw [← hm] at finds handed
  obtain ⟨_, _, _, _, act⟩ := finds.act
  have force : (m.act a).force = ((sampleValues r s).1.act a).force := by
    rw [(valued_sampleValues r s a).force, act]; rfl
  have stroke : (m.act a).stroke = ((sampleValues r s).1.act a).stroke := by
    rw [(valued_sampleValues r s a).stroke, act]; rfl
  have regs : ((sampleValues r s).1.act a).regs = (servoSample m a).regs := by
    rw [sampleValues_eq, runServos_act, hm]
  rw [regs, servoSample_runs m a (by rw [act]; exact runs), handed, force, stroke, finds.windows, act]
  rfl

theorem sampleValues_stands (r : Readings) (s : State) (a : Fin 8) (rests : (s.act a).state.servoRuns = false) :
    ((sampleValues r s).1.act a).regs = (s.act a).regs := by
  have out : (s.act a).state ≠ .active := fun h => by rw [h] at rests; exact nomatch rests
  have act := (finds_sampleGroups r s a).free (.inr out)
  rw [sampleValues_eq, runServos_act, servoSample_stands _ a (by rw [act]; exact rests), act]
  rfl

/-- Settles O26. -/
theorem setpointChain : Obligations.SetpointChain := by
  refine ⟨fun r s a rests => ⟨sampleValues_stands r s a ?_, rfl⟩, fun r s a hs adv => ?_⟩
  · rcases rests with h | h | h <;> rw [h] <;> rfl
  obtain ⟨t, h⟩ := samples (r := r) hs adv
  obtain ⟨force, stroke, forceSat, strokeSat⟩ := h.sensors a
  have v := valued_sampleValues r s a
  have finds := finds_sampleGroups r s a
  refine ⟨t, h.run, h.frame, ?_⟩
  intro x y g chain stages
  have going (out : x.state ≠ .unloading ∨ y.state = .unloading) : unloadDue ((sampleValues r s).1.act a) = false := by
    by_contra due
    rw [Bool.not_eq_false] at due
    have unloading : x.state = .unloading := v.state.symm.trans (unloadDue_state due)
    obtain ⟨_, e⟩ := h.sampled.act a
    rcases out with out | stays
    · exact out unloading
    · rw [show y = t.act a from rfl, e, if_pos due] at stays
      exact Actuator.goalState_ne _ ((Actuator.completed_state _).symm.trans stays)
  have same (out : x.state ≠ .unloading ∨ y.state = .unloading) : y.regs = ((sampleValues r s).1.act a).regs ∧ y.state = x.state ∧
      y.unload = ((sampleValues r s).1.act a).unload := by
    obtain ⟨_, e⟩ := h.act_of_not_due (going out)
    rw [show y = t.act a from rfl, e]
    exact ⟨rfl, v.state, rfl⟩
  have chained (pre : Regs) (w : Int) : (s.act a).chained s.svc.windows a ((sampleValues r s).1.act a).force
      ((sampleValues r s).1.act a).stroke pre w = chain pre w := by
    rw [← force, ← stroke]; rfl
  have worked {pre : Regs} {w : Int} (runs : (s.act a).state.servoRuns = true)
      (handed : demand (s.sampleGroups r) a (unloadSample ((s.sampleGroups r).act a)) = (pre, w)) :
      ((sampleValues r s).1.act a).regs = chain pre w := (sampleValues_runs r s a runs handed).trans (chained pre w)
  have levels : t.psq.levels = (seqSample s.psq).1.levels := by
    rw [h.psq]
    exact (SeqOut.alike_endPlan _ _).1
  refine ⟨force.trans v.force, stroke.trans v.stroke, ?_, ?_, fun rests => ?_, fun holds => ?_, fun unloading stays => ?_,
    fun active => ?_, fun active alone => ⟨fun manual => ?_, fun planned => ?_⟩, fun k active member => ?_⟩
  · rw [show y.forceSat = _ from forceSat.trans v.forceSat, Bool.decide_or]; rfl
  · rw [show y.strokeSat = _ from strokeSat.trans v.strokeSat, Bool.decide_or]; rfl
  · obtain ⟨regs, state, -⟩ := same (.inl (by rcases rests with h | h | h <;> rw [h] <;> decide))
    exact ⟨regs.trans (sampleValues_stands r s a (by rcases rests with h | h | h <;> rw [show (s.act a).state = _ from h] <;> rfl)), state⟩
  · have out : (s.act a).state ≠ .unloading ∧ (s.act a).state ≠ .active := by
      rcases holds with h | h <;> rw [show (s.act a).state = _ from h] <;> decide
    obtain ⟨regs, state, -⟩ := same (.inl out.1)
    have act := finds.free (.inr out.2)
    refine ⟨regs.trans (worked (by rcases holds with h | h <;> rw [show (s.act a).state = _ from h] <;> rfl) ?_), state⟩
    rw [act, unloadSample_of_not (show ((s.act a).sensed r a).state ≠ _ from out.1)]
    exact demand_hold (x := (s.act a).sensed r a) holds
  · obtain ⟨regs, -, unload⟩ := same (.inr stays)
    have out : (s.act a).state ≠ .active := by rw [show (s.act a).state = _ from unloading]; decide
    have act := finds.free (.inr out)
    have state : (unloadSample ((s.act a).sensed r a)).state = .unloading := by
      unfold unloadSample
      split <;> exact unloading
    refine regs.trans (worked (by rw [show (s.act a).state = _ from unloading]; rfl) ?_)
    rw [act, demand_unloading state, unloadSample_regs, unload, v.unload]
    rfl
  · exact (same (.inl (by rw [active]; decide))).2.1.trans active
  · have out : (s.act a).state ≠ .unloading := by rw [show (s.act a).state = _ from active]; decide
    refine (same (.inl out)).1.trans (worked (by rw [show (s.act a).state = _ from active]; rfl) ?_)
    rw [finds.free (.inl alone), unloadSample_of_not (show ((s.act a).sensed r a).state ≠ _ from out)]
    refine (demand_manual (x := (s.act a).sensed r a) active (finds.group.trans alone) manual).trans ?_
    rw [soloStages_eq]
    rfl
  · have out : (s.act a).state ≠ .unloading := by rw [show (s.act a).state = _ from active]; decide
    have handed := demand_sequencer (x := (s.act a).sensed r a) active (finds.group.trans alone) planned
    have kept : (seqSample s.psq).1.tracks = s.psq.tracks := seqSample_tracks s.psq
    have base : trackBase (s.sampleGroups r) a = roundDiv (s.psq.tracks[a].reference * t.psq.levels[a]) 10000 := by
      unfold trackBase
      rw [finds.psq, kept, levels]
    rw [base, finds.psq, kept, ← levels] at handed
    refine (same (.inl out)).1.trans ?_
    have servo : (s.act a).state.servoRuns = true := by rw [show (s.act a).state = _ from active]; rfl
    have act := finds.free (.inl alone)
    have first : unloadSample ((s.sampleGroups r).act a) = (s.act a).sensed r a := by
      rw [act, unloadSample_of_not (show ((s.act a).sensed r a).state ≠ _ from out)]
    by_cases same : s.psq.tracks[a].quantity = x.present
    · rw [if_pos same]
      rw [if_pos (show s.psq.tracks[a].quantity = ((s.act a).sensed r a).present from same), soloStages_eq] at handed
      exact worked servo (by rw [first]; exact handed)
    · rw [if_neg same]
      rw [if_neg (show ¬s.psq.tracks[a].quantity = ((s.act a).sensed r a).present from same)] at handed
      exact worked servo (by rw [first]; exact handed)
  · intro z
    have out : (s.act a).state ≠ .unloading := by rw [show (s.act a).state = _ from active]; decide
    obtain ⟨l, b, c, d, act⟩ := finds.act
    have regs := (same (.inl out)).1
    have handed := demand_member (x := (s.sampleGroups r).act a) (by rw [act]; exact active) (finds.group.trans member)
    have whole := worked (by rw [show (s.act a).state = _ from active]; rfl)
      ((congrArg (demand (s.sampleGroups r) a) (unloadSample_of_not (by rw [act]; exact out))).trans handed)
    have before : ((s.sampleGroups r).act a).regs = { x.regs with l := l, b := b, s := c, d := d } := by rw [act]
    have group : (s.sampleGroups r).group k = z := (runServos_group _ k).symm
    rw [before, group] at whole
    obtain ⟨kl, kb, ks, kd⟩ : y.regs.l = l ∧ y.regs.b = b ∧ y.regs.s = c ∧ y.regs.d = d := by
      rw [regs, whole]
      exact ⟨rfl, rfl, rfl, rfl⟩
    rw [kl, kb, ks, kd]
    exact regs.trans whole

end Sys2Proof.Machine

/-!
The sums of a load group's work (R53, R55, R95, R97, R103).
-/
namespace Sys2Proof.Machine

/-- Between 0 and y, on the side of σ, which is 1 or -1. -/
def Along (σ x y : Int) : Prop := 0 ≤ σ * x ∧ σ * x ≤ σ * y

theorem Along.trans {σ x y z : Int} (h : Along σ x y) (k : Along σ y z) : Along σ x z := ⟨h.1, h.2.trans k.2⟩

theorem along_sum {α : Type} {σ : Int} {f g : α → Int} (l : List α) (h : ∀ m ∈ l, Along σ (f m) (g m)) :
    Along σ (l.map f).sum (l.map g).sum := by
  induction l with
  | nil => simp [Along]
  | cons m l ih =>
    obtain ⟨low, high⟩ := ih fun x hx => h x (List.mem_cons_of_mem _ hx)
    obtain ⟨one, two⟩ := h m List.mem_cons_self
    simp only [Along, List.map_cons, List.sum_cons, mul_add]
    omega

/-- A number has a side, which what lies along it shares. -/
theorem exists_side (x : Int) : ∃ σ : Int, (σ = 1 ∨ σ = -1) ∧ 0 ≤ σ * x := by
  rcases le_total 0 x with h | h
  · exact ⟨1, .inl rfl, by omega⟩
  · exact ⟨-1, .inr rfl, by omega⟩

theorem Along.natAbs_le {σ x y : Int} (side : σ = 1 ∨ σ = -1) (h : Along σ x y) : x.natAbs ≤ y.natAbs := by
  obtain ⟨one, two⟩ := h
  rcases side with rfl | rfl <;> omega

theorem Along.signs {σ x y : Int} (side : σ = 1 ∨ σ = -1) (h : Along σ x y) : (0 ≤ y → 0 ≤ x) ∧ (y ≤ 0 → x ≤ 0) := by
  obtain ⟨one, two⟩ := h
  rcases side with rfl | rfl <;> omega

theorem along_tdiv {σ t : Int} (side : σ = 1 ∨ σ = -1) (h : 0 ≤ σ * t) {n k : Nat} (hn : n ≤ k) :
    Along σ ((t * n).tdiv k) t := by
  have main (u : Int) (hu : 0 ≤ u) : 0 ≤ (u * n).tdiv k ∧ (u * n).tdiv k ≤ u := by
    have pos : 0 ≤ u * n := Int.mul_nonneg hu (Int.natCast_nonneg n)
    refine ⟨Int.tdiv_nonneg pos (Int.natCast_nonneg k), ?_⟩
    rw [Int.tdiv_eq_ediv_of_nonneg pos]
    rcases Nat.eq_zero_or_pos k with rfl | hk
    · simpa using hu
    · refine Int.ediv_le_of_le_mul (by omega) ?_
      exact Int.mul_le_mul_of_nonneg_left (by omega) hu
  rcases side with rfl | rfl
  · simpa [Along] using main t (by omega)
  · have := main (-t) (by omega)
    rw [Int.neg_mul, Int.neg_tdiv] at this
    simpa [Along] using this

theorem along_derated {σ x : Int} (side : σ = 1 ∨ σ = -1) (h : 0 ≤ σ * x) {d : Int} (low : 0 ≤ d) (high : d ≤ 1000) :
    Along σ (derated x d) x := by
  have main (u : Int) (hu : 0 ≤ u) : 0 ≤ roundDiv (u * d) 1000 ∧ roundDiv (u * d) 1000 ≤ u := by
    refine ⟨roundDiv_nonneg (by decide) (Int.mul_nonneg hu low), ?_⟩
    calc roundDiv (u * d) 1000 ≤ roundDiv (u * 1000) 1000 := roundDiv_mono (by decide) (Int.mul_le_mul_of_nonneg_left high hu)
      _ = u := roundDiv_mul u (by decide)
  unfold derated
  rcases side with rfl | rfl
  · simpa [Along] using main x (by omega)
  · have := main (-x) (by omega)
    rw [Int.neg_mul, roundDiv_neg _ (by decide)] at this
    simpa [Along] using this

theorem along_handover {σ x room : Int} (side : σ = 1 ∨ σ = -1) (h : 0 ≤ σ * x) (hr : 0 ≤ room) : Along σ (handover x room) x := by
  unfold handover Along
  rcases side with rfl | rfl <;> split <;> omega

theorem along_clamp {σ x cap : Int} (side : σ = 1 ∨ σ = -1) (h : 0 ≤ σ * x) (hc : 0 ≤ cap) : Along σ (clamp x (-cap) cap) x := by
  unfold clamp Along
  rcases side with rfl | rfl <;> split_ifs <;> omega

/-- The other members' shares together do not exceed the total (R95). -/
theorem along_sum_tdiv {σ t : Int} (side : σ = 1 ∨ σ = -1) (h : 0 ≤ σ * t) (l : List (Fin 8 × Nat)) {k : Nat} (hk : 1 ≤ k)
    (hl : (l.map Prod.snd).sum ≤ k) : Along σ (l.map fun m => (t * m.2).tdiv k).sum t := by
  have main (u : Int) (hu : 0 ≤ u) (l : List (Fin 8 × Nat)) : 0 ≤ (l.map fun m => (u * m.2).tdiv k).sum ∧
      (l.map fun m => (u * m.2).tdiv k).sum * k ≤ u * (l.map Prod.snd).sum := by
    induction l with
    | nil => simp
    | cons m l ih =>
      obtain ⟨low, high⟩ := ih
      have pos : 0 ≤ u * m.2 := Int.mul_nonneg hu (Int.natCast_nonneg _)
      have part : (u * m.2).tdiv k * k ≤ u * m.2 := by
        rw [Int.tdiv_eq_ediv_of_nonneg pos]
        exact Int.ediv_mul_le _ (by omega)
      have first : 0 ≤ (u * m.2).tdiv k := Int.tdiv_nonneg pos (Int.natCast_nonneg k)
      simp only [List.map_cons, List.sum_cons, Int.add_mul, Nat.cast_add, Int.mul_add]
      omega
  have bound (u : Int) (hu : 0 ≤ u) : (l.map fun m => (u * m.2).tdiv k).sum ≤ u := by
    have pos : (0 : Int) < k := by omega
    refine Int.le_of_mul_le_mul_right ((main u hu l).2.trans ?_) pos
    exact Int.mul_le_mul_of_nonneg_left (by omega) hu
  rcases side with rfl | rfl
  · have := main t (by omega) l
    have := bound t (by omega)
    unfold Along
    omega
  · have low := (main (-t) (by omega) l).1
    have high := bound (-t) (by omega)
    have flip : (l.map fun m => ((-t) * m.2).tdiv k).sum = -(l.map fun m => (t * m.2).tdiv k).sum := by
      rw [List.sum_neg, List.map_map]
      simp only [Int.neg_mul, Int.neg_tdiv, Function.comp_def]
    rw [flip] at low high
    unfold Along
    omega

/-- The shares sum to the total, and each lies on its side (R95). -/
theorem shares_sum (total : Int) {l : List (Fin 8 × Nat)} (h : l ≠ []) : ((shares total l).map Prod.snd).sum = total := by
  cases l with
  | nil => exact absurd rfl h
  | cons m l => simp [shares]

theorem shares_side {σ total : Int} (side : σ = 1 ∨ σ = -1) (h : 0 ≤ σ * total) {l : List (Fin 8 × Nat)}
    (weights : ∀ m ∈ l, 1 ≤ m.2) : ∀ m ∈ shares total l, 0 ≤ σ * m.2 := by
  cases l with
  | nil => exact fun m hm => nomatch hm
  | cons first others =>
    have one : 1 ≤ first.2 := weights first List.mem_cons_self
    have sum : weightSum (first :: others) = first.2 + (others.map Prod.snd).sum := by simp [weightSum]
    intro m hm
    rcases List.mem_cons.1 hm with rfl | hm
    · have := (along_sum_tdiv side h others (k := weightSum (first :: others)) (by omega) (by omega)).2
      simp only [List.drop_succ_cons, List.drop_zero, List.map_map, Function.comp_def, truncDiv, mul_sub]
      omega
    · obtain ⟨x, hx, rfl⟩ := List.mem_map.1 hm
      refine (along_tdiv side h ?_).1
      have : x.2 ≤ ((others).map Prod.snd).sum := List.single_le_sum (fun _ _ => Nat.zero_le _) _ (List.mem_map_of_mem hx)
      omega

/-- What is given to one of a list in which none stands twice is given once, or not at all. -/
theorem sum_given (l : List (Fin 8 × Nat)) (once : (l.map Prod.fst).Nodup) (r : Option (Fin 8)) (x : Int) :
    (l.map fun m => if r = some m.1 then x else 0).sum = x ∨ (l.map fun m => if r = some m.1 then x else 0).sum = 0 := by
  induction l with
  | nil => exact .inr rfl
  | cons m l ih =>
    obtain ⟨out, once⟩ := List.nodup_cons.1 once
    simp only [List.map_cons, List.sum_cons]
    by_cases e : r = some m.1
    · have none : (l.map fun m => if r = some m.1 then x else 0) = l.map fun _ => (0 : Int) := by
        refine List.map_congr_left fun n hn => if_neg fun en => out ?_
        rw [Option.some.inj (e.symm.trans en)]
        exact List.mem_map_of_mem hn
      rw [none, if_pos e]
      simp
    · rw [if_neg e, zero_add]
      exact ih once

/-- The members' values after stage 6 stay within the total (R53, R55, R97, R103). -/
theorem along_members {σ : Int} (side : σ = 1 ∨ σ = -1) {l : List (Fin 8 × Nat)} (once : (l.map Prod.fst).Nodup)
    {share value : Fin 8 × Nat → Int} {cap : Fin 8 × Nat → Int} {r : Option (Fin 8)} {h sf : Int}
    (values : ∀ m ∈ l, Along σ (value m) (share m)) (caps : ∀ m ∈ l, 0 ≤ cap m) (given : Along σ h sf)
    (short : σ * sf ≤ σ * (l.map fun m => share m - value m).sum) :
    Along σ (l.map fun m => clamp (value m + if r = some m.1 then h else 0) (-cap m) (cap m)).sum (l.map share).sum := by
  have parts : (l.map fun m => share m - value m).sum = (l.map share).sum - (l.map value).sum := by
    have := List.sum_map_add (l := l) (f := fun m => share m - value m) (g := value)
    simp only [sub_add_cancel] at this
    exact eq_sub_of_add_eq this.symm
  have whole : (l.map fun m => value m + if r = some m.1 then h else 0).sum =
      (l.map value).sum + (l.map fun m => if r = some m.1 then h else 0).sum := List.sum_map_add ..
  have clamped : Along σ (l.map fun m => clamp (value m + if r = some m.1 then h else 0) (-cap m) (cap m)).sum
      (l.map fun m => value m + if r = some m.1 then h else 0).sum := by
    refine along_sum l fun m hm => along_clamp side ?_ (caps m hm)
    have := (values m hm).1
    have := given.1
    rw [mul_add]
    split <;> omega
  refine clamped.trans ⟨clamped.1.trans clamped.2, ?_⟩
  have := given.1.trans given.2
  have := given.2
  rw [parts, mul_sub] at short
  rw [whole, mul_add]
  rcases sum_given l once r h with e | e <;> rw [e] <;> omega

end Sys2Proof.Machine

/-!
One load group's work among that of the others (R94 to R104).
-/
namespace Sys2Proof.Machine

/-! ### What the other groups leave (R92, R104) -/

/-- No actuator is a member of two groups (R92). -/
def State.apart (s : State) : Prop :=
  ∀ g h : Fin 4, ∀ a : Fin 8, a ∈ (s.group g).members.map Prod.fst → a ∈ (s.group h).members.map Prod.fst → g = h

/-- A notice of a selection of a group (R102). -/
def Notice.isHandoverOf (g : Fin 4) (n : Notice) : Bool := (n.is .handover || n.is .handoverNone) && decide (n.subject = g.val)

/-- Group g's record and its members stand, and none of its notices is formed. -/
structure State.Beside (g : Fin 4) (s t : State) : Prop where
  grouped : s.Grouped t
  group : t.group g = s.group g
  notes : Forms s t (Notice.isHandoverOf g) []
  act : s.apart → ∀ a ∈ (s.group g).members.map Prod.fst, t.act a = s.act a

section

variable {g k : Fin 4} {s t u : State}

theorem State.Beside.refl (g : Fin 4) (s : State) : s.Beside g s := ⟨.rfl', rfl, Forms.of_sli rfl, fun _ _ _ => rfl⟩

theorem State.apart_of_members (h : ∀ j, (t.group j).members = (s.group j).members) (apart : s.apart) : t.apart := by
  intro i j a
  rw [h i, h j]
  exact apart i j a

theorem State.Beside.trans (h : s.Beside g t) (k : t.Beside g u) : s.Beside g u where
  grouped := h.grouped.trans k.grouped
  group := k.group.trans h.group
  notes := h.notes.trans k.notes
  act apart a ha := (k.act (State.apart_of_members h.grouped.members apart) a (by rw [h.group]; exact ha)).trans (h.act apart a ha)

theorem beside_modGroup (other : k ≠ g) {f : Group → Group} (hf : ∀ x, (f x).members = x.members) (s : State) :
    s.Beside g (s.modGroup k f) :=
  ⟨grouped_modGroup k hf s, by rw [State.modGroup_group, if_neg other], Forms.of_sli rfl, fun _ _ _ => rfl⟩

theorem beside_offer (other : k ≠ g) {n : Notice} (kind : n.kind = .handover ∨ n.kind = .handoverNone) (subject : n.subject = k.val)
    (s : State) : s.Beside g (offer n s) := by
  refine ⟨grouped_offer kind s, rfl, ?_, fun _ _ _ => rfl⟩
  have forms := Forms.offer (p := Notice.isHandoverOf g) n s
  have out : ¬Notice.isHandoverOf g n = true := fun h =>
    other (Fin.ext (subject.symm.trans (of_decide_eq_true (Bool.and_eq_true_iff.1 h).2)))
  rwa [if_neg out] at forms

theorem beside_shareTo (other : k ≠ g) (level base : Int) (l : List (Fin 8 × Int)) {s : State}
    (h : ∀ a ∈ l.map Prod.fst, a ∈ (s.group k).members.map Prod.fst ∧ (s.act a).state = .active) :
    s.Beside g (s.shareTo level base l) := by
  induction l generalizing s with
  | nil => exact .refl g s
  | cons m l ih =>
    obtain ⟨member, active⟩ := h m.1 List.mem_cons_self
    have ofMember : s.groupOf m.1 ≠ none := by
      obtain ⟨x, hx, e⟩ := List.mem_map.1 member
      exact e ▸ groupOf_of_member hx
    have one : s.Beside g (s.modAct m.1 (Actuator.shared level base m.2)) :=
      ⟨grouped_share ⟨ofMember, active⟩ level base m.2, rfl, Forms.of_sli rfl, fun apart a ha => by
        rw [State.modAct_act, if_neg fun e : m.1 = a => other (apart k g a (e ▸ member) ha)]⟩
    refine one.trans (ih fun a ha => ?_)
    obtain ⟨_, _, _, _, act⟩ := one.grouped.act a
    rw [one.grouped.members, act]
    exact h a (List.mem_cons_of_mem _ ha)

theorem mem_sharing {a : Fin 8} (h : a ∈ (s.sharing g).map Prod.fst) :
    a ∈ (s.group g).members.map Prod.fst ∧ (s.act a).state = .active := by
  obtain ⟨m, hm, rfl⟩ := List.mem_map.1 h
  exact ⟨List.mem_map_of_mem (List.mem_of_mem_filter hm), of_decide_eq_true (List.mem_filter.1 hm).2⟩

theorem beside_selectRecipient (other : k ≠ g) (s : State) : s.Beside g (selectRecipient k s) := by
  unfold selectRecipient
  dsimp only
  split
  · split
    · refine State.Beside.trans ?_ (beside_offer other (.inl rfl) rfl _)
      refine beside_modGroup other ?_ s
      exact fun _ => rfl
    · refine State.Beside.trans ?_ (beside_offer other (.inr rfl) rfl _)
      refine beside_modGroup other ?_ s
      exact fun _ => rfl
  · exact .refl g s

theorem beside_handGroup (other : k ≠ g) (s : State) : s.Beside g (handGroup k s) := by
  refine State.Beside.trans ?_ (beside_modGroup other (fun x => by dsimp only; split <;> rfl) _)
  refine State.Beside.trans ?_ (beside_selectRecipient other _)
  refine beside_modGroup other ?_ s
  exact fun _ => rfl

theorem beside_groupSample (other : k ≠ g) (s : State) : s.Beside g (groupSample k s) := by
  by_cases idle : (s.group k).lead = none ∨ s.sharing k = []
  · rw [groupSample_idle idle]
    exact beside_modGroup other (f := Group.idle) (fun _ => rfl) s
  · obtain ⟨led, sharing⟩ := not_or.1 idle
    obtain ⟨lead, hl⟩ := Option.ne_none_iff_exists'.1 led
    rw [groupSample_sharing hl sharing, formShares_eq]
    refine State.Beside.trans ?_ (beside_handGroup other _)
    refine State.Beside.trans ?_ (beside_modGroup other (f := Group.totalled _ _ _ _) (fun _ => rfl) _)
    exact beside_shareTo other _ _ _ fun a ha => mem_sharing (by rw [shares_members] at ha; exact ha)

end

/-- An ascending walk, seen from one of its places. -/
theorem forAsc_at {n : Nat} {f : Fin n → State → State} {R : State → State → Prop} (refl : ∀ s, R s s)
    (trans : ∀ {s t u}, R s t → R t u → R s u) (i : Fin n) (others : ∀ k, k ≠ i → ∀ s, R s (f k s)) (s : State) :
    ∃ m, R s m ∧ R (f i m) (forAsc n f s) := by
  have walk (l : List (Fin n)) (out : i ∉ l) (s : State) : R s (l.foldl (fun s i => f i s) s) := by
    induction l generalizing s with
    | nil => exact refl s
    | cons k l ih =>
      obtain ⟨hk, hl⟩ := not_or.1 (mt List.mem_cons.2 out)
      exact trans (others k (Ne.symm hk) s) (ih hl _)
  obtain ⟨before, after, e⟩ := List.append_of_mem (List.mem_finRange i)
  have once := List.nodup_finRange n
  rw [e] at once
  obtain ⟨-, tail, apart⟩ := List.nodup_append.1 once
  refine ⟨before.foldl (fun s i => f i s) s, walk before (fun h => apart _ h _ List.mem_cons_self rfl) s, ?_⟩
  unfold forAsc
  rw [e, List.foldl_append, List.foldl_cons]
  exact walk after (List.nodup_cons.1 tail).1 _

theorem sampleGroups_at (r : Readings) (s : State) (g : Fin 4) :
    ∃ m, (s.sampleStart r).Beside g m ∧ (groupSample g m).Beside g (s.sampleGroups r) :=
  forAsc_at (State.Beside.refl g) (fun h k => h.trans k) g (fun _ other s => beside_groupSample other s) _

/-! ### The group's own work (R95 to R104) -/

section

variable {g : Fin 4} {s t : State}

theorem State.Grouped.sharing (h : s.Grouped t) (g : Fin 4) : t.sharing g = s.sharing g := by
  have state (a : Fin 8) : t.inShare a = s.inShare a := by
    obtain ⟨_, _, _, _, act⟩ := h.act a
    unfold State.inShare
    rw [act]
  unfold State.sharing
  rw [h.members]
  simp only [state]

theorem shareTo_other (level base : Int) (l : List (Fin 8 × Int)) {a : Fin 8} (out : a ∉ l.map Prod.fst) (s : State) :
    (s.shareTo level base l).act a = s.act a := by
  induction l generalizing s with
  | nil => rfl
  | cons m l ih =>
    obtain ⟨hm, hl⟩ := not_or.1 (mt List.mem_cons.2 out)
    refine (ih hl _).trans ?_
    rw [State.modAct_act, if_neg (Ne.symm hm)]

theorem shareTo_sli (level base : Int) (l : List (Fin 8 × Int)) (s : State) : (s.shareTo level base l).sli = s.sli :=
  foldl_same (f := fun (s : State) (m : Fin 8 × Int) => s.modAct m.1 (Actuator.shared level base m.2)) State.sli (fun _ _ => rfl) l s

theorem shareTo_group (level base : Int) (l : List (Fin 8 × Int)) (s : State) (g : Fin 4) :
    (s.shareTo level base l).group g = s.group g := 
  foldl_same (f := fun (s : State) (m : Fin 8 × Int) => s.modAct m.1 (Actuator.shared level base m.2)) (State.group · g) (fun _ _ => rfl) l s

theorem shareTo_act (level base : Int) (l : List (Fin 8 × Int)) (once : (l.map Prod.fst).Nodup) (s : State) :
    ∀ m ∈ l, (s.shareTo level base l).act m.1 = (s.act m.1).shared level base m.2 := by
  induction l generalizing s with
  | nil => exact fun m hm => nomatch hm
  | cons x l ih =>
    obtain ⟨out, once⟩ := List.nodup_cons.1 once
    intro m hm
    rcases List.mem_cons.1 hm with rfl | hm
    · refine (shareTo_other level base l out _).trans ?_
      exact State.modAct_act_same ..
    · refine (ih once _ m hm).trans ?_
      rw [State.modAct_act, if_neg fun e => out (by rw [e]; exact List.mem_map_of_mem hm)]

/-- A group's record after a selection (R99 to R101). -/
def Group.selected (time : Nat × Nat) (choice : Option (Fin 8)) (x : Group) : Group :=
  { x with due := false, recipient := choice, selTime := some time
           lru := match choice with
             | none => x.lru
             | some a => x.lru.filter (fun b => b ≠ a) ++ [a] }

/-- The notice of a selection (R102). -/
def selectionNote (g : Fin 4) (s : State) (choice : Option (Fin 8 × Int)) : Notice :=
  match choice with
  | some (a, u) => s.notice .handover g.val a.val (s.group g).reasons.code u (s.group g).sf
  | none => s.notice .handoverNone g.val 65535 (s.group g).reasons.code (s.sharing g).length (s.group g).sf

theorem selectRecipient_due (h : (s.group g).due = true) : selectRecipient g s =
    offer (selectionNote g s (lowest (candidates g s)))
      (s.modGroup g (Group.selected (s.time, s.psq.totalCycles) ((lowest (candidates g s)).map Prod.fst))) := by
  unfold selectRecipient
  dsimp only
  rw [if_pos h]
  cases e : lowest (candidates g s) with
  | none =>
    obtain ⟨m, hm⟩ : ∃ m, m = s.modGroup g (Group.selected (s.time, s.psq.totalCycles) none) := ⟨_, rfl⟩
    have sharing : m.sharing g = s.sharing g := hm ▸ (grouped_modGroup g (f := Group.selected _ none) (fun _ => rfl) s).sharing g
    show offer (s.notice .handoverNone g.val 65535 (s.group g).reasons.code
      ((s.modGroup g (Group.selected (s.time, s.psq.totalCycles) none)).sharing g).length (s.group g).sf) _ = _
    rw [← hm, sharing]
    rfl
  | some x => rfl

theorem selectRecipient_idle (h : (s.group g).due = false) : selectRecipient g s = s := by
  unfold selectRecipient
  dsimp only
  rw [if_neg (by rw [h]; decide)]

/-- What a selection writes of its group's record. -/
theorem selectRecipient_group (g : Fin 4) (s : State) : ∃ due r time lru, (selectRecipient g s).group g =
    { s.group g with due := due, recipient := r, selTime := time, lru := lru } := by
  cases due : (s.group g).due with
  | false =>
    rw [selectRecipient_idle due]
    exact ⟨_, _, _, _, rfl⟩
  | true =>
    rw [selectRecipient_due due]
    refine ⟨_, _, _, _, (State.modGroup_group (s := s) ..).trans (if_pos rfl)⟩

/-- The handover amount of a recipient (R103). -/
def State.handedOver (s : State) (sf : Int) : Option (Fin 8) → Int
  | none => 0
  | some a => handover sf (headroom (s.act a).cfg.capacity (s.act a).regs.d)

/-- What the group's work after its shares makes of its record (R97, R100, R103). -/
theorem handGroup_group (g : Fin 4) (s : State) : ∃ due r time lru, (handGroup g s).group g =
    { s.group g with
        sf := shortfall g s, due := due, recipient := r, selTime := time, lru := lru
        h := s.handedOver (shortfall g s) r, uncarried := shortfall g s - s.handedOver (shortfall g s) r } := by
  obtain ⟨m, hm⟩ : ∃ m, m = s.modGroup g fun y => { y with sf := shortfall g s } := ⟨_, rfl⟩
  obtain ⟨due, r, time, lru, e⟩ := selectRecipient_group g m
  have group : m.group g = { s.group g with sf := shortfall g s } := by
    rw [hm]
    exact (State.modGroup_group ..).trans (if_pos rfl)
  have act (a : Fin 8) : (selectRecipient g m).act a = s.act a := by
    rw [selectRecipient_act, hm]; rfl
  refine ⟨due, r, time, lru, ?_⟩
  unfold handGroup formHandover
  rw [← hm, State.modGroup_group, if_pos rfl, e, group]
  cases r with
  | none => simp [State.handedOver]
  | some a => simp only [act, State.handedOver]

theorem handGroup_act (g : Fin 4) (s : State) (a : Fin 8) : (handGroup g s).act a = s.act a := by
  unfold handGroup formHandover
  rw [State.modGroup_act, selectRecipient_act]
  rfl

end

/-! ### The shares of a sample -/

/-- B of a group at a sample (R52, R95). -/
def State.sampleBase (s : State) (lead : Fin 8) : Int :=
  roundDiv (s.psq.tracks[lead].reference * (seqSample s.psq).1.levels[lead]) 10000

/-- The total of a group at a sample (R95). -/
def State.sampleTotal (s : State) (g : Fin 4) (lead : Fin 8) : Int :=
  groupTotal (s.group g).carry (s.sampleBase lead) (weightSum (s.sharing g)) (weightSum (s.group g).members)

/-- The state in which group g has given its shares, and what of it the rest of the sample's group work takes. -/
structure State.Shared (r : Readings) (s : State) (g : Fin 4) (lead : Fin 8) (f : State) : Prop where
  grouped : (s.sampleStart r).Grouped f
  notes : Forms s f (Notice.isHandoverOf g) []
  group : f.group g = (s.group g).totalled ((s.sharing g).map Prod.fst) (s.sampleBase lead) (s.sampleTotal g lead)
    (weightSum (s.sharing g))
  act : s.apart → ((s.sharing g).map Prod.fst).Nodup → ∀ m ∈ shares (s.sampleTotal g lead) (s.sharing g),
    f.act m.1 = ((s.act m.1).sensed r m.1).shared (seqSample s.psq).1.levels[lead] (s.sampleBase lead) m.2
  after : (handGroup g f).Beside g (s.sampleGroups r)

theorem sharing_sampleStart (r : Readings) (s : State) (g : Fin 4) : (s.sampleStart r).sharing g = s.sharing g := by
  have state (a : Fin 8) : (s.sampleStart r).inShare a = s.inShare a := by
    unfold State.inShare
    rw [sampleStart_act]; rfl
  unfold State.sharing
  simp only [state] <;> rfl

theorem shared_sample (r : Readings) {s : State} {g : Fin 4} {lead : Fin 8} (hl : (s.group g).lead = some lead)
    (hs : s.sharing g ≠ []) : ∃ f, s.Shared r g lead f := by
  obtain ⟨m, before, after⟩ := sampleGroups_at r s g
  have sharing : m.sharing g = s.sharing g := (before.grouped.sharing g).trans (sharing_sampleStart r s g)
  have group : m.group g = s.group g := before.group
  have psq : m.psq = (seqSample s.psq).1 := by
    obtain ⟨_, _, _, _, rest⟩ := before.grouped.rest
    rw [rest]; rfl
  have base : trackBase m lead = s.sampleBase lead := by
    unfold trackBase State.sampleBase
    rw [psq, seqSample_tracks]
  rw [groupSample_sharing (by rw [group]; exact hl) (by rw [sharing]; exact hs)] at after
  obtain ⟨f, hf⟩ : ∃ f, f = formShares g lead m := ⟨_, rfl⟩
  rw [← hf] at after
  have given := hf
  rw [formShares_eq, sharing, group, base, psq] at given
  refine ⟨f, hf ▸ before.grouped.trans (grouped_formShares g lead m), ?_, ?_, fun apart once p hp => ?_, after⟩
  · have start : Forms s (s.sampleStart r) (Notice.isHandoverOf g) [] := Forms.of_sli rfl
    have shared : Forms m f (Notice.isHandoverOf g) [] := Forms.of_sli (by rw [given]; exact shareTo_sli ..)
    exact (start.trans before.notes).trans shared
  · rw [given]
    refine (State.modGroup_group ..).trans ((if_pos rfl).trans ?_)
    rw [shareTo_group, group]
    rfl
  · rw [given]
    refine (shareTo_act _ _ _ (by rw [shares_members]; exact once) m p hp).trans ?_
    have member : p.1 ∈ (s.group g).members.map Prod.fst := by
      have := List.mem_map_of_mem (f := Prod.fst) hp
      rw [shares_members] at this
      exact (mem_sharing this).1
    rw [before.act apart p.1 member, sampleStart_act]

/-- A member's registers in share after the sample (R53 to R55, R104). -/
structure Regs.OfMember (x : Actuator) (level base share given : Int) (y : Regs) : Prop where
  l : y.l = level
  b : y.b = base
  s : y.s = share
  d : y.d = derated share x.derate
  h : y.h = capacityClamp x (y.d + given)

/-- The group's record after the sample, and its members' registers. -/
structure State.GroupDone (r : Readings) (s : State) (g : Fin 4) (lead : Fin 8) (f v : State) : Prop where
  group : v.group g = (handGroup g f).group g
  regs : ∀ m ∈ shares (s.sampleTotal g lead) (s.sharing g), (v.act m.1).regs.OfMember (s.act m.1)
    (seqSample s.psq).1.levels[lead] (s.sampleBase lead) m.2 (if (v.group g).recipient = some m.1 then (v.group g).h else 0)
  sharer : ∀ m ∈ shares (s.sampleTotal g lead) (s.sharing g), (f.act m.1).derate = (s.act m.1).derate ∧
    (f.act m.1).cfg = (s.act m.1).cfg ∧ (f.act m.1).regs.s = (v.act m.1).regs.s ∧ (f.act m.1).regs.d = (v.act m.1).regs.d

theorem sampleValues_group (r : Readings) (s : State) (g : Fin 4) :
    (sampleValues r s).1.group g = (s.sampleGroups r).group g := by
  rw [sampleValues_eq]; rfl

/-- A member's registers after the sample, from those it has when the group has shared. -/
theorem State.Shared.member_regs {r : Readings} {s f : State} {g : Fin 4} {lead : Fin 8} (h : s.Shared r g lead f) (law : s.groupLaw)
    {a : Fin 8} (member : a ∈ (s.group g).members.map Prod.fst) (active : (s.act a).state = .active) :
    ((sampleValues r s).1.act a).regs = (s.act a).chained s.svc.windows a ((sampleValues r s).1.act a).force
      ((sampleValues r s).1.act a).stroke (f.act a).regs
      ((f.act a).regs.d + if ((sampleValues r s).1.group g).recipient = some a then ((sampleValues r s).1.group g).h else 0) := by
  have now : (s.sampleGroups r).act a = f.act a := by
    have apart := State.apart_of_members h.grouped.members law.1
    rw [h.after.act (State.apart_of_members (grouped_handGroup g f).members apart) a ?_, handGroup_act]
    rw [(grouped_handGroup g f).members, h.grouped.members]
    exact member
  have finds := finds_sampleGroups r s a
  have state : ((s.sampleGroups r).act a).state = .active := by
    obtain ⟨_, _, _, _, act⟩ := finds.act
    rw [act]; exact active
  have handed := demand_member (a := a) state (finds.group.trans ((groupOf_eq_some_iff law).2 member))
  have first : unloadSample ((s.sampleGroups r).act a) = (s.sampleGroups r).act a :=
    unloadSample_of_not (by rw [state]; decide)
  refine (sampleValues_runs r s a (by rw [active]; rfl) ((congrArg _ first).trans handed)).trans ?_
  rw [now, sampleValues_group]

theorem groupDone {r : Readings} {s f : State} {g : Fin 4} {lead : Fin 8} (h : s.Shared r g lead f) (law : s.groupLaw)
    (once : ((s.sharing g).map Prod.fst).Nodup) : s.GroupDone r g lead f (sampleValues r s).1 := by
  have group : (sampleValues r s).1.group g = (handGroup g f).group g := (sampleValues_group r s g).trans h.after.group
  have regs (m : Fin 8 × Int) (hm : m ∈ shares (s.sampleTotal g lead) (s.sharing g)) :
      ((sampleValues r s).1.act m.1).regs.OfMember (s.act m.1) (seqSample s.psq).1.levels[lead] (s.sampleBase lead) m.2
        (if ((sampleValues r s).1.group g).recipient = some m.1 then ((sampleValues r s).1.group g).h else 0) := by
    have found := List.mem_map_of_mem (f := Prod.fst) hm
    rw [shares_members] at found
    obtain ⟨member, active⟩ := mem_sharing found
    rw [h.member_regs law member active, h.act law.1 once m hm]
    exact ⟨rfl, rfl, rfl, rfl, rfl⟩
  refine ⟨group, regs, fun m hm => ?_⟩
  have now := regs m hm
  rw [h.act law.1 once m hm]
  exact ⟨rfl, rfl, now.s.symm, now.d.symm⟩

/-- The shortfall, over all IN_SHARE members: those without a derate add nothing (R97). -/
theorem shortfall_eq {g : Fin 4} {s : State} (full : ∀ m ∈ s.sharing g, (s.act m.1).derate ≤ 1000)
    (undiminished : ∀ m ∈ s.sharing g, (s.act m.1).derate = 1000 → (s.act m.1).regs.d = (s.act m.1).regs.s) :
    shortfall g s = if (s.group g).carry then ((s.sharing g).map fun m => (s.act m.1).regs.s - (s.act m.1).regs.d).sum else 0 := by
  have rest (l : List (Fin 8 × Nat)) (hl : ∀ m ∈ l, m ∈ s.sharing g) :
      ((l.filter fun m => decide ((s.act m.1).derate < 1000)).map fun m => (s.act m.1).regs.s - (s.act m.1).regs.d).sum =
        (l.map fun m => (s.act m.1).regs.s - (s.act m.1).regs.d).sum := by
    induction l with
    | nil => rfl
    | cons m l ih =>
      have mine := hl m List.mem_cons_self
      have tail := ih fun x hx => hl x (List.mem_cons_of_mem _ hx)
      by_cases low : (s.act m.1).derate < 1000
      · rw [List.filter_cons_of_pos (by simpa using low), List.map_cons, List.map_cons, List.sum_cons, List.sum_cons, tail]
      · have whole := undiminished m mine (by have := full m mine; omega)
        rw [List.filter_cons_of_neg (by simpa using low), List.map_cons, List.sum_cons, tail, whole]
        omega
  unfold shortfall State.short
  cases (s.group g).carry with
  | false => simp
  | true =>
    by_cases some : ((s.sharing g).any fun m => decide ((s.act m.1).derate < 1000)) = true
    · rw [some, if_pos (by rfl), rest _ fun _ => id]
      rfl
    · rw [if_neg (by simpa using some), ← rest _ fun _ => id, List.filter_eq_nil_iff.2 fun m hm => ?_]
      · rfl
      · exact fun h => some (List.any_eq_true.2 ⟨m, hm, h⟩)

theorem weightSum_sharing_le (s : State) (g : Fin 4) : weightSum (s.sharing g) ≤ weightSum (s.group g).members :=
  (List.filter_sublist.map Prod.snd).sum_le_sum fun _ _ => Nat.zero_le _

theorem along_groupTotal {σ base : Int} (side : σ = 1 ∨ σ = -1) (h : 0 ≤ σ * base) (carry : Bool) {n k : Nat} (hn : n ≤ k) :
    Along σ (groupTotal carry base n k) base := by
  unfold groupTotal
  split
  · exact ⟨h, le_refl _⟩
  · exact along_tdiv side h hn

theorem derated_1000 (x : Int) : derated x 1000 = x := roundDiv_mul x (by decide)

/-- Settles O38. -/
theorem groupStaysWithinItsTotal : Obligations.GroupStaysWithinItsTotal := by
  intro r s g lead first others law head once weights sharing members v y reg wIn wAll sum room
  have hl : (s.group g).lead = some lead.1 := by
    unfold Group.lead
    rw [head]; rfl
  have hs : s.sharing g ≠ [] := by rw [sharing]; exact List.cons_ne_nil _ _
  have onceIn : ((s.sharing g).map Prod.fst).Nodup := once.sublist (List.filter_sublist.map Prod.fst)
  obtain ⟨f, shared⟩ := shared_sample r hl hs
  have done := groupDone shared law onceIn
  have psq : v.psq = (seqSample s.psq).1 := by
    obtain ⟨_, _, _, _, rest⟩ := sampleValues_rest r s
    rw [show v = _ from rest]
  obtain ⟨due, rec, time, lru, hand⟩ := handGroup_group g f
  rw [shared.group] at hand
  have group : y = _ := done.group.trans hand
  have shareOf {m : Fin 8 × Nat} (hm : m ∈ s.sharing g) : (m.1, (reg m).s) ∈ shares (s.sampleTotal g lead.1) (s.sharing g) := by
    have := List.mem_map_of_mem (f := Prod.fst) hm
    rw [← shares_members (s.sampleTotal g lead.1)] at this
    obtain ⟨x, hx, e⟩ := List.mem_map.1 this
    have s := (done.regs x hx).s
    rw [e] at s
    rwa [show (reg m).s = x.2 from s, ← e]
  have ofMember {m : Fin 8 × Nat} (hm : m ∈ s.sharing g) := done.regs _ (shareOf hm)
  have sums : ((s.sharing g).map fun m => (reg m).s) = (shares (s.sampleTotal g lead.1) (s.sharing g)).map Prod.snd := by
    have : ((s.sharing g).map Prod.fst).map (fun a => (v.act a).regs.s) =
        ((shares (s.sampleTotal g lead.1) (s.sharing g)).map Prod.fst).map fun a => (v.act a).regs.s := by
      rw [shares_members]
    rw [List.map_map, List.map_map] at this
    exact this.trans (List.map_congr_left fun m hm => (done.regs m hm).s)
  have sharer {m : Fin 8 × Nat} (hm : m ∈ s.sharing g) := done.sharer _ (shareOf hm)
  have sameSharing : f.sharing g = s.sharing g := by
    rw [shared.grouped.sharing]
    exact sharing_sampleStart r s g
  have short : shortfall g f = if (s.group g).carry then sum fun m => (reg m).s - (reg m).d else 0 := by
    rw [shortfall_eq, sameSharing, shared.group]
    · refine if_congr Iff.rfl (congrArg List.sum (List.map_congr_left fun m hm => ?_)) rfl
      obtain ⟨-, -, hs, hd⟩ := sharer hm
      rw [hs, hd]
    · rw [sameSharing]
      intro m hm
      rw [(sharer hm).1]
      exact (members m hm).2.2.1
    · rw [sameSharing]
      intro m hm full
      obtain ⟨hderate, -, hs, hd⟩ := sharer hm
      rw [hs, hd, (ofMember hm).d, ← hderate, full, derated_1000]
  have handed : y.h = match y.recipient with
      | none => 0
      | some a => handover y.sf (room a) := by
    rw [group]
    cases hrec : rec with
    | none => rfl
    | some a =>
      have law' : v.groupLaw := fine_groupLaw.kept.sampleValues r law
      obtain ⟨member, share, -⟩ := law'.2.2 g a (by rw [show v.group g = _ from group, hrec])
      rw [sampleValues_members] at member
      obtain ⟨m, hm, rfl⟩ := List.mem_map.1 member
      have active : (s.act m.1).state = .active := (valued_sampleValues r s m.1).state.symm.trans (of_decide_eq_true share)
      obtain ⟨-, hcfg, -, hd⟩ := sharer (List.mem_filter.2 ⟨hm, decide_eq_true active⟩)
      show handover (shortfall g f) (headroom (f.act m.1).cfg.capacity (f.act m.1).regs.d) = _
      rw [hcfg, hd]
      rfl
  have base : y.base = s.sampleBase lead.1 := by rw [group]; rfl
  have total : y.total = s.sampleTotal g lead.1 := by rw [group]; rfl
  have level : v.psq.levels[lead.1] = (seqSample s.psq).1.levels[lead.1] := by rw [psq]
  have sf : y.sf = if (s.group g).carry then sum fun m => (reg m).s - (reg m).d else 0 := by rw [group, ← short]
  have whole : sum (fun m => (reg m).s) = y.total :=
    (congrArg List.sum sums).trans ((shares_sum _ hs).trans total.symm)
  have values {m : Fin 8 × Nat} (hm : m ∈ s.sharing g) :
      (reg m).h = clamp ((reg m).d + if y.recipient = some m.1 then y.h else 0) (-(s.act m.1).cfg.capacity) (s.act m.1).cfg.capacity := by
    refine (ofMember hm).h.trans ?_
    unfold capacityClamp
    rw [(members m hm).1]
    rfl
  obtain ⟨σ, side, sign⟩ := exists_side (s.sampleBase lead.1)
  have within : Along σ (s.sampleTotal g lead.1) (s.sampleBase lead.1) :=
    along_groupTotal side sign _ (weightSum_sharing_le s g)
  have shareSide {m : Fin 8 × Nat} (hm : m ∈ s.sharing g) : 0 ≤ σ * (reg m).s :=
    shares_side side within.1 (fun m hm => weights m (List.mem_of_mem_filter hm)) _ (shareOf hm)
  have derates {m : Fin 8 × Nat} (hm : m ∈ s.sharing g) : Along σ (reg m).d (reg m).s := by
    rw [show (reg m).d = _ from (ofMember hm).d]
    exact along_derated side (shareSide hm) (members m hm).2.1 (members m hm).2.2.1
  have removed : 0 ≤ σ * y.sf ∧ σ * y.sf ≤ σ * sum fun m => (reg m).s - (reg m).d := by
    have parts : Along σ (sum fun m => (reg m).s - (reg m).d) (sum fun m => (reg m).s) := by
      refine along_sum _ fun m hm => ?_
      have := derates hm
      unfold Along at *
      rw [mul_sub]
      omega
    rw [sf]
    split
    · exact ⟨parts.1, le_refl _⟩
    · rw [mul_zero]; exact ⟨le_refl _, parts.1⟩
  have given : Along σ y.h y.sf := by
    rw [handed]
    cases y.recipient with
    | none => exact ⟨by rw [mul_zero], by rw [mul_zero]; exact removed.1⟩
    | some a => exact along_handover side removed.1 (le_max_left ..)
  have inside : Along σ (sum fun m => (reg m).h) (s.sampleTotal g lead.1) := by
    have := along_members side onceIn (fun m hm => derates hm) (fun m hm => (by have := (members m hm).2.2.2; omega :
      0 ≤ (s.act m.1).cfg.capacity)) (r := y.recipient) given removed.2
    rw [← total, ← whole]
    exact (congrArg (Along σ · _) (congrArg List.sum (List.map_congr_left fun m hm => values hm))).mpr this
  have all := inside.trans within
  refine ⟨by rw [group]; rfl, by rw [group]; rfl, base.trans (by rw [level]; rfl), ?_, fun m hm => ?_, whole, fun m hm => ?_,
    sf, handed, by rw [group], fun m hm => values hm, ?_, ?_, ?_, ?_, fun hset adv => ?_⟩
  · rw [total, base]; rfl
  · have entry : (m.1, truncDiv (y.total * m.2) wIn) ∈ shares (s.sampleTotal g lead.1) (s.sharing g) := by
      rw [total, sharing]
      refine List.mem_cons_of_mem _ (List.mem_map.2 ⟨m, hm, ?_⟩)
      rw [← sharing]; rfl
    exact (done.regs _ entry).s
  · have mine := ofMember hm
    refine ⟨mine.b.trans base.symm, mine.l.trans level.symm, ?_⟩
    exact mine.d
  · rw [base]; exact (all.signs side).1
  · rw [base]; exact (all.signs side).2
  · rw [total]; exact inside.natAbs_le side
  · rw [total, base]; exact within.natAbs_le side
  · obtain ⟨t, h⟩ := samples (r := r) hset adv
    refine ⟨t, h.run, fun m hm => ?_⟩
    have active : (s.act m.1).state = .active := (mem_sharing (List.mem_map_of_mem hm)).2
    have stays : unloadDue ((sampleValues r s).1.act m.1) = false := by
      by_contra due
      rw [Bool.not_eq_false] at due
      have := (valued_sampleValues r s m.1).state.symm.trans (unloadDue_state due)
      rw [active] at this
      exact nomatch this
    obtain ⟨_, e⟩ := h.act_of_not_due stays
    rw [e]

end Sys2Proof.Machine

/-!
Selections of a control sample (R95, R97 to R102, R104).
-/
namespace Sys2Proof.Machine

/-! ### The choice (R100) -/

/-- The choice stands where all before it are greater, and none after it is less. -/
theorem lowest_append_cons {before after : List (Fin 8 × Int)} {x : Fin 8 × Int} (hb : ∀ y ∈ before, x.2 < y.2)
    (ha : ∀ y ∈ after, x.2 ≤ y.2) : lowest (before ++ x :: after) = some x := by
  have first : lowest (before ++ [x]) = some x := by
    unfold lowest
    rw [List.foldl_append, List.foldl_cons, List.foldl_nil]
    cases e : lowest before with
    | none =>
      rw [show List.foldl _ none before = none from e]
    | some y =>
      rw [show List.foldl _ none before = some y from e]
      exact if_pos (hb y (lowest_mem e))
  have rest (l : List (Fin 8 × Int)) (hl : ∀ y ∈ l, x.2 ≤ y.2) : lowest (before ++ x :: l) = some x := by
    induction l using List.reverseRecOn with
    | nil => exact first
    | append_singleton l y ih =>
      have walked := ih fun z hz => hl z (List.mem_append_left _ hz)
      unfold lowest at *
      rw [← List.cons_append, ← List.append_assoc, List.foldl_append, walked, List.foldl_cons, List.foldl_nil]
      exact if_neg (by have := hl y (List.mem_append_right _ (List.mem_singleton.2 rfl)); omega)
  exact rest after ha

/-- The choice of a list in tie order (R100). -/
theorem lowest_of_best {order : List (Fin 8)} {p : Fin 8 → Bool} {use : Fin 8 → Int} {a : Fin 8} (mem : a ∈ order) (ha : p a = true)
    (best : ∀ b ∈ order, p b = true → use a ≤ use b ∧ (use a = use b → order.idxOf a ≤ order.idxOf b)) :
    lowest ((order.filter p).map fun b => (b, use b)) = some (a, use a) := by
  obtain ⟨before, after, e, out⟩ := List.eq_append_cons_of_mem mem
  have place : order.idxOf a = before.length := by
    rw [e, List.idxOf_append_of_notMem out, List.idxOf_cons_self, Nat.add_zero]
  rw [e, List.filter_append, List.filter_cons_of_pos ha, List.map_append, List.map_cons]
  refine lowest_append_cons (fun y hy => ?_) fun y hy => ?_
  · obtain ⟨b, hb, rfl⟩ := List.mem_map.1 hy
    obtain ⟨mb, pb⟩ := List.mem_filter.1 hb
    obtain ⟨low, tie⟩ := best b (by rw [e]; exact List.mem_append_left _ mb) pb
    refine lt_of_le_of_ne low fun same => ?_
    have earlier : order.idxOf b < before.length := by
      rw [e, List.idxOf_append_of_mem mb]
      exact List.idxOf_lt_length_iff.2 mb
    have := tie same
    omega
  · obtain ⟨b, hb, rfl⟩ := List.mem_map.1 hy
    obtain ⟨mb, pb⟩ := List.mem_filter.1 hb
    exact (best b (by rw [e]; exact List.mem_append_right _ (List.mem_cons_of_mem _ mb)) pb).1

/-- The order of a selection: the LRU order or the members' (R100, R101). -/
def Group.order (x : Group) : List (Fin 8) :=
  match x.tie with
  | .lru => x.lru
  | .first => x.members.map Prod.fst

/-- A member a selection may take (R100). -/
def State.eligible (s : State) (a : Fin 8) : Bool :=
  s.inShare a && decide ((s.act a).derate = 1000) && decide (0 < headroom (s.act a).cfg.capacity (s.act a).regs.d)

theorem candidates_eq (g : Fin 4) (s : State) : candidates g s =
    ((s.group g).order.filter s.eligible).map fun a => (a, utilization (s.act a).cfg.capacity (s.act a).regs.d) := rfl

/-! ### The selection in its group's work (R104) -/

/-- The state in which the selection of a group is made. -/
def State.selects (g : Fin 4) (s : State) : State := s.modGroup g fun y => { y with sf := shortfall g s }

/-- What the handover amounts leave of a selection. -/
theorem handGroup_selection (g : Fin 4) (s : State) : (handGroup g s).sli = (selectRecipient g (s.selects g)).sli ∧
    ∃ h u, (handGroup g s).group g = { (selectRecipient g (s.selects g)).group g with h := h, uncarried := u } := by
  refine ⟨rfl, ?_⟩
  show ∃ h u, (formHandover g (selectRecipient g (s.selects g))).group g = _
  unfold formHandover
  rw [State.modGroup_group, if_pos rfl]
  split <;> exact ⟨_, _, rfl⟩

theorem selects_group (g : Fin 4) (s : State) : (s.selects g).group g = { s.group g with sf := shortfall g s } :=
  (State.modGroup_group ..).trans (if_pos rfl)

/-- A sample of the sequencer forms notices of its own state alone. -/
theorem endNotes_noHandover (o : SeqOut) (q : Sequencer) (time : Nat) (g : Fin 4) :
    (o.endNotes q time).filter (Notice.isHandoverOf g) = [] := by
  refine List.filter_eq_nil_iff.2 fun n hn => ?_
  simp [Notice.isHandoverOf, Notice.is, o.endNotes_kind q time n hn]

/-- The selection notices of a sample, from those of the group's own work. -/
theorem State.Samples.selections {r : Readings} {s t : State} (h : s.Samples r t) {g : Fin 4} {l : List Notice}
    (own : Forms s (s.sampleGroups r) (Notice.isHandoverOf g) l) : Forms s t (Notice.isHandoverOf g) l := by
  have rest := h.sampled.notes (Notice.isHandoverOf g) fun n hn => ?_
  · rw [endNotes_noHandover] at rest
    have values : Forms (s.sampleGroups r) (sampleValues r s).1 (Notice.isHandoverOf g) [] := Forms.of_sli rfl
    have := (own.trans values).trans rest
    rwa [List.append_nil, List.append_nil] at this
  · simp only [Notice.isHandoverOf, Notice.is, Bool.and_eq_true, Bool.or_eq_true, decide_eq_true_eq] at hn
    rcases hn.1 with e | e <;> rw [e] <;> exact ⟨by decide, by decide, by decide⟩

/-- The eligible members of a selection, as the values of the sample show them. -/
theorem State.Shared.eligible {r : Readings} {s f : State} {g : Fin 4} {lead : Fin 8} (h : s.Shared r g lead f) (law : s.groupLaw)
    {a : Fin 8} (mem : a ∈ (s.group g).order) :
    ((f.selects g).eligible a = true ↔ (s.act a).state = .active ∧ (s.act a).derate = 1000 ∧
      (((sampleValues r s).1.act a).regs.d.natAbs : Int) < (s.act a).cfg.capacity) ∧
    ((s.act a).state = .active → utilization ((f.selects g).act a).cfg.capacity ((f.selects g).act a).regs.d =
      ((((sampleValues r s).1.act a).regs.d.natAbs : Int) * 1000).tdiv (s.act a).cfg.capacity) := by
  have member : a ∈ (s.group g).members.map Prod.fst := by
    unfold Group.order at mem
    split at mem
    · exact law.2.1 g a mem
    · exact mem
  have now : (f.selects g).act a = f.act a := rfl
  obtain ⟨_, _, _, _, act⟩ := h.grouped.act a
  rw [sampleStart_act] at act
  have state : (f.act a).state = (s.act a).state := by rw [act]; rfl
  have derate : (f.act a).derate = (s.act a).derate := by rw [act]; rfl
  have cfg : (f.act a).cfg = (s.act a).cfg := by rw [act]; rfl
  have value (active : (s.act a).state = .active) : ((sampleValues r s).1.act a).regs.d = (f.act a).regs.d := by
    rw [h.member_regs law member active]; rfl
  refine ⟨?_, fun active => ?_⟩
  · unfold State.eligible State.inShare headroom
    simp only [Bool.and_eq_true, decide_eq_true_eq, and_assoc]
    rw [now, state, derate, cfg]
    refine and_congr_right fun active => and_congr_right fun _ => ?_
    rw [value active]
    omega
  · rw [now, cfg, value active]
    rfl

/-- Settles O39. -/
theorem selectionsFollowTheTieOrder : Obligations.SelectionsFollowTheTieOrder := by
  intro r s g hset adv law led v x y order d eligible use best kept chosen note mine
  obtain ⟨t, h⟩ := samples (r := r) hset adv
  have group : y = (s.sampleGroups r).group g := sampleValues_group r s g
  refine ⟨t, h.run, fun none => ?_, fun sharing due => ?_, fun sharing due => ?_⟩
  · obtain ⟨m, before, after⟩ := sampleGroups_at r s g
    have idle : m.sharing g = [] := (before.grouped.sharing g).trans ((sharing_sampleStart r s g).trans none)
    rw [groupSample_idle (.inr idle)] at after
    have record : y = x.idle := by
      rw [group, after.group, State.modGroup_group, if_pos rfl, before.group]
      rfl
    have start : Forms s (s.sampleStart r) (Notice.isHandoverOf g) [] := Forms.of_sli rfl
    have formed : Forms m (m.modGroup g Group.idle) (Notice.isHandoverOf g) [] := Forms.of_sli rfl
    rw [record]
    exact ⟨⟨rfl, rfl, rfl, rfl, rfl⟩, h.selections (((start.trans before.notes).trans formed).trans after.notes),
      rfl, rfl, rfl, rfl, rfl, rfl, rfl⟩
  all_goals
    obtain ⟨first, rest, members⟩ := List.exists_cons_of_ne_nil led
    obtain ⟨f, shared⟩ := shared_sample r (lead := first.1) (by unfold Group.lead; rw [members]; rfl) sharing
    obtain ⟨sli, _, _, selected⟩ := handGroup_selection g f
    have own {l : List Notice} (formed : Forms f (selectRecipient g (f.selects g)) (Notice.isHandoverOf g) l) : Forms s t mine l := by
      have := (shared.notes.trans (formed.congr sli)).trans shared.after.notes
      rw [List.append_nil] at this
      exact h.selections this
    have record := selects_group g f
    rw [shared.group] at record
    have final := group.trans (shared.after.group.trans selected)
  · have stands : (selectRecipient g (f.selects g)) = f.selects g := selectRecipient_idle (by rw [record]; exact due)
    rw [stands] at own final
    rw [record] at final
    rw [final]
    exact ⟨⟨rfl, rfl, rfl, rfl, rfl⟩, own (Forms.of_sli rfl)⟩
  · obtain ⟨z, hz⟩ : ∃ z, z = f.selects g := ⟨_, rfl⟩
    have clock : z.time = v.time ∧ z.psq.totalCycles = v.psq.totalCycles := by
      obtain ⟨_, _, _, _, early⟩ := shared.grouped.rest
      obtain ⟨_, _, _, _, late⟩ := sampleValues_rest r s
      rw [show v = _ from late, hz, early]
      exact ⟨rfl, rfl⟩
    have short : y.sf = shortfall g f := by
      obtain ⟨_, _, _, _, hand⟩ := handGroup_group g f
      rw [group, shared.after.group, hand]
    have lined : (z.group g).order = order := by rw [hz, record]; rfl
    have takes {a : Fin 8} (mem : a ∈ order) := shared.eligible law mem
    rw [← hz] at own final record takes
    rw [selectRecipient_due (by rw [record]; exact due)] at own final
    have made {choice : Option (Fin 8 × Int)} (e : lowest (candidates g z) = choice) :
        chosen y (choice.map Prod.fst) ∧ Forms s t mine [selectionNote g z choice] := by
      rw [e] at own final
      have sliced : (offer (selectionNote g z choice) (z.modGroup g (Group.selected (z.time, z.psq.totalCycles) (choice.map Prod.fst)))).group g =
          (z.group g).selected (z.time, z.psq.totalCycles) (choice.map Prod.fst) := (State.modGroup_group ..).trans (if_pos rfl)
      rw [sliced, record, clock.1, clock.2] at final
      have kind : Notice.isHandoverOf g (selectionNote g z choice) = true := by
        cases choice <;> simp [selectionNote, Notice.isHandoverOf, Notice.is, State.notice]
      have offered := Forms.offer (p := Notice.isHandoverOf g) (selectionNote g z choice)
        (z.modGroup g (Group.selected (z.time, z.psq.totalCycles) (choice.map Prod.fst)))
      rw [if_pos kind] at offered
      have before : Forms f (z.modGroup g (Group.selected (z.time, z.psq.totalCycles) (choice.map Prod.fst)))
          (Notice.isHandoverOf g) [] := Forms.of_sli (by rw [hz]; rfl)
      refine ⟨?_, own (before.trans offered)⟩
      rw [final]
      cases choice <;> exact ⟨rfl, rfl, rfl, rfl, rfl⟩
    have spelled {kind : NoticeKind} {v1 v3 : Int} : z.notice kind g.val v1 (z.group g).reasons.code v3 (z.group g).sf =
        note kind v1 v3 := by
      show Notice.mk .. = Notice.mk ..
      rw [record, clock.1, clock.2, short]
      rfl
    refine ⟨fun a ha => ?_, fun out => ?_⟩
    · obtain ⟨⟨mem, active, fits⟩, least⟩ := ha
      have choice : lowest (candidates g z) = some (a, use a) := by
        rw [candidates_eq, lined, show use a = _ from ((takes mem).2 active).symm]
        refine lowest_of_best mem ((takes mem).1.2 ⟨active, fits⟩) fun b hb eligible => ?_
        have able := (takes hb).1.1 eligible
        rw [show utilization (z.act a).cfg.capacity (z.act a).regs.d = use a from (takes mem).2 active,
          show utilization (z.act b).cfg.capacity (z.act b).regs.d = use b from (takes hb).2 able.1]
        exact least b ⟨hb, able⟩
      obtain ⟨record, formed⟩ := made choice
      exact ⟨record, spelled (kind := .handover) ▸ formed⟩
    · have choice : lowest (candidates g z) = none := by
        rw [candidates_eq, lined, List.filter_eq_nil_iff.2 fun b hb eligible => out b ⟨hb, (takes hb).1.1 eligible⟩]
        rfl
      obtain ⟨record, formed⟩ := made choice
      have sharers : z.sharing g = s.sharing g := by
        have start := (shared.grouped.sharing g).trans (sharing_sampleStart r s g)
        rw [← start, hz]
        exact (grouped_modGroup g (f := fun y => { y with sf := shortfall g f }) (fun _ => rfl) f).sharing g
      refine ⟨record, ?_⟩
      rw [← sharers, ← spelled]
      exact formed

end Sys2Proof.Machine

/-!
The event builder (R152 to R159, R165, R171).
-/
namespace Sys2Proof.Machine

/-! ### A closed event (R155 to R159, R165) -/

/-- A zone that a COUNTED event has reached, before its level is formed (R165). -/
def Zone.struck (hits energy : Nat) (x : Zone) : Zone :=
  { x with lastHits := hits
           bins := match x.bins with
             | [] => []
             | b :: l => b.add energy :: l }

theorem zoneNotes_of_one {s t : State} {cause : ZoneCause} {z : Fin 16} {f : Zone → Zone} (clock : t.clock = s.clock)
    (psq : t.psq = s.psq) (zmn : t.zmn = { s.zmn with zones := vmod s.zmn.zones z f }) : zoneNotes cause s t =
      if (f s.zmn.zones[z]).displayed = s.zmn.zones[z].displayed then []
      else [s.zoneNote cause z (f s.zmn.zones[z]) s.zmn.zones[z].displayed] := by
  have zones (k : Fin 16) : t.zmn.zones[k] = if z = k then f s.zmn.zones[k] else s.zmn.zones[k] := by
    rw [zmn]; exact vmod_get ..
  have time : t.time = s.time := by unfold State.time; rw [clock]
  unfold zoneNotes
  split
  · rename_i same
    rw [List.filter_eq_nil_iff.2 fun k _ => ?_]
    · rfl
    · rw [zones]
      by_cases e : z = k
      · subst e; rw [if_pos rfl, same]; simp
      · rw [if_neg e]; simp
  · rename_i moved
    rw [filter_finRange_eq_singleton (i := z) fun k => ?_]
    · rw [List.map_cons, List.map_nil, zones, if_pos rfl, time, psq]
      rfl
    · rw [zones, decide_eq_true_eq]
      by_cases e : z = k
      · subst e; rw [if_pos rfl]; exact iff_of_true moved rfl
      · rw [if_neg e]; exact iff_of_false (fun h => h rfl) fun h => e h.symm

theorem zoneEvent_spec {s : State} (ev : s.ev = {}) (adv : s.advisory) (z : Fin 16) (hits energy : Nat) :
    s.Zoned (zoneEvent z hits energy s) ∧
      (zoneEvent z hits energy s).zmn =
        { s.zmn with zones := vmod s.zmn.zones z fun x => (x.struck hits energy).evaluate } ∧
      Forms s (zoneEvent z hits energy s) (Notice.is .zoneLevel) (zoneNotes .event s (zoneEvent z hits energy s)) := by
  obtain ⟨m, hm⟩ : ∃ m, m = s.modZone z (Zone.struck hits energy) := ⟨_, rfl⟩
  have struck : m.zmn.zones[z] = s.zmn.zones[z].struck hits energy := by
    rw [hm]; exact (vmod_get ..).trans (if_pos rfl)
  have zoned : s.Zoned m := hm ▸ zoned_modZmn _ s
  obtain ⟨moved, zmn, forms⟩ := evaluateZone_forms (cause := .event) (z := z) (s := m) (p := Notice.is .zoneLevel)
    (fun n hn => decide_eq_true hn) (calmAt_advisory (zoned.ev.trans ev) (zoned.advisory adv)
      (fun n hn => decide_eq_false (by rw [hn]; exact nofun)) z _ _)
  obtain ⟨t, ht⟩ : ∃ t, t = evaluateZone .event z m := ⟨_, rfl⟩
  have eq : zoneEvent z hits energy s = t := by rw [ht, hm]; rfl
  rw [← ht] at moved zmn forms
  have zones : t.zmn = { s.zmn with zones := vmod s.zmn.zones z fun x => (x.struck hits energy).evaluate } := by
    have both : vmod (vmod s.zmn.zones z (Zone.struck hits energy)) z Zone.evaluate =
        vmod s.zmn.zones z fun x => (x.struck hits energy).evaluate := by
      unfold vmod
      simp
    rw [zmn, hm, ← both]
    rfl
  rw [eq]
  refine ⟨zoned.trans moved, zones, ?_⟩
  rw [zoneNotes_of_one (zoned.trans moved).clock (zoned.trans moved).psq zones]
  rw [struck, zoneNote_congr zoned] at forms
  exact (Forms.of_sli (s := s) (t := m) (by rw [hm]; rfl)).trans forms

/-- The record of an event at its closure (R155, R159). -/
def closedRecord (e : OpenEvent) (s : State) : EventRec :=
  { f := e.f, s := e.s, dt := e.s.map fun _ => e.dt, hits := e.hits, maxAmp := e.maxAmp, energy := e.energy
    zone := (dispose e s).2, disposition := (dispose e s).1, cycles := e.stamp.cycles, time := e.stamp.time
    hitsLost := s.aeu.hitsLost, long := e.long }

/-- What a closure makes of the emission unit. -/
def Emission.closed (r : EventRec) (u : Emission) : Emission := logEvent r { u with event := none, hitsLost := false }

/-- What a closure leaves, and what it writes. -/
structure State.Closed (e : OpenEvent) (s t : State) : Prop where
  aeu : t.aeu = s.aeu.closed (closedRecord e s)
  zoned : ({ s with aeu := t.aeu } : State).Zoned t
  stands : (dispose e s).1 ≠ .counted → t.zmn = s.zmn
  counts : ∀ z, dispose e s = (.counted, some z) →
    t.zmn = { s.zmn with zones := vmod s.zmn.zones z fun x => (x.struck e.hits e.energy).evaluate }
  notes : Forms s t (Notice.is .zoneLevel) (zoneNotes .event s t)

theorem zoneNotes_self {cause : ZoneCause} {s t : State} (h : t.zmn = s.zmn) : zoneNotes cause s t = [] := by
  unfold zoneNotes
  rw [h, List.filter_eq_nil_iff.2 fun k _ => by simp]
  rfl

theorem closeEvent_eq (e : OpenEvent) (s : State) : closeEvent e s =
    match dispose e s with
    | (.counted, some z) => zoneEvent z e.hits e.energy (s.modAeu (Emission.closed (closedRecord e s)))
    | _ => s.modAeu (Emission.closed (closedRecord e s)) := rfl

theorem closed_closeEvent {e : OpenEvent} {s : State} (ev : s.ev = {}) (adv : s.advisory) : s.Closed e (closeEvent e s) := by
  rw [closeEvent_eq]
  split
  · rename_i z placed
    obtain ⟨zoned, zmn, notes⟩ := zoneEvent_spec (s := s.modAeu (Emission.closed (closedRecord e s))) ev adv z e.hits e.energy
    refine ⟨zoned.moved.aeu, ?_, fun out => absurd (congrArg Prod.fst placed) out, fun y hy => ?_, ?_⟩
    · rw [show (zoneEvent z e.hits e.energy (s.modAeu (Emission.closed (closedRecord e s)))).aeu = _ from zoned.moved.aeu]
      exact zoned
    · rw [placed] at hy
      cases hy
      exact zmn
    · have start : Forms s (s.modAeu (Emission.closed (closedRecord e s))) (Notice.is .zoneLevel) [] := Forms.of_sli rfl
      exact start.trans notes
  · rename_i out
    refine ⟨rfl, .rfl', fun _ => rfl, fun z placed => absurd placed (out z), ?_⟩
    rw [zoneNotes_self (s := s) (t := s.modAeu (Emission.closed (closedRecord e s))) rfl]
    exact Forms.of_sli rfl

/-! ### The steps of the builder (R153, R154) -/

/-- What the builder leaves: the channels, the window, the clock, every state of an actuator, and every OPEN record. -/
structure State.Built (s t : State) : Prop where
  zoned : ({ s with aeu := t.aeu } : State).Zoned t
  chans : t.aeu.chans = s.aeu.chans
  window : t.aeu.window = s.aeu.window
  hits : ∃ taken, s.aeu.hits = taken ++ t.aeu.hits ∧ ∀ r ∈ taken, r.complete = true

theorem State.Built.rfl' {s : State} : s.Built s := ⟨.rfl', rfl, rfl, [], rfl, nofun⟩

theorem State.Moved.withAeu {s t : State} (h : s.Moved t) (u : Emission) : ({ s with aeu := u } : State).Moved { t with aeu := u } := by
  obtain ⟨⟨v, g, p, l, lost, rfl⟩, act, group, entry⟩ := h
  exact ⟨⟨v, g, p, l, lost, rfl⟩, act, group, entry⟩

theorem State.Built.trans {s t u : State} (h : s.Built t) (k : t.Built u) : s.Built u where
  zoned := by
    have first : State.Zoned { s with aeu := u.aeu } { t with aeu := u.aeu } := h.zoned.moved.withAeu u.aeu
    exact first.trans k.zoned
  chans := k.chans.trans h.chans
  window := k.window.trans h.window
  hits := by
    obtain ⟨a, ha, one⟩ := h.hits
    obtain ⟨b, hb, two⟩ := k.hits
    exact ⟨a ++ b, by rw [ha, hb, List.append_assoc], fun r hr => (List.mem_append.1 hr).elim (one r) (two r)⟩

theorem State.Built.ev {s t : State} (h : s.Built t) : t.ev = s.ev := h.zoned.ev

theorem State.Built.advisory {s t : State} (h : s.Built t) (adv : s.advisory) : t.advisory := h.zoned.advisory adv

theorem Emission.closed_rest (r : EventRec) (u : Emission) : ∃ log lost, u.closed r =
    { u with event := none, hitsLost := false, log := log, overwritten := lost } := by
  unfold Emission.closed logEvent
  split <;> exact ⟨_, _, rfl⟩

theorem built_closeEvent {e : OpenEvent} {s : State} (ev : s.ev = {}) (adv : s.advisory) : s.Built (closeEvent e s) := by
  have closed := closed_closeEvent (e := e) ev adv
  obtain ⟨_, _, aeu⟩ := s.aeu.closed_rest (closedRecord e s)
  rw [← closed.aeu] at aeu
  exact ⟨closed.zoned, by rw [aeu], by rw [aeu], [], by rw [aeu]; rfl, nofun⟩

theorem built_takeHit {s : State} {r : HitRec} {rest : List HitRec} (hits : s.aeu.hits = r :: rest) (done : r.complete = true)
    (e : Option OpenEvent) : s.Built (s.modAeu fun u => { u with hits := rest, event := e }) :=
  ⟨.rfl', rfl, rfl, [r], hits, fun x hx => by rw [List.mem_singleton.1 hx]; exact done⟩

theorem built_buildStep {s t : State} (ev : s.ev = {}) (adv : s.advisory) (h : buildStep s = some t) : s.Built t := by
  unfold buildStep at h
  split at h
  · exact nomatch h
  · rename_i r rest _ hits
    split at h <;> cases h
    exact built_takeHit hits ‹_› _
  · split at h <;> cases h
    exact built_closeEvent ev adv
  · rename_i e r rest _ hits
    split at h
    · cases h
      exact built_closeEvent ev adv
    · split at h <;> cases h
      exact built_takeHit hits ‹_› _

theorem built_build (n : Nat) {s : State} (ev : s.ev = {}) (adv : s.advisory) : s.Built (build n s) := by
  induction n generalizing s with
  | zero => exact .rfl'
  | succ n ih =>
    unfold build
    split
    · exact .rfl'
    · rename_i t step
      have one := built_buildStep ev adv step
      exact one.trans (ih (one.ev.trans ev) (one.advisory adv))

theorem built_buildAll {s : State} (ev : s.ev = {}) (adv : s.advisory) : s.Built (buildAll s) := built_build _ ev adv

/-- The builder stands at a wait. -/
theorem build_stands {s : State} (h : buildStep s = none) (n : Nat) : build n s = s := by
  cases n with
  | zero => rfl
  | succ n => unfold build; rw [h]

theorem build_step {s t : State} (h : buildStep s = some t) (n : Nat) : build (n + 1) s = build n t := by
  rw [build, h]

/-! ### Hits (R147 to R152) -/

/-- The clock when time has come to a reading of the hit clock (R147). -/
def State.clockAt (s : State) (x : HitTime) : Clock := { s.clock with now := s.clock.now + (x - s.hitClock).toInt.toNat }

theorem advanceToHit_eq (x : HitTime) (s : State) : s.advanceToHit x = { s with clock := s.clockAt x } := by
  unfold State.advanceToHit State.advanceTo State.clockAt
  rw [Nat.max_eq_right (Nat.le_add_right ..)]

/-- What the builder leaves, as the statements spell it. -/
theorem State.Built.frame {s t : State} (h : s.Built t) :
    t = { s with aeu := t.aeu, zmn := t.zmn, pmx := t.pmx, svc := t.svc, lgu := t.lgu, sli := t.sli } := by
  obtain ⟨_, _, _, _, _, e⟩ := h.zoned.moved.rest
  rw [e]; rfl

theorem State.Built.clock {s t : State} (h : s.Built t) : t.clock = s.clock := h.zoned.clock

theorem State.Built.mem_hits {s t : State} (h : s.Built t) {r : HitRec} (hr : r ∈ s.aeu.hits) (waits : r.complete = false) :
    r ∈ t.aeu.hits := by
  obtain ⟨taken, e, done⟩ := h.hits
  rw [e] at hr
  exact (List.mem_append.1 hr).resolve_left fun hr => by rw [done r hr] at waits; exact nomatch waits

theorem State.Built.hits_mem {s t : State} (h : s.Built t) {r : HitRec} (hr : r ∈ t.aeu.hits) : r ∈ s.aeu.hits := by
  obtain ⟨taken, e, -⟩ := h.hits
  rw [e]
  exact List.mem_append_right _ hr

/-- The builder waits for the record at the head of the queue. -/
theorem buildStep_waits {s : State} {r : HitRec} {rest : List HitRec} (hits : s.aeu.hits = r :: rest) (waits : r.complete = false)
    (open' : ∀ e, s.aeu.event = some e → (r.arrival - e.windowEnd).toInt ≤ 0) : buildStep s = none := by
  unfold buildStep
  rw [hits]
  cases e : s.aeu.event with
  | none => simp [waits]
  | some e' =>
    have early : later r.arrival e'.windowEnd = false := decide_eq_false (by have := open' e' e; omega)
    simp [waits, early]

theorem buildAll_stands {s : State} (h : buildStep s = none) : buildAll s = s := build_stands h _

/-- The record of a hit that begins (R149, R152). -/
def State.hitRecord (s : State) (c : Fin 12) (x : Crossing) : HitRec :=
  { ch := c, arrival := x.time, peak := x.amplitude, energy := x.energy, long := false, complete := false
    stamp := { time := s.time, cycles := s.psq.totalCycles, levels := s.psq.levels, role := s.aeu.chans[c].cfg.role } }

/-- The hit that begins with a crossing (R149). -/
def State.newHit (s : State) (c : Fin 12) (x : Crossing) : RunningHit :=
  { cfg := s.aeu.chans[c].cfg, arrival := x.time, peak := x.amplitude, energy := x.energy, lastCrossing := x.time
    hdtAt := x.time + BitVec.ofNat 32 s.aeu.chans[c].cfg.hdt, durAt := x.time + BitVec.ofNat 32 s.aeu.chans[c].cfg.maxDur
    hasRecord := decide (s.aeu.hits.length < 64) }

/-- The state of a hit that begins, before the builder works. -/
def State.begun (s : State) (c : Fin 12) (x : Crossing) : State :=
  { s with aeu := { s.aeu with
    chans := s.aeu.chans.set c { s.aeu.chans[c] with state := .inHit, hit := s.newHit c x }
    hits := if s.aeu.hits.length < 64 then s.aeu.hits ++ [s.hitRecord c x] else s.aeu.hits
    hitsLost := if s.aeu.hits.length < 64 then s.aeu.hitsLost else true } }

theorem beginHit_eq (c : Fin 12) (x : Crossing) (s : State) : beginHit c x s = buildAll (s.begun c x) := by
  unfold beginHit
  dsimp only
  by_cases h : s.aeu.hits.length < 64
  · have room : decide (s.aeu.hits.length < Config.hitCap) = true := decide_eq_true h
    simp only [room, if_true, State.begun, State.newHit, decide_eq_true h, if_pos h]
    rfl
  · have room : decide (s.aeu.hits.length < Config.hitCap) = false := decide_eq_false h
    simp only [room, State.begun, State.newHit, decide_eq_false h, if_neg h]
    rfl

/-- A running hit at its end (R150, R151). -/
def State.ended (s : State) (c : Fin 12) (long : Bool) : State :=
  let h := s.aeu.chans[c].hit
  { s with aeu := { s.aeu with
    chans := s.aeu.chans.set c { s.aeu.chans[c] with
      state := if h.cfg.hlt = 0 then .idle else .lockout
      lockoutAt := if h.cfg.hlt = 0 then 0 else s.hitClock + BitVec.ofNat 32 h.cfg.hlt
      hit := {} }
    hits := if h.hasRecord then s.aeu.hits.map fun r =>
        if r.ch = c ∧ r.complete = false then { r with peak := h.peak, energy := h.energy, long := long, complete := true } else r
      else s.aeu.hits } }

theorem endHit_eq (c : Fin 12) (long : Bool) (s : State) : endHit c long s = buildAll (s.ended c long) := by
  unfold endHit State.ended
  dsimp only
  split <;> rfl

/-- A crossing in a running hit (R150). -/
theorem joinHit_eq (c : Fin 12) (x : Crossing) (s : State) : joinHit c x s =
    (let y := s.aeu.chans[c]
     let hit : RunningHit := { y.hit with
       peak := max y.hit.peak x.amplitude, energy := min 65535 (y.hit.energy + x.energy)
       lastCrossing := x.time, hdtAt := x.time + BitVec.ofNat 32 y.hit.cfg.hdt }
     { s with aeu := { s.aeu with
       chans := s.aeu.chans.set c { y with hit := hit }
       hits := if y.hit.hasRecord then
           s.aeu.hits.map fun h => if h.ch = c ∧ h.complete = false then { h with peak := hit.peak, energy := hit.energy } else h
         else s.aeu.hits } }) := by
  have sat (a b : Nat) : satAdd a b 65535 = min 65535 (a + b) := by
    unfold satAdd
    split <;> omega
  obtain ⟨m, hm⟩ : ∃ m, m = s.modAe c fun y =>
    { y with hit := { y.hit with peak := max y.hit.peak x.amplitude, energy := satAdd y.hit.energy x.energy 65535
                                 lastCrossing := x.time, hdtAt := x.time + BitVec.ofNat 32 y.hit.cfg.hdt } } := ⟨_, rfl⟩
  have read : m.aeu.chans[c].hit = { s.aeu.chans[c].hit with
      peak := max s.aeu.chans[c].hit.peak x.amplitude, energy := min 65535 (s.aeu.chans[c].hit.energy + x.energy)
      lastCrossing := x.time, hdtAt := x.time + BitVec.ofNat 32 s.aeu.chans[c].hit.cfg.hdt } := by
    rw [hm, ← sat]
    exact congrArg AeChan.hit ((vmod_get ..).trans (if_pos rfl))
  have eq : joinHit c x s = if m.aeu.chans[c].hit.hasRecord then m.modAeu (updateRecord c fun r =>
      { r with peak := m.aeu.chans[c].hit.peak, energy := m.aeu.chans[c].hit.energy }) else m := by
    rw [hm]; rfl
  rw [eq, read, hm]
  dsimp only
  split
  · simp only [State.modAe, State.modAeu, updateRecord, vmod, sat]
  · simp only [State.modAe, State.modAeu, vmod, sat]

end Sys2Proof.Machine

/-!
Hits begin, run and end (R147 to R154).
-/
namespace Sys2Proof.Machine

theorem settled_done {s t : State} (hs : s.settled) (stc : t.stc = s.stc) : stepDone t = .next t :=
  stepDone_of_noResetDue (.inl (by rw [stc]; exact hs.2))

theorem crossing_ignored {s : State} (hs : s.settled) (c : Fin 12) (x : Crossing)
    (out : s.aeu.chans[c].state = .lockout ∨ (s.aeu.chans[c].state = .idle ∧ s.aeu.chans[c].cfg.role = .off)) :
    exec (.thresholdCrossing c x) s = .next { s with clock := s.clockAt x.time } := by
  have taken : takeCrossing c x s = { s with clock := s.clockAt x.time } := by
    unfold takeCrossing
    rw [advanceToHit_eq]
    rcases out with out | ⟨idle, off⟩
    · simp only [out]
    · simp only [idle, if_pos off]
  show stepDone (takeCrossing c x s) = _
  rw [taken]
  exact settled_done hs rfl

theorem crossing_joins {s : State} (hs : s.settled) (c : Fin 12) (x : Crossing) (inHit : s.aeu.chans[c].state = .inHit) :
    exec (.thresholdCrossing c x) s = .next (joinHit c x { s with clock := s.clockAt x.time }) := by
  have taken : takeCrossing c x s = joinHit c x { s with clock := s.clockAt x.time } := by
    unfold takeCrossing
    rw [advanceToHit_eq]
    simp only [inHit]
  show stepDone (takeCrossing c x s) = _
  rw [taken]
  exact settled_done hs (by rw [joinHit_eq])

theorem crossing_begins {s : State} (hs : s.settled) (adv : s.advisory) (c : Fin 12) (x : Crossing)
    (idle : s.aeu.chans[c].state = .idle) (on : s.aeu.chans[c].cfg.role ≠ .off) :
    let b := ({ s with clock := s.clockAt x.time } : State).begun c x
    exec (.thresholdCrossing c x) s = .next (buildAll b) ∧ b.Built (buildAll b) := by
  intro b
  have built : b.Built (buildAll b) := built_buildAll hs.1 adv
  have taken : takeCrossing c x s = buildAll b := by
    unfold takeCrossing
    rw [advanceToHit_eq]
    simp only [idle, if_neg on, beginHit_eq]
    rfl
  refine ⟨?_, built⟩
  show stepDone (takeCrossing c x s) = _
  rw [taken]
  exact settled_done hs built.zoned.stc

theorem expiry_ends {s : State} (hs : s.settled) (adv : s.advisory) (c : Fin 12) (long : Bool) (inHit : s.aeu.chans[c].state = .inHit) :
    let b := ({ s with clock := s.clockAt (if long then s.aeu.chans[c].hit.durAt else s.aeu.chans[c].hit.hdtAt) } : State).ended c long
    exec (if long then .durationExpiry c else .hdtExpiry c) s = .next (buildAll b) ∧ b.Built (buildAll b) := by
  intro b
  have built : b.Built (buildAll b) := built_buildAll hs.1 adv
  refine ⟨?_, built⟩
  have done : stepDone (buildAll b) = .next (buildAll b) := settled_done hs built.zoned.stc
  cases long with
  | false =>
    have taken : hdtExpiry c s = buildAll b := by
      unfold hdtExpiry
      rw [if_pos inHit, advanceToHit_eq, endHit_eq]
      rfl
    show stepDone (hdtExpiry c s) = _
    rw [taken, done]
  | true =>
    have taken : durationExpiry c s = buildAll b := by
      unfold durationExpiry
      rw [if_pos inHit, advanceToHit_eq, endHit_eq]
      rfl
    show stepDone (durationExpiry c s) = _
    rw [taken, done]

/-- The one record of an ended hit opens its event, which stays open until the clock passes its window (R153, R154). -/
theorem buildAll_opens {s : State} {r : HitRec} (event : s.aeu.event = none) (hits : s.aeu.hits = [r]) (done : r.complete = true)
    (early : (s.hitClock - (r.arrival + BitVec.ofNat 32 s.aeu.window)).toInt ≤ 0) :
    buildAll s = { s with aeu := { s.aeu with hits := [], event := some (openEvent r s.aeu.window) } } := by
  obtain ⟨t, ht⟩ : ∃ t, t = s.modAeu fun u => { u with hits := [], event := some (openEvent r u.window) } := ⟨_, rfl⟩
  have first : buildStep s = some t := by
    unfold buildStep
    rw [event, hits, ht]
    simp [done]
  have waits : buildStep t = none := by
    have notLate : later t.hitClock (openEvent r s.aeu.window).windowEnd = false := by
      rw [ht]
      exact decide_eq_false (Int.not_lt.2 early)
    rw [ht] at notLate ⊢
    unfold buildStep State.modAeu
    dsimp only
    exact if_neg (ne_true_of_eq_false notLate)
  unfold buildAll
  rw [hits, build_step first, build_stands waits, ht]
  rfl

theorem State.begun_room {s : State} {c : Fin 12} {x : Crossing} (h : s.aeu.hits.length < 64) : s.begun c x =
    { s with aeu := { s.aeu with
      chans := s.aeu.chans.set c { s.aeu.chans[c] with state := .inHit, hit := s.newHit c x }
      hits := s.aeu.hits ++ [s.hitRecord c x] } } := by
  unfold State.begun
  rw [if_pos h, if_pos h]

theorem State.begun_full {s : State} {c : Fin 12} {x : Crossing} (h : ¬s.aeu.hits.length < 64) : s.begun c x =
    { s with aeu := { s.aeu with
      chans := s.aeu.chans.set c { s.aeu.chans[c] with state := .inHit, hit := s.newHit c x }
      hitsLost := true } } := by
  unfold State.begun
  rw [if_neg h, if_neg h]

/-- Settles O50. -/
theorem hitsBeginAndEnd : Obligations.HitsBeginAndEnd := by
  intro s c hs adv y at'
  refine ⟨fun x => ⟨crossing_ignored hs c x, fun idle on => ?_, fun inHit => ?_⟩, fun out => ⟨?_, ?_⟩, fun inHit long => ?_,
    fun out => ?_, fun lockout => ?_⟩
  · intro room hit chans
    obtain ⟨run, built⟩ := crossing_begins hs adv c x idle on
    obtain ⟨b, hb⟩ : ∃ b, b = ({ s with clock := s.clockAt x.time } : State).begun c x := ⟨_, rfl⟩
    rw [← hb] at run built
    have clock : b.clock = at' x.time := by rw [hb]; rfl
    have set : b.aeu.chans = chans := by rw [hb]; rfl
    obtain ⟨t, ht⟩ : ∃ t, t = buildAll b := ⟨_, rfl⟩
    rw [← ht] at run built
    have frame : t = { s with clock := t.clock, aeu := t.aeu, zmn := t.zmn, pmx := t.pmx, svc := t.svc, lgu := t.lgu, sli := t.sli } := by
      rw [built.clock]
      refine built.frame.trans ?_
      rw [hb]; rfl
    refine ⟨t, run, built.clock.trans clock, built.chans.trans set, fun a => ?_, frame, ?_⟩
    · rw [built.zoned.state, hb]
      rfl
    · intro rec'
      have record : rec' = ({ s with clock := s.clockAt x.time } : State).hitRecord c x := by
        have time : t.time = b.time := built.zoned.time
        show HitRec.mk .. = _
        rw [time, hb]
        rfl
      have hits : b.aeu.hits = if s.aeu.hits.length < 64 then s.aeu.hits ++ [rec'] else s.aeu.hits := by rw [record, hb]; rfl
      refine ⟨fun free => ?_, fun event empty => ?_, fun full r rest queue waits early => ?_⟩
      · refine built.mem_hits ?_ rfl
        rw [hits, if_pos (of_decide_eq_true free)]
        exact List.mem_append_right _ (List.mem_singleton.2 rfl)
      · have stands : buildAll b = b := by
          refine buildAll_stands (buildStep_waits (r := rec') (rest := []) ?_ rfl fun e he => ?_)
          · rw [hits, empty]; rfl
          · rw [hb] at he
            exact nomatch event.symm.trans he
        have free : s.aeu.hits.length < 64 := by rw [empty]; decide
        rw [ht, stands, hb, State.begun_room (show ({ s with clock := s.clockAt x.time } : State).aeu.hits.length < 64 from free), record]
        rw [show ({ s with clock := s.clockAt x.time } : State).aeu.hits = [] from empty]
        rfl
      · have stands : buildAll b = b := by
          refine buildAll_stands (buildStep_waits (r := r) (rest := rest) ?_ waits fun e he => ?_)
          · rw [hits, if_neg (of_decide_eq_false full), queue]
          · rw [hb] at he
            exact early e he
        rw [ht, stands, hb, State.begun_full (show ¬({ s with clock := s.clockAt x.time } : State).aeu.hits.length < 64 from
          of_decide_eq_false full)]
        rfl
  · rw [crossing_joins hs c x inHit, joinHit_eq]
    rfl
  · show stepDone (hdtExpiry c s) = _
    unfold hdtExpiry
    rw [if_neg out]
    exact settled_done hs rfl
  · show stepDone (durationExpiry c s) = _
    unfold durationExpiry
    rw [if_neg out]
    exact settled_done hs rfl
  · intro expiry
    obtain ⟨run, built⟩ := expiry_ends hs adv c long inHit
    obtain ⟨b, hb⟩ : ∃ b, b = ({ s with
      clock := s.clockAt (if long then s.aeu.chans[c].hit.durAt else s.aeu.chans[c].hit.hdtAt) } : State).ended c long := ⟨_, rfl⟩
    rw [← hb] at run built
    obtain ⟨t, ht⟩ : ∃ t, t = buildAll b := ⟨_, rfl⟩
    rw [← ht] at run built
    have clock : t.hitClock = b.hitClock := by unfold State.hitClock; rw [built.clock]
    have frame : t = { s with clock := t.clock, aeu := t.aeu, zmn := t.zmn, pmx := t.pmx, svc := t.svc, lgu := t.lgu, sli := t.sli } := by
      rw [built.clock]
      refine built.frame.trans ?_
      rw [hb]; rfl
    have given (record : y.hit.hasRecord = true) : b.aeu.hits = s.aeu.hits.map fun r => if r.ch = c ∧ r.complete = false then
        { r with peak := y.hit.peak, energy := y.hit.energy, long := long, complete := true } else r := by
      rw [hb]
      exact if_pos record
    refine ⟨t, run, built.clock.trans (by rw [hb]; rfl), built.chans.trans ?_, fun a => ?_, frame, fun record => ⟨fun h mem mine => ?_,
      fun h event only mine waits early => ?_⟩⟩
    · rw [clock, hb]
      rfl
    · rw [built.zoned.state, hb]
      rfl
    · have old := built.hits_mem mem
      rw [given record] at old
      obtain ⟨r, -, rfl⟩ := List.mem_map.1 old
      by_cases out : r.ch = c ∧ r.complete = false
      · rw [if_pos out]
      · rw [if_neg out] at mine ⊢
        exact (Bool.not_eq_false _).mp fun waits => out ⟨mine, waits⟩
    · obtain ⟨e, he⟩ : ∃ e : HitRec, e = { h with peak := y.hit.peak, energy := y.hit.energy, long := long, complete := true } := ⟨_, rfl⟩
      have hits : b.aeu.hits = [e] := by
        rw [given record, only, he]
        exact congrArg (fun x => [x]) (if_pos ⟨mine, waits⟩)
      have window : b.aeu.window = s.aeu.window := by rw [hb]; rfl
      have opened := buildAll_opens (s := b) (r := e) (by rw [hb]; exact event) hits (by rw [he]) (by rw [← clock, he, window]; exact early)
      rw [ht, opened, window, he, ← mine]
      exact ⟨rfl, rfl⟩
  · show stepDone (lockoutExpiry c s) = _
    unfold lockoutExpiry
    rw [if_neg out]
    exact settled_done hs rfl
  · show stepDone (lockoutExpiry c s) = _
    unfold lockoutExpiry
    rw [if_pos lockout, advanceToHit_eq]
    exact settled_done hs rfl

end Sys2Proof.Machine

/-!
Events close, and the settings of the emission unit (R145, R146, R153 to R160, R165, R171).
-/
namespace Sys2Proof.Machine

/-! ### The disposition (R157, R158) -/

theorem takes_iff (c : ZoneConfig) (e : OpenEvent) : c.takes e ↔ (c.enabled && AeSet.has c.first e.f &&
    match e.s with
    | none => decide (c.second = 0)
    | some x => AeSet.has c.second x && decide (c.dtLow ≤ e.dt) && decide (e.dt ≤ c.dtHigh)) = true := by
  unfold ZoneConfig.takes AeSet.has
  cases e.s <;> simp [and_assoc]

theorem zoneLookup_none {e : OpenEvent} {s : State} (h : ∀ z : Fin 16, ¬s.zmn.zones[z].cfg.takes e) : zoneLookup e s = none :=
  List.find?_eq_none.2 fun z _ => fun hz => h z ((takes_iff ..).2 hz)

theorem zoneLookup_some {e : OpenEvent} {s : State} {z : Fin 16} (h : s.zmn.zones[z].cfg.takes e)
    (first : ∀ y : Fin 16, y < z → ¬s.zmn.zones[y].cfg.takes e) : zoneLookup e s = some z :=
  find?_finRange_eq_some ((takes_iff ..).1 h) fun y hy => by
    rw [← Bool.not_eq_true]
    exact fun hz => first y hy ((takes_iff ..).2 hz)

theorem gatePasses_iff (c : ZoneConfig) (e : OpenEvent) : gatePasses c e = true ↔
    ∀ k g, c.track = some k → c.gate = some g → g ≤ e.stamp.levels[k] := by
  unfold gatePasses
  cases c.track <;> cases c.gate <;> simp

/-! ### The expiry of the window timer (R153, R154) -/

theorem join_eq (r : HitRec) (e : OpenEvent) :
    e.join r = { e with
      s := if e.s = none ∧ r.ch ≠ e.f then some r.ch else e.s
      dt := if e.s = none ∧ r.ch ≠ e.f then (r.arrival - e.tFirst).toNat else e.dt
      hits := min 255 (e.hits + 1), maxAmp := max e.maxAmp r.peak
      energy := min 65535 (e.energy + r.energy), long := e.long || r.long } := by
  have sat (a b top : Nat) : satAdd a b top = min top (a + b) := by
    unfold satAdd
    split <;> omega
  unfold OpenEvent.join
  dsimp only
  rw [sat, sat]
  split <;> rfl

theorem windowExpiry_eq {s : State} {e : OpenEvent} (h : s.aeu.event = some e) :
    windowExpiry s = buildAll { s with clock := s.clockAt (e.windowEnd + 1) } := by
  unfold windowExpiry
  rw [h]
  dsimp only
  rw [advanceToHit_eq]

theorem toInt_add_one {d : BitVec 32} (low : 0 ≤ d.toInt) (high : d.toInt < 2147483647) : (d + 1).toInt = d.toInt + 1 := by
  have : d.toNat < 4294967296 := d.isLt
  have sum : (d + 1).toNat = (d.toNat + 1) % 4294967296 := by
    rw [BitVec.toNat_add]; rfl
  simp only [BitVec.toInt_eq_toNat_cond, sum] at *
  omega

theorem toInt_windowEnd {w h : HitTime} (low : 0 ≤ (w - h).toInt) (high : (w - h).toInt < 2147483647) :
    (w + 1 - h).toInt = (w - h).toInt + 1 := by
  rw [← toInt_add_one low high]
  congr 1
  bv_omega

/-- The hit clock reads what it was advanced to (R147). -/
theorem hitClock_clockAt {s : State} {x : HitTime} (h : 0 ≤ (x - s.hitClock).toInt) :
    ({ s with clock := s.clockAt x } : State).hitClock = x := by
  have exact : (x - s.hitClock).toInt.toNat = (x - s.hitClock).toNat := by
    rw [BitVec.toInt_eq_toNat_cond] at *
    have : (x - s.hitClock).toNat < 4294967296 := (x - s.hitClock).isLt
    omega
  show BitVec.ofNat 32 (s.clock.now + (x - s.hitClock).toInt.toNat) = x
  rw [exact, BitVec.ofNat_add, BitVec.ofNat_toNat, BitVec.setWidth_eq]
  show s.hitClock + (x - s.hitClock) = x
  rw [BitVec.add_comm, BitVec.sub_add_cancel]

theorem buildStep_closes {s : State} {e : OpenEvent} (event : s.aeu.event = some e)
    (due : (s.aeu.hits = [] ∧ later s.hitClock e.windowEnd = true) ∨
      ∃ r rest, s.aeu.hits = r :: rest ∧ later r.arrival e.windowEnd = true) : buildStep s = some (closeEvent e s) := by
  unfold buildStep
  rw [event]
  rcases due with ⟨hits, late⟩ | ⟨r, rest, hits, late⟩
  · rw [hits]; exact if_pos late
  · rw [hits]; exact if_pos late

/-- A queue at whose head no COMPLETE record stands, with no open event: the builder waits. -/
theorem buildStep_rests {s : State} (event : s.aeu.event = none) (hits : ∀ r rest, s.aeu.hits = r :: rest → r.complete = false) :
    buildStep s = none := by
  unfold buildStep
  rw [event]
  cases e : s.aeu.hits with
  | nil => rfl
  | cons r rest => exact if_neg (by rw [hits r rest e]; decide)

/-- The state in which an event closes, and the expiry that closes it. -/
structure State.Expires (s : State) (w : HitTime) (e : OpenEvent) (left : List HitRec) (opened : Option OpenEvent) (m : State) :
    Prop where
  clock : m.clock = s.clockAt (w + 1)
  start : ∃ now ev hits, m = { s with clock := { s.clock with now := now }, aeu := { s.aeu with event := ev, hits := hits } }
  expiry : windowExpiry s = (closeEvent e m).modAeu fun u => { u with hits := left, event := opened }

theorem closeEvent_aeu {e : OpenEvent} {s : State} (ev : s.ev = {}) (adv : s.advisory) :
    (closeEvent e s).aeu = s.aeu.closed (closedRecord e s) := (closed_closeEvent ev adv).aeu

theorem Emission.closed_kept (r : EventRec) (u : Emission) : (u.closed r).event = none ∧ (u.closed r).hits = u.hits ∧
    (u.closed r).window = u.window := by
  obtain ⟨_, _, e⟩ := u.closed_rest r
  rw [e]
  exact ⟨rfl, rfl, rfl⟩

theorem modAeu_same {s : State} {hits : List HitRec} {event : Option OpenEvent} (hh : s.aeu.hits = hits) (he : s.aeu.event = event) :
    (s.modAeu fun u => { u with hits := hits, event := event }) = s := by
  subst hh he
  rfl

/-- The builder closes the event and stands. -/
theorem build_closes {s : State} (ev : s.ev = {}) (adv : s.advisory) {e : OpenEvent} (event : s.aeu.event = some e)
    (due : (s.aeu.hits = [] ∧ later s.hitClock e.windowEnd = true) ∨
      ∃ r rest, s.aeu.hits = r :: rest ∧ later r.arrival e.windowEnd = true)
    (waits : ∀ r rest, s.aeu.hits = r :: rest → r.complete = false) (n : Nat) :
    build (n + 1) s = (closeEvent e s).modAeu fun u => { u with hits := s.aeu.hits, event := none } := by
  obtain ⟨none, hits, -⟩ := s.aeu.closed_kept (closedRecord e s)
  rw [← closeEvent_aeu ev adv] at none hits
  rw [build_step (buildStep_closes event due), build_stands (buildStep_rests none (by rw [hits]; exact waits)),
    modAeu_same hits none]

/-- The builder closes the event and opens the next with the one COMPLETE record. -/
theorem build_reopens {s : State} (ev : s.ev = {}) (adv : s.advisory) {e : OpenEvent} (event : s.aeu.event = some e) {r : HitRec}
    (only : s.aeu.hits = [r]) (late : later r.arrival e.windowEnd = true) (done : r.complete = true)
    (early : later s.hitClock (openEvent r s.aeu.window).windowEnd = false) (n : Nat) :
    build (n + 3) s = (closeEvent e s).modAeu fun u => { u with hits := [], event := some (openEvent r s.aeu.window) } := by
  obtain ⟨none, hits, window⟩ := s.aeu.closed_kept (closedRecord e s)
  rw [← closeEvent_aeu ev adv] at none hits window
  obtain ⟨c, hc⟩ : ∃ c, c = closeEvent e s := ⟨_, rfl⟩
  have clock : c.hitClock = s.hitClock := by
    unfold State.hitClock
    rw [hc, (built_closeEvent ev adv).clock]
  rw [build_step (buildStep_closes event (.inr ⟨r, [], only, late⟩)), ← hc]
  rw [← hc] at none hits window
  obtain ⟨d, hd⟩ : ∃ d, d = c.modAeu fun u => { u with hits := [], event := some (openEvent r s.aeu.window) } := ⟨_, rfl⟩
  have opens : buildStep c = some d := by
    unfold buildStep
    rw [none, hits, only, hd, ← window]
    exact if_pos done
  have waits : buildStep d = Option.none := by
    rw [← clock] at early
    rw [hd]
    unfold buildStep State.modAeu
    exact if_neg (ne_true_of_eq_false early)
  rw [build_step opens, build_stands waits, hd]

/-- What closes at the expiry of an event's window: the event, the records left, and the event then opened; none where the event
stays open, and where the queue holds more to work (R153, R154). -/
def State.closing (s : State) (open' : OpenEvent) : Option (OpenEvent × List HitRec × Option OpenEvent) :=
  match s.aeu.hits with
  | [] => some (open', [], none)
  | r :: rest =>
    if r.complete = false then if later r.arrival open'.windowEnd then some (open', r :: rest, none) else none
    else if rest = [] then
      if later r.arrival open'.windowEnd = false then some (open'.join r, [], none)
      else if 0 < (open'.windowEnd + 1 - (openEvent r s.aeu.window).windowEnd).toInt then none
      else some (open', [], some (openEvent r s.aeu.window))
    else none

/-- The three ways in which the expiry closes an event (R153, R154). -/
theorem expires {s : State} (hs : s.settled) (adv : s.advisory) {open' e : OpenEvent} {left : List HitRec} {opened : Option OpenEvent}
    (event : s.aeu.event = some open') (low : 0 ≤ (open'.windowEnd - s.hitClock).toInt)
    (high : (open'.windowEnd - s.hitClock).toInt < 2147483647) (closing : s.closing open' = some (e, left, opened)) :
    ∃ m, s.Expires open'.windowEnd e left opened m := by
  have after := toInt_windowEnd low high
  obtain ⟨b, hb⟩ : ∃ b, b = ({ s with clock := s.clockAt (open'.windowEnd + 1) } : State) := ⟨_, rfl⟩
  have clock : b.hitClock = open'.windowEnd + 1 := by rw [hb]; exact hitClock_clockAt (by omega)
  have passed : later b.hitClock open'.windowEnd = true := by
    rw [clock]
    refine decide_eq_true ?_
    have : open'.windowEnd + 1 - open'.windowEnd = 1 := by bv_omega
    rw [this]
    decide
  have ran : windowExpiry s = build (2 * s.aeu.hits.length + 2) b := by
    rw [windowExpiry_eq event, ← hb, hb]
    rfl
  have same : b.aeu = s.aeu := by rw [hb]
  have ev : b.ev = {} := by rw [hb]; exact hs.1
  have adv' : b.advisory := by rw [hb]; exact adv
  have opens : b.aeu.event = some open' := by rw [same]; exact event
  have here : ∃ now ev hits, b = { s with clock := { s.clock with now := now }, aeu := { s.aeu with event := ev, hits := hits } } :=
    ⟨_, _, _, hb⟩
  unfold State.closing at closing
  cases hits : s.aeu.hits with
  | nil =>
    rw [hits] at closing
    obtain ⟨rfl, rfl, rfl⟩ : open' = e ∧ [] = left ∧ none = opened := by simpa using closing
    refine ⟨b, by rw [hb], here, ?_⟩
    have := build_closes ev adv' opens (.inl ⟨by rw [same, hits], passed⟩) (by rw [same, hits]; exact fun _ _ h => nomatch h) (2 * s.aeu.hits.length + 1)
    rw [ran, this, same, hits]
  | cons r rest =>
    rw [hits] at closing
    dsimp only at closing
    have queue : b.aeu.hits = r :: rest := by rw [same, hits]
    rw [hits] at ran
    by_cases waits : r.complete = false
    · rw [if_pos waits] at closing
      split at closing
      · rename_i late
        obtain ⟨rfl, rfl, rfl⟩ : open' = e ∧ r :: rest = left ∧ none = opened := by simpa using closing
        refine ⟨b, by rw [hb], here, ?_⟩
        have := build_closes ev adv' opens (.inr ⟨r, rest, queue, late⟩)
          (fun x l hx => by rw [queue] at hx; cases hx; exact waits) (2 * (r :: rest).length + 1)
        rw [ran, this, queue]
      · exact nomatch closing
    · have done : r.complete = true := (Bool.not_eq_false _).mp waits
      rw [if_neg waits] at closing
      by_cases alone : rest = []
      · subst alone
        rw [if_pos rfl] at closing
        by_cases late : later r.arrival open'.windowEnd = false
        · rw [if_pos late] at closing
          obtain ⟨rfl, rfl, rfl⟩ : open'.join r = e ∧ [] = left ∧ none = opened := by simpa using closing
          obtain ⟨m, hm⟩ : ∃ m, m = b.modAeu fun u => { u with hits := [], event := some (open'.join r) } := ⟨_, rfl⟩
          have joins : buildStep b = some m := by
            unfold buildStep
            rw [opens, queue, hm]
            dsimp only
            rw [if_neg (ne_true_of_eq_false late), if_pos done]
          have windowEnd : (open'.join r).windowEnd = open'.windowEnd := by rw [join_eq]
          refine ⟨m, by rw [hm, hb]; rfl, ?_, ?_⟩
          · obtain ⟨_, _, _, e⟩ := here
            rw [hm, e]
            exact ⟨_, _, _, rfl⟩
          · have := build_closes (s := m) (by rw [hm]; exact ev) (by rw [hm]; exact adv') (e := open'.join r) (by rw [hm]; rfl)
              (.inl ⟨by rw [hm]; rfl, by rw [windowEnd, hm]; exact passed⟩) (by rw [hm]; exact fun _ _ h => nomatch h) 2
            rw [ran, show 2 * [r].length + 2 = 3 + 1 from rfl, build_step joins, this, hm]
            rfl
        · rw [if_neg late] at closing
          split at closing
          · exact nomatch closing
          · rename_i early
            obtain ⟨rfl, rfl, rfl⟩ : open' = e ∧ [] = left ∧ some (openEvent r s.aeu.window) = opened := by simpa using closing
            refine ⟨b, by rw [hb], here, ?_⟩
            have := build_reopens ev adv' opens queue ((Bool.not_eq_false _).mp late) done
              (decide_eq_false (by rw [clock, same]; exact early)) 1
            rw [ran, show 2 * [r].length + 2 = 1 + 3 from rfl, this, same]
      · rw [if_neg alone] at closing
        exact nomatch closing

theorem Forms.modAeu {s t : State} {p : Notice → Bool} {l : List Notice} (h : Forms s t p l) (f : Emission → Emission) :
    Forms s (t.modAeu f) p l := h.congr rfl

/-- The log after a closure (R159). -/
theorem logged (r : EventRec) (u : Emission) : u.closed r = { u with
    event := none, hitsLost := false
    log := if u.log.length < 32 then u.log ++ [r] else u.log.drop 1 ++ [r]
    overwritten := u.overwritten || decide (32 ≤ u.log.length) } := by
  unfold Emission.closed logEvent Config.eventCap
  by_cases h : u.log.length < 32
  · simp [h, Nat.not_le.2 h]
  · simp [h, Nat.not_lt.1 h]

theorem dispose_guard {e : OpenEvent} {s : State} (h : e.stamp.role = .guard) : dispose e s = (.guarded, none) := if_pos h

theorem dispose_unzoned {e : OpenEvent} {s : State} (h : e.stamp.role ≠ .guard) (none : zoneLookup e s = none) :
    dispose e s = (.unzoned, Option.none) := by
  unfold dispose
  rw [if_neg h, none]

theorem dispose_zoned {e : OpenEvent} {s : State} (h : e.stamp.role ≠ .guard) {z : Fin 16} (found : zoneLookup e s = some z) :
    dispose e s = if gatePasses s.zmn.zones[z].cfg e then (.counted, some z) else (.gated, some z) := by
  unfold dispose
  rw [if_neg h, found]

theorem dispose_counted {e : OpenEvent} {s : State} {z : Fin 16} (zone : (dispose e s).2 = some z)
    (counted : (dispose e s).1 = .counted) : dispose e s = (.counted, some z) := Prod.ext counted zone

theorem Bin.add_eq (b : Bin) (energy : Nat) : b.add energy =
    { count := if b.count < 65535 then b.count + 1 else 65535
      energy := if b.energy + energy ≤ 65535 then b.energy + energy else 65535 } := by
  unfold Bin.add satAdd
  congr 1

/-- A closure at the expiry, as the statements spell it. -/
theorem expiry_closes {s m : State} {e : OpenEvent} {left : List HitRec} {opened : Option OpenEvent} {w : HitTime} (hs : s.settled)
    (adv : s.advisory) (h : s.Expires w e left opened m) :
    ∃ t, windowExpiry s = t ∧ t.clock = s.clockAt (w + 1) ∧
      t.aeu = { s.aeu with
        event := opened, hits := left, hitsLost := false
        log := if s.aeu.log.length < 32 then s.aeu.log ++ [closedRecord e s] else s.aeu.log.drop 1 ++ [closedRecord e s]
        overwritten := s.aeu.overwritten || decide (32 ≤ s.aeu.log.length) } ∧
      ((dispose e s).1 ≠ .counted → t.zmn = s.zmn) ∧
      (∀ z, dispose e s = (.counted, some z) →
        t.zmn = { s.zmn with zones := vmod s.zmn.zones z fun x => (x.struck e.hits e.energy).evaluate }) ∧
      Forms s t (Notice.is .zoneLevel) (zoneNotes .event s t) ∧ (∀ a : Fin 8, (t.act a).state = (s.act a).state) ∧ t.stc = s.stc ∧
      t = { s with clock := t.clock, aeu := t.aeu, zmn := t.zmn, pmx := t.pmx, svc := t.svc, lgu := t.lgu, sli := t.sli } := by
  obtain ⟨now, ev, hits, hm⟩ := h.start
  have closed : m.Closed e (closeEvent e m) := closed_closeEvent (by rw [hm]; exact hs.1) (by rw [hm]; exact adv)
  obtain ⟨c, hc⟩ : ∃ c, c = closeEvent e m := ⟨_, rfl⟩
  have expiry := h.expiry
  rw [← hc] at closed expiry
  have record : closedRecord e m = closedRecord e s := by rw [hm]; rfl
  have placed : dispose e m = dispose e s := by rw [hm]; rfl
  have zmn : m.zmn = s.zmn := by rw [hm]
  have clock : c.clock = m.clock := closed.zoned.clock
  have aeu := closed.aeu
  rw [record, logged, hm] at aeu
  obtain ⟨_, _, _, _, _, rest⟩ := closed.zoned.moved.rest
  refine ⟨_, expiry, clock.trans h.clock, ?_, fun out => ?_, fun z hz => ?_, ?_, fun a => ?_, ?_, ?_⟩
  · show ({ c.aeu with hits := left, event := opened } : Emission) = _
    rw [aeu]
  · exact (closed.stands (by rw [placed]; exact out)).trans zmn
  · exact (closed.counts z (by rw [placed]; exact hz)).trans (by rw [zmn])
  · have start : Forms s m (Notice.is .zoneLevel) [] := Forms.of_sli (by rw [hm])
    have all := start.trans (closed.notes.modAeu fun u => { u with hits := left, event := opened })
    have notes : zoneNotes .event m c = zoneNotes .event s (c.modAeu fun u => { u with hits := left, event := opened }) := by
      unfold zoneNotes
      rw [zmn]
      rfl
    rw [notes] at all
    exact all
  · exact (closed.zoned.state a).trans (by rw [hm]; rfl)
  · exact closed.zoned.stc.trans (by rw [hm])
  · rw [rest, hm]
    rfl

/-! ### AE_FETCH and AE_CHANNEL (R145, R146, R160) -/

theorem AeRole.ofCode_code (r : AeRole) : AeRole.ofCode r.code = some r := by cases r <;> rfl

theorem aeChannelForm_bytes {p : List Byte} {c : Fin 12} {x : AeConfig} (hp : p = put1 c.val ++ x.bytes)
    (t1 : 20 ≤ x.threshold) (t2 : x.threshold ≤ 99) (h1 : 50 ≤ x.hdt) (h2 : x.hdt ≤ 1000) (l : x.hlt ≤ 5000)
    (d1 : 1000 ≤ x.maxDur) (d2 : x.maxDur ≤ 65535) (s : State) :
    aeChannelBody p s = .ok x.bytes (s.modAe c fun y => { y with cfg := x }) := by
  have role : x.role.code < 256 := by cases x.role <;> decide
  subst hp
  have f0 : u8 (put1 c.val ++ x.bytes) 0 = c.val := u8_nat rfl (by omega)
  have f1 : u8 (put1 c.val ++ x.bytes) 1 = x.role.code := u8_nat rfl role
  have f2 : u8 (put1 c.val ++ x.bytes) 2 = x.threshold := u8_nat rfl (by omega)
  have f3 : u16 (put1 c.val ++ x.bytes) 3 = x.hdt := u16_nat ⟨rfl, rfl⟩ (by omega)
  have f5 : u16 (put1 c.val ++ x.bytes) 5 = x.hlt := u16_nat ⟨rfl, rfl⟩ (by omega)
  have f7 : u16 (put1 c.val ++ x.bytes) 7 = x.maxDur := u16_nat ⟨rfl, rfl⟩ (by omega)
  have ranges : (inRange 20 99 x.threshold && inRange 50 1000 x.hdt && inRange 0 5000 x.hlt && inRange 1000 65535 x.maxDur) = true := by
    rw [inRange_of (by omega) (by omega), inRange_of (by omega) (by omega), inRange_of (by omega) (by omega),
      inRange_of (by omega) (by omega)]
    rfl
  unfold aeChannelBody aeChannelForm
  rw [f0, if_neg (by omega), Answer.get_some (indexOf_val c), f1, Answer.get_some (AeRole.ofCode_code _), f2, f3, f5, f7,
    Answer.test_of ranges]

theorem aeWindowForm_bytes {p : List Byte} {window : Nat} (hp : p = put1 255 ++ put2 window) (h : window ≤ 65535) (s : State) :
    aeChannelBody p s = .test (window ≤ 2000) .range (.ok (put2 window) (s.modAeu fun u => { u with window := window })) := by
  subst hp
  have f0 : u8 (put1 255 ++ put2 window) 0 = 255 := u8_nat rfl (by omega)
  have f1 : u16 (put1 255 ++ put2 window) 1 = window := u16_nat ⟨rfl, rfl⟩ (by omega)
  unfold aeChannelBody aeWindowForm
  rw [f0, if_pos rfl, f1]

/-- Settles O51. -/
theorem eventsCloseAndAreLogged : Obligations.EventsCloseAndAreLogged := by
  unfold Obligations.EventsCloseAndAreLogged
  refine ⟨fun s due event => ?_, fun s e r rest due event hits waits early => ?_,
    fun s open' e left opened hs adv event low high closing => ?_, fun f s ht => ⟨fun more => ?_, fun few => ?_⟩,
    fun f s c x ht hp t1 t2 h1 h2 l d1 d2 => ?_, fun f s window ht hp h => ?_⟩
  · show stepDone (windowExpiry s) = _
    unfold windowExpiry
    rw [event]
    exact stepDone_of_noResetDue due
  · show stepDone (windowExpiry s) = _
    rw [windowExpiry_eq event, buildAll_stands (buildStep_waits (s := { s with clock := s.clockAt (e.windowEnd + 1) }) hits waits
      fun e' he' => by cases event.symm.trans he'; exact early)]
    exact stepDone_of_noResetDue due
  · intro passes
    have which : s.closing open' = some (e, left, opened) := by
      rw [← closing]
      unfold State.closing
      cases s.aeu.hits with
      | nil => rfl
      | cons r rest =>
        dsimp only
        rw [join_eq]
        simp only [later, openEvent, decide_eq_true_eq] <;> rfl
    obtain ⟨m, expires⟩ := expires hs adv event low high which
    obtain ⟨t, run, clock, aeu, stands, counts, notes, states, stc, frame⟩ := expiry_closes hs adv expires
    refine ⟨t, closedRecord e s, ?_, ?_, aeu, rfl, fun guard => ?_, fun plain => ⟨fun none => ?_, fun z takes first => ?_⟩, stands,
      fun z zone counted => ?_, notes, states, frame⟩
    · show stepDone (windowExpiry s) = _
      rw [run]
      exact settled_done hs stc
    · rw [clock]
      unfold State.clockAt
      rw [toInt_windowEnd low high, Int.toNat_add low (by decide), Nat.add_assoc]
      rfl
    · have placed := dispose_guard (s := s) guard
      exact ⟨congrArg Prod.fst placed, congrArg Prod.snd placed⟩
    · have placed := dispose_unzoned plain (zoneLookup_none none)
      exact ⟨congrArg Prod.fst placed, congrArg Prod.snd placed⟩
    · have placed := dispose_zoned plain (zoneLookup_some takes first)
      have gate : gatePasses s.zmn.zones[z].cfg e = true ↔ passes z := gatePasses_iff ..
      refine ⟨?_, fun h => ?_, fun h => ?_⟩
      · show (dispose e s).2 = some z
        rw [placed]
        split <;> rfl
      · rw [if_pos (gate.2 h)] at placed
        exact congrArg Prod.fst placed
      · rw [if_neg (mt gate.1 h)] at placed
        exact congrArg Prod.fst placed
    · have zones (y : Fin 16) : t.zmn.zones[y] = if z = y then ((s.zmn.zones[y]).struck e.hits e.energy).evaluate else s.zmn.zones[y] := by
        rw [counts z (dispose_counted zone counted)]
        exact vmod_get ..
      refine ⟨fun y other => by rw [zones, if_neg (Ne.symm other)], ?_, fun b rest bins => ?_⟩
      · rw [zones, if_pos rfl]
        rfl
      · rw [zones, if_pos rfl, Zone.evaluate_bins, ← Bin.add_eq]
        unfold Zone.struck
        rw [bins]
  · exact command_refused ht rfl (Answer.test_of_not (decide_eq_false (Nat.not_le.2 more)) _ _)
  · have body : aeFetchBody f.payload s.received = _ := Answer.test_of (decide_eq_true few) _ _
    refine (command_taken (u := { s with aeu := { s.aeu with log := s.aeu.log.drop (u8 f.payload 0), overwritten := false } })
      ht rfl body ht.2.2.1).trans ?_
    rw [← List.length_drop]
    rfl
  · have length : aeChannelLength f.payload = 9 := by
      rw [hp]
      exact if_neg (by rw [show u8 (put1 c.val ++ x.bytes) 0 = c.val from u8_nat rfl (by omega)]; omega)
    exact command_taken ht length (aeChannelForm_bytes hp t1 t2 h1 h2 l d1 d2 _) ht.2.2.1
  · have length : aeChannelLength f.payload = 3 := by
      rw [hp]
      exact if_pos (u8_nat rfl (by omega))
    by_cases fits : window ≤ 2000
    · rw [if_pos fits]
      exact command_taken ht length ((aeWindowForm_bytes hp h _).trans (Answer.test_of (decide_eq_true fits) _ _)) ht.2.2.1
    · rw [if_neg fits]
      exact command_refused ht length ((aeWindowForm_bytes hp h _).trans (Answer.test_of_not (decide_eq_false fits) _ _))

end Sys2Proof.Machine

/-!
ZONE_SET, ZONE_ACK and the bin timer (R14, R163 to R165, R167 to R173).
-/
namespace Sys2Proof.Machine

/-! ### A level that does not rise (R170 to R172) -/

theorem zoneConditions_raised {z : Fin 16} {old new : Level} (h : new.code ≤ old.code) (s : State) :
    (zoneConditions z old new s).raised (.zoneAlert z) = (new.isAlert && s.raised (.zoneAlert z)) ∧
      (zoneConditions z old new s).raised (.zoneAlarm z) = (decide (new = .alarm) && s.raised (.zoneAlarm z)) := by
  have apart : (Cond.zoneAlarm z).slot ≠ (Cond.zoneAlert z).slot := Cond.slot_ne nofun
  unfold zoneConditions
  rw [if_neg (by omega)]
  cases new <;> simp [Level.isAlert, Level.code, lower_raised, apart, apart.symm]

/-- The two conditions of a zone as its displayed level has them (R172). -/
def State.ZoneStands (s : State) (z : Fin 16) (l : Level) : Prop :=
  s.raised (.zoneAlert z) = decide (l = .alert ∨ l = .alarm) ∧ s.raised (.zoneAlarm z) = decide (l = .alarm)

theorem zoneStands_falling {z : Fin 16} {old new : Level} {s : State} (h : new.code ≤ old.code) (stands : s.ZoneStands z old) :
    (zoneConditions z old new s).ZoneStands z new := by
  obtain ⟨alert, alarm⟩ := zoneConditions_raised (z := z) h s
  unfold State.ZoneStands
  rw [alert, alarm, stands.1, stands.2]
  revert h
  cases old <;> cases new <;> decide

/-- The evaluation of a zone whose displayed level does not rise. -/
theorem evaluateZone_falling {cause : ZoneCause} {z : Fin 16} {s : State}
    (h : s.zmn.zones[z].evaluate.displayed.code ≤ s.zmn.zones[z].displayed.code)
    (stands : s.ZoneStands z s.zmn.zones[z].displayed) :
    s.Zoned (evaluateZone cause z s) ∧
      (evaluateZone cause z s).zmn = { s.zmn with zones := vmod s.zmn.zones z Zone.evaluate } ∧
      Forms s (evaluateZone cause z s) (Notice.is .zoneLevel)
        (if s.zmn.zones[z].evaluate.displayed = s.zmn.zones[z].displayed then []
          else [s.zoneNote cause z s.zmn.zones[z].evaluate s.zmn.zones[z].displayed]) ∧
      (evaluateZone cause z s).ZoneStands z s.zmn.zones[z].evaluate.displayed := by
  obtain ⟨zoned, zmn, forms⟩ := evaluateZone_forms (cause := cause) (p := Notice.is .zoneLevel)
    (fun n hn => decide_eq_true hn) (calmAt_falling s _ z h)
  refine ⟨zoned, zmn, forms, ?_⟩
  have read : (s.modZone z Zone.evaluate).zmn.zones[z] = s.zmn.zones[z].evaluate := (vmod_get ..).trans (if_pos rfl)
  unfold evaluateZone
  dsimp only
  rw [read]
  split
  · rename_i same
    rw [same]
    exact stands
  · exact zoneStands_falling h stands

/-- A zone that a command has rewritten, evaluated: what ZONE_SET and ZONE_ACK make of a zone (R164, R173). -/
theorem rewriteZone {cause : ZoneCause} {z : Fin 16} {s : State} {f : Zone → Zone}
    (level : (f s.zmn.zones[z]).displayed = s.zmn.zones[z].displayed)
    (h : (f s.zmn.zones[z]).evaluate.displayed.code ≤ s.zmn.zones[z].displayed.code)
    (stands : s.ZoneStands z s.zmn.zones[z].displayed) :
    let t := evaluateZone cause z (s.modZone z f)
    s.Zoned t ∧ t.zmn = { s.zmn with zones := s.zmn.zones.set z (f s.zmn.zones[z]).evaluate } ∧
      Forms s t (Notice.is .zoneLevel) (zoneNotes cause s t) ∧ t.ZoneStands z (f s.zmn.zones[z]).evaluate.displayed := by
  intro t
  obtain ⟨m, hm⟩ : ∃ m, m = s.modZone z f := ⟨_, rfl⟩
  have read : m.zmn.zones[z] = f s.zmn.zones[z] := by
    rw [hm]; exact (vmod_get ..).trans (if_pos rfl)
  have first : s.Zoned m := hm ▸ zoned_modZmn _ s
  obtain ⟨zoned, zmn, forms, new⟩ := evaluateZone_falling (cause := cause) (z := z) (s := m)
    (by rw [read, level]; exact h) (by rw [read, level, hm]; exact stands)
  have eq : t = evaluateZone cause z m := by rw [hm]
  rw [← eq] at zoned zmn forms new
  have zones : t.zmn = { s.zmn with zones := vmod s.zmn.zones z fun x => (f x).evaluate } := by
    have both : vmod (vmod s.zmn.zones z f) z Zone.evaluate = vmod s.zmn.zones z fun x => (f x).evaluate := by
      unfold vmod
      simp
    rw [zmn, hm, ← both]
    rfl
  rw [read] at new
  refine ⟨first.trans zoned, zones, ?_, new⟩
  rw [zoneNotes_of_one (first.trans zoned).clock (first.trans zoned).psq zones]
  rw [read, level, zoneNote_congr first] at forms
  exact (Forms.of_sli (s := s) (t := m) (by rw [hm]; rfl)).trans forms

/-! ### ZONE_SET (R163, R164) -/

theorem zoneLaw_stands {s : State} (law : s.zoneLaw) (z : Fin 16) : s.ZoneStands z s.zmn.zones[z].displayed := by
  obtain ⟨-, -, -, -, alert, alarm⟩ := law z
  exact ⟨alert, alarm⟩

/-- The ranges of a zone definition's fields (R163). -/
def ZoneConfig.ranges (c : ZoneConfig) : Prop :=
  c.dtLow ≤ c.dtHigh ∧ c.dtHigh ≤ 2000 ∧ (∀ g, c.gate = some g → -10000 ≤ g ∧ g ≤ 10000) ∧ 1 ≤ c.bins ∧ c.bins ≤ 64

/-- The fields of a zone definition fit their bytes. -/
structure ZoneConfig.fits (c : ZoneConfig) : Prop where
  dtLow : c.dtLow ≤ 65535
  dtHigh : c.dtHigh ≤ 65535
  bins : c.bins ≤ 255
  gate : ∀ g, c.gate = some g → -32768 ≤ g ∧ g ≤ 32767
  counts : c.counts.watch ≤ 65535 ∧ c.counts.alert ≤ 65535 ∧ c.counts.alarm ≤ 65535
  energies : c.energies.watch ≤ 65535 ∧ c.energies.alert ≤ 65535 ∧ c.energies.alarm ≤ 65535

theorem zoneConfigOf_bytes {p : List Byte} {z : Fin 16} {c : ZoneConfig} (hp : p = put1 z.val ++ c.bytes) (h : c.fits) :
    (c.ranges → zoneConfigOf p = some c) ∧ (¬c.ranges → zoneConfigOf p = none) := by
  obtain ⟨enabled, first, second, dtLow, dtHigh, track, gate, mask, bins, ⟨w1, a1, l1⟩, ⟨w2, a2, l2⟩⟩ := c
  obtain ⟨lowFit, highFit, binFit, gateFit, ⟨c1, c2, c3⟩, e1, e2, e3⟩ := h
  dsimp only at lowFit highFit binFit gateFit c1 c2 c3 e1 e2 e3
  have firstLt : first.toNat < 4096 := first.isLt
  have secondLt : second.toNat < 4096 := second.isLt
  have layout : p = put1 z.val ++ (putFlag enabled ++ (put2 first.toNat ++ (put2 second.toNat ++ (put2 dtLow ++ (put2 dtHigh ++
      (put1 (optCode track) ++ (putFlag gate.isSome ++ (put2 (gate.getD 0) ++ ([mask] ++ (put1 bins ++
      (put2 w1 ++ (put2 a1 ++ (put2 l1 ++ (put2 w2 ++ (put2 a2 ++ put2 l2))))))))))))))) := by
    rw [hp, ZoneConfig.bytes, putOpt_eq]
    simp only [List.append_assoc] <;> rfl
  have f1 : u8 p 1 = enabled.toNat := by rw [layout]; exact u8_flag rfl
  have f2 : u16 p 2 = first.toNat := by rw [layout]; exact u16_nat ⟨rfl, rfl⟩ (by omega)
  have f4 : u16 p 4 = second.toNat := by rw [layout]; exact u16_nat ⟨rfl, rfl⟩ (by omega)
  have f6 : u16 p 6 = dtLow := by rw [layout]; exact u16_nat ⟨rfl, rfl⟩ (by omega)
  have f8 : u16 p 8 = dtHigh := by rw [layout]; exact u16_nat ⟨rfl, rfl⟩ (by omega)
  have f10 : u8 p 10 = optCode track := by rw [layout]; exact u8_nat rfl (optCode_lt (by decide) _)
  have f11 : u8 p 11 = gate.isSome.toNat := by rw [layout]; exact u8_flag rfl
  have f12 : s16 p 12 = gate.getD 0 := by
    rw [layout]
    cases gate with
    | none => exact s16_of ⟨rfl, rfl⟩ (by decide) (by decide)
    | some g => exact s16_of ⟨rfl, rfl⟩ (gateFit g rfl).1 (gateFit g rfl).2
  have f14 : p.getD 14 0 = mask := by rw [layout]; rfl
  have f15 : u8 p 15 = bins := by rw [layout]; exact u8_nat rfl (by omega)
  have f16 : u16 p 16 = w1 := by rw [layout]; exact u16_nat ⟨rfl, rfl⟩ (by omega)
  have f18 : u16 p 18 = a1 := by rw [layout]; exact u16_nat ⟨rfl, rfl⟩ (by omega)
  have f20 : u16 p 20 = l1 := by rw [layout]; exact u16_nat ⟨rfl, rfl⟩ (by omega)
  have f22 : u16 p 22 = w2 := by rw [layout]; exact u16_nat ⟨rfl, rfl⟩ (by omega)
  have f24 : u16 p 24 = a2 := by rw [layout]; exact u16_nat ⟨rfl, rfl⟩ (by omega)
  have f26 : u16 p 26 = l2 := by rw [layout]; exact u16_nat ⟨rfl, rfl⟩ (by omega)
  have tested : (decide (first.toNat < 4096) && decide (second.toNat < 4096) && decide (dtLow ≤ 2000) && decide (dtHigh ≤ 2000) &&
      (!gate.isSome || inRange (-10000) 10000 (gate.getD 0)) && inRange 1 64 bins && decide (dtLow ≤ dtHigh)) = true ↔
      (dtLow ≤ dtHigh ∧ dtHigh ≤ 2000 ∧ (∀ g, gate = some g → -10000 ≤ g ∧ g ≤ 10000) ∧ 1 ≤ bins ∧ bins ≤ 64) := by
    have gates : (!gate.isSome || inRange (-10000) 10000 (gate.getD 0)) = true ↔ ∀ g, gate = some g → -10000 ≤ g ∧ g ≤ 10000 := by
      cases gate <;> simp [inRange]
    simp only [Bool.and_eq_true, gates]
    simp only [inRange, Bool.and_eq_true, decide_eq_true_eq]
    constructor
    · rintro ⟨⟨⟨⟨⟨-, -⟩, high⟩, g⟩, b1, b2⟩, low⟩
      exact ⟨low, high, g, by omega, by omega⟩
    · rintro ⟨low, high, g, b1, b2⟩
      exact ⟨⟨⟨⟨⟨⟨firstLt, secondLt⟩, by omega⟩, high⟩, g⟩, by omega, by omega⟩, low⟩
  have gated : (if gate.isSome = true then some (gate.getD 0) else none) = gate := by cases gate <;> rfl
  have parsed : zoneConfigOf p = if (decide (first.toNat < 4096) && decide (second.toNat < 4096) && decide (dtLow ≤ 2000) &&
        decide (dtHigh ≤ 2000) && (!gate.isSome || inRange (-10000) 10000 (gate.getD 0)) && inRange 1 64 bins &&
        decide (dtLow ≤ dtHigh)) = true then
      some ⟨enabled, first, second, dtLow, dtHigh, track, gate, mask, bins, ⟨w1, a1, l1⟩, ⟨w2, a2, l2⟩⟩ else none := by
    unfold zoneConfigOf
    rw [f1, f10, f11, flagOf_toNat, flagOf_toNat, optIndexOf_optCode (by decide)]
    simp only [f2, f4, f6, f8, f12, f14, f15, f16, f18, f20, f22, f24, f26, gated, BitVec.ofNat_toNat, BitVec.setWidth_eq]
  rw [parsed]
  exact ⟨fun h => if_pos (tested.2 h), fun h => if_neg (mt tested.1 h)⟩

theorem thresholdFault_low {t : Thresholds} (h : t.alert ≠ 0 ∧ t.alert < t.watch) : thresholdFault t = some 1 := if_pos h

theorem thresholdFault_high {t : Thresholds} (low : ¬(t.alert ≠ 0 ∧ t.alert < t.watch))
    (h : t.alarm ≠ 0 ∧ (t.alarm < t.watch ∨ t.alarm < t.alert)) : thresholdFault t = some 2 := by
  unfold thresholdFault
  rw [if_neg low, if_pos ⟨h.1, by omega⟩]

theorem thresholdFault_valid {t : Thresholds} (h : t.valid) : thresholdFault t = none := by
  obtain ⟨-, -, -, alert, alarm⟩ := h
  unfold thresholdFault
  rw [if_neg (by omega), if_neg (by omega)]

/-- A zone as ZONE_SET leaves it (R164). -/
def Zone.defined (c : ZoneConfig) (x : Zone) : Zone := { x with cfg := c, bins := List.replicate c.bins {}, latched := .quiet }

theorem Zone.levelOfSums_replicate {x : Zone} {n : Nat} (h : x.bins = List.replicate n {}) : x.levelOfSums = .quiet := by
  unfold Zone.levelOfSums
  rw [h]
  simp

theorem Zone.evaluate_defined (c : ZoneConfig) (x : Zone) : (x.defined c).evaluate =
    { cfg := c, bins := List.replicate c.bins {}, lastHits := x.lastHits } := by
  have level : (x.defined c).formLevel = .quiet := (Zone.formLevel_eq _).trans (Zone.levelOfSums_replicate rfl)
  unfold Zone.evaluate
  rw [level]
  unfold formLatched Zone.defined
  cases c.enabled <;> rfl

/-- A zone as ZONE_ACK leaves it (R173). -/
def Zone.acked (clear : Bool) (x : Zone) : Zone := { (if clear then x.emptyBins else x) with latched := .quiet }

theorem Zone.evaluate_acked {clear : Bool} {x : Zone} (present : x.presentLevel = x.levelOfSums) :
    (x.acked clear).evaluate =
      (let level := if clear then .quiet else x.presentLevel
       { x with bins := if clear then List.replicate x.bins.length {} else x.bins
                presentLevel := level, latched := .quiet, displayed := level }) := by
  have level : (x.acked clear).formLevel = if clear then .quiet else x.presentLevel := by
    rw [Zone.formLevel_eq]
    cases clear with
    | true => exact Zone.levelOfSums_replicate rfl
    | false => exact present.symm
  have before : (x.acked clear).presentLevel = x.presentLevel := by cases clear <;> rfl
  have latched : (if (x.acked clear).cfg.enabled then
      formLatched (x.acked clear).presentLevel (x.acked clear).formLevel (x.acked clear).latched else .quiet) = .quiet := by
    rw [level, before]
    unfold formLatched
    cases clear with
    | true => simp [Zone.acked]
    | false => simp [Zone.acked]
  unfold Zone.evaluate
  dsimp only
  rw [latched, level]
  cases clear <;> cases x.presentLevel <;> rfl

/-! ### The commands and the row -/

theorem zoneSetBody_bytes {p : List Byte} {z : Fin 16} {c : ZoneConfig} (hp : p = put1 z.val ++ c.bytes) {s : State}
    (setup : s.stc.mode = .setup) : zoneSetBody p s = .get (zoneConfigOf p) fun c =>
      match thresholdFault c.counts, thresholdFault c.energies with
      | some d, _ => .refuse .refusedRange d
      | none, some d => .refuse .refusedRange (16 + d)
      | none, none => .ok c.bytes (storeZone z c s) := by
  have f0 : u8 p 0 = z.val := by rw [hp]; exact u8_nat rfl (by omega)
  unfold zoneSetBody
  rw [Answer.inSetup_of setup, Answer.get_some (indexOf_eq z f0)] <;> rfl

theorem zoned_rx {s t : State} (h : s.received.Zoned t) : t.received = t := by
  refine received_of_no_rx ?_
  rw [State.Moved.rx h.moved]
  rfl

/-- A zone command that is taken: what its reply leaves (R202). -/
theorem zone_answered {s t : State} (h : s.received.Zoned t) {l : List Notice} (forms : Forms s.received t (Notice.is .zoneLevel) l)
    (code : Byte) (f : Frame) (p : List Byte) :
    (∀ a : Fin 8, ((t.answered code f p).act a).state = (s.act a).state) ∧ RepliedDone s (t.answered code f p) code f p ∧
      Forms s (t.answered code f p) (Notice.is .zoneLevel) l ∧
      t.answered code f p = { s with
        zmn := (t.answered code f p).zmn, svc := (t.answered code f p).svc, lgu := (t.answered code f p).lgu
        pmx := (t.answered code f p).pmx, sli := (t.answered code f p).sli } := by
  refine ⟨fun a => h.state a, repliedDone_answered h.replies .., forms.answered .., ?_⟩
  obtain ⟨_, _, _, _, _, rest⟩ := h.moved.rest
  rw [answered_eq, zoned_rx h, rest]
  rfl

/-- Settles O52. -/
theorem zoneRowsAct : Obligations.ZoneRowsAct := by
  unfold Obligations.ZoneRowsAct
  refine ⟨fun f s ht => ⟨fun out => ?_, fun setup large => ?_⟩, fun f s z c ht hp setup d1 d2 b g c1 c2 c3 e1 e2 e3 => ?_,
    fun f s ht large => ?_, fun f s z clear ht h0 h1 law => ?_, fun s hs adv => ?_⟩
  · exact command_refused ht rfl (Answer.inSetup_of_not out _)
  · refine command_refused ht rfl ((Answer.inSetup_of setup _).trans ?_)
    rw [indexOf_none large] <;> rfl
  · intro refused ranges low high
    have fits : c.fits := ⟨d1, d2, b, g, ⟨c1, c2, c3⟩, e1, e2, e3⟩
    obtain ⟨parsed, failed⟩ := zoneConfigOf_bytes hp fits
    have body := zoneSetBody_bytes hp (s := s.received) setup
    have taken (fit : c.ranges) := body.trans (Answer.get_some (parsed fit) _)
    refine ⟨fun out => ?_, fun fit one => ?_, fun fit one two => ?_, fun fit counts one => ?_, fun fit counts one two => ?_, fun valid law => ?_⟩
    · rw [failed out] at body
      exact command_refused ht rfl body
    · refine command_refused ht rfl ((taken fit).trans ?_)
      rw [thresholdFault_low one]
    · refine command_refused ht rfl ((taken fit).trans ?_)
      rw [thresholdFault_high one two]
    · refine command_refused ht rfl ((taken fit).trans ?_)
      rw [thresholdFault_valid counts, thresholdFault_low one]
    · refine command_refused ht rfl ((taken fit).trans ?_)
      rw [thresholdFault_valid counts, thresholdFault_high one two]
    · obtain ⟨v1, v2, v3, v4, v5, counts, energies⟩ := valid
      have stored := taken ⟨v1, v2, v3, v4, v5⟩
      rw [thresholdFault_valid counts, thresholdFault_valid energies] at stored
      have rewritten := rewriteZone (cause := .set) (z := z) (s := s.received) (f := Zone.defined c) rfl
        (by rw [Zone.evaluate_defined]; exact Nat.zero_le _) (zoneLaw_stands law z)
      obtain ⟨t, ht'⟩ : ∃ t, t = storeZone z c s.received := ⟨_, rfl⟩
      rw [show evaluateZone .set z (s.received.modZone z (Zone.defined c)) = t from ht'.symm, Zone.evaluate_defined] at rewritten
      obtain ⟨zoned, zmn, forms, alert, alarm⟩ := rewritten
      obtain ⟨states, replied, notes, frame⟩ := zone_answered zoned forms 0x52 f c.bytes
      rw [← ht'] at stored
      refine ⟨t.answered 0x52 f c.bytes, command_taken ht rfl (stored.trans ?_) (by rw [zoned.stc]; exact ht.2.2.1), zmn, alert, alarm,
        states, replied, notes, frame⟩
      rw [zoned_rx zoned]
      rfl
  · exact command_refused ht rfl (by unfold zoneAckBody; rw [indexOf_none large] <;> rfl)
  · intro y level bins
    have evaluated : (y.acked clear).evaluate = _ := Zone.evaluate_acked (law z).2.1
    have falls : (y.acked clear).evaluate.displayed.code ≤ y.displayed.code := by
      rw [evaluated, (law z).2.2.1, Level.code_higher]
      dsimp only
      split
      · exact Nat.zero_le _
      · exact Nat.le_max_left ..
    have rewritten := rewriteZone (cause := .ack) (z := z) (s := s.received) (f := Zone.acked clear) (by cases clear <;> rfl)
      falls (zoneLaw_stands law z)
    obtain ⟨t, ht'⟩ : ∃ t, t = ackZone z clear s.received := ⟨_, rfl⟩
    rw [show evaluateZone .ack z (s.received.modZone z (Zone.acked clear)) = t from ht'.symm,
      show (Zone.acked clear s.received.zmn.zones[z]).evaluate = _ from evaluated] at rewritten
    obtain ⟨zoned, zmn, forms, alert, alarm⟩ := rewritten
    obtain ⟨w, hw⟩ : ∃ w : Zone, w = { y with bins := bins, presentLevel := level, latched := .quiet, displayed := level } := ⟨_, rfl⟩
    have here : t.zmn.zones[z] = w := by
      rw [zmn, hw]
      exact vector_set_self ..
    have body : zoneAckBody f.payload s.received = .ok (w.levelBytes ++ w.sumBytes) t := by
      unfold zoneAckBody
      rw [Answer.get_some (indexOf_eq z h0), h1, flagOf_toNat, ← here, ht']
      rfl
    obtain ⟨states, replied, notes, frame⟩ := zone_answered zoned forms 0x54 f (w.levelBytes ++ w.sumBytes)
    have bytes : w.levelBytes ++ w.sumBytes = put1 level.code ++ put1 0 ++ put1 level.code ++
        put4 ((bins.map Bin.count).sum : Nat) ++ put4 ((bins.map Bin.energy).sum : Nat) := by
      rw [hw]
      exact (List.append_assoc (put1 level.code ++ put1 0 ++ put1 level.code) (put4 ((bins.map Bin.count).sum : Nat)) _).symm
    rw [bytes] at body states replied notes frame
    refine ⟨_, command_taken ht rfl (body.trans ?_) (by rw [zoned.stc]; exact ht.2.2.1), zmn, alert, alarm, states, replied, notes, frame⟩
    rw [zoned_rx zoned]
    rfl
  · intro now steady
    obtain ⟨u, hu⟩ : ∃ u, u = s.advanceTo (s.zmn.timerStart + s.zmn.timerSec * 1000000) := ⟨_, rfl⟩
    by_cases st : s.psq.state = .running ∧ s.psq.activity = .steady
    · obtain ⟨t, ht⟩ : ∃ t, t = startBinTimer (ticklessBinTime u) u := ⟨_, rfl⟩
      have run : stepDone (binExpiry s) = .next t := by
        unfold binExpiry
        dsimp only
        rw [← hu, if_pos (by rw [hu]; exact st), ← ht]
        exact settled_done hs (by rw [ht, hu]; rfl)
      have sec : t.zmn.timerSec = s.stc.settings.binTime ∨ t.zmn.timerSec = s.zmn.timerSec := by
        rw [show t.zmn.timerSec = ticklessBinTime u by rw [ht]; rfl]
        unfold ticklessBinTime
        rw [hu]
        exact ite_eq_or_eq ..
      refine ⟨t, run, by rw [ht, hu]; rfl, by rw [ht, hu]; rfl, sec.imp_right fun e => ⟨st, e⟩, fun _ => by rw [ht, hu]; rfl,
        fun out => absurd st out, fun a => by rw [ht, hu]; rfl, by rw [ht, hu]; rfl⟩
    · obtain ⟨m, hm⟩ : ∃ m, m = startTick .timer u := ⟨_, rfl⟩
      have walk := zoneWalk_forms (cause := .tick) (p := Notice.is .zoneLevel) (fun n hn => decide_eq_true hn) m fun z _ =>
        calmAt_advisory (by rw [hm, hu]; exact hs.1) (by rw [hm, hu]; exact adv) (fun n hn => decide_eq_false (by rw [hn]; exact nofun)) z _ _
      obtain ⟨t, ht⟩ : ∃ t, t = forAsc 16 (evaluateEnabled .tick) m := ⟨_, rfl⟩
      rw [← ht] at walk
      obtain ⟨zoned, ⟨v, zmn⟩, zones, forms⟩ := walk
      have run : stepDone (binExpiry s) = .next t := by
        have ticked : binExpiry s = t := by
          unfold binExpiry
          dsimp only
          rw [← hu, if_neg (by rw [hu]; exact st), ht, hm]
          rfl
        rw [ticked]
        exact settled_done hs (by rw [zoned.stc, hm, hu]; rfl)
      have before (z : Fin 16) : m.zmn.zones[z] = { s.zmn.zones[z] with bins := advanceBins s.zmn.zones[z].bins } := by
        rw [hm, hu]
        simp [startTick, startBinTimer, State.modZmn, State.advanceTo]
      have start : m.zmn.timerStart = now ∧ m.zmn.timerSec = s.stc.settings.binTime ∧
          m.zmn.tickCount = (s.zmn.tickCount + 1) % 4294967296 ∧ m.zmn.lastTick = .timer := by
        rw [hm, hu]
        exact ⟨rfl, rfl, rfl, rfl⟩
      obtain ⟨s1, s2, s3, s4⟩ := start
      refine ⟨t, run, by rw [zoned.clock, hm, hu]; rfl, by rw [zmn]; exact s1, .inl (by rw [zmn]; exact s2), fun h => absurd h st,
        fun _ => ⟨by rw [zmn]; exact s3, by rw [zmn]; exact s4, ?_, fun z => ⟨fun some => ?_, fun on => ?_⟩⟩, fun a => ?_, ?_⟩
      · have start : Forms s m (Notice.is .zoneLevel) [] := Forms.of_sli (by rw [hm, hu]; rfl)
        have notes : zoneNotes .tick m t = zoneNotes .tick s t := by
          unfold zoneNotes
          rw [List.filter_congr fun z _ => by rw [before z]]
          exact List.map_congr_left fun z _ => by rw [before z]
        rw [← notes]
        exact start.trans forms
      · rw [zones, Zone.walked_bins, before]
        exact if_neg some
      · have eval : t.zmn.zones[z] = m.zmn.zones[z].evaluate := by
          rw [zones]
          exact if_pos (by rw [before]; exact on)
        have level : t.zmn.zones[z].presentLevel = m.zmn.zones[z].levelOfSums := by rw [eval, Zone.evaluate_present]
        refine ⟨?_, ?_⟩
        · rw [level, eval]; rfl
        · rw [level, eval, ← Zone.formLevel_eq]
          unfold Zone.evaluate
          dsimp only
          rw [if_pos (by rw [before]; exact on), before]
          rfl
      · rw [zoned.state, hm, hu]; rfl
      · obtain ⟨_, _, _, _, _, rest⟩ := zoned.moved.rest
        rw [rest, hm, hu]
        rfl

end Sys2Proof.Machine

/-!
The accuracy of the sine (R34).
-/
namespace Sys2Proof.Machine

/-! ### The series of the sine -/

/-- A term of the sine series. -/
noncomputable def sineTerm (x : ℝ) (k : ℕ) : ℝ := x ^ (2 * k + 1) / (2 * k + 1).factorial

theorem sineTerm_nonneg {x : ℝ} (h : 0 ≤ x) (k : ℕ) : 0 ≤ sineTerm x k := by unfold sineTerm; positivity

theorem sineTerm_succ (x : ℝ) (k : ℕ) : sineTerm x (k + 1) = sineTerm x k * x ^ 2 / ((2 * k + 1 + 1) * (2 * k + 1 + 2)) := by
  unfold sineTerm
  rw [show 2 * (k + 1) + 1 = 2 * k + 1 + 1 + 1 by ring, Nat.factorial_succ, Nat.factorial_succ]
  push_cast
  field_simp
  ring

theorem sineTerm_antitone {x : ℝ} (low : 0 ≤ x) (high : x ≤ 2) : Antitone (sineTerm x) := by
  refine antitone_nat_of_succ_le fun k => ?_
  rw [sineTerm_succ, div_le_iff₀ (by positivity)]
  have := sineTerm_nonneg low k
  have hk : (0 : ℝ) ≤ k := Nat.cast_nonneg k
  nlinarith [mul_nonneg this hk, mul_nonneg this (mul_nonneg hk hk), mul_nonneg this (sub_nonneg.2 (pow_le_pow_left₀ low high 2))]

theorem sineTerm_le_two {x : ℝ} (low : 0 ≤ x) (high : x ≤ 2) (k : ℕ) : sineTerm x k ≤ 2 := by
  refine (sineTerm_antitone low high (Nat.zero_le k)).trans ?_
  simpa [sineTerm] using high

/-- Twenty-six terms of the series give the sine of an argument up to 2. -/
theorem sineTerms_near {x : ℝ} (low : 0 ≤ x) (high : x ≤ 2) :
    |∑ k ∈ Finset.range 26, (-1) ^ k * sineTerm x k - Real.sin x| ≤ 1 / 10 ^ 20 := by
  have sum : HasSum (fun k : ℕ => (-1) ^ k * sineTerm x k) (Real.sin x) := by
    have := Real.hasSum_sin x
    simpa only [sineTerm, mul_div_assoc] using this
  have above := (sineTerm_antitone low high).tendsto_le_alternating_series sum.tendsto_sum_nat 13
  have below := (sineTerm_antitone low high).alternating_series_le_tendsto sum.tendsto_sum_nat 13
  rw [show 2 * 13 + 1 = 26 + 1 from rfl, Finset.sum_range_succ] at above
  rw [show 2 * 13 = 26 from rfl] at below
  have last : sineTerm x 26 ≤ 1 / 10 ^ 20 := by
    unfold sineTerm
    calc x ^ (2 * 26 + 1) / ((2 * 26 + 1).factorial : ℝ) ≤ 2 ^ (2 * 26 + 1) / ((2 * 26 + 1).factorial : ℝ) := by gcongr
      _ ≤ 1 / 10 ^ 20 := by norm_num [Nat.factorial]
  rw [abs_le]
  constructor
  · have : (-1 : ℝ) ^ 26 * sineTerm x 26 = sineTerm x 26 := by norm_num
    linarith
  · linarith

/-! ### The series in units of 2^-160 -/

theorem nat_div_near (a : ℕ) {b : ℕ} : (a : ℝ) / b - 1 ≤ ((a / b : ℕ) : ℝ) ∧ ((a / b : ℕ) : ℝ) ≤ a / b := by
  rw [← Nat.floor_div_eq_div (K := ℝ)]
  refine ⟨?_, Nat.floor_le (by positivity)⟩
  have := Nat.lt_floor_add_one ((a : ℝ) / b)
  linarith

/-- One term of the series as the model forms it, from the term before it: each of its two divisions drops less than a unit, and
the division by at least 6 lessens what the term before it lacks. -/
theorem sineTerm_step {x : ℝ} (low : 0 ≤ x) (high : x ≤ 2) {x2 term k : ℕ}
    (square : |(x2 : ℝ) / 2 ^ 160 - x ^ 2| ≤ 1 / 2 ^ 160) (below : (x2 : ℝ) / 2 ^ 160 ≤ x ^ 2)
    (near : |(term : ℝ) / 2 ^ 160 - sineTerm x k| ≤ 8 / 2 ^ 160) :
    |((term * x2 / 2 ^ 160 / ((2 * k + 1 + 1) * (2 * k + 1 + 2)) : ℕ) : ℝ) / 2 ^ 160 - sineTerm x (k + 1)| ≤ 8 / 2 ^ 160 := by
  obtain ⟨d, hd⟩ : ∃ d : ℝ, d = (2 * k + 1 + 1) * (2 * k + 1 + 2) := ⟨_, rfl⟩
  have six : 6 ≤ d := by
    rw [hd]
    have : (0 : ℝ) ≤ k := Nat.cast_nonneg k
    nlinarith
  have one := nat_div_near (term * x2) (b := 2 ^ 160)
  have two := nat_div_near (term * x2 / 2 ^ 160) (b := (2 * k + 1 + 1) * (2 * k + 1 + 2))
  obtain ⟨f, hf⟩ : ∃ f : ℕ, f = term * x2 / 2 ^ 160 := ⟨_, rfl⟩
  obtain ⟨g, hg⟩ : ∃ g : ℕ, g = f / ((2 * k + 1 + 1) * (2 * k + 1 + 2)) := ⟨_, rfl⟩
  rw [← hf] at one two ⊢
  rw [← hg] at two ⊢
  simp only [Nat.cast_mul, Nat.cast_pow, Nat.cast_ofNat] at one
  push_cast at two
  rw [← hd] at two
  rw [sineTerm_succ, ← hd]
  have start := sineTerm_nonneg low k
  have top := sineTerm_le_two low high k
  have product : |(term : ℝ) / 2 ^ 160 * (x2 / 2 ^ 160) - sineTerm x k * x ^ 2| ≤ 34 / 2 ^ 160 := by
    have four : (x2 : ℝ) / 2 ^ 160 ≤ 4 := below.trans (by nlinarith)
    have split : (term : ℝ) / 2 ^ 160 * (x2 / 2 ^ 160) - sineTerm x k * x ^ 2 =
        ((term : ℝ) / 2 ^ 160 - sineTerm x k) * (x2 / 2 ^ 160) + sineTerm x k * (x2 / 2 ^ 160 - x ^ 2) := by ring
    rw [split]
    refine (abs_add_le _ _).trans ?_
    rw [abs_mul, abs_mul, abs_of_nonneg start, abs_of_nonneg (show (0 : ℝ) ≤ x2 / 2 ^ 160 by positivity)]
    calc |(term : ℝ) / 2 ^ 160 - sineTerm x k| * (x2 / 2 ^ 160) + sineTerm x k * |x2 / 2 ^ 160 - x ^ 2|
        ≤ 8 / 2 ^ 160 * 4 + 2 * (1 / 2 ^ 160) := by gcongr
      _ = 34 / 2 ^ 160 := by norm_num
  have pos : 0 < d := by linarith
  have whole : (term : ℝ) * x2 / 2 ^ 160 / 2 ^ 160 = term / 2 ^ 160 * (x2 / 2 ^ 160) := by ring
  obtain ⟨o1, o2⟩ := one
  obtain ⟨t1, t2⟩ := two
  obtain ⟨p1, p2⟩ := abs_le.1 product
  rw [← whole] at p1 p2
  obtain ⟨y, hy⟩ : ∃ y : ℝ, y = sineTerm x k * x ^ 2 := ⟨_, rfl⟩
  obtain ⟨p, hp⟩ : ∃ p : ℝ, p = (term : ℝ) * x2 / 2 ^ 160 := ⟨_, rfl⟩
  rw [← hy, ← hp] at p1 p2
  rw [← hp] at o1 o2
  rw [← hy, abs_le]
  have share {a b : ℝ} (h : a ≤ b + 36 / 2 ^ 160) : a / d ≤ b / d + 6 / 2 ^ 160 := by
    calc a / d ≤ (b + 36 / 2 ^ 160) / d := by gcongr
      _ = b / d + 36 / 2 ^ 160 / d := by ring
      _ ≤ b / d + 36 / 2 ^ 160 / 6 := by gcongr
      _ = b / d + 6 / 2 ^ 160 := by norm_num
  have above := share (a := f / 2 ^ 160) (b := y) (by linarith [div_le_div_of_nonneg_right o2 (show (0 : ℝ) ≤ 2 ^ 160 by positivity)])
  have under := share (a := y) (b := f / 2 ^ 160) (by
    have := div_le_div_of_nonneg_right o1 (show (0 : ℝ) ≤ 2 ^ 160 by positivity)
    rw [sub_div] at this
    linarith)
  have t1' := div_le_div_of_nonneg_right t1 (show (0 : ℝ) ≤ 2 ^ 160 by positivity)
  have t2' := div_le_div_of_nonneg_right t2 (show (0 : ℝ) ≤ 2 ^ 160 by positivity)
  rw [sub_div, div_right_comm] at t1'
  rw [div_right_comm] at t2'
  constructor <;> linarith

/-- The series of the model stays near that of the terms. -/
theorem sineSeries_near {x : ℝ} (low : 0 ≤ x) (high : x ≤ 2) {x2 : ℕ} (square : |(x2 : ℝ) / 2 ^ 160 - x ^ 2| ≤ 1 / 2 ^ 160)
    (below : (x2 : ℝ) / 2 ^ 160 ≤ x ^ 2) (fuel : ℕ) : ∀ (k term : ℕ), |(term : ℝ) / 2 ^ 160 - sineTerm x k| ≤ 8 / 2 ^ 160 →
    |(sineSeries x2 fuel (2 * k + 1) term : ℝ) / 2 ^ 160 - ∑ i ∈ Finset.range fuel, (-1) ^ i * sineTerm x (k + i)| ≤
      (fuel : ℝ) * (8 / 2 ^ 160) := by
  induction fuel with
  | zero => intro k term _; simp [sineSeries]
  | succ fuel ih =>
    intro k term near
    have rest := ih (k + 1) _ (sineTerm_step low high square below near)
    rw [show 2 * (k + 1) + 1 = 2 * k + 1 + 2 by ring] at rest
    have tail : ∑ i ∈ Finset.range (fuel + 1), (-1 : ℝ) ^ i * sineTerm x (k + i) =
        sineTerm x k - ∑ i ∈ Finset.range fuel, (-1) ^ i * sineTerm x (k + 1 + i) := by
      rw [Finset.sum_range_succ', pow_zero, one_mul, Nat.add_zero, add_comm, sub_eq_add_neg, ← Finset.sum_neg_distrib]
      refine congrArg _ (Finset.sum_congr rfl fun i _ => ?_)
      rw [pow_succ, show k + (i + 1) = k + 1 + i by ring]
      ring
    rw [tail, sineSeries]
    push_cast
    rw [abs_le] at near rest ⊢
    obtain ⟨n1, n2⟩ := near
    obtain ⟨r1, r2⟩ := rest
    rw [sub_div]
    constructor <;> linarith

theorem pi_near : |(twoPi : ℝ) / 2 ^ 160 - 2 * Real.pi| ≤ 1 / 10 ^ 18 := by
  have low := Real.pi_gt_d20
  have high := Real.pi_lt_d20
  unfold twoPi
  rw [abs_le]
  constructor <;> norm_num at low high ⊢ <;> linarith

/-- The sine of the first quarter (R34). -/
theorem sineQuarter_near {q : ℕ} (h : q ≤ 5000000) :
    |(sineQuarter q : ℝ) / 2 ^ 160 - Real.sin (2 * Real.pi * q / 20000000)| ≤ 1 / 10 ^ 15 := by
  unfold sineQuarter
  split
  · rename_i zero
    rw [zero]
    norm_num
  split
  · rename_i _ quarter
    obtain rfl : q = 5000000 := by omega
    rw [show 2 * Real.pi * ((5000000 : ℕ) : ℝ) / 20000000 = Real.pi / 2 by push_cast; ring, Real.sin_pi_div_two]
    norm_num
  dsimp only
  obtain ⟨n, hn⟩ : ∃ n, n = twoPi * q / Config.cycle := ⟨_, rfl⟩
  obtain ⟨x, hx⟩ : ∃ x : ℝ, x = (n : ℝ) / 2 ^ 160 := ⟨_, rfl⟩
  rw [← hn]
  have unit : (1 : ℝ) / 2 ^ 160 ≤ 1 / 10 ^ 30 := by norm_num
  have quarter : (q : ℝ) / 20000000 ≤ 1 / 4 := by
    have : (q : ℝ) ≤ 5000000 := by exact_mod_cast h
    linarith
  have arg : |x - 2 * Real.pi * q / 20000000| ≤ 1 / 10 ^ 17 := by
    have floor := nat_div_near (twoPi * q) (b := Config.cycle)
    rw [← hn] at floor
    have cycle : ((Config.cycle : ℕ) : ℝ) = 20000000 := by norm_num [Config.cycle]
    rw [Nat.cast_mul, cycle] at floor
    have turn : |(twoPi : ℝ) / 2 ^ 160 * (q / 20000000) - 2 * Real.pi * (q / 20000000)| ≤ 1 / 10 ^ 18 := by
      rw [← sub_mul, abs_mul, abs_of_nonneg (show (0 : ℝ) ≤ q / 20000000 by positivity)]
      calc |(twoPi : ℝ) / 2 ^ 160 - 2 * Real.pi| * ((q : ℝ) / 20000000) ≤ 1 / 10 ^ 18 * (1 / 4) := by
            gcongr
            exact pi_near
        _ ≤ 1 / 10 ^ 18 := by norm_num
    obtain ⟨f1, f2⟩ := floor
    have f1' := div_le_div_of_nonneg_right f1 (show (0 : ℝ) ≤ 2 ^ 160 by positivity)
    have f2' := div_le_div_of_nonneg_right f2 (show (0 : ℝ) ≤ 2 ^ 160 by positivity)
    have whole : (twoPi : ℝ) * q / 20000000 / 2 ^ 160 = twoPi / 2 ^ 160 * (q / 20000000) := by ring
    rw [sub_div, whole, ← hx] at f1'
    rw [whole, ← hx] at f2'
    rw [abs_le] at turn ⊢
    rw [mul_div_assoc]
    obtain ⟨t1, t2⟩ := turn
    constructor <;> linarith
  have low : 0 ≤ x := by rw [hx]; positivity
  have high : x ≤ 2 := by
    have pi := Real.pi_lt_d2
    have := (abs_le.1 arg).2
    have : 2 * Real.pi * q / 20000000 ≤ 2 * Real.pi * (1 / 4) := by
      rw [mul_div_assoc]
      have := Real.pi_pos
      gcongr
    linarith
  obtain ⟨d1, d2⟩ := nat_div_near (n * n) (b := 2 ^ 160)
  simp only [Nat.cast_mul, Nat.cast_pow, Nat.cast_ofNat] at d1 d2
  have d1' := div_le_div_of_nonneg_right d1 (show (0 : ℝ) ≤ 2 ^ 160 by positivity)
  have d2' := div_le_div_of_nonneg_right d2 (show (0 : ℝ) ≤ 2 ^ 160 by positivity)
  have whole : (n : ℝ) * n / 2 ^ 160 / 2 ^ 160 = x ^ 2 := by rw [hx]; ring
  rw [sub_div, whole] at d1'
  rw [whole] at d2'
  have square : |((n * n / 2 ^ 160 : ℕ) : ℝ) / 2 ^ 160 - x ^ 2| ≤ 1 / 2 ^ 160 := by
    rw [abs_le]
    constructor <;> linarith
  have start : |(n : ℝ) / 2 ^ 160 - sineTerm x 0| ≤ 8 / 2 ^ 160 := by
    rw [← hx, show sineTerm x 0 = x by simp [sineTerm], sub_self, abs_zero]
    positivity
  have series := sineSeries_near low high square d2' 26 0 n start
  simp only [Nat.zero_add, Nat.mul_zero] at series
  have terms := sineTerms_near low high
  have sine := (Real.abs_sin_sub_sin_le x (2 * Real.pi * q / 20000000)).trans arg
  rw [abs_le] at series terms sine ⊢
  obtain ⟨a1, a2⟩ := series
  obtain ⟨b1, b2⟩ := terms
  obtain ⟨c1, c2⟩ := sine
  push_cast at a1 a2
  constructor <;> linarith

/-- A negated value is as near to the negated sine. -/
theorem neg_near {a : Int} {w e : ℝ} (h : |(a : ℝ) / 2 ^ 160 - w| ≤ e) : |((-a : Int) : ℝ) / 2 ^ 160 - -w| ≤ e := by
  rw [show ((-a : Int) : ℝ) / 2 ^ 160 - -w = -((a : ℝ) / 2 ^ 160 - w) by push_cast; ring, abs_neg]
  exact h

/-- The sine of every phase, by the symmetry of the quarters (R34). -/
theorem sineAt_near {p : ℕ} (hp : p < 20000000) :
    |(sineAt p : ℝ) / 2 ^ 160 - Real.sin (2 * Real.pi * p / 20000000)| ≤ 1 / 10 ^ 15 := by
  unfold sineAt
  split
  · exact sineQuarter_near (by omega)
  split
  · have near := sineQuarter_near (q := 10000000 - p) (by omega)
    rwa [← Real.sin_pi_sub, show Real.pi - 2 * Real.pi * ((10000000 - p : ℕ) : ℝ) / 20000000 = 2 * Real.pi * p / 20000000 by
      rw [Nat.cast_sub (by omega)]; push_cast; ring] at near
  split
  · have near := neg_near (sineQuarter_near (q := p - 10000000) (by omega))
    rwa [← Real.sin_add_pi, show 2 * Real.pi * ((p - 10000000 : ℕ) : ℝ) / 20000000 + Real.pi = 2 * Real.pi * p / 20000000 by
      rw [Nat.cast_sub (by omega)]; push_cast; ring] at near
  · have near := neg_near (sineQuarter_near (q := 20000000 - p) (by omega))
    rwa [← Real.sin_neg, ← Real.sin_add_two_pi, show -(2 * Real.pi * ((20000000 - p : ℕ) : ℝ) / 20000000) + 2 * Real.pi =
      2 * Real.pi * p / 20000000 by rw [Nat.cast_sub (by omega)]; push_cast; ring] at near

/-- Settles O25. -/
theorem sineIsAccurate : Obligations.SineIsAccurate := by
  intro p hp w
  have near : |(sineAt p : ℝ) / 2 ^ 160 - w| ≤ 1 / 10 ^ 15 := sineAt_near hp
  refine ⟨near, fun mean amp ha => ?_⟩
  obtain ⟨x, hx⟩ : ∃ x : Int, x = waveLevel mean amp .sine p := ⟨_, rfl⟩
  have rounded := roundDiv_near (mean * 2 ^ 160 + (amp : Int) * sineAt p) (b := 2 ^ 160) (by norm_num)
  rw [show roundDiv (mean * 2 ^ 160 + (amp : Int) * sineAt p) (2 ^ 160) = x from hx.symm] at rounded
  obtain ⟨l1, l2⟩ := rounded
  have l1' : 2 * (x : ℝ) * 2 ^ 160 ≤ 2 * (mean * 2 ^ 160 + amp * sineAt p) + 2 ^ 160 := by exact_mod_cast l1
  have l2' : 2 * (mean * 2 ^ 160 + amp * sineAt p) - 2 ^ 160 ≤ 2 * (x : ℝ) * 2 ^ 160 := by exact_mod_cast l2
  have level : |(x : ℝ) - (mean + amp * ((sineAt p : ℝ) / 2 ^ 160))| ≤ 1 / 2 := by
    have whole : (sineAt p : ℝ) = sineAt p / 2 ^ 160 * 2 ^ 160 := by ring
    obtain ⟨v, hv⟩ : ∃ v : ℝ, v = (sineAt p : ℝ) / 2 ^ 160 := ⟨_, rfl⟩
    rw [← hv] at whole ⊢
    rw [whole] at l1' l2'
    rw [abs_le]
    constructor <;> linarith
  have scaled : |(amp : ℝ) * ((sineAt p : ℝ) / 2 ^ 160) - amp * w| ≤ 1 / 10 ^ 11 := by
    rw [← mul_sub, abs_mul, abs_of_nonneg (Nat.cast_nonneg amp)]
    have top : (amp : ℝ) ≤ 10000 := by exact_mod_cast ha
    calc (amp : ℝ) * |(sineAt p : ℝ) / 2 ^ 160 - w| ≤ 10000 * (1 / 10 ^ 15) := by gcongr
      _ = 1 / 10 ^ 11 := by norm_num
  rw [← hx]
  calc |(x : ℝ) - (mean + amp * w)|
      = |((x : ℝ) - (mean + amp * ((sineAt p : ℝ) / 2 ^ 160))) + (amp * ((sineAt p : ℝ) / 2 ^ 160) - amp * w)| := by ring_nf
    _ ≤ 1 / 2 + 1 / 10 ^ 11 := (abs_add_le _ _).trans (add_le_add level scaled)

end Sys2Proof.Machine

/-!
The application of an entry's action (R84, R86, R89, R187 to R190): what it leaves unchanged, the states it gives the
actuators, and the notices of a raising.
-/
namespace Sys2Proof.Machine

/-! ### What the application of an action leaves unchanged -/

/-- What the application of an entry's action has made of a state so far. -/
structure State.Applied (s t : State) : Prop where
  rest : ∃ m q v g e, t = { s with stc := { s.stc with mode := m }, psq := q, svc := { s.svc with acts := v }, lgu := g, ev := e }
  force : ∀ a, (t.act a).force = (s.act a).force
  cycles : t.psq.totalCycles = s.psq.totalCycles
  levels : t.psq.levels = s.psq.levels
  formed : ∃ l m, t.ev.acts = s.ev.acts ++ l ∧ t.ev.seqs = s.ev.seqs ++ m ∧ (∀ x ∈ l, x.2.kind = .actState) ∧
    ∀ n ∈ m, n.kind = .seqState
  lowers : ∃ l, t.ev.lowers = s.ev.lowers ++ l ∧ ∀ c ∈ l, c.actuator.isSome = true

theorem State.Steps.applied {s t : State} (h : s.Steps t) : s.Applied t := by
  obtain ⟨q, v, g, e, rest⟩ := h.rest
  exact ⟨⟨s.stc.mode, q, v, g, e, rest⟩, h.force, h.cycles, h.levels, h.formed, h.lowers⟩

theorem State.Applied.rfl' {s : State} : s.Applied s := State.Steps.rfl'.applied

theorem State.Applied.trans {s t u : State} (h : s.Applied t) (k : t.Applied u) : s.Applied u where
  rest := by
    obtain ⟨_, _, _, _, _, rfl⟩ := h.rest
    obtain ⟨_, _, _, _, _, rfl⟩ := k.rest
    exact ⟨_, _, _, _, _, rfl⟩
  force a := (k.force a).trans (h.force a)
  cycles := k.cycles.trans h.cycles
  levels := k.levels.trans h.levels
  formed := by
    obtain ⟨l, m, hl, hm, al, am⟩ := h.formed
    obtain ⟨l', m', hl', hm', al', am'⟩ := k.formed
    exact ⟨l ++ l', m ++ m', by rw [hl', hl, List.append_assoc], by rw [hm', hm, List.append_assoc],
      fun x hx => (List.mem_append.1 hx).elim (al x) (al' x), fun n hn => (List.mem_append.1 hn).elim (am n) (am' n)⟩
  lowers := by
    obtain ⟨l, hl, al⟩ := h.lowers
    obtain ⟨m, hm, am⟩ := k.lowers
    exact ⟨l ++ m, by rw [hm, hl, List.append_assoc], fun c hc => (List.mem_append.1 hc).elim (al c) (am c)⟩

section

variable {s t : State} (h : s.Applied t)
include h

theorem State.Applied.pmx : t.pmx = s.pmx := by obtain ⟨_, _, _, _, _, rfl⟩ := h.rest; rfl
theorem State.Applied.sli : t.sli = s.sli := by obtain ⟨_, _, _, _, _, rfl⟩ := h.rest; rfl
theorem State.Applied.time : t.time = s.time := by obtain ⟨_, _, _, _, _, rfl⟩ := h.rest; rfl

end

/-- A change of the plan that keeps the counts and levels, with its SEQ_STATE notices. -/
theorem applied_withPlan {s : State} {q : Sequencer} {m : List Notice} (cycles : q.totalCycles = s.psq.totalCycles)
    (levels : q.levels = s.psq.levels) (kinds : ∀ n ∈ m, n.kind = .seqState) : s.Applied (s.withPlan q (s.ev.seqs ++ m)) :=
  ⟨⟨_, _, _, _, _, rfl⟩, fun _ => rfl, cycles, levels, ⟨[], m, (List.append_nil _).symm, rfl, nofun, kinds⟩,
    [], (List.append_nil _).symm, nofun⟩

theorem applied_addReason (r : HoldReason) (s : State) : s.Applied (addReason r s) := by
  rw [addReason_eq]
  split
  · exact applied_withPlan (Sequencer.stopped_totalCycles _) (Sequencer.stopped_spec _).2 (Sequencer.stopNotes_kind _ _)
  · have := applied_withPlan (s := s) (q := { s.psq with hold := s.psq.hold.put true r }) (m := []) rfl rfl nofun
    rwa [List.append_nil] at this

theorem applied_seqAbort (s : State) : s.Applied (seqAbort s) := by
  unfold seqAbort
  split
  · rw [seqChange_eq]
    exact applied_withPlan rfl rfl fun n hn => by rw [List.mem_singleton.1 hn]; rfl
  · exact .rfl'

theorem applied_lowTarget (s : State) :
    s.Steps (forAsc 8 (fun a s => s.modAct a fun x => if x.state = .starting then { x with toActive := false } else x) s) := by
  refine forAsc_keeps (f := fun a s => s.modAct a fun x => if x.state = .starting then { x with toActive := false } else x)
    s.Steps (fun a t h => h.trans (steps_modAct a t ?_)) .rfl'
  split <;> exact ⟨rfl, rfl, rfl, rfl⟩

theorem applied_enterSafe (s : State) : s.Applied (enterSafe s) := by
  unfold enterSafe
  split
  · exact .rfl'
  · have safe : s.Applied (s.modStc fun c => { c with mode := .safe }) :=
      ⟨⟨_, _, _, _, _, rfl⟩, fun _ => rfl, rfl, rfl,
        ⟨[], [], (List.append_nil _).symm, (List.append_nil _).symm, nofun, nofun⟩, [], (List.append_nil _).symm, nofun⟩
    exact (safe.trans (applied_seqAbort _)).trans (applied_lowTarget _).applied

/-! ### The walks over a reach (R84, R86, R89) -/

theorem steps_unloadAction (a : Fin 8) (s : State) : s.Steps (unloadAction a s) := by
  unfold unloadAction
  split
  · exact steps_enterUnloading a false .protection s
  · exact steps_setActState a (by decide) .protection s
  all_goals exact .rfl'

theorem steps_tripAction (a : Fin 8) (s : State) : s.Steps (tripAction a s) := by
  unfold tripAction
  dsimp only
  split
  · exact forAsc_keeps s.Steps (fun b t h => keeps_ite (P := s.Steps) (h.trans (steps_setActState b (by decide) .frame t)) h)
      (steps_setActState a (by decide) .protection s)
  · exact .rfl'

/-- The actuators of a reach, ascending, each unloaded. -/
def unloadReach (m : ActSet) (s : State) : State := forAsc 8 (fun a s => if ActSet.has m a then unloadAction a s else s) s

/-- The actuators of a reach, ascending, each tripped. -/
def tripReach (m : ActSet) (s : State) : State := forAsc 8 (fun a s => if ActSet.has m a then tripAction a s else s) s

theorem applyAction_eq (x : ProtConfig) (m : ActSet) (s : State) : applyAction x m s =
    match x.acting with
    | .note | .derate => s
    | .hold => addReason .protection s
    | .unload => if x.scope = .station then enterSafe (unloadReach m s) else unloadReach m s
    | .trip => if x.scope = .station then enterSafe (tripReach m s) else tripReach m s := by
  unfold applyAction unloadReach tripReach
  cases x.acting <;> rfl

theorem steps_tripReach (m : ActSet) (s : State) : s.Steps (tripReach m s) :=
  forAsc_keeps (f := fun a s => if ActSet.has m a then tripAction a s else s) s.Steps
    (fun a t h => keeps_ite (P := s.Steps) (h.trans (steps_tripAction a t)) h) .rfl'

/-- The state a protection UNLOAD gives an actuator it reaches (R84). -/
def ActState.unloaded : ActState → ActState
  | .active => .unloading
  | .raising => .low
  | x => x

/-- What a protection UNLOAD makes of an actuator it reaches, or does not (R80, R84). -/
def Actuator.Unloaded (reached : Bool) (x y : Actuator) : Prop :=
  y.state = (if reached then x.state.unloaded else x.state) ∧
  (reached = true → x.state = .active → y.destOff = false)

/-- The ACT_STATE notices that an UNLOAD of a reach forms of an actuator (R74). -/
def State.unloadNotes (m : ActSet) (a : Fin 8) (s : State) : List Notice :=
  if ActSet.has m a = true ∧ (s.act a).state = .raising then [s.actNote a .low .raising .protection] else []

theorem unloadAction_unloaded (a : Fin 8) (s : State) : (s.act a).Unloaded true ((unloadAction a s).act a) := by
  refine ⟨?_, fun _ active => ?_⟩
  · rw [unloadAction_state, if_pos rfl]
    cases (s.act a).state <;> rfl
  · unfold unloadAction
    rw [active]
    exact congrArg Actuator.destOff (State.modAct_act_same ..)

theorem unloadAction_other {a b : Fin 8} (h : a ≠ b) (s : State) : (unloadAction a s).act b = s.act b := by
  unfold unloadAction
  split
  · exact (State.modAct_act_other _ _ h).trans (setActState_act_other h ..)
  · exact setActState_act_other h ..
  all_goals rfl

theorem unloadAction_acts (a : Fin 8) (s : State) : (unloadAction a s).ev.acts =
    s.ev.acts ++ if (s.act a).state = .raising then [(a, s.actNote a .low .raising .protection)] else [] := by
  unfold unloadAction
  cases h : (s.act a).state with
  | active => exact (setActState_acts ..).trans (by rw [h]; rfl)
  | raising => rw [setActState_acts, h]; rfl
  | _ => exact (List.append_nil _).symm

theorem steps_unloadReach (m : ActSet) (s : State) :
    s.Steps (unloadReach m s) ∧ (∀ a, (s.act a).Unloaded (ActSet.has m a) ((unloadReach m s).act a)) ∧
      (unloadReach m s).ev.acts = s.ev.acts ++ (List.finRange 8).flatMap fun a => (s.unloadNotes m a).map fun n => (a, n) := by
  refine steps_forAsc (f := fun a s => if ActSet.has m a then unloadAction a s else s)
    (fun a => Actuator.Unloaded (ActSet.has m a)) (fun a s => s.unloadNotes m a) (fun a s => ?_) (fun a s => ?_) (fun a b s h => ?_)
    (fun a s => ?_) (fun a s t h k => ?_) s
  · exact keeps_ite (P := s.Steps) (steps_unloadAction a s) .rfl'
  · split
    · rename_i has
      rw [has]; exact unloadAction_unloaded a s
    · rename_i has
      rw [Bool.eq_false_iff.2 has]; exact ⟨rfl, nofun⟩
  · exact keeps_ite (P := fun t => State.act t b = s.act b) (unloadAction_other h s) rfl
  · unfold State.unloadNotes
    by_cases has : ActSet.has m a = true
    · rw [if_pos has, unloadAction_acts]
      by_cases raising : (s.act a).state = .raising
      · rw [if_pos raising, if_pos ⟨has, raising⟩]; rfl
      · rw [if_neg raising, if_neg fun h => raising h.2]; rfl
    · rw [if_neg has, if_neg fun h => has h.1]; exact (List.append_nil _).symm
  · unfold State.unloadNotes
    rw [k, h.actNote]

theorem applied_applyAction (x : ProtConfig) (m : ActSet) (s : State) : s.Applied (applyAction x m s) := by
  have safe {u : State} (h : s.Steps u) : s.Applied (if x.scope = .station then enterSafe u else u) :=
    keeps_ite (P := s.Applied) (h.applied.trans (applied_enterSafe u)) h.applied
  rw [applyAction_eq]
  split
  · exact .rfl'
  · exact .rfl'
  · exact applied_addReason ..
  · exact safe (steps_unloadReach m s).1
  · exact safe (steps_tripReach m s)

/-! ### The states an action gives (R84, R86, R89) -/

/-- A TRIP of a reach takes the pressurized actuators of every frame it reaches under pressure to TRIPPED. -/
theorem tripReach_state (m : ActSet) (s : State) (b : Fin 8) :
    ((tripReach m s).act b).state = if b ∈ trippedBy m s then .tripped else (s.act b).state := by
  have walk (l : List (Fin 8)) (s : State) (b : Fin 8) :
      ((l.foldl (fun s a => if ActSet.has m a then tripAction a s else s) s).act b).state =
        if (s.act b).state.pressurized = true ∧ ∃ a ∈ l, ActSet.has m a = true ∧ (s.act a).state.pressurized = true ∧
          (s.act a).cfg.frame = (s.act b).cfg.frame then .tripped else (s.act b).state := by
    induction l generalizing s b with
    | nil => rw [if_neg (by simp)]; rfl
    | cons a l ih =>
      rw [List.foldl_cons]
      by_cases hit : ActSet.has m a = true ∧ (s.act a).state.pressurized = true
      · obtain ⟨has, loaded⟩ := hit
        have dumped := tripAction_dumps loaded
        rw [if_pos has, ih]
        simp only [dumped.frame]
        by_cases mine : (s.act b).state.pressurized = true ∧ (s.act b).cfg.frame = (s.act a).cfg.frame
        · obtain ⟨pressed, frame⟩ := mine
          have tripped := dumped.hit b trivial frame pressed
          rw [if_neg (by rw [tripped]; exact fun h => nomatch h.1), tripped,
            if_pos ⟨pressed, a, List.mem_cons_self, has, loaded, frame.symm⟩]
        · have same := dumped.missed b fun h => mine ⟨h.2.2, h.2.1⟩
          rw [same]
          refine if_congr (and_congr_right fun pressed => ?_) rfl rfl
          have apart (k : Fin 8) (frame : (s.act k).cfg.frame = (s.act b).cfg.frame) :
              ((tripAction a s).act k).state = (s.act k).state :=
            dumped.missed k fun h => mine ⟨pressed, frame.symm.trans h.2.1⟩
          constructor
          · rintro ⟨k, hk, has, loaded, frame⟩
            exact ⟨k, List.mem_cons_of_mem _ hk, has, by rw [← apart k frame]; exact loaded, frame⟩
          · rintro ⟨k, hk, has, loaded, frame⟩
            rcases List.mem_cons.1 hk with rfl | hk
            · exact (mine ⟨pressed, frame.symm⟩).elim
            · exact ⟨k, hk, has, by rw [apart k frame]; exact loaded, frame⟩
      · have still : (if ActSet.has m a then tripAction a s else s) = s := by
          split
          · rename_i has
            exact if_neg fun h => hit ⟨has, h⟩
          · rfl
        rw [still, ih]
        refine if_congr (and_congr_right fun _ => ⟨?_, ?_⟩) rfl rfl
        · rintro ⟨k, hk, rest⟩; exact ⟨k, List.mem_cons_of_mem _ hk, rest⟩
        · rintro ⟨k, hk, has, loaded, frame⟩
          rcases List.mem_cons.1 hk with rfl | hk
          · exact (hit ⟨has, loaded⟩).elim
          · exact ⟨k, hk, has, loaded, frame⟩
  refine (walk (List.finRange 8) s b).trans (if_congr ?_ rfl rfl)
  simp only [trippedBy, List.mem_filter, List.mem_finRange, true_and, Bool.and_eq_true, List.any_eq_true, decide_eq_true_eq,
    and_assoc]

theorem enterSafe_state (s : State) (a : Fin 8) : ((enterSafe s).act a).state = (s.act a).state :=
  (sameStates_enterSafe s).state a

theorem applyAction_state (x : ProtConfig) (m : ActSet) (s : State) (a : Fin 8) : ((applyAction x m s).act a).state =
    match x.acting with
    | .note | .derate | .hold => (s.act a).state
    | .unload => if ActSet.has m a then (s.act a).state.unloaded else (s.act a).state
    | .trip => if a ∈ trippedBy m s then .tripped else (s.act a).state := by
  have safe (u : State) : ((if x.scope = .station then enterSafe u else u).act a).state = (u.act a).state := by
    split
    · exact enterSafe_state u a
    · rfl
  rw [applyAction_eq]
  cases x.acting with
  | note => rfl
  | derate => rfl
  | hold => exact keeps_addReason (Q := fun t => (State.act t a).state = (s.act a).state) (fun _ _ _ h => h) _ rfl
  | unload => exact (safe _).trans (((steps_unloadReach m s).2.1 a).1)
  | trip => exact (safe _).trans (tripReach_state m s a)

end Sys2Proof.Machine

/-!
The merge as its statements spell it (R98, R99, R187).
-/
namespace Sys2Proof.Machine

/-! ### What the merge makes of the handover records (R98, R99) -/

theorem groupOf_of_lgu {s t : State} (h : t.lgu = s.lgu) (a : Fin 8) : t.groupOf a = s.groupOf a := by
  unfold State.groupOf State.group; rw [h]

/-- The handover record after a member's derate has been written. -/
theorem writeDerate_group (a : Fin 8) (d : Int) (s : State) (g : Fin 4) : (writeDerate a d s).group g =
    if s.groupOf a ≠ some g ∨ (s.act a).state ≠ .active then s.group g
    else (s.group g).derateWritten a (s.act a).derate d
      ((s.group g).shortWith (fun b => (s.act b).state) fun b => if b = a then d else (s.act b).derate) := by
  obtain ⟨w, hw⟩ : ∃ w, w = s.modAct a fun x => { x with derate := d } := ⟨_, rfl⟩
  have group (k : Fin 4) : w.group k = s.group k := by rw [hw]; rfl
  have groupOf : w.groupOf a = s.groupOf a := groupOf_of_lgu (by rw [hw]; rfl) a
  have state (b : Fin 8) : (w.act b).state = (s.act b).state := by
    rw [hw, State.modAct_act]; split <;> rfl
  have derate (b : Fin 8) : (w.act b).derate = if b = a then d else (s.act b).derate := by
    rw [hw, State.modAct_act]
    split
    · rename_i e; subst e; exact (if_pos rfl).symm
    · rename_i e; exact (if_neg (Ne.symm e)).symm
  have share : w.inShare a = decide ((s.act a).state = .active) := by unfold State.inShare; rw [state]
  have short : w.short g =
      (s.group g).shortWith (fun b => (s.act b).state) fun b => if b = a then d else (s.act b).derate := by
    rw [short_eq, group]; simp only [state, derate]
  have eq : writeDerate a d s = (match w.groupOf a with
      | none => w
      | some g =>
        if w.inShare a then
          if w.short g then
            if d < (s.act a).derate then
              if (w.group g).recipient = some a then
                w.modGroup g fun x => Group.makeDue { recipientDerated := true, derate := true } { x with recipient := none }
              else w.modGroup g (Group.makeDue { derate := true })
            else w
          else w.modGroup g Group.clearRecord
        else w) := by
    rw [hw]; rfl
  rw [eq, groupOf, share]
  cases own : s.groupOf a with
  | none => exact (group g).trans (if_pos (.inl nofun)).symm
  | some k =>
    dsimp only
    by_cases active : (s.act a).state = .active
    · rw [if_pos (decide_eq_true active)]
      by_cases kg : k = g
      · subst kg
        rw [if_neg (show ¬(some k ≠ some k ∨ (s.act a).state ≠ .active) from not_or.2 ⟨not_not.2 rfl, not_not.2 active⟩), short, group]
        unfold Group.derateWritten
        cases (s.group k).shortWith (fun b => (s.act b).state) (fun b => if b = a then d else (s.act b).derate) with
        | false =>
          rw [if_neg Bool.false_ne_true, State.modGroup_group_same, group]; rfl
        | true =>
          rw [if_pos rfl, if_neg (show ¬true = false by decide)]
          by_cases falls : d < (s.act a).derate
          · rw [if_pos falls, if_neg (not_le.2 falls)]
            by_cases holds : (s.group k).recipient = some a
            · rw [if_pos holds, if_pos holds, State.modGroup_group_same, group]; rfl
            · rw [if_neg holds, if_neg holds, State.modGroup_group_same, group]; rfl
          · rw [if_neg falls, if_pos (not_lt.1 falls), group]
      · rw [if_pos (show some k ≠ some g ∨ (s.act a).state ≠ .active from .inl fun e => kg (Option.some.inj e))]
        have other (f : Group → Group) : (w.modGroup k f).group g = s.group g := by
          rw [State.modGroup_group, if_neg kg, group]
        have either {c : Prop} [Decidable c] {x y : State} :=
          keeps_ite (P := fun t => State.group t g = s.group g) (c := c) (x := x) (y := y)
        exact either (either (either (other _) (other _)) (group g)) (other _)
    · rw [if_neg (by simpa using active), if_pos (.inr active), group]

/-- What the write of a's new derate makes of its group's handover record, with the derates below a's written already. -/
def State.derateStep (s t : State) (g : Fin 4) (x : Group) (a : Fin 8) : Group :=
  if s.groupOf a ≠ some g ∨ (s.act a).state ≠ .active ∨ (t.act a).derate = (s.act a).derate then x
  else x.derateWritten a (s.act a).derate (t.act a).derate
    ((s.group g).shortWith (fun b => (s.act b).state) fun b => if b ≤ a then (t.act b).derate else (s.act b).derate)

theorem lguDerated_get (s t : State) (g : Fin 4) :
    (s.lguDerated t)[g] = (List.finRange 8).foldl (s.derateStep t g) (s.group g) := Vector.getElem_ofFn g.isLt

/-- One write of the merge, where the derates below it have been written and the others have not. -/
theorem writeDerate_derateStep {s t u : State} (moved : s.Moved u) {a : Fin 8}
    (act : ∀ b, (u.act b).derate = if b < a then (t.act b).derate else (s.act b).derate)
    (change : (t.act a).derate ≠ (s.act a).derate) (g : Fin 4) :
    (writeDerate a (t.act a).derate u).group g = s.derateStep t g (u.group g) a := by
  have groupOf : u.groupOf a = s.groupOf a := groupOf_of_members (fun g => by
    obtain ⟨_, _, _, _, h⟩ := moved.group g; rw [h]) a
  have old : (u.act a).derate = (s.act a).derate := (act a).trans (if_neg (lt_irrefl a))
  have derates : (fun b => if b = a then (t.act a).derate else (u.act b).derate) =
      fun b => if b ≤ a then (t.act b).derate else (s.act b).derate := funext fun b => by
    rw [act b]
    by_cases ba : b = a
    · subst ba; rw [if_pos rfl, if_pos le_rfl]
    · rw [if_neg ba]
      exact if_congr ⟨le_of_lt, fun h => lt_of_le_of_ne h ba⟩ rfl rfl
  have short : (u.group g).shortWith (fun b => (u.act b).state)
      (fun b => if b = a then (t.act a).derate else (u.act b).derate) =
      (s.group g).shortWith (fun b => (s.act b).state)
        fun b => if b ≤ a then (t.act b).derate else (s.act b).derate := by
    rw [derates]
    simp only [moved.state]
    obtain ⟨_, _, _, _, h⟩ := moved.group g
    rw [h]; rfl
  rw [writeDerate_group, groupOf, moved.state, old, short, State.derateStep]
  exact if_congr (by simp [change]) rfl rfl

/-- The merge takes the handover records as the statements spell them. -/
theorem merge_lgu {s t : State} (derate : ∀ a, (t.act a).derate = s.mergedDerate a) : (merge s).lgu = s.lguDerated t := by
  have walk (g : Fin 4) (l : List (Fin 8)) (order : l.Pairwise (· < ·)) (u : State) (moved : s.Moved u) (pmx : u.pmx = s.pmx)
      (low : ∀ b ∉ l, ∀ a ∈ l, b < a)
      (act : ∀ b, (u.act b).derate = if b ∈ l then (s.act b).derate else (t.act b).derate) :
      (l.foldl (fun s a => if s.mergedDerate a = (s.act a).derate then s else writeDerate a (s.mergedDerate a) s) u).group g =
        l.foldl (s.derateStep t g) (u.group g) := by
    induction l generalizing u with
    | nil => rfl
    | cons a l ih =>
      obtain ⟨first, order⟩ := List.pairwise_cons.1 order
      have out : a ∉ l := fun h => lt_irrefl _ (first a h)
      have new : u.mergedDerate a = (t.act a).derate := (mergedDerate_congr pmx a).trans (derate a).symm
      have old : (u.act a).derate = (s.act a).derate := (act a).trans (if_pos List.mem_cons_self)
      have rest (b : Fin 8) (hb : b ∉ l) : ∀ k ∈ l, b < k := fun k hk => by
        by_cases ba : b = a
        · subst ba; exact first k hk
        · exact low b (by simp [ba, hb]) k (List.mem_cons_of_mem _ hk)
      have below (b : Fin 8) : b ∈ a :: l ↔ ¬b < a := by
        refine ⟨fun h => ?_, fun h => by_contra fun hb => h (low b hb a List.mem_cons_self)⟩
        rcases List.mem_cons.1 h with rfl | h
        · exact lt_irrefl _
        · exact not_lt.2 (le_of_lt (first b h))
      rw [List.foldl_cons, List.foldl_cons, new, old]
      by_cases same : (t.act a).derate = (s.act a).derate
      · rw [if_pos same, State.derateStep, if_pos (.inr (.inr same))]
        refine ih order u moved pmx rest fun b => ?_
        rw [act b]
        by_cases ba : b = a
        · subst ba
          rw [if_pos List.mem_cons_self, if_neg out, same]
        · simp [ba]
      · have seen (b : Fin 8) : (u.act b).derate = if b < a then (t.act b).derate else (s.act b).derate := by
          rw [act b, ← ite_not]; exact if_congr (not_congr (below b) |>.trans not_not) rfl rfl
        rw [if_neg same, ← writeDerate_derateStep moved seen same]
        refine ih order _ (moved.trans (advised_writeDerate ..).toMoved) ((writeDerate_pmx ..).trans pmx) rest fun b => ?_
        rw [writeDerate_act, State.modAct_act]
        by_cases ab : a = b
        · subst ab; rw [if_pos rfl, if_neg out]
        · rw [if_neg ab, act b]; simp [Ne.symm ab]
  refine Vector.ext fun g hg => ?_
  refine Eq.trans ?_ (lguDerated_get s t ⟨g, hg⟩).symm
  exact walk ⟨g, hg⟩ (List.finRange 8) (List.pairwise_lt_finRange 8) s .rfl' rfl (fun b hb => (hb (List.mem_finRange b)).elim)
    fun b => (if_pos (List.mem_finRange b)).symm

theorem lguDerated_congr {s u t : State} (lgu : u.lgu = s.lgu)
    (same : ∀ a, (u.act a).state = (s.act a).state ∧ (u.act a).derate = (s.act a).derate) : u.lguDerated t = s.lguDerated t := by
  have group (g : Fin 4) : u.group g = s.group g := by unfold State.group; rw [lgu]
  unfold State.lguDerated
  simp only [groupOf_of_lgu lgu, group, (same _).1, (same _).2]

/-! ### One entry takes a raising (R182, R191, R192) -/

/-- The entry after it has taken a raising. -/
def State.entryTaking (e : Fin 40) (c : Cond) (s : State) : ProtEntry :=
  let x := s.pmx.entries[e]
  { x with st := .active, raised := insertAsc c.inst x.raised, reach := x.reach ||| instReach x.cfg.scope c s }

/-- The matrix after an entry has taken a raising. -/
def State.matrixTaking (e : Fin 40) (c : Cond) (s : State) : Protection :=
  let p : Protection := { s.pmx with entries := s.pmx.entries.set e (s.entryTaking e c) }
  if s.pmx.entries[e].cfg.acting = .trip then p.addTrip (tripRecord e c s) else p

/-- The ENTRY or TRIP notice that an entry forms as it takes a raising. -/
def State.notesTaking (e : Fin 40) (c : Cond) (s : State) : List Notice :=
  let x := s.pmx.entries[e]
  if x.st = .active then [] else [entryNotice e x.cfg c (instReach x.cfg.scope c s) s]

/-- The state in which an entry applies its action. -/
def State.taking (e : Fin 40) (c : Cond) (s : State) : State :=
  ({ s with pmx := s.matrixTaking e c } : State).noted (s.notesTaking e c)

theorem takeRaising_of {s : State} {e : Fin 40} {c : Cond} (h : s.pmx.entries[e].cfg.matches c = true) :
    takeRaising e c s = applyAction s.pmx.entries[e].cfg (instReach s.pmx.entries[e].cfg.scope c s) (s.taking e c) := by
  have entry : s.pmx.entries.set e (s.entryTaking e c) = vmod s.pmx.entries e fun x =>
      { x with st := .active, raised := insertAsc c.inst x.raised
               reach := x.reach ||| instReach s.pmx.entries[e].cfg.scope c s } := rfl
  unfold takeRaising State.taking State.notesTaking State.matrixTaking
  rw [if_pos h, entry]
  dsimp only
  refine congrArg (applyAction _ _) ?_
  by_cases trip : s.pmx.entries[e].cfg.acting = .trip <;> by_cases active : s.pmx.entries[e].st = .active <;>
    simp only [trip, active, if_true, if_false, ne_eq, not_true_eq_false, not_false_eq_true, decide_true, decide_false,
      Bool.false_eq_true] <;> rfl

theorem takeRaising_of_not {s : State} {e : Fin 40} {c : Cond} (h : s.pmx.entries[e].cfg.matches c = false) :
    takeRaising e c s = s := if_neg (by rw [h]; decide)

theorem matrixTaking_cfg (e : Fin 40) (c : Cond) (s : State) (k : Fin 40) :
    (s.matrixTaking e c).entries[k].cfg = s.pmx.entries[k].cfg := by
  have entries : (s.matrixTaking e c).entries = s.pmx.entries.set e (s.entryTaking e c) := by
    unfold State.matrixTaking; dsimp only; split <;> rfl
  rw [entries]
  by_cases ke : k = e
  · subst ke
    rw [Fin.getElem_fin, Vector.getElem_set_self]; rfl
  · exact congrArg ProtEntry.cfg (Vector.getElem_set_ne _ _ (fun h => ke (Fin.ext h.symm)))

theorem takeRaising_cfg (e : Fin 40) (c : Cond) (s : State) (k : Fin 40) :
    (takeRaising e c s).pmx.entries[k].cfg = s.pmx.entries[k].cfg := by
  by_cases h : s.pmx.entries[e].cfg.matches c = true
  · rw [takeRaising_of h, applyAction_pmx, State.taking, noted_eq]
    exact matrixTaking_cfg e c s k
  · rw [takeRaising_of_not (Bool.eq_false_iff.2 h)]

/-! ### A raising that one entry alone matches -/

/-- A raising that one entry alone matches is taken by it. -/
theorem raise_of_one {s : State} {c : Cond} {e : Fin 40} (low : s.raised c = false)
    (only : ∀ k, k ≠ e → s.pmx.entries[k].cfg.matches c = false) :
    raise c s = flush (merge (takeRaising e c (setCond c true s))) := by
  obtain ⟨m, before, after⟩ := forAsc_at (f := fun e s => takeRaising e c s)
    (R := fun s t => (∀ k, k ≠ e → s.pmx.entries[k].cfg.matches c = false) → t = s) (fun _ _ => rfl)
    (fun h k only => by
      have := h only
      subst this
      exact k only) e (fun k ke s only => takeRaising_of_not (only k ke)) (setCond c true s)
  have start := before only
  subst start
  have walk := after fun k ke => by rw [takeRaising_cfg]; exact only k ke
  unfold raise
  rw [if_neg (by rw [low]; decide), walk]

theorem State.Moved.withEv {s t : State} (h : s.Moved t) : ({ s with ev := {} } : State).Moved { t with ev := {} } := by
  obtain ⟨⟨v, g, p, l, lost, rfl⟩, act, group, entry⟩ := h
  exact ⟨⟨v, g, p, l, lost, rfl⟩, act, group, entry⟩

/-- The end of a raising: what the merge and the flush leave of it. -/
theorem flush_merge_spec (s : State) :
    ({ s with ev := {} } : State).Moved (flush (merge s)) ∧ Noted s (flush (merge s)) (s.ev.actNotices ++ s.ev.seqs) ∧
      (flush (merge s)).pmx.tripLog = s.pmx.tripLog ∧ (flush (merge s)).pmx.firstOut = s.pmx.firstOut := by
  obtain ⟨moved, noted, log, first⟩ := flush_spec (merge s)
  have merged := (advised_merge s).toMoved
  have ev : (merge s).ev = s.ev := merged.ev
  refine ⟨merged.withEv.trans moved, ?_, log.trans (by rw [merge_pmx]), first.trans (by rw [merge_pmx])⟩
  rw [ev] at noted
  have := (Noted.of_sli (merge_sli s)).trans noted
  rwa [List.nil_append] at this

/-- The state of an actuator after a raising that one entry alone matches. -/
def State.struck (e : Fin 40) (c : Cond) (s : State) : State :=
  applyAction s.pmx.entries[e].cfg (instReach s.pmx.entries[e].cfg.scope c s) ((setCond c true s).taking e c)

theorem raise_struck {s : State} {c : Cond} {e : Fin 40} (low : s.raised c = false)
    (mine : s.pmx.entries[e].cfg.matches c = true) (only : ∀ k, k ≠ e → s.pmx.entries[k].cfg.matches c = false) :
    raise c s = flush (merge (s.struck e c)) := by
  rw [raise_of_one low only, takeRaising_of (s := setCond c true s) mine]
  rfl

theorem notesTaking_setCond (e : Fin 40) (c : Cond) (s : State) : (setCond c true s).notesTaking e c = s.notesTaking e c := rfl

theorem noted_taking (e : Fin 40) (c : Cond) (s : State) : Noted s (s.taking e c) (s.notesTaking e c) :=
  Noted.trans (l := []) (Noted.of_sli (s := s) (t := { s with pmx := s.matrixTaking e c }) rfl) (Noted.noted _ (s.notesTaking e c))

section

variable {s : State} {c : Cond} {e : Fin 40} (ev : s.ev = {})
include ev

/-- A raising's notices, those of the changes of state it brings aside. -/
theorem struck_forms {p : Notice → Bool} (hp : ∀ n, n.kind = .actState ∨ n.kind = .seqState → p n = false) :
    Forms s (flush (merge (s.struck e c))) p ((s.notesTaking e c).filter p) := by
  have applied := applied_applyAction s.pmx.entries[e].cfg (instReach s.pmx.entries[e].cfg.scope c s)
    ((setCond c true s).taking e c)
  obtain ⟨l, m, acts, seqs, hl, hm⟩ := applied.formed
  have ev' : ((setCond c true s).taking e c).ev = {} := by rw [State.taking, noted_ev]; exact ev
  rw [ev', List.nil_append] at acts seqs
  have first : Noted s ((setCond c true s).taking e c) (s.notesTaking e c) :=
    Noted.trans (l := []) (Noted.of_sli (s := s) (t := setCond c true s) rfl) (noted_taking e c (setCond c true s))
  have second := (first.forms p).trans (Forms.of_sli (p := p) applied.sli)
  have third := second.trans ((flush_merge_spec (s.struck e c)).2.1.forms p)
  have none : ((s.struck e c).ev.actNotices ++ (s.struck e c).ev.seqs).filter p = [] := by
    refine List.filter_eq_nil_iff.2 fun n hn => ?_
    rw [hp n ?_]; · decide
    rcases List.mem_append.1 hn with hn | hn
    · obtain ⟨a, -, ha⟩ := List.mem_flatMap.1 hn
      obtain ⟨x, hx, rfl⟩ := List.mem_map.1 ha
      exact .inl (hl x (acts ▸ (List.mem_filter.1 hx).1))
    · exact .inr (hm n (seqs ▸ hn))
  rwa [none, List.append_nil, List.append_nil] at third

/-- Where the entry acts as NOTE or DERATE, a raising ends with the merge. -/
theorem struck_quiet (quiet : s.pmx.entries[e].cfg.acting = .note ∨ s.pmx.entries[e].cfg.acting = .derate) :
    flush (merge (s.struck e c)) = merge ((setCond c true s).taking e c) := by
  have still : s.struck e c = (setCond c true s).taking e c := by
    unfold State.struck
    rw [applyAction_eq]
    rcases quiet with q | q <;> rw [q]
  rw [still]
  refine flush_of_empty ((advised_merge _).ev.trans ?_)
  rw [State.taking, noted_ev]; exact ev

end

theorem struck_state (e : Fin 40) (c : Cond) (s : State) (a : Fin 8) :
    ((flush (merge (s.struck e c))).act a).state = ((s.struck e c).act a).state :=
  (flush_merge_spec (s.struck e c)).1.state a

theorem taking_act (e : Fin 40) (c : Cond) (s : State) (a : Fin 8) : (s.taking e c).act a = s.act a := by
  rw [State.taking, noted_eq]; rfl

end Sys2Proof.Machine

/-!
The ENTRY and TRIP notices of a raising that one entry alone matches, and the derates it writes (R182, R186, R187, R191).
-/
namespace Sys2Proof.Machine

/-- The actuators that a TRIP takes to TRIPPED are those that become it. -/
theorem trippedBy_eq {m : ActSet} {s t : State}
    (state : ∀ a, (t.act a).state = if a ∈ trippedBy m s then .tripped else (s.act a).state) :
    trippedBy m s = (List.finRange 8).filter fun a => (t.act a).state = .tripped ∧ (s.act a).state ≠ .tripped := by
  have mem (a : Fin 8) : a ∈ trippedBy m s ↔ (t.act a).state = .tripped ∧ (s.act a).state ≠ .tripped := by
    rw [state a]
    constructor
    · intro h
      have loaded : (s.act a).state.pressurized = true := by
        have := (List.mem_filter.1 h).2
        rw [Bool.and_eq_true] at this
        exact this.1
      exact ⟨if_pos h, fun e => by rw [e] at loaded; exact nomatch loaded⟩
    · rintro ⟨h, k⟩
      by_contra out
      rw [if_neg out] at h
      exact k h
  unfold trippedBy at mem ⊢
  refine List.filter_congr fun a _ => ?_
  have := mem a
  rw [List.mem_filter] at this
  exact Bool.eq_iff_iff.2 (by rw [decide_eq_true_eq, ← this]; simp)

/-- The ENTRY or TRIP notice of an entry's entry to ACTIVE (R191). -/
def State.entryNote (e : Fin 40) (c : Cond) (tripped : Nat) (s : State) : Notice :=
  let x := s.pmx.entries[e].cfg
  { kind := if x.acting = .trip then .trip else .entry, time := s.time, cycles := s.psq.totalCycles, subject := e.val
    v1 := c.kind.code, v2 := c.inst
    v3 := if x.acting = .trip then (match c.kind.isActuator, c.actuator with
      | true, some a => a.val
      | _, _ => 65535) else x.acting.code
    v4 := if x.acting = .trip then tripped else if x.acting = .derate then x.value else 0 }

theorem entryNotice_eq (e : Fin 40) (c : Cond) (s : State) (m : ActSet) :
    entryNotice e s.pmx.entries[e].cfg c m s = s.entryNote e c (trippedBy m s).length := by
  unfold entryNotice State.entryNote
  by_cases h : s.pmx.entries[e].cfg.acting = .trip
  · rw [if_pos h]; simp only [if_pos h]; rfl
  · rw [if_neg h]; simp only [if_neg h]; rfl

theorem entryNote_reported (e : Fin 40) (c : Cond) (n : Nat) (s : State) :
    ((s.entryNote e c n).is .entry || (s.entryNote e c n).is .trip) = true := by
  unfold Notice.is
  by_cases h : s.pmx.entries[e].cfg.acting = .trip
  · rw [show (s.entryNote e c n).kind = .trip from if_pos h]; rfl
  · rw [show (s.entryNote e c n).kind = .entry from if_neg h]; rfl

/-- What a raising leaves that one entry alone matches, where it stood lowered with nothing formed. -/
structure State.RaisedBy (e : Fin 40) (c : Cond) (s t : State) : Prop where
  cfg : t.pmx.entries[e].cfg = s.pmx.entries[e].cfg
  quiet : s.pmx.entries[e].cfg.acting = .note ∨ s.pmx.entries[e].cfg.acting = .derate →
    (∀ a, (t.act a).derate = t.mergedDerate a ∧ (t.act a).state = (s.act a).state) ∧ t.lgu = s.lguDerated t
  notes : Forms s t (fun n => n.is .entry || n.is .trip) (if s.pmx.entries[e].st = .active then [] else
    [s.entryNote e c ((List.finRange 8).filter fun a => (t.act a).state = .tripped ∧ (s.act a).state ≠ .tripped).length])

theorem raisedBy_raise {s : State} {c : Cond} {e : Fin 40} (ev : s.ev = {}) (low : s.raised c = false)
    (mine : s.pmx.entries[e].cfg.matches c = true) (only : ∀ k, k ≠ e → s.pmx.entries[k].cfg.matches c = false) :
    s.RaisedBy e c (raise c s) := by
  rw [raise_struck low mine only]
  refine ⟨?_, fun quiet => ?_, ?_⟩
  · have same : (s.struck e c).pmx.entries[e].cfg = s.pmx.entries[e].cfg := by
      rw [State.struck, applyAction_pmx, State.taking, noted_eq]
      exact matrixTaking_cfg e c (setCond c true s) e
    exact ((flush_merge_spec (s.struck e c)).1.entry e).trans same
  · rw [struck_quiet ev quiet]
    obtain ⟨u, hu⟩ : ∃ u, u = (setCond c true s).taking e c := ⟨_, rfl⟩
    have act (a : Fin 8) : u.act a = s.act a := by rw [hu, taking_act]; rfl
    have lgu : u.lgu = s.lgu := by rw [hu, State.taking, noted_eq]; rfl
    rw [← hu]
    refine ⟨fun a => ?_, ?_⟩
    · rw [merge_act, mergedDerate_congr (merge_pmx u)]
      exact ⟨rfl, by rw [act]⟩
    · have derate (a : Fin 8) : ((merge u).act a).derate = u.mergedDerate a := by rw [merge_act]
      rw [merge_lgu derate]
      exact lguDerated_congr lgu fun a => by rw [act]; exact ⟨rfl, rfl⟩
  · have forms := struck_forms (c := c) (e := e) ev (p := fun n => n.is .entry || n.is .trip) fun n hn => by
      rcases hn with h | h <;> unfold Notice.is <;> rw [h] <;> rfl
    refine (congrArg (Forms s _ _) ?_).mp forms
    unfold State.notesTaking
    dsimp only
    by_cases active : s.pmx.entries[e].st = .active
    · rw [if_pos active, if_pos active]; rfl
    · rw [if_neg active, if_neg active, entryNotice_eq]
      have count : s.entryNote e c (trippedBy (instReach s.pmx.entries[e].cfg.scope c s) s).length =
          s.entryNote e c ((List.finRange 8).filter fun a =>
            ((flush (merge (s.struck e c))).act a).state = .tripped ∧ (s.act a).state ≠ .tripped).length := by
        by_cases trip : s.pmx.entries[e].cfg.acting = .trip
        · refine congrArg (fun l : List (Fin 8) => s.entryNote e c l.length) (trippedBy_eq fun a => ?_)
          rw [struck_state, State.struck, applyAction_state, trip]
          simp only [taking_act]
          have same : trippedBy (instReach s.pmx.entries[e].cfg.scope c s) ((setCond c true s).taking e c) =
              trippedBy (instReach s.pmx.entries[e].cfg.scope c s) s := by
            unfold trippedBy; simp only [taking_act]; rfl
          rw [same]; rfl
        · unfold State.entryNote; simp only [if_neg trip]
      rw [count, List.filter_cons, if_pos]
      · rfl
      · exact entryNote_reported ..

/-- Where the raising is a part of a step that keeps what it speaks of. -/
theorem State.RaisedBy.of_step {e : Fin 40} {c : Cond} {s u v t : State} (h : u.RaisedBy e c v) (pmx : u.pmx = s.pmx)
    (lgu : u.lgu = s.lgu) (cycles : u.psq.totalCycles = s.psq.totalCycles)
    (act : ∀ a, (u.act a).state = (s.act a).state ∧ (u.act a).derate = (s.act a).derate)
    (before : Forms s u (fun n => n.is .entry || n.is .trip) [])
    (after : t.pmx = v.pmx ∧ t.svc = v.svc ∧ t.lgu = v.lgu ∧ t.sli = v.sli) :
    t.pmx.entries[e].cfg = s.pmx.entries[e].cfg ∧
    (s.pmx.entries[e].cfg.acting = .note ∨ s.pmx.entries[e].cfg.acting = .derate →
      (∀ a, (t.act a).derate = t.mergedDerate a ∧ (t.act a).state = (s.act a).state) ∧ t.lgu = s.lguDerated t) ∧
    Forms s t (fun n => n.is .entry || n.is .trip) (if s.pmx.entries[e].st = .active then [] else
      [{ s.entryNote e c ((List.finRange 8).filter fun a => (t.act a).state = .tripped ∧ (s.act a).state ≠ .tripped).length with
        time := u.time }]) := by
  obtain ⟨cfg, quiet, notes⟩ := h
  obtain ⟨tp, ts, tl, tn⟩ := after
  have tact (a : Fin 8) : t.act a = v.act a := by unfold State.act; rw [ts]
  refine ⟨by rw [tp, cfg, pmx], fun q => ?_, ?_⟩
  · obtain ⟨derates, groups⟩ := quiet (by rw [pmx]; exact q)
    refine ⟨fun a => ?_, ?_⟩
    · rw [tact, mergedDerate_congr tp]
      exact ⟨(derates a).1, (derates a).2.trans (act a).1⟩
    · rw [tl, groups, lguDerated_congr lgu act]
      unfold State.lguDerated
      simp only [tact]
  · have both := (before.trans notes).congr tn
    rw [List.nil_append] at both
    simp only [tact]
    unfold State.entryNote at both ⊢
    rw [pmx, cycles] at both
    simp only [(act _).1] at both
    exact both

/-! ### The steps that raise (R9, R83, R124) -/

/-! ### What a raising leaves unchanged -/

/-- The mode, the plan, the actuators, the groups, the matrix, the notice queue and the event's buffer may have changed. -/
def State.Turned (s t : State) : Prop := ∃ m q v g p e l lost, t = { s with
  stc := { s.stc with mode := m }, psq := q, svc := { s.svc with acts := v }, lgu := g, pmx := p, ev := e
  sli := { s.sli with notices := l, noticesLost := lost } }

theorem State.Turned.rfl' {s : State} : s.Turned s := ⟨_, _, _, _, _, _, _, _, rfl⟩

theorem State.Turned.trans {s t u : State} (h : s.Turned t) (k : t.Turned u) : s.Turned u := by
  obtain ⟨_, _, _, _, _, _, _, _, rfl⟩ := h
  obtain ⟨_, _, _, _, _, _, _, _, rfl⟩ := k
  exact ⟨_, _, _, _, _, _, _, _, rfl⟩

theorem State.Moved.turned {s t : State} (h : s.Moved t) : s.Turned t := by
  obtain ⟨_, _, _, _, _, rfl⟩ := h.rest
  exact ⟨_, _, _, _, _, _, _, _, rfl⟩

theorem State.Applied.turned {s t : State} (h : s.Applied t) : s.Turned t := by
  obtain ⟨_, _, _, _, _, rfl⟩ := h.rest
  exact ⟨_, _, _, _, _, _, _, _, rfl⟩

theorem turned_takeRaising (e : Fin 40) (c : Cond) (s : State) : s.Turned (takeRaising e c s) := by
  by_cases h : s.pmx.entries[e].cfg.matches c = true
  · rw [takeRaising_of h]
    have matrix : s.Turned ({ s with pmx := s.matrixTaking e c } : State) := ⟨_, _, _, _, _, _, _, _, rfl⟩
    exact (matrix.trans (moved_noted _ _).turned).trans (applied_applyAction ..).turned
  · rw [takeRaising_of_not (Bool.eq_false_iff.2 h)]; exact .rfl'

theorem turned_flush (s : State) : s.Turned (flush s) := by
  have cleared : s.Turned ({ s with ev := {} } : State) := ⟨_, _, _, _, _, _, _, _, rfl⟩
  exact cleared.trans (flush_spec s).1.turned

theorem turned_raise (c : Cond) (s : State) : s.Turned (raise c s) := by
  have set : s.Turned (setCond c true s) := ⟨_, _, _, _, _, _, _, _, rfl⟩
  have taken : s.Turned (forAsc 40 (fun e s => takeRaising e c s) (setCond c true s)) :=
    forAsc_keeps (f := fun e s => takeRaising e c s) s.Turned (fun e t h => h.trans (turned_takeRaising e c t)) set
  exact keeps_ite (P := s.Turned) .rfl' ((taken.trans (advised_merge _).toMoved.turned).trans (turned_flush _))

section

variable {s t : State} (h : s.Turned t)
include h

theorem State.Turned.clock : t.clock = s.clock := by obtain ⟨_, _, _, _, _, _, _, _, rfl⟩ := h; rfl
theorem State.Turned.time : t.time = s.time := by obtain ⟨_, _, _, _, _, _, _, _, rfl⟩ := h; rfl
theorem State.Turned.pending : t.stc.restartPending = s.stc.restartPending := by
  obtain ⟨_, _, _, _, _, _, _, _, rfl⟩ := h; rfl

end

/-! ### The steps that raise (R9, R83, R124) -/

/-- The poll time that loses its slot: SAT_LOST is raised once the slot's own notices have been formed. -/
theorem pollTime_raises {s : State} {x : Fin 4} (k : s.glc[x].state = .settling ∨ s.glc[x].state = .live)
    (ha : s.glc[x].awaiting = true) (hn : 2 ≤ s.glc[x].unanswered) :
    ∃ u f l, pollTime x s = (raise (.satLost x) u).modSat x f ∧ Noted s u l ∧
      (∀ n ∈ l, n.kind = .satState ∨ n.kind = .zeroFailed) ∧
      ∃ c g p y, u = { s with clock := c, glc := g, stp := p, sli := y } := by
  have present : s.glc[x].state ≠ .absent := by rcases k with k | k <;> rw [k] <;> exact nofun
  have three : s.glc[x].counted.unanswered = 3 := by
    show (if s.glc[x].awaiting then min 3 (s.glc[x].unanswered + 1) else s.glc[x].unanswered) = 3
    rw [if_pos ha]; omega
  obtain ⟨timed, ht⟩ : ∃ timed, timed = s.advanceTo s.glc[x].pollAt := ⟨_, rfl⟩
  obtain ⟨y, hy⟩ : ∃ y : Sat, y = { s.glc[x].counted.dropSettle with state := .lost } := ⟨_, rfl⟩
  have lost : y.state = .lost := by rw [hy]
  have change := satChange_modSat (x := x) (s := timed) .noAnswer (f := fun _ => s.glc[x].counted)
    (g := fun y => { y.dropSettle with state := .lost }) (by rw [ht]; rfl) hy.symm
  dsimp only at change
  rw [if_pos lost] at change
  have whole := pollTime_eq present ht
  dsimp only at whole
  rw [if_pos ⟨three, k⟩, change] at whole
  refine ⟨_, _, timed.slotNotes x .noAnswer y, whole, ?_, fun n hn => ?_, ?_⟩
  · exact Noted.trans (l := []) (Noted.of_sli (s := s) (t := timed.slotMoved x y) (by rw [ht]; rfl)) (Noted.noted _ _)
  · unfold State.slotNotes at hn
    rcases List.mem_cons.1 hn with rfl | hn
    · exact .inl rfl
    · split at hn
      · exact .inr (zeroingsFailed_kind hn)
      · exact nomatch hn
  · rw [noted_eq, ht]; exact ⟨_, _, _, _, rfl⟩

theorem matches_iff {p : ProtConfig} {c : Cond} :
    p.matches c = true ↔ p.kind = some c.kind ∧ (p.inst = none ∨ p.inst = some c.inst) := by
  unfold ProtConfig.matches
  rw [Bool.and_eq_true, Bool.or_eq_true, decide_eq_true_eq, decide_eq_true_eq, decide_eq_true_eq]

/-- A step of O58: the event before its raising, the raising, and what the step does after it. -/
structure RaisingStep (c : Cond) (s t u : State) : Prop where
  ev : u.ev = {}
  pmx : u.pmx = s.pmx
  lgu : u.lgu = s.lgu
  cycles : u.psq.totalCycles = s.psq.totalCycles
  act : ∀ a, (u.act a).state = (s.act a).state ∧ (u.act a).derate = (s.act a).derate
  pending : u.stc.restartPending = s.stc.restartPending
  before : Forms s u (fun n => n.is .entry || n.is .trip) []
  stc : t.stc = (raise c u).stc
  clock : t.clock = (raise c u).clock
  after : t.pmx = (raise c u).pmx ∧ t.svc = (raise c u).svc ∧ t.lgu = (raise c u).lgu ∧ t.sli = (raise c u).sli

theorem raisingStep_haltLoop {s u : State} (ev : s.ev = {}) (hu : u = s.modStc fun c => { c with haltOpen := true }) :
    RaisingStep .haltLoop s (raise .haltLoop u) u := by
  refine ⟨?_, ?_, ?_, ?_, fun a => ?_, ?_, Forms.of_sli ?_, rfl, rfl, rfl, rfl, rfl, rfl⟩ <;> rw [hu]
  · exact ev
  · rfl
  · rfl
  · rfl
  · exact ⟨rfl, rfl⟩
  · rfl
  · rfl

theorem raisingStep_unloadTimeout {s : State} (ev : s.ev = {}) {a : Fin 8} (unloading : (s.act a).state = .unloading)
    (runs : (s.act a).unload.timerOn = true) : ∃ u, RaisingStep (.unloadTimeout a) s (unloadExpiry a s) u := by
  obtain ⟨u, hu⟩ : ∃ u, u = (s.advanceTo ((s.act a).unload.start + (s.act a).unload.timeoutS * 1000000)).modAct a fun x =>
    { x with unload := { x.unload with timerOn := false } } := ⟨_, rfl⟩
  have eq : unloadExpiry a s = raise (.unloadTimeout a) u := (if_pos ⟨unloading, runs⟩).trans (by rw [hu])
  rw [eq]
  refine ⟨u, ?_, ?_, ?_, ?_, fun b => ?_, ?_, Forms.of_sli ?_, rfl, rfl, rfl, rfl, rfl, rfl⟩ <;> rw [hu]
  · exact ev
  · rfl
  · rfl
  · rfl
  · rw [State.modAct_act]
    split
    · rename_i e; subst e; exact ⟨rfl, rfl⟩
    · exact ⟨rfl, rfl⟩
  · rfl
  · rfl

theorem raisingStep_satLost {s : State} (ev : s.ev = {}) {x : Fin 4} (k : s.glc[x].state = .settling ∨ s.glc[x].state = .live)
    (ha : s.glc[x].awaiting = true) (hn : 2 ≤ s.glc[x].unanswered) : ∃ u, RaisingStep (.satLost x) s (pollTime x s) u := by
  obtain ⟨u, f, l, eq, noted, kinds, c, g, p, y, rest⟩ := pollTime_raises k ha hn
  have before : Forms s u (fun n => n.is .entry || n.is .trip) [] := by
    have forms := noted.forms fun n => n.is .entry || n.is .trip
    rwa [List.filter_eq_nil_iff.2 fun n hn => by
      rcases kinds n hn with k | k <;> unfold Notice.is <;> rw [k] <;> decide] at forms
  rw [eq]
  refine ⟨u, ?_, ?_, ?_, ?_, fun a => ?_, ?_, before, rfl, rfl, rfl, rfl, rfl, rfl⟩
  · rw [rest]; exact ev
  all_goals rw [rest]
  exact ⟨rfl, rfl⟩

/-- Settles O58: an entry that alone matches a raising takes it whole, and the merge and the end of the event follow. -/
theorem entryAndTripNotices : Obligations.EntryAndTripNotices := by
  intro i c s e settled low cases x matching acting mine only
  obtain ⟨ev, pending⟩ := settled
  have mine' : s.pmx.entries[e].cfg.matches c = true := matches_iff.2 mine
  have only' (k : Fin 40) (ke : k ≠ e) : s.pmx.entries[k].cfg.matches c = false :=
    Bool.eq_false_iff.2 fun h => only k ke (matches_iff.1 h)
  have named : (match c.kind.isActuator, c.actuator with
      | true, some a => (a.val : Int)
      | _, _ => 65535) = (match c with
      | .unloadTimeout a => (a.val : Int)
      | _ => 65535) := by
    rcases cases with ⟨-, rfl⟩ | ⟨a, -, rfl, -⟩ | ⟨x, -, rfl, -⟩ <;> rfl
  obtain ⟨t, u, run, step⟩ : ∃ t u, exec i s = stepDone t ∧ RaisingStep c s t u := by
    rcases cases with ⟨rfl, rfl⟩ | ⟨a, rfl, rfl, unloading, runs⟩ | ⟨x, rfl, rfl, k, ha, hn⟩
    · exact ⟨_, _, rfl, raisingStep_haltLoop ev rfl⟩
    · obtain ⟨u, step⟩ := raisingStep_unloadTimeout ev unloading runs
      exact ⟨_, u, rfl, step⟩
    · obtain ⟨u, step⟩ := raisingStep_satLost ev k ha hn
      exact ⟨_, u, rfl, step⟩
  have turned := turned_raise c u
  have raised : u.RaisedBy e c (raise c u) := by
    refine raisedBy_raise step.ev ?_ ?_ ?_
    · unfold State.raised; rw [step.pmx]; exact low
    · rw [step.pmx]; exact mine'
    · rw [step.pmx]; exact only'
  obtain ⟨cfg, quiet, notes⟩ := raised.of_step step.pmx step.lgu step.cycles step.act step.before step.after
  refine ⟨t, ?_, cfg, quiet, ?_⟩
  · rw [run]
    refine stepDone_of_noResetDue (.inl ?_)
    rw [step.stc, turned.pending, step.pending, pending]
  · have time : u.time = t.time := by
      rw [← turned.time]; unfold State.time; rw [step.clock]
    rw [time] at notes
    unfold State.entryNote at notes
    rw [named] at notes
    exact notes

end Sys2Proof.Machine

/-!
Entries of STATION scope: SAFE, and the trip of every pressurized actuator (R7, R89, R190, R193).
-/
namespace Sys2Proof.Machine

/-! ### SAFE (R7, R46) -/

/-- The sequencer after a going plan has been ABORTED (R46). -/
def Sequencer.aborted (q : Sequencer) : Sequencer :=
  { q with state := .aborted, activity := .none, peaks := Vector.replicate 8 none, heldCount := q.count
           hold := { q.hold with segment := false, lost := false } }

/-- The sequencer after SAFE has been entered (R7). -/
def Sequencer.safe (q : Sequencer) : Sequencer := if q.state.going then q.aborted else q

/-- The SEQ_STATE notice of a plan that SAFE ends (R26). -/
def Sequencer.safeNotes (q : Sequencer) (time : Nat) : List Notice :=
  if q.state.going then [q.aborted.note time q.state] else []

theorem seqAbort_eq (s : State) : seqAbort s = s.withPlan s.psq.safe (s.ev.seqs ++ s.psq.safeNotes s.time) := by
  unfold seqAbort Sequencer.safe Sequencer.safeNotes
  split
  · exact seqChange_eq ..
  · rw [List.append_nil]; rfl

/-- SAFE's own part of an actuator: STARTING goes to LOW (R7). -/
def Actuator.safe (x : Actuator) : Actuator := if x.state = .starting then { x with toActive := false } else x

theorem Actuator.safe_same (x : Actuator) : x.safe.state = x.state ∧ x.safe.regs = x.regs ∧ x.safe.destOff = x.destOff := by
  unfold safe; split <;> exact ⟨rfl, rfl, rfl⟩

/-- What an entry to SAFE makes of a state. -/
structure State.Secured (s t : State) : Prop where
  rest : ∃ v, t = { s with
    stc := { s.stc with mode := .safe }, psq := s.psq.safe, svc := { s.svc with acts := v }
    ev := { s.ev with seqs := s.ev.seqs ++ s.psq.safeNotes s.time } }
  same : ∀ a, (t.act a).state = (s.act a).state ∧ (t.act a).regs = (s.act a).regs ∧ (t.act a).destOff = (s.act a).destOff

theorem secured_enterSafe {s : State} (h : s.stc.mode ≠ .safe) : s.Secured (enterSafe s) := by
  obtain ⟨u, hu⟩ : ∃ u, u = (s.modStc fun c => { c with mode := .safe }).withPlan s.psq.safe (s.ev.seqs ++ s.psq.safeNotes s.time) :=
    ⟨_, rfl⟩
  have eq : enterSafe s = forAsc 8 (fun a s => s.modAct a Actuator.safe) u := by
    rw [hu]
    unfold enterSafe
    rw [if_neg h, seqAbort_eq]
    rfl
  have walk := forAsc_keeps (f := fun a (s : State) => s.modAct a Actuator.safe) (s := u)
    (fun t => (∃ v, t = { u with svc := { u.svc with acts := v } }) ∧
      ∀ a, (t.act a).state = (u.act a).state ∧ (t.act a).regs = (u.act a).regs ∧ (t.act a).destOff = (u.act a).destOff)
    (fun a t h => by
      obtain ⟨⟨v, rfl⟩, same⟩ := h
      refine ⟨⟨_, rfl⟩, fun b => ?_⟩
      rw [State.modAct_act]
      split
      · rename_i e; subst e
        obtain ⟨state, regs, dest⟩ := Actuator.safe_same (State.act { u with svc := { u.svc with acts := v } } a)
        rw [state, regs, dest]; exact same a
      · exact same b)
    ⟨⟨_, rfl⟩, fun _ => ⟨rfl, rfl, rfl⟩⟩
  rw [← eq, hu] at walk
  obtain ⟨⟨v, rest⟩, same⟩ := walk
  exact ⟨⟨v, rest⟩, same⟩

theorem enterSafe_of_safe {s : State} (h : s.stc.mode = .safe) : enterSafe s = s := if_pos h

theorem enterSafe_stc (s : State) : (enterSafe s).stc = { s.stc with mode := .safe } := by
  by_cases h : s.stc.mode = .safe
  · rw [enterSafe_of_safe h, ← h]
  · obtain ⟨v, rest⟩ := (secured_enterSafe h).rest
    rw [rest]

theorem enterSafe_same (s : State) (a : Fin 8) : ((enterSafe s).act a).state = (s.act a).state ∧
    ((enterSafe s).act a).regs = (s.act a).regs ∧ ((enterSafe s).act a).destOff = (s.act a).destOff := by
  by_cases h : s.stc.mode = .safe
  · rw [enterSafe_of_safe h]; exact ⟨rfl, rfl, rfl⟩
  · exact (secured_enterSafe h).same a

/-! ### A reach at rest (R84, R86) -/

/-- No actuator is pressurized. -/
def State.resting (s : State) : Prop := ∀ a, (s.act a).state.pressurized = false

theorem unloadReach_of_rest {s : State} (h : s.resting) (m : ActSet) : unloadReach m s = s := by
  refine forAsc_eq_self fun a => ?_
  split
  · unfold unloadAction
    rcases ActState.not_pressurized_iff.1 (h a) with e | e <;> rw [e]
  · rfl

theorem tripReach_of_rest {s : State} (h : s.resting) (m : ActSet) : tripReach m s = s := by
  refine forAsc_eq_self fun a => ?_
  split
  · unfold tripAction
    rw [h a]; rfl
  · rfl

/-- Where nothing is pressurized in SAFE, an action moves no more than the hold-reason set. -/
theorem applyAction_of_rest {s : State} (h : s.resting) (safe : s.stc.mode = .safe) (x : ProtConfig) (m : ActSet) :
    applyAction x m s = if x.acting = .hold then addReason .protection s else s := by
  rw [applyAction_eq, unloadReach_of_rest h, tripReach_of_rest h, enterSafe_of_safe safe, ite_self]
  cases x.acting <;> rfl

/-! ### The trip of the whole station (R89, R190) -/

theorem Actuator.entered_tripped (x : Actuator) : (x.entered .tripped).regs.u = 0 := by
  by_cases h : x.state = .unloading <;> simp [entered, h]

/-- Every actuator that is TRIPPED in `t` was so in `s`, or has its valve drive at 0 (R50). -/
def State.drained (s t : State) : Prop := ∀ b, (t.act b).state = .tripped → (s.act b).state = .tripped ∨ (t.act b).regs.u = 0

theorem drained_setActState {s t : State} (h : s.drained t) (a : Fin 8) (c : ActCause) :
    s.drained (setActState a .tripped c t) := by
  intro b k
  by_cases ab : a = b
  · subst ab
    rw [setActState_act, State.modAct_act_same]
    exact .inr (Actuator.entered_tripped _)
  · rw [setActState_act_other ab] at k ⊢
    exact h b k

theorem drained_tripReach (m : ActSet) (s : State) : s.drained (tripReach m s) := by
  refine forAsc_keeps (f := fun a s => if ActSet.has m a then tripAction a s else s) s.drained (fun a t h => ?_) fun b h => .inl h
  exact keeps_ite (keeps_ite (forAsc_keeps s.drained (fun b t h => keeps_ite (drained_setActState h b .frame) h)
    (drained_setActState h a .protection)) h) h

theorem mem_trippedBy_all {m : ActSet} (all : ∀ a, ActSet.has m a = true) (s : State) (a : Fin 8) :
    a ∈ trippedBy m s ↔ (s.act a).state.pressurized = true := by
  simp only [trippedBy, List.mem_filter, List.mem_finRange, true_and, Bool.and_eq_true, List.any_eq_true, decide_eq_true_eq,
    all, and_iff_left_iff_imp]
  exact fun h => ⟨a, h, rfl⟩

/-- What the entry to SAFE after changes of actuator states makes of the mode and of a going plan (R7, R46). -/
structure State.Closes (s t : State) : Prop where
  stc : t.stc = { s.stc with mode := .safe }
  ends : s.stc.mode ≠ .safe → s.psq.state.going = true → t.psq.state = .aborted
  plan : s.stc.mode ≠ .safe → s.unlosing → t.psq = s.psq.safe ∧ t.ev.seqs = s.ev.seqs ++ s.psq.safeNotes s.time

theorem State.Steps.closes {s t : State} (steps : s.Steps t) : s.Closes (enterSafe t) := by
  have secured (free : s.stc.mode ≠ .safe) : t.Secured (enterSafe t) := secured_enterSafe (by rw [steps.stc]; exact free)
  refine ⟨by rw [enterSafe_stc, steps.stc], fun free going => ?_, fun free unlosing => ?_⟩
  · obtain ⟨v, rest⟩ := (secured free).rest
    rw [rest]
    show (Sequencer.safe _).state = _
    unfold Sequencer.safe
    rw [steps.going, if_pos going]; rfl
  · obtain ⟨v, rest⟩ := (secured free).rest
    obtain ⟨-, psq, seqs⟩ := steps.plan unlosing
    rw [rest, psq, seqs, steps.time]
    exact ⟨rfl, rfl⟩

/-- What a TRIP of STATION scope makes of the actuators, the mode and a going plan (R7, R89, R190). -/
structure State.StationTripped (s t : State) : Prop extends s.Applied t, s.Closes t where
  state : ∀ a, (t.act a).state = if (s.act a).state.pressurized then .tripped else (s.act a).state
  drive : ∀ a, (s.act a).state.pressurized = true → (t.act a).regs.u = 0

theorem stationTripped {x : ProtConfig} (trip : x.acting = .trip) (station : x.scope = .station) {m : ActSet}
    (all : ∀ a, ActSet.has m a = true) (s : State) : s.StationTripped (applyAction x m s) := by
  have eq : applyAction x m s = enterSafe (tripReach m s) := by rw [applyAction_eq, trip]; exact if_pos station
  have state (a : Fin 8) : ((tripReach m s).act a).state = if (s.act a).state.pressurized then .tripped else (s.act a).state := by
    rw [tripReach_state]; exact if_congr (mem_trippedBy_all all s a) rfl rfl
  refine ⟨applied_applyAction x m s, ?_, fun a => ?_, fun a loaded => ?_⟩
  · rw [eq]; exact (steps_tripReach m s).closes
  · rw [eq, (enterSafe_same _ a).1, state]
  · rw [eq, (enterSafe_same _ a).2.1]
    refine (drained_tripReach m s a (by rw [state, if_pos loaded])).resolve_left fun e => ?_
    rw [e] at loaded; exact nomatch loaded

/-- What an UNLOAD of STATION scope makes of the actuators, the mode and a going plan (R7, R84, R189). -/
structure State.StationUnloaded (s t : State) : Prop extends s.Applied t, s.Closes t where
  unloads : ∀ a, (s.act a).Unloaded true (t.act a)
  acts : t.ev.acts = s.ev.acts ++ (List.finRange 8).flatMap fun a =>
    (if (s.act a).state = .raising then [s.actNote a .low .raising .protection] else []).map fun n => (a, n)

theorem enterSafe_acts (s : State) : (enterSafe s).ev.acts = s.ev.acts := by
  by_cases h : s.stc.mode = .safe
  · rw [enterSafe_of_safe h]
  · obtain ⟨v, rest⟩ := (secured_enterSafe h).rest
    rw [rest]

theorem stationUnloaded {x : ProtConfig} (unload : x.acting = .unload) (station : x.scope = .station) {m : ActSet}
    (all : ∀ a, ActSet.has m a = true) (s : State) : s.StationUnloaded (applyAction x m s) := by
  have eq : applyAction x m s = enterSafe (unloadReach m s) := by rw [applyAction_eq, unload]; exact if_pos station
  obtain ⟨steps, own, acts⟩ := steps_unloadReach m s
  refine ⟨applied_applyAction x m s, ?_, fun a => ?_, ?_⟩
  · rw [eq]; exact steps.closes
  · obtain ⟨state, -, dest⟩ := enterSafe_same (unloadReach m s) a
    have := own a
    rw [all] at this
    unfold Actuator.Unloaded at this ⊢
    rw [eq, state, dest]; exact this
  · rw [eq, enterSafe_acts, acts]
    unfold State.unloadNotes
    simp only [all, true_and]

/-! ### The end of an event, as an entry sees it (R183) -/

theorem lower_pmx {c : Cond} {s : State} (h : s.raised c = true) : (lower c s).pmx =
    { s.pmx with cond := s.pmx.cond.set c.slot false, entries := s.pmx.entries.map (ProtEntry.lower c) } := by
  have eq : lower c s = merge ((setCond c false s).modPmx fun p => { p with entries := p.entries.map (ProtEntry.lower c) }) :=
    if_pos h
  rw [eq]
  exact merge_pmx _

theorem lower_entries {c : Cond} {s : State} (h : s.raised c = true) (e : Fin 40) :
    (lower c s).pmx.entries[e] = s.pmx.entries[e].lower c := by
  have entries : (lower c s).pmx.entries = s.pmx.entries.map (ProtEntry.lower c) := by rw [lower_pmx h]
  rw [entries]
  exact Vector.getElem_map ..

theorem lower_entry {c : Cond} {s : State} {e : Fin 40} (h : s.pmx.entries[e].cfg.matches c = false) :
    (lower c s).pmx.entries[e] = s.pmx.entries[e] := by
  by_cases raised : s.raised c = true
  · rw [lower_entries raised]
    exact if_neg (by rw [h, Bool.false_and]; exact Bool.false_ne_true)
  · exact congrArg (fun t : State => t.pmx.entries[e]) (show lower c s = s from if_neg raised)

theorem foldl_lower_entry {l : List Cond} {s : State} {e : Fin 40} (h : ∀ c ∈ l, s.pmx.entries[e].cfg.matches c = false) :
    (l.foldl (fun s c => lower c s) s).pmx.entries[e] = s.pmx.entries[e] := by
  induction l generalizing s with
  | nil => rfl
  | cons c l ih =>
    have one := lower_entry (h c List.mem_cons_self)
    rw [List.foldl_cons, ih fun d hd => by rw [one]; exact h d (List.mem_cons_of_mem _ hd), one]

/-- The lowerings of an event are of actuator conditions. -/
def State.lowersOwn (s : State) : Prop := ∀ c ∈ s.ev.lowers, c.actuator.isSome = true

theorem flush_merge_entry {s : State} (h : s.lowersOwn) {e : Fin 40} {k : CondKind}
    (kind : s.pmx.entries[e].cfg.kind = some k) (other : ∀ c : Cond, c.actuator.isSome = true → c.kind ≠ k) :
    (flush (merge s)).pmx.entries[e] = s.pmx.entries[e] := by
  obtain ⟨m, hm⟩ : ∃ m, m = merge s := ⟨_, rfl⟩
  have pmx : m.pmx = s.pmx := by rw [hm]; exact merge_pmx s
  have ev : m.ev = s.ev := by rw [hm]; exact (advised_merge s).ev
  have noted : (({ m with ev := {} } : State).noted (m.ev.actNotices ++ m.ev.seqs)).pmx = s.pmx := by rw [noted_eq]; exact pmx
  rw [← hm, flush_eq, foldl_lower_entry, noted]
  · rw [noted, ev]
    intro c hc
    refine Bool.eq_false_iff.2 fun m => other c (h c hc) ?_
    exact (Option.some.inj (kind.symm.trans (matches_iff.1 m).1)).symm

theorem flush_merge_raised {s : State} (h : s.lowersOwn) {d : Cond} (own : d.actuator = none) :
    (flush (merge s)).raised d = s.raised d := by
  have out : d ∉ (merge s).ev.lowers := by
    rw [(advised_merge s).ev]
    intro hd
    have := h d hd
    rw [own] at this; exact nomatch this
  rw [flush_raised, merge_raised, decide_eq_true out, Bool.and_true]

theorem haltLoop_kind (c : Cond) (h : c.actuator.isSome = true) : c.kind ≠ .haltLoop ∧ c.kind ≠ .broadcastHalt := by
  cases c with
  | act x a => cases x <;> exact ⟨nofun, nofun⟩
  | unloadTimeout | stiffness => exact ⟨nofun, nofun⟩
  | _ => exact nomatch h

end Sys2Proof.Machine

/-!
The opening of the HALT loop (R9): P0 trips the station, and no later entry takes anything back (R7, R179, R190 to R193).
-/
namespace Sys2Proof.Machine

/-! ### Entries that follow in SAFE with nothing pressurized -/

/-- What an entry other than P0 leaves where the station is in SAFE and nothing is pressurized. -/
structure State.Spared (s t : State) : Prop where
  rest : ∃ q p n lost l, t = { s with
    psq := q, pmx := p, sli := { s.sli with notices := n, noticesLost := lost }, ev := { s.ev with seqs := l } }
  levels : t.psq.levels = s.psq.levels
  ended : s.psq.state = .aborted → t.psq.state = .aborted
  first : ∀ r, s.pmx.firstOut = some r → t.pmx.firstOut = some r
  entry : t.pmx.entries[(0 : Fin 40)] = s.pmx.entries[(0 : Fin 40)]
  cond : t.pmx.cond = s.pmx.cond

theorem State.Spared.rfl' {s : State} : s.Spared s :=
  ⟨⟨_, _, _, _, _, rfl⟩, rfl, id, fun _ => id, rfl, rfl⟩

theorem State.Spared.trans {s t u : State} (h : s.Spared t) (k : t.Spared u) : s.Spared u where
  rest := by
    obtain ⟨_, _, _, _, _, rfl⟩ := h.rest
    obtain ⟨_, _, _, _, _, rfl⟩ := k.rest
    exact ⟨_, _, _, _, _, rfl⟩
  levels := k.levels.trans h.levels
  ended e := k.ended (h.ended e)
  first r e := k.first r (h.first r e)
  entry := k.entry.trans h.entry
  cond := k.cond.trans h.cond

theorem State.Spared.act {s t : State} (h : s.Spared t) (a : Fin 8) : t.act a = s.act a := by
  obtain ⟨_, _, _, _, _, rfl⟩ := h.rest; rfl

theorem State.Spared.stc {s t : State} (h : s.Spared t) : t.stc = s.stc := by
  obtain ⟨_, _, _, _, _, rfl⟩ := h.rest; rfl

theorem State.Spared.lowers {s t : State} (h : s.Spared t) : t.ev.lowers = s.ev.lowers := by
  obtain ⟨_, _, _, _, _, rfl⟩ := h.rest; rfl

theorem matrixTaking_spec (e : Fin 40) (c : Cond) (s : State) :
    (s.matrixTaking e c).entries = s.pmx.entries.set e (s.entryTaking e c) ∧ (s.matrixTaking e c).cond = s.pmx.cond ∧
      ∀ r, s.pmx.firstOut = some r → (s.matrixTaking e c).firstOut = some r := by
  unfold State.matrixTaking
  dsimp only
  split
  · exact ⟨rfl, rfl, fun r h => by unfold Protection.addTrip; dsimp only; rw [h]⟩
  · exact ⟨rfl, rfl, fun r h => h⟩

theorem spared_taking {e : Fin 40} (other : e ≠ 0) (c : Cond) (s : State) : s.Spared (s.taking e c) := by
  obtain ⟨entries, cond, first⟩ := matrixTaking_spec e c s
  rw [State.taking, noted_eq]
  refine ⟨?_, rfl, id, first, ?_, cond⟩
  · obtain ⟨l, lost, h⟩ := s.sli.queued_rest (s.notesTaking e c)
    exact ⟨s.psq, s.matrixTaking e c, l, lost, s.ev.seqs, by rw [h]⟩
  · show (s.matrixTaking e c).entries[(0 : Fin 40)] = _
    rw [entries]
    exact Vector.getElem_set_ne _ _ fun h => other (Fin.ext h)

theorem spared_addReason (r : HoldReason) (s : State) : s.Spared (addReason r s) := by
  rw [addReason_eq]
  split
  · rename_i running
    exact ⟨⟨_, s.pmx, s.sli.notices, s.sli.noticesLost, _, rfl⟩, (Sequencer.stopped_spec _).2,
      fun e => (nomatch running.symm.trans e), fun _ => id, rfl, rfl⟩
  · exact ⟨⟨_, s.pmx, s.sli.notices, s.sli.noticesLost, _, rfl⟩, rfl, id, fun _ => id, rfl, rfl⟩

theorem spared_takeRaising {s : State} (rest : s.resting) (safe : s.stc.mode = .safe) {e : Fin 40} (other : e ≠ 0) (c : Cond) :
    s.Spared (takeRaising e c s) := by
  by_cases h : s.pmx.entries[e].cfg.matches c = true
  · have taken := spared_taking other c s
    rw [takeRaising_of h, applyAction_of_rest (fun a => by rw [taken.act]; exact rest a) (by rw [taken.stc]; exact safe)]
    exact keeps_ite (P := s.Spared) (taken.trans (spared_addReason ..)) taken
  · rw [takeRaising_of_not (Bool.eq_false_iff.2 h)]; exact .rfl'

/-- An ascending walk, its first step taken. -/
theorem forAsc_first {n : Nat} (f : Fin (n + 1) → State → State) (s : State) :
    forAsc (n + 1) f s = ((List.finRange n).map Fin.succ).foldl (fun s i => f i s) (f 0 s) := by
  unfold forAsc
  rw [List.finRange_succ, List.foldl_cons]

theorem spared_walk (l : List (Fin 39)) (c : Cond) {s : State} (rest : s.resting) (safe : s.stc.mode = .safe) :
    s.Spared ((l.map Fin.succ).foldl (fun s e => takeRaising e c s) s) :=
  foldl_keeps (P := s.Spared) (f := fun t e => takeRaising e c t) (l := l.map Fin.succ) (fun t e he h => by
    obtain ⟨i, -, rfl⟩ := List.mem_map.1 he
    exact h.trans (spared_takeRaising (fun a => by rw [h.act]; exact rest a) (by rw [h.stc]; exact safe) (Fin.succ_ne_zero i) c)) .rfl'

/-! ### The opening of the loop -/

/-- P0 as R179 gives it. -/
def haltEntry : ProtConfig := { kind := some .haltLoop, action := .trip, scope := .station, enabled := true }

/-- What the opening of the HALT loop leaves where P0 is as R179 gives it. -/
structure State.HaltTripped (s t : State) : Prop where
  turned : s.Turned t
  ev : t.ev = {}
  stc : t.stc = { s.stc with mode := .safe }
  raised : t.raised .haltLoop = true
  entry : t.pmx.entries[(0 : Fin 40)].st = .active
  state : ∀ a, (t.act a).state = if (s.act a).state.pressurized then .tripped else (s.act a).state
  drive : ∀ a, (s.act a).state.pressurized = true → (t.act a).regs.u = 0
  ends : s.stc.mode ≠ .safe → s.psq.state.going = true → t.psq.state = .aborted ∧ t.psq.levels = s.psq.levels
  first : ∃ r : TripRec, t.pmx.firstOut = some (s.pmx.firstOut.getD r) ∧ r.entry = 0 ∧ r.kind = .haltLoop ∧ r.act = none ∧
    r.forces = s.svc.acts.map Actuator.force

theorem haltEntry_matches : haltEntry.matches .haltLoop = true := by decide

theorem State.Applied.lowersOwn {s t : State} (h : s.Applied t) (ev : s.ev = {}) : t.lowersOwn := by
  obtain ⟨l, hl, own⟩ := h.lowers
  rw [ev] at hl
  intro c hc
  rw [hl] at hc
  exact own c hc

theorem setCond_same (c : Cond) (b : Bool) (s : State) : (setCond c b s).raised c = b := by
  rw [setCond_raised, if_pos rfl]

theorem haltTripped {s : State} (ev : s.ev = {}) (low : s.raised .haltLoop = false)
    (p0 : s.pmx.entries[(0 : Fin 40)].cfg = haltEntry) : s.HaltTripped (raise .haltLoop s) := by
  obtain ⟨r, hr⟩ : ∃ r, r = (setCond .haltLoop true s).taking 0 .haltLoop := ⟨_, rfl⟩
  obtain ⟨w, hw⟩ : ∃ w, w = applyAction haltEntry (actSetOf fun _ => true) r := ⟨_, rfl⟩
  obtain ⟨m, hm⟩ : ∃ m, m = ((List.finRange 39).map Fin.succ).foldl (fun s e => takeRaising e .haltLoop s) w := ⟨_, rfl⟩
  have taken : takeRaising 0 .haltLoop (setCond .haltLoop true s) = w := by
    have cfg : (setCond .haltLoop true s).pmx.entries[(0 : Fin 40)].cfg = haltEntry := p0
    rw [takeRaising_of (by rw [cfg]; exact haltEntry_matches), hw, hr, cfg]
    rfl
  have whole : raise .haltLoop s = flush (merge m) := by
    unfold raise
    rw [if_neg (by rw [low]; exact Bool.false_ne_true), forAsc_first, taken, hm]
  have tripped : r.StationTripped w := by
    rw [hw]; exact stationTripped rfl rfl ActSet.has_all r
  have act (a : Fin 8) : r.act a = s.act a := by rw [hr, taking_act]; rfl
  have rstc : r.stc = s.stc := by rw [hr, State.taking, noted_eq]; rfl
  have rpsq : r.psq = s.psq := by rw [hr, State.taking, noted_eq]; rfl
  have rev : r.ev = {} := by rw [hr, State.taking, noted_ev]; exact ev
  have rpmx : r.pmx = (setCond .haltLoop true s).matrixTaking 0 .haltLoop := by rw [hr, State.taking, noted_eq]
  have wpmx : w.pmx = r.pmx := tripped.toApplied.pmx
  have rest : w.resting := fun a => by
    rw [tripped.state]
    split
    · rfl
    · rename_i h; exact Bool.eq_false_iff.2 h
  have safe : w.stc.mode = .safe := by rw [tripped.stc]
  have spared : w.Spared m := by rw [hm]; exact spared_walk _ _ rest safe
  have own : m.lowersOwn := by
    intro c hc
    rw [spared.lowers] at hc
    exact tripped.toApplied.lowersOwn rev c hc
  obtain ⟨entries, cond, -⟩ := matrixTaking_spec 0 .haltLoop (setCond .haltLoop true s)
  have entry : m.pmx.entries[(0 : Fin 40)] = (setCond .haltLoop true s).entryTaking 0 .haltLoop := by
    rw [spared.entry, wpmx, rpmx, entries]
    exact Vector.getElem_set_self ..
  obtain ⟨moved, -, -, first⟩ := flush_merge_spec m
  rw [whole]
  refine ⟨?_, moved.ev, ?_, ?_, ?_, fun a => ?_, fun a loaded => ?_, fun free going => ?_, ?_⟩
  · rw [← whole]; exact turned_raise _ _
  · rw [moved.stc]
    show m.stc = _
    rw [spared.stc, tripped.stc, rstc]
  · rw [flush_merge_raised own rfl]
    have : m.raised .haltLoop = (setCond .haltLoop true s).raised .haltLoop := by
      unfold State.raised
      rw [spared.cond, wpmx, rpmx, cond]
    rw [this, setCond_same]
  · rw [flush_merge_entry own (k := .haltLoop) ?_ fun c h => (haltLoop_kind c h).1, entry]
    · rfl
    · rw [entry]
      show (setCond .haltLoop true s).pmx.entries[(0 : Fin 40)].cfg.kind = _
      rw [show (setCond .haltLoop true s).pmx.entries[(0 : Fin 40)].cfg = haltEntry from p0]
      rfl
  · rw [moved.state]
    show (m.act a).state = _
    rw [spared.act, tripped.state, act]
  · obtain ⟨d, h⟩ := moved.act a
    rw [h]
    show (m.act a).regs.u = 0
    rw [spared.act]
    exact tripped.drive a (by rw [act]; exact loaded)
  · rw [moved.psq]
    refine ⟨spared.ended (tripped.ends (by rw [rstc]; exact free) (by rw [rpsq]; exact going)), ?_⟩
    show m.psq.levels = _
    rw [spared.levels, tripped.levels, rpsq]
  · refine ⟨tripRecord 0 .haltLoop s, ?_, rfl, rfl, rfl, rfl⟩
    have record : w.pmx.firstOut = some (s.pmx.firstOut.getD (tripRecord 0 .haltLoop s)) := by
      rw [wpmx, rpmx]
      unfold State.matrixTaking
      rw [show (setCond .haltLoop true s).pmx.entries[(0 : Fin 40)].cfg = haltEntry from p0]
      refine Eq.trans (b := match s.pmx.firstOut with
        | none => some (tripRecord 0 .haltLoop s)
        | some x => some x) rfl ?_
      cases s.pmx.firstOut <;> rfl
    rw [first]
    exact spared.first _ record

end Sys2Proof.Machine

/-!
The HALT loop, whole (R7, R9, R12, R26, R182, R183, R190 to R193).
-/
namespace Sys2Proof.Machine

/-! ### The notices of a raising's own event (R26, R74) -/

theorem notesTaking_kind {e : Fin 40} {c : Cond} {s : State} {n : Notice} (h : n ∈ s.notesTaking e c) :
    n.kind = .entry ∨ n.kind = .trip := by
  unfold State.notesTaking at h
  dsimp only at h
  split at h
  · exact nomatch h
  · rw [List.mem_singleton.1 h, entryNotice_eq]
    by_cases trip : s.pmx.entries[e].cfg.acting = .trip
    · exact .inr (if_pos trip)
    · exact .inl (if_neg trip)

theorem struck_applied (e : Fin 40) (c : Cond) (s : State) : ((setCond c true s).taking e c).Applied (s.struck e c) :=
  applied_applyAction ..

/-- The notices of a raising that one entry alone matches: its own, and those of the changes its action makes. -/
theorem struck_noted (e : Fin 40) (c : Cond) (s : State) : Noted s (flush (merge (s.struck e c)))
    (s.notesTaking e c ++ ((s.struck e c).ev.actNotices ++ (s.struck e c).ev.seqs)) := by
  have first : Noted s ((setCond c true s).taking e c) (s.notesTaking e c) :=
    Noted.trans (l := []) (Noted.of_sli (s := s) (t := setCond c true s) rfl) (noted_taking e c (setCond c true s))
  exact (first.congr (struck_applied e c s).sli).trans (flush_merge_spec (s.struck e c)).2.1

theorem filter_notesTaking {e : Fin 40} {c : Cond} {s : State} {p : Notice → Bool}
    (hp : ∀ n, n.kind = .entry ∨ n.kind = .trip → p n = false) : (s.notesTaking e c).filter p = [] :=
  List.filter_eq_nil_iff.2 fun n hn => by rw [hp n (notesTaking_kind hn)]; exact Bool.false_ne_true

theorem struck_kinds {e : Fin 40} {c : Cond} {s : State} (ev : s.ev = {}) :
    (∀ n ∈ (s.struck e c).ev.actNotices, n.kind = .actState) ∧ ∀ n ∈ (s.struck e c).ev.seqs, n.kind = .seqState := by
  obtain ⟨l, m, acts, seqs, hl, hm⟩ := (struck_applied e c s).formed
  have start : ((setCond c true s).taking e c).ev = {} := by rw [State.taking, noted_ev]; exact ev
  rw [start, List.nil_append] at acts seqs
  refine ⟨fun n hn => ?_, fun n hn => hm n (seqs ▸ hn)⟩
  obtain ⟨a, -, ha⟩ := List.mem_flatMap.1 hn
  obtain ⟨x, hx, rfl⟩ := List.mem_map.1 ha
  exact hl x (acts ▸ (List.mem_filter.1 hx).1)

theorem filter_kind_self {k : NoticeKind} {l : List Notice} (h : ∀ n ∈ l, n.kind = k) : l.filter (Notice.is k) = l :=
  List.filter_eq_self.2 fun n hn => decide_eq_true (h n hn)

theorem filter_kind_nil {j k : NoticeKind} (other : j ≠ k) {l : List Notice} (h : ∀ n ∈ l, n.kind = j) :
    l.filter (Notice.is k) = [] :=
  List.filter_eq_nil_iff.2 fun n hn => by unfold Notice.is; rw [h n hn, decide_eq_true_eq]; exact other

/-- The ACT_STATE and SEQ_STATE notices of such a raising. -/
theorem struck_stateNotices {e : Fin 40} {c : Cond} {s : State} (ev : s.ev = {}) :
    Forms s (flush (merge (s.struck e c))) (Notice.is .actState) (s.struck e c).ev.actNotices ∧
      Forms s (flush (merge (s.struck e c))) (Notice.is .seqState) (s.struck e c).ev.seqs := by
  obtain ⟨acts, seqs⟩ := struck_kinds (e := e) (c := c) ev
  have noted := struck_noted e c s
  have own (k : NoticeKind) (hk : k ≠ .entry ∧ k ≠ .trip) : (s.notesTaking e c).filter (Notice.is k) = [] :=
    filter_notesTaking fun n h => decide_eq_false (by rcases h with h | h <;> rw [h]; exacts [hk.1.symm, hk.2.symm])
  have first := noted.forms (Notice.is .actState)
  have second := noted.forms (Notice.is .seqState)
  rw [List.filter_append, List.filter_append, own .actState ⟨nofun, nofun⟩, filter_kind_self acts,
    filter_kind_nil (k := .actState) (show NoticeKind.seqState ≠ .actState by decide) seqs, List.append_nil] at first
  rw [List.filter_append, List.filter_append, own .seqState ⟨nofun, nofun⟩, filter_kind_self seqs,
    filter_kind_nil (k := .seqState) (show NoticeKind.actState ≠ .seqState by decide) acts] at second
  exact ⟨first, second⟩

theorem unlosing_iff_of_same {s t : State} (acts : t.svc.acts = s.svc.acts) (lgu : t.lgu = s.lgu) : t.unlosing ↔ s.unlosing := by
  have group (g : Fin 4) : (t.group g).members = (s.group g).members := by unfold State.group; rw [lgu]
  have act (a : Fin 8) : t.act a = s.act a := by unfold State.act; rw [acts]
  unfold State.unlosing
  rw [lostCause_congr acts group]
  simp only [inUse_of_same (s := s) (t := t) group fun a => by rw [act]; exact ⟨rfl, rfl⟩]

/-- The entry to SAFE of an action on a station that is not in SAFE ends a going plan, with one SEQ_STATE notice (R26, R46). -/
theorem struck_ends {e : Fin 40} {c : Cond} {s : State} (ev : s.ev = {})
    (closes : ((setCond c true s).taking e c).Closes (s.struck e c)) (free : s.stc.mode ≠ .safe)
    (going : s.psq.state.going = true) (unlosing : s.unlosing) :
    (flush (merge (s.struck e c))).psq = s.psq.aborted ∧
      Forms s (flush (merge (s.struck e c))) (Notice.is .seqState) [s.psq.aborted.note s.time s.psq.state] := by
  obtain ⟨r, hr⟩ : ∃ r, r = (setCond c true s).taking e c := ⟨_, rfl⟩
  have rstc : r.stc = s.stc := by rw [hr, State.taking, noted_eq]; rfl
  have rpsq : r.psq = s.psq := by rw [hr, State.taking, noted_eq]; rfl
  have rtime : r.time = s.time := by rw [hr, State.taking, noted_eq]; rfl
  have rev : r.ev = {} := by rw [hr, State.taking, noted_ev]; exact ev
  have racts : r.svc.acts = s.svc.acts := by rw [hr, State.taking, noted_eq]; rfl
  have rlgu : r.lgu = s.lgu := by rw [hr, State.taking, noted_eq]; rfl
  rw [← hr] at closes
  obtain ⟨psq, seqs⟩ := closes.plan (by rw [rstc]; exact free) ((unlosing_iff_of_same racts rlgu).2 unlosing)
  rw [rpsq] at psq
  rw [rpsq, rtime, rev] at seqs
  have ended : s.psq.safe = s.psq.aborted := if_pos going
  have note : s.psq.safeNotes s.time = [s.psq.aborted.note s.time s.psq.state] := if_pos going
  rw [ended] at psq
  rw [note] at seqs
  have forms := (struck_stateNotices (e := e) (c := c) ev).2
  rw [seqs] at forms
  refine ⟨?_, forms⟩
  rw [(flush_merge_spec _).1.psq]
  exact psq

theorem struck_tripped {e : Fin 40} {c : Cond} {s : State} (trip : s.pmx.entries[e].cfg.acting = .trip)
    (station : s.pmx.entries[e].cfg.scope = .station) :
    ((setCond c true s).taking e c).StationTripped (s.struck e c) :=
  stationTripped trip station (fun a => by rw [station]; exact ActSet.has_all a) _

/-! ### The HALT loop opens and closes (R9) -/

theorem kind_haltEntry {p : ProtConfig} (h : p.kind ≠ some .haltLoop) : p.matches .haltLoop = false :=
  Bool.eq_false_iff.2 fun m => h (matches_iff.1 m).1

theorem haltLoop_opens {s : State} (settled : s.settled) (low : s.raised .haltLoop = false)
    (p0 : s.pmx.entries[(0 : Fin 40)].cfg = haltEntry) :
    ∃ t, exec (.haltLoopChange true) s = .next t ∧
      t.stc = { s.stc with haltOpen := true, mode := .safe } ∧ t.raised .haltLoop = true ∧
      t.pmx.entries[(0 : Fin 40)].st = .active ∧
      (∀ a : Fin 8, (t.act a).state = if (s.act a).state.pressurized then .tripped else (s.act a).state) ∧
      (∀ a : Fin 8, (s.act a).state.pressurized = true → (t.act a).regs.u = 0) ∧
      (s.stc.mode ≠ .safe → s.psq.state.going = true → t.psq.state = .aborted ∧ t.psq.levels = s.psq.levels ∧
        ((∀ e : Fin 40, e ≠ 0 → s.pmx.entries[e].cfg.kind ≠ some .haltLoop) →
          s.lostCause = true ∨ (∀ k : Fin 8, s.inUse k = false) →
          Forms s t (Notice.is .seqState) [t.psq.note s.time s.psq.state])) ∧
      (s.pmx.firstOut = none → ∃ r, t.pmx.firstOut = some r ∧ r.entry = 0 ∧ r.kind = .haltLoop ∧
        ∀ a : Fin 8, r.forces[a] = (s.act a).force) ∧
      t = { s with stc := t.stc, psq := t.psq, svc := t.svc, lgu := t.lgu, pmx := t.pmx, sli := t.sli } := by
  obtain ⟨ev, pending⟩ := settled
  obtain ⟨u, hu⟩ : ∃ u, u = s.modStc fun c => { c with haltOpen := true } := ⟨_, rfl⟩
  have uev : u.ev = {} := by rw [hu]; exact ev
  have ulow : u.raised .haltLoop = false := by rw [hu]; exact low
  have up0 : u.pmx.entries[(0 : Fin 40)].cfg = haltEntry := by rw [hu]; exact p0
  have tripped := haltTripped uev ulow up0
  have act (a : Fin 8) : u.act a = s.act a := by rw [hu]; rfl
  refine ⟨raise .haltLoop u, ?_, ?_, tripped.raised, tripped.entry, fun a => by rw [tripped.state, act],
    fun a h => tripped.drive a (by rw [act]; exact h), fun free going => ?_, fun empty => ?_, ?_⟩
  · have run : exec (.haltLoopChange true) s = stepDone (raise .haltLoop u) := by rw [hu]; rfl
    rw [run]
    exact stepDone_of_noResetDue (.inl (by rw [tripped.stc, hu]; exact pending))
  · rw [tripped.stc, hu]; rfl
  · obtain ⟨state, levels⟩ := tripped.ends (by rw [hu]; exact free) (by rw [hu]; exact going)
    refine ⟨state, by rw [levels, hu]; rfl, fun alone unlosing => ?_⟩
    have one (k : Fin 40) (hk : k ≠ 0) : u.pmx.entries[k].cfg.matches .haltLoop = false := by
      rw [hu]; exact kind_haltEntry (alone k hk)
    obtain ⟨psq, forms⟩ := struck_ends (e := 0) (c := .haltLoop) uev
      (struck_tripped (by rw [up0]; rfl) (by rw [up0]; rfl)).toCloses
      (by rw [hu]; exact free) (by rw [hu]; exact going) (by rw [hu]; exact unlosing)
    have eq := raise_struck ulow (by rw [up0]; exact haltEntry_matches) one
    rw [← eq] at psq forms
    rw [psq]
    have start : Forms s u (Notice.is .seqState) [] := Forms.of_sli (by rw [hu]; rfl)
    have both := start.trans forms
    rw [hu] at both ⊢
    exact both
  · obtain ⟨r, first, entry, kind, -, forces⟩ := tripped.first
    have none : u.pmx.firstOut = none := by rw [hu]; exact empty
    rw [none] at first
    refine ⟨r, first, entry, kind, fun a => ?_⟩
    rw [forces, Fin.getElem_fin, Vector.getElem_map, hu]; rfl
  · obtain ⟨_, _, _, _, _, e, _, _, h⟩ := tripped.turned
    have none : e = {} := by rw [← tripped.ev, h]
    rw [h, none, hu, ← ev]; rfl

theorem haltLoop_closes {s : State} (settled : s.settled) (high : s.raised .haltLoop = true) :
    ∃ t, exec (.haltLoopChange false) s = .next t ∧
      t.stc = { s.stc with haltOpen := false } ∧ t.raised .haltLoop = false ∧
      (∀ a : Fin 8, (t.act a).state = (s.act a).state) ∧
      (∀ e : Fin 40, s.pmx.entries[e].cfg.kind = some .haltLoop → s.pmx.entries[e].cfg.inst = none →
        s.pmx.entries[e].st = .active → s.pmx.entries[e].raised = [0] →
        t.pmx.entries[e].st = if s.pmx.entries[e].cfg.action = .note then .quiet else .latched) ∧
      t = { s with stc := t.stc, svc := t.svc, lgu := t.lgu, pmx := t.pmx } := by
  obtain ⟨u, hu⟩ : ∃ u, u = s.modStc fun c => { c with haltOpen := false } := ⟨_, rfl⟩
  have moved : u.Moved (lower .haltLoop u) := (advised_lower .haltLoop u).toMoved
  have stc : (lower .haltLoop u).stc = { s.stc with haltOpen := false } := by rw [moved.stc, hu]; rfl
  refine ⟨lower .haltLoop u, ?_, stc, ?_, fun a => by rw [moved.state, hu]; rfl, fun e kind inst st raised => ?_, ?_⟩
  · have run : exec (.haltLoopChange false) s = stepDone (lower .haltLoop u) := by rw [hu]; rfl
    rw [run]
    exact stepDone_of_noResetDue (.inl (by rw [stc]; exact settled.2))
  · rw [lower_raised, if_pos rfl]
  · rw [lower_entries (by rw [hu]; exact high)]
    have same : u.pmx.entries[e] = s.pmx.entries[e] := by rw [hu]; rfl
    have takes : s.pmx.entries[e].cfg.matches .haltLoop = true := matches_iff.2 ⟨kind, .inl inst⟩
    rw [same]
    unfold ProtEntry.lower
    rw [takes, raised]
    simp only [Cond.inst, List.contains_cons, BEq.rfl, Bool.true_or, Bool.and_true, if_true, ne_eq, not_true_eq_false,
      decide_false, List.filter_cons, Bool.false_eq_true, if_false, List.filter_nil, List.isEmpty_nil]
    split <;> rfl
  · obtain ⟨v, g, p, l, lost, h⟩ := moved.rest
    have sli : (lower .haltLoop u).sli = s.sli := by rw [lower_sli, hu]; rfl
    have notices : l = s.sli.notices ∧ lost = s.sli.noticesLost := by rw [← sli, h]; exact ⟨rfl, rfl⟩
    obtain ⟨rfl, rfl⟩ := notices
    rw [h, hu]; rfl

/-! ### An action where every actuator is OFF and no plan goes -/

theorem resting_of_off {s : State} (off : ∀ a, (s.act a).state = .off) : s.resting := fun a => by rw [off a]; rfl

theorem modAct_eq_self {s : State} {a : Fin 8} {f : Actuator → Actuator} (h : f (s.act a) = s.act a) : s.modAct a f = s := by
  show ({ s with svc := { s.svc with acts := s.svc.acts.set a (f s.svc.acts[a]) } } : State) = s
  rw [show f s.svc.acts[a] = s.svc.acts[a] from h]
  have : s.svc.acts.set a s.svc.acts[a] = s.svc.acts := Vector.set_getElem_self _
  rw [this]

theorem enterSafe_of_off {s : State} (off : ∀ a, (s.act a).state = .off) (still : s.psq.state.going = false) :
    enterSafe s = s.modStc fun c => { c with mode := .safe } := by
  unfold enterSafe
  split
  · rename_i safe
    show s = { s with stc := { s.stc with mode := .safe } }
    rw [← safe]
  · have ended : seqAbort (s.modStc fun c => { c with mode := .safe }) = s.modStc fun c => { c with mode := .safe } :=
      if_neg (by rw [show (s.modStc fun c => { c with mode := .safe }).psq.state.going = false from still]; exact Bool.false_ne_true)
    rw [ended]
    refine forAsc_eq_self fun a => modAct_eq_self (if_neg ?_)
    rw [show (State.act (s.modStc fun c => { c with mode := .safe }) a).state = .off from off a]
    decide

/-- What an action makes of a station whose actuators are all OFF and where no plan goes: a hold reason, or SAFE. -/
theorem applyAction_of_off {s : State} (off : ∀ a, (s.act a).state = .off) (still : s.psq.state.going = false) (x : ProtConfig)
    (m : ActSet) : applyAction x m s =
    { s with
      psq := if x.acting = .hold then { s.psq with hold := { s.psq.hold with protection := true } } else s.psq
      stc := if x.scope = .station ∧ (x.acting = .unload ∨ x.acting = .trip) then { s.stc with mode := .safe } else s.stc } := by
  have stops : s.psq.state ≠ .running := fun e => by rw [e] at still; exact nomatch still
  rw [applyAction_eq, unloadReach_of_rest (resting_of_off off), tripReach_of_rest (resting_of_off off), enterSafe_of_off off still]
  cases acts : x.acting with
  | note | derate => simp
  | hold =>
    dsimp only
    rw [addReason_eq, if_neg stops, if_pos rfl, if_neg (by simp)]
    rfl
  | unload | trip =>
    by_cases station : x.scope = .station
    · simp [station]; rfl
    · simp [station]

/-! ### The loop open at POWER and LINE (R9, R12) -/

theorem defaultEntries_haltLoop : ∀ k : Fin 40, k ≠ 0 → ({} : Protection).entries[k].cfg.matches .haltLoop = false := by
  decide +kernel

theorem defaultEntries_first : ({} : Protection).entries[(0 : Fin 40)].cfg = haltEntry := by decide +kernel

theorem coldReset_open (straps : Address) (record : ResetRecord) {s : State} (h : s.stc.haltOpen = true) :
    let t := finish (coldReset straps record s)
    t.stc = { mode := .safe, address := straps, haltOpen := true, resetRecord := record } ∧
      t.raised .haltLoop = true ∧ t.pmx.entries[(0 : Fin 40)].st = .active ∧ (∀ a : Fin 8, (t.act a).state = .off) ∧
      t.sli = { notices :=
        [{ kind := .reset, time := 0, cycles := 0, subject := straps.toNat, v1 := record.code },
         { kind := .trip, time := 0, cycles := 0, subject := 0, v1 := CondKind.haltLoop.code, v2 := 0, v3 := 65535,
           v4 := 0 }] } ∧
      t.axs = s.axs.map (fun x => { closed := x.closed }) ∧ t.pending = s.pending ∧
      ∃ r, t.pmx.tripLog = [r] ∧ t.pmx.firstOut = some r ∧ r.entry = 0 ∧ r.kind = .haltLoop ∧ r.act = none := by
  obtain ⟨v, hv⟩ : ∃ v, v = offer (resetNotice straps record.code) (coldState straps record s) := ⟨_, rfl⟩
  have ev : v.ev = {} := by rw [hv]; rfl
  have low : v.raised .haltLoop = false := by rw [hv]; rfl
  have pmx : v.pmx = {} := by rw [hv]; rfl
  have p0 : v.pmx.entries[(0 : Fin 40)].cfg = haltEntry := by rw [pmx]; exact defaultEntries_first
  have off (a : Fin 8) : (v.act a).state = .off := by rw [hv]; exact state_defaultActs a
  have tripped := haltTripped ev low p0
  have axs : v.axs = s.axs.map fun x => { closed := x.closed } := by rw [hv]; rfl
  obtain ⟨r, hr⟩ : ∃ r, r = (setCond .haltLoop true v).taking 0 .haltLoop := ⟨_, rfl⟩
  have roff (a : Fin 8) : (r.act a).state = .off := by rw [hr, taking_act]; exact off a
  have still : r.psq.state.going = false := by rw [hr, State.taking, noted_eq, hv]; rfl
  have struck : v.struck 0 .haltLoop = r.modStc fun c => { c with mode := .safe } := by
    unfold State.struck
    rw [p0, ← hr, applyAction_of_off roff still]
    rfl
  have whole : raise .haltLoop v = merge (r.modStc fun c => { c with mode := .safe }) := by
    rw [raise_struck low (by rw [p0]; exact haltEntry_matches) (by rw [pmx]; exact defaultEntries_haltLoop), struck]
    refine flush_of_empty ((advised_merge _).ev.trans ?_)
    show r.ev = {}
    rw [hr, State.taking, noted_ev]; exact ev
  have notes : v.notesTaking 0 .haltLoop = [
      { kind := .trip, time := 0, cycles := 0, subject := 0, v1 := CondKind.haltLoop.code, v2 := 0, v3 := 65535, v4 := 0 }] := by
    have quiet : v.pmx.entries[(0 : Fin 40)].st ≠ .active := by rw [pmx]; decide +kernel
    have none : trippedBy (instReach v.pmx.entries[(0 : Fin 40)].cfg.scope .haltLoop v) v = [] := by
      rw [p0]
      refine List.eq_nil_iff_forall_not_mem.2 fun a ha => ?_
      have := (mem_trippedBy_all ActSet.has_all v a).1 ha
      rw [off] at this; exact nomatch this
    unfold State.notesTaking
    dsimp only
    rw [if_neg quiet, entryNotice_eq, none]
    unfold State.entryNote
    have time : v.time = 0 := by rw [hv, show (offer (resetNotice straps record.code) (coldState straps record s)).time = 0 / 1000 % 4294967296 from rfl]
    have cycles : v.psq.totalCycles = 0 := by rw [hv]; rfl
    have acting : haltEntry.acting = .trip := rfl
    rw [p0, time, cycles]
    simp only [acting, if_true]
    rfl
  have sli : (raise .haltLoop v).sli = { notices :=
        [{ kind := .reset, time := 0, cycles := 0, subject := straps.toNat, v1 := record.code },
         { kind := .trip, time := 0, cycles := 0, subject := 0, v1 := CondKind.haltLoop.code, v2 := 0, v3 := 65535,
           v4 := 0 }] } := by
    rw [whole, merge_sli]
    show r.sli = _
    rw [hr, State.taking, notesTaking_setCond, notes, noted_eq, hv]
    rfl
  have rpmx : (raise .haltLoop v).pmx = (setCond .haltLoop true v).matrixTaking 0 .haltLoop := by
    rw [whole, merge_pmx]
    show r.pmx = _
    rw [hr, State.taking, noted_eq]
  have turned := tripped.turned
  have whole' : finish (coldReset straps record s) = raise .haltLoop v := by
    have unassigned (x : Fin 16) : (raise .haltLoop v).axs[x].fn = .none := by
      obtain ⟨_, _, _, _, _, _, _, _, e⟩ := turned
      rw [e]
      show v.axs[x].fn = .none
      rw [axs, Fin.getElem_fin, Vector.getElem_map]
    have reset : coldReset straps record s = raise .haltLoop v := by
      have opened : (offer (resetNotice straps record.code) (coldState straps record s)).stc.haltOpen = true := h
      unfold coldReset afterReset
      dsimp only
      rw [show (coldState straps record s).stc.address = straps from rfl,
        show (coldState straps record s).stc.resetRecord = record from rfl, if_pos opened, ← hv]
      exact forAsc_eq_self fun x => senseContact_of_not_contact (congrArg SlotFn.isContact (unassigned x))
    rw [reset]
    refine if_neg fun k => ?_
    rw [tripped.stc, hv] at k
    exact nomatch k.1
  intro t
  rw [show t = raise .haltLoop v from whole']
  refine ⟨?_, tripped.raised, tripped.entry, fun a => ?_, sli, ?_, ?_, tripRecord 0 .haltLoop v, ?_, ?_, rfl, rfl, rfl⟩
  · rw [tripped.stc, hv]
    show ({ resetRecord := record, address := straps, haltOpen := s.stc.haltOpen, mode := .safe } : StationControl) = _
    rw [h]
  · rw [tripped.state, off]; rfl
  · obtain ⟨_, _, _, _, _, _, _, _, e⟩ := turned
    rw [e]; exact axs
  · obtain ⟨_, _, _, _, _, _, _, _, e⟩ := turned
    rw [e, hv]; rfl
  all_goals
    rw [rpmx]
    unfold State.matrixTaking
    rw [show (setCond .haltLoop true v).pmx.entries[(0 : Fin 40)].cfg = haltEntry from p0]
    rw [show (setCond .haltLoop true v).pmx = { ({} : Protection) with cond := (setCond .haltLoop true v).pmx.cond } by
      unfold setCond State.modPmx; rw [pmx]]
    rfl

/-- Settles O10. -/
theorem haltLoopTripsTheStation : Obligations.HaltLoopTripsTheStation := by
  refine ⟨fun s straps i hi opened => ?_, fun s settled low p0 => haltLoop_opens settled low p0,
    fun s settled high => haltLoop_closes settled high⟩
  rcases hi with rfl | rfl
  · have code : ({ power := true } : ResetRecord).code = 1 := rfl
    have cold := coldReset_open straps { power := true } opened
    refine ⟨_, rfl, ?_⟩
    simpa [code] using cold
  · have code : ({ line := true } : ResetRecord).code = 2 := rfl
    have cold := coldReset_open straps { line := true } opened
    refine ⟨_, rfl, ?_⟩
    simpa [code] using cold

end Sys2Proof.Machine

/-!
HALT through P1 (R7, R41, R74, R182 to R184, R188 to R191, R204).
-/
namespace Sys2Proof.Machine

theorem trippedBy_all {m : ActSet} (all : ∀ a, ActSet.has m a = true) (s : State) :
    trippedBy m s = (List.finRange 8).filter fun a => (s.act a).state.pressurized := by
  have mem := mem_trippedBy_all all s
  unfold trippedBy at mem ⊢
  refine List.filter_congr fun a _ => Bool.eq_iff_iff.2 ?_
  have := mem a
  rw [List.mem_filter] at this
  rw [← this]
  simp

theorem notesTaking_of_quiet {e : Fin 40} {c : Cond} {s : State} (h : s.pmx.entries[e].st ≠ .active) :
    s.notesTaking e c = [s.entryNote e c (trippedBy (instReach s.pmx.entries[e].cfg.scope c s) s).length] := by
  unfold State.notesTaking
  dsimp only
  rw [if_neg h, entryNotice_eq]

theorem lower_act {c : Cond} {s : State} (h : s.raised c = true) (a : Fin 8) :
    (lower c s).act a = { s.act a with derate := (lower c s).mergedDerate a } := by
  obtain ⟨u, hu⟩ : ∃ u, u = (setCond c false s).modPmx fun p => { p with entries := p.entries.map (ProtEntry.lower c) } := ⟨_, rfl⟩
  have eq : lower c s = merge u := by rw [hu]; exact if_pos h
  rw [eq, merge_act, mergedDerate_congr (merge_pmx u), hu]
  rfl

/-- An entry with an action other than NOTE is LATCHED as its last raised condition is lowered (R183). -/
theorem ProtEntry.lower_last {c : Cond} {x : ProtEntry} (mine : x.cfg.matches c = true) (raised : x.raised = [c.inst])
    (action : x.cfg.action ≠ .note) : x.lower c = { x with st := .latched, raised := [] } := by
  simp [ProtEntry.lower, mine, raised, action]

theorem Noted.answered {s u : State} {l : List Notice} (h : Noted s.received u l) (code : Byte) (f : Frame) (payload : List Byte) :
    Noted s (u.answered code f payload) l := by
  have forms := (h.forms fun _ => true).answered code f payload
  have noted := forms.noted fun _ => rfl
  rwa [List.filter_eq_self.2 fun _ _ => rfl] at noted

/-- P1's kind and scope, and an action other than NOTE, as the statements of HALT give them. -/
structure ProtConfig.OfHalt (p : ProtConfig) : Prop where
  kind : p.kind = some .broadcastHalt
  inst : p.inst = none
  scope : p.scope = .station
  action : p.action ≠ .note

/-- What HALT makes of a state: P1 applies its action, and BROADCAST_HALT is lowered again. -/
structure State.Halted (s z : State) : Prop where
  turned : s.Turned z
  ev : z.ev = {}
  moved : ({ s.struck 1 .broadcastHalt with ev := {} } : State).Moved z
  sli : z.sli = (flush (merge (s.struck 1 .broadcastHalt))).sli
  lowered : z.raised .broadcastHalt = false
  entry : z.pmx.entries[(1 : Fin 40)] = { cfg := s.pmx.entries[(1 : Fin 40)].cfg, st := .latched, reach := BitVec.allOnes 8 }
  act : ∀ a, ∃ d, (s.struck 1 .broadcastHalt).act a = { (z.act a) with derate := d } ∧ (z.act a).derate = z.mergedDerate a
  log : z.pmx.tripLog = ((setCond .broadcastHalt true s).matrixTaking 1 .broadcastHalt).tripLog
  first : z.pmx.firstOut = ((setCond .broadcastHalt true s).matrixTaking 1 .broadcastHalt).firstOut

theorem halted_haltAct {s : State} (ev : s.ev = {}) (low : s.raised .broadcastHalt = false)
    (alone : ∀ e : Fin 40, e ≠ 1 → s.pmx.entries[e].cfg.kind ≠ some .broadcastHalt)
    (none : s.pmx.entries[(1 : Fin 40)].raised = []) (p1 : s.pmx.entries[(1 : Fin 40)].cfg.OfHalt) : s.Halted (haltAct s) := by
  obtain ⟨v, hv⟩ : ∃ v, v = raise .broadcastHalt s := ⟨_, rfl⟩
  have mine : s.pmx.entries[(1 : Fin 40)].cfg.matches .broadcastHalt = true := matches_iff.2 ⟨p1.kind, .inl p1.inst⟩
  have eq : v = flush (merge (s.struck 1 .broadcastHalt)) := by
    rw [hv]
    exact raise_struck low mine fun k hk => Bool.eq_false_iff.2 fun m => alone k hk (matches_iff.1 m).1
  have own : (s.struck 1 .broadcastHalt).lowersOwn := by
    refine (struck_applied 1 .broadcastHalt s).lowersOwn ?_
    rw [State.taking, noted_ev]; exact ev
  obtain ⟨entries, cond, -⟩ := matrixTaking_spec 1 .broadcastHalt (setCond .broadcastHalt true s)
  have pmx : (s.struck 1 .broadcastHalt).pmx = (setCond .broadcastHalt true s).matrixTaking 1 .broadcastHalt := by
    rw [State.struck, applyAction_pmx, State.taking, noted_eq]
  have struckEntry : (s.struck 1 .broadcastHalt).pmx.entries[(1 : Fin 40)] =
      (setCond .broadcastHalt true s).entryTaking 1 .broadcastHalt := by
    rw [pmx, entries]; exact Vector.getElem_set_self ..
  have vcfg : (s.struck 1 .broadcastHalt).pmx.entries[(1 : Fin 40)].cfg.kind = some .broadcastHalt := by
    rw [struckEntry]; exact p1.kind
  have ventry : v.pmx.entries[(1 : Fin 40)] = (setCond .broadcastHalt true s).entryTaking 1 .broadcastHalt := by
    rw [eq, flush_merge_entry own vcfg fun c h => (haltLoop_kind c h).2, struckEntry]
  have raised : v.raised .broadcastHalt = true := by
    rw [eq, flush_merge_raised own rfl]
    have : (s.struck 1 .broadcastHalt).raised .broadcastHalt = (setCond .broadcastHalt true s).raised .broadcastHalt := by
      unfold State.raised
      rw [pmx, cond]
    rw [this, setCond_same]
  obtain ⟨moved, -, log, first⟩ := flush_merge_spec (s.struck 1 .broadcastHalt)
  rw [← eq] at moved log first
  have lowers : v.Moved (lower .broadcastHalt v) := (advised_lower .broadcastHalt v).toMoved
  obtain ⟨log', first'⟩ := lower_trips .broadcastHalt v
  have whole : haltAct s = lower .broadcastHalt v := by rw [hv]; rfl
  rw [whole]
  refine ⟨?_, lowers.ev.trans moved.ev, moved.trans lowers, by rw [lower_sli, eq], ?_, ?_, fun a => ?_, ?_, ?_⟩
  · rw [hv]; exact (turned_raise _ _).trans (advised_lower _ _).toMoved.turned
  · rw [lower_raised, if_pos rfl]
  · rw [lower_entries raised, ventry]
    have taken : ((setCond .broadcastHalt true s).entryTaking 1 .broadcastHalt).raised = [Cond.inst .broadcastHalt] :=
      congrArg (insertAsc 0) none
    rw [ProtEntry.lower_last (x := (setCond .broadcastHalt true s).entryTaking 1 .broadcastHalt) mine taken p1.action]
    have reach (m : ActSet) : m ||| actSetOf (fun _ => true) = BitVec.allOnes 8 := by revert m; decide
    have station : instReach s.pmx.entries[(1 : Fin 40)].cfg.scope .broadcastHalt (setCond .broadcastHalt true s) =
        actSetOf fun _ => true := by rw [p1.scope]; rfl
    refine congrArg (fun m : ActSet => ({ cfg := _, st := .latched, reach := m } : ProtEntry)) ?_
    exact (congrArg (s.pmx.entries[(1 : Fin 40)].reach ||| ·) station).trans (reach _)
  · obtain ⟨d, h⟩ := moved.act a
    have low := lower_act raised a
    refine ⟨((s.struck 1 .broadcastHalt).act a).derate, ?_, by rw [low]⟩
    rw [low, h]; rfl
  · rw [log', log, pmx]
  · rw [first', first, pmx]

/-! ### What HALT's parts leave, in the statement's terms -/

section

variable {s z : State} (h : s.Halted z)
include h

theorem State.Halted.stc : z.stc = (s.struck 1 .broadcastHalt).stc := h.moved.stc
theorem State.Halted.psq : z.psq = (s.struck 1 .broadcastHalt).psq := h.moved.psq

theorem State.Halted.act_of {a : Fin 8} {x : Actuator} (k : (s.struck 1 .broadcastHalt).act a = x) :
    z.act a = { x with derate := z.mergedDerate a } := by
  obtain ⟨d, same, derate⟩ := h.act a
  rw [← k, same, ← derate]

theorem State.Halted.received : z.sli.rx = s.sli.rx ∧ z.sli.replies = s.sli.replies ∧
    z.stc.restartPending = s.stc.restartPending := by
  obtain ⟨_, _, _, _, _, _, _, _, rfl⟩ := h.turned
  exact ⟨rfl, rfl, rfl⟩

theorem State.Halted.stateNotices (ev : s.ev = {}) :
    Forms s z (Notice.is .actState) (s.struck 1 .broadcastHalt).ev.actNotices ∧
      Forms s z (Notice.is .seqState) (s.struck 1 .broadcastHalt).ev.seqs := by
  obtain ⟨acts, seqs⟩ := struck_stateNotices (e := 1) (c := .broadcastHalt) ev
  exact ⟨acts.congr h.sli, seqs.congr h.sli⟩

theorem State.Halted.forms (ev : s.ev = {}) {p : Notice → Bool} (hp : ∀ n, n.kind = .actState ∨ n.kind = .seqState → p n = false) :
    Forms s z p ((s.notesTaking 1 .broadcastHalt).filter p) := (struck_forms ev hp).congr h.sli

end

/-- The state in which P1 applies its action. -/
theorem halt_taking (s : State) : ∃ l lost, (setCond .broadcastHalt true s).taking 1 .broadcastHalt =
    { s with pmx := (setCond .broadcastHalt true s).matrixTaking 1 .broadcastHalt
             sli := { s.sli with notices := l, noticesLost := lost } } := by
  obtain ⟨l, lost, h⟩ := s.sli.queued_rest ((setCond .broadcastHalt true s).notesTaking 1 .broadcastHalt)
  refine ⟨l, lost, ?_⟩
  rw [State.taking, noted_eq]
  show ({ s with pmx := _, sli := s.sli.queued _ } : State) = _
  rw [h]

/-- HALT, taken: what it leaves of the link, and how it runs. -/
theorem halt_runs {f : Frame} {s : State} (takes : s.takes f 0) (ev : s.ev = {}) (low : s.raised .broadcastHalt = false)
    (alone : ∀ e : Fin 40, e ≠ 1 → s.pmx.entries[e].cfg.kind ≠ some .broadcastHalt)
    (none : s.pmx.entries[(1 : Fin 40)].raised = []) (p1 : s.pmx.entries[(1 : Fin 40)].cfg.OfHalt) :
    ∃ z, s.received.Halted z ∧ exec (.halt f) s = .next (z.answered 0x08 f []) ∧
      RepliedDone s (z.answered 0x08 f []) 0x08 f [] ∧
      z.answered 0x08 f [] = { s with
        stc := z.stc, psq := z.psq, svc := z.svc, lgu := z.lgu, pmx := z.pmx, sli := (z.answered 0x08 f []).sli } := by
  have halted : s.received.Halted (haltAct s.received) := halted_haltAct (s := s.received) ev low alone none p1
  obtain ⟨z, hz⟩ : ∃ z, z = haltAct s.received := ⟨_, rfl⟩
  rw [← hz] at halted
  obtain ⟨rx, replies, pending⟩ := halted.received
  have hunts : z.received = z := received_of_no_rx rx
  refine ⟨z, halted, ?_, repliedDone_answered replies _ _ _, ?_⟩
  · refine groupCommand_taken takes ?_ (pending.trans takes.2.2.1)
    rw [hunts, hz]; rfl
  · obtain ⟨_, _, v, _, _, e, _, _, h⟩ := halted.turned
    have clear : e = {} := by rw [← halted.ev, h]
    have svc : z.svc = { s.svc with acts := v } := by rw [h]; rfl
    rw [svc, h, clear, ← ev]; rfl

/-- P1 with an action, as the statement of HALT gives it. -/
def haltConfig (x : Action) : ProtConfig := { kind := some .broadcastHalt, action := x, scope := .station, enabled := true }

section

variable {s z : State} {f : Frame} (h : s.received.Halted z) (ev : s.ev = {})
include h ev

/-- P1 stands LATCHED, BROADCAST_HALT lowered, and the ENTRY notice has been formed where the action is no TRIP. -/
theorem halt_entered {x : Action} (p1 : s.pmx.entries[(1 : Fin 40)].cfg = haltConfig x) :
    (z.answered 0x08 f []).raised .broadcastHalt = false ∧
    (z.answered 0x08 f []).pmx.entries[(1 : Fin 40)] = { cfg := haltConfig x, st := .latched, reach := BitVec.allOnes 8 } ∧
    (s.pmx.entries[(1 : Fin 40)].st ≠ .active → Forms s (z.answered 0x08 f []) (Notice.is .entry)
      (if x = .trip then [] else [
        { kind := .entry, time := s.time, cycles := s.psq.totalCycles, subject := 1, v1 := CondKind.broadcastHalt.code
          v2 := 0, v3 := x.code, v4 := 0 }])) := by
  have up1 : s.received.pmx.entries[(1 : Fin 40)].cfg = haltConfig x := p1
  have acting : (haltConfig x).acting = x := rfl
  refine ⟨h.lowered, ?_, fun quiet => ?_⟩
  · rw [← p1]; exact h.entry
  · have uquiet : s.received.pmx.entries[(1 : Fin 40)].st ≠ .active := quiet
    have forms := (h.forms ev (p := Notice.is .entry) fun n k => by
      unfold Notice.is; rcases k with k | k <;> rw [k] <;> rfl).answered 0x08 f []
    rw [notesTaking_of_quiet uquiet] at forms
    unfold State.entryNote Notice.is at forms
    rw [up1] at forms
    simp only [acting] at forms
    by_cases trip : x = .trip
    · rw [if_pos trip]
      simp only [trip, if_true] at forms
      exact forms
    · rw [if_neg trip]
      have zero : (if x = .derate then (haltConfig x).value else 0) = 0 := ite_self _
      simp only [trip, if_false, zero] at forms
      exact forms

/-- A going plan is ended where SAFE is entered (R46). -/
theorem halt_aborts (closes : ((setCond .broadcastHalt true s.received).taking 1 .broadcastHalt).Closes
    (s.received.struck 1 .broadcastHalt)) :
    (z.answered 0x08 f []).stc = { s.stc with mode := .safe } ∧
    (s.stc.mode ≠ .safe → s.psq.state.going = true →
      (z.answered 0x08 f []).psq.state = .aborted ∧ (z.answered 0x08 f []).psq.levels = s.psq.levels ∧
      (s.lostCause = true ∨ (∀ k : Fin 8, s.inUse k = false) →
        Forms s (z.answered 0x08 f []) (Notice.is .seqState) [(z.answered 0x08 f []).psq.note s.time s.psq.state])) := by
  obtain ⟨l, lost, taking⟩ := halt_taking s.received
  have stc : (z.answered 0x08 f []).stc = (s.received.struck 1 .broadcastHalt).stc := h.stc
  have psq : (z.answered 0x08 f []).psq = (s.received.struck 1 .broadcastHalt).psq := h.psq
  refine ⟨?_, fun free going => ⟨?_, ?_, fun unlosing => ?_⟩⟩
  · rw [stc, closes.stc, taking]; rfl
  · rw [psq]; exact closes.ends (by rw [taking]; exact free) (by rw [taking]; exact going)
  · rw [psq, (struck_applied 1 .broadcastHalt s.received).levels, taking]; rfl
  · obtain ⟨ended, forms⟩ := struck_ends (s := s.received) ev closes free going unlosing
    rw [(flush_merge_spec (s.received.struck 1 .broadcastHalt)).1.psq] at ended
    have aborted : (z.answered 0x08 f []).psq = s.psq.aborted := psq.trans ended
    rw [aborted]
    exact (forms.congr h.sli).answered 0x08 f []

end

theorem ofHalt_haltConfig {x : Action} (h : x ≠ .note) : (haltConfig x).OfHalt := ⟨rfl, rfl, rfl, h⟩

theorem struck_unloaded {e : Fin 40} {c : Cond} {s : State} (unload : s.pmx.entries[e].cfg.acting = .unload)
    (station : s.pmx.entries[e].cfg.scope = .station) :
    ((setCond c true s).taking e c).StationUnloaded (s.struck e c) :=
  stationUnloaded unload station (fun a => by rw [station]; exact ActSet.has_all a) _

theorem taking_actNote (e : Fin 40) (c : Cond) (s : State) (a : Fin 8) (x y : ActState) (k : ActCause) :
    ((setCond c true s).taking e c).actNote a x y k = s.actNote a x y k := by
  unfold State.actNote
  rw [taking_act, State.taking, noted_eq]
  rfl

/-- P1's UNLOAD: every ACTIVE actuator unloads to LOW, every RAISING one goes to LOW (R84). -/
theorem halt_unloads {s z : State} {f : Frame} (h : s.received.Halted z) (ev : s.ev = {})
    (unloaded : ((setCond .broadcastHalt true s.received).taking 1 .broadcastHalt).StationUnloaded
      (s.received.struck 1 .broadcastHalt)) :
    (∀ a : Fin 8, ((z.answered 0x08 f []).act a).state = (s.act a).state.unloaded) ∧
    (∀ a : Fin 8, (s.act a).state = .active → ((z.answered 0x08 f []).act a).destOff = false) ∧
    Forms s (z.answered 0x08 f []) (Notice.is .actState)
      (((List.finRange 8).filter fun a => (s.act a).state = .raising).map fun a =>
        s.actNote a .low .raising .protection) := by
  have own (a : Fin 8) := unloaded.unloads a
  simp only [taking_act] at own
  have act (a : Fin 8) : ∃ d, (z.answered 0x08 f []).act a = { (s.received.struck 1 .broadcastHalt).act a with derate := d } :=
    ⟨_, h.act_of rfl⟩
  refine ⟨fun a => ?_, fun a active => ?_, ?_⟩
  · obtain ⟨d, e⟩ := act a
    rw [e]; exact (own a).1
  · obtain ⟨d, e⟩ := act a
    rw [e]; exact (own a).2 rfl active
  · have acts := unloaded.acts
    have start : ((setCond .broadcastHalt true s.received).taking 1 .broadcastHalt).ev = {} := by
      rw [State.taking, noted_ev]; exact ev
    simp only [taking_act, taking_actNote, start, List.nil_append] at acts
    have forms := (h.stateNotices ev).1.answered 0x08 f []
    rw [actNotices_of_ascending (note := fun a => if ((setCond .broadcastHalt true s.received).act a).state = .raising then
      [s.received.actNote a .low .raising .protection] else []) acts] at forms
    rw [map_filter_eq_flatMap]
    simp only [decide_eq_true_eq]
    exact forms

/-- P1's HOLD: the reason PROTECTION is added (R41, R188). -/
theorem halt_holds {s z : State} {f : Frame} (h : s.received.Halted z) (ev : s.ev = {})
    (p1 : s.pmx.entries[(1 : Fin 40)].cfg = haltConfig .hold) {q : Sequencer}
    (hq : q = { s.psq with hold := { s.psq.hold with protection := true } }) :
    z.stc = s.stc ∧ (z.answered 0x08 f []).psq = (if s.psq.state = .running then q.stopped else q) ∧
    Forms s (z.answered 0x08 f []) (Notice.is .seqState) (if s.psq.state = .running then q.stopNotes s.time else []) ∧
    ∀ a : Fin 8, ((z.answered 0x08 f []).act a).state = (s.act a).state := by
  obtain ⟨l, lost, taking⟩ := halt_taking s.received
  have struck : s.received.struck 1 .broadcastHalt =
      addReason .protection ((setCond .broadcastHalt true s.received).taking 1 .broadcastHalt) := by
    unfold State.struck
    rw [applyAction_eq, show s.received.pmx.entries[(1 : Fin 40)].cfg = haltConfig .hold from p1]
    rfl
  obtain ⟨r, hr⟩ : ∃ r, r = (setCond .broadcastHalt true s.received).taking 1 .broadcastHalt := ⟨_, rfl⟩
  have rpsq : r.psq = s.psq := by rw [hr, taking]; rfl
  have rstc : r.stc = s.stc := by rw [hr, taking]; rfl
  have rtime : r.time = s.time := by rw [hr, taking]; rfl
  have rev : r.ev = {} := by rw [hr, taking]; exact ev
  have ract (a : Fin 8) : r.act a = s.act a := by rw [hr, taking]; rfl
  have put : ({ r.psq with hold := r.psq.hold.put true .protection } : Sequencer) = q := by rw [rpsq, hq]; rfl
  rw [← hr, addReason_eq, put, rpsq, rtime, rev, List.nil_append] at struck
  refine ⟨?_, ?_, ?_, fun a => ?_⟩
  · rw [h.stc, struck, ← rstc]
    split <;> rfl
  · rw [show (z.answered 0x08 f []).psq = (s.received.struck 1 .broadcastHalt).psq from h.psq, struck]
    split <;> rfl
  · have forms := (h.stateNotices ev).2.answered 0x08 f []
    have seqs : (s.received.struck 1 .broadcastHalt).ev.seqs = if s.psq.state = .running then q.stopNotes s.time else [] := by
      rw [struck]
      split <;> rfl
    rw [seqs] at forms
    exact forms
  · have same : (s.received.struck 1 .broadcastHalt).act a = s.act a := by
      rw [struck, ← ract a]
      split <;> rfl
    rw [show (z.answered 0x08 f []).act a = z.act a from rfl, h.act_of same]

/-- A disabled P1 acts as NOTE (R182). -/
theorem halt_disabled {s z : State} {f : Frame} (h : s.received.Halted z) (ev : s.ev = {})
    (note : s.pmx.entries[(1 : Fin 40)].cfg.acting = .note) :
    z.stc = s.stc ∧ z.psq = s.psq ∧
    (s.pmx.entries[(1 : Fin 40)].st ≠ .active → Noted s (z.answered 0x08 f []) [
      { kind := .entry, time := s.time, cycles := s.psq.totalCycles, subject := 1, v1 := CondKind.broadcastHalt.code
        v2 := 0, v3 := Action.note.code, v4 := 0 }]) ∧
    (∀ a : Fin 8, (z.answered 0x08 f []).act a = { s.act a with derate := (z.answered 0x08 f []).mergedDerate a }) ∧
    z.pmx.tripLog = s.pmx.tripLog ∧ z.pmx.firstOut = s.pmx.firstOut := by
  obtain ⟨l, lost, taking⟩ := halt_taking s.received
  have unote : s.received.pmx.entries[(1 : Fin 40)].cfg.acting = .note := note
  have struck : s.received.struck 1 .broadcastHalt = (setCond .broadcastHalt true s.received).taking 1 .broadcastHalt := by
    unfold State.struck
    rw [applyAction_eq, unote]
  have matrix : (setCond .broadcastHalt true s.received).matrixTaking 1 .broadcastHalt =
      { (setCond .broadcastHalt true s.received).pmx with
        entries := s.pmx.entries.set (1 : Fin 40) ((setCond .broadcastHalt true s.received).entryTaking 1 .broadcastHalt) } := by
    refine if_neg ?_
    rw [show (setCond .broadcastHalt true s.received).pmx.entries[(1 : Fin 40)].cfg.acting = .note from note]
    decide
  refine ⟨by rw [h.stc, struck, taking]; rfl, by rw [h.psq, struck, taking]; rfl, fun quiet => ?_, fun a => ?_, ?_, ?_⟩
  · have uquiet : s.received.pmx.entries[(1 : Fin 40)].st ≠ .active := quiet
    have noted := ((struck_noted 1 .broadcastHalt s.received).congr h.sli).answered 0x08 f []
    have none : (s.received.struck 1 .broadcastHalt).ev = {} := by rw [struck, taking]; exact ev
    rw [none, notesTaking_of_quiet uquiet] at noted
    unfold State.entryNote at noted
    simp only [unote, reduceCtorEq, if_false] at noted
    exact noted
  · exact h.act_of (by rw [struck, taking_act]; rfl)
  · rw [h.log, matrix]; rfl
  · rw [h.first, matrix]; rfl

/-- P1's TRIP: every pressurized actuator is TRIPPED, with the record and the notice (R191 to R193). -/
theorem halt_trips {s z : State} {f : Frame} (h : s.received.Halted z) (ev : s.ev = {})
    (p1 : s.pmx.entries[(1 : Fin 40)].cfg = haltConfig .trip)
    (tripped : ((setCond .broadcastHalt true s.received).taking 1 .broadcastHalt).StationTripped
      (s.received.struck 1 .broadcastHalt)) :
    (s.pmx.entries[(1 : Fin 40)].st ≠ .active → Forms s (z.answered 0x08 f []) (Notice.is .trip) [
      { kind := .trip, time := s.time, cycles := s.psq.totalCycles, subject := 1, v1 := CondKind.broadcastHalt.code
        v2 := 0, v3 := 65535, v4 := ((List.finRange 8).filter fun a => (s.act a).state.pressurized).length }]) ∧
    (∀ a : Fin 8, ((z.answered 0x08 f []).act a).state = if (s.act a).state.pressurized then .tripped else (s.act a).state) ∧
    ∃ r : TripRec, z.pmx.firstOut = some (s.pmx.firstOut.getD r) ∧ r.entry = 1 ∧ r.kind = .broadcastHalt ∧ r.act = none ∧
      z.pmx.tripLog = (if s.pmx.tripLog.length < 8 then s.pmx.tripLog else s.pmx.tripLog.drop 1) ++ [r] := by
  have up1 : s.received.pmx.entries[(1 : Fin 40)].cfg = haltConfig .trip := p1
  refine ⟨fun quiet => ?_, fun a => ?_, tripRecord 1 .broadcastHalt s, ?_, rfl, rfl, rfl, ?_⟩
  · have uquiet : s.received.pmx.entries[(1 : Fin 40)].st ≠ .active := quiet
    have forms := (h.forms ev (p := Notice.is .trip) fun n k => by
      unfold Notice.is; rcases k with k | k <;> rw [k] <;> rfl).answered 0x08 f []
    have all : ∀ a, ActSet.has (instReach (haltConfig .trip).scope .broadcastHalt s.received) a = true := ActSet.has_all
    rw [notesTaking_of_quiet uquiet, up1, trippedBy_all all] at forms
    unfold State.entryNote Notice.is at forms
    rw [up1] at forms
    exact forms
  · have state : ((s.received.struck 1 .broadcastHalt).act a).state = if (s.act a).state.pressurized then .tripped else (s.act a).state := by
      rw [tripped.state, taking_act]; rfl
    rw [show (z.answered 0x08 f []).act a = z.act a from rfl, h.act_of rfl]
    exact state
  all_goals
    first | rw [h.first] | rw [h.log]
    unfold State.matrixTaking
    rw [show (setCond .broadcastHalt true s.received).pmx.entries[(1 : Fin 40)].cfg.acting = .trip by
      rw [show (setCond .broadcastHalt true s.received).pmx.entries[(1 : Fin 40)].cfg = haltConfig .trip from p1]; rfl]
  · refine Eq.trans (b := match s.pmx.firstOut with
      | none => some (tripRecord 1 .broadcastHalt s)
      | some x => some x) rfl ?_
    cases s.pmx.firstOut <;> rfl
  · rfl

/-- Settles O55, by P1's action: what it applies, then the lowering that leaves P1 LATCHED. -/
theorem haltUnloadsOrHolds : Obligations.HaltUnloadsOrHolds := by
  intro f s takes ev low alone none p entered off aborts
  have runs (p1 : s.pmx.entries[(1 : Fin 40)].cfg.OfHalt) := halt_runs takes ev low alone none p1
  refine ⟨fun p1 => ?_, fun p1 => ?_, fun p1 action => ?_, fun p1 => ?_⟩
  · have given : s.pmx.entries[(1 : Fin 40)].cfg = haltConfig .unload := p1
    obtain ⟨z, h, run, replied, rest⟩ := runs (by rw [given]; exact ofHalt_haltConfig (by decide))
    have up1 : s.received.pmx.entries[(1 : Fin 40)].cfg = haltConfig .unload := p1
    have unloaded := struck_unloaded (s := s.received) (e := 1) (c := .broadcastHalt) (by rw [up1]; rfl) (by rw [up1]; rfl)
    obtain ⟨stc, ends⟩ := halt_aborts (f := f) h ev unloaded.toCloses
    obtain ⟨state, dest, forms⟩ := halt_unloads (f := f) h ev unloaded
    refine ⟨_, run, stc, halt_entered h ev p1, fun a => (state a).trans ?_, dest, forms, ends, replied, rest⟩
    cases (s.act a).state <;> rfl
  · have given : s.pmx.entries[(1 : Fin 40)].cfg = haltConfig .hold := p1
    obtain ⟨z, h, run, replied, rest⟩ := runs (by rw [given]; exact ofHalt_haltConfig (by decide))
    obtain ⟨stc, psq, forms, state⟩ := halt_holds (f := f) h ev p1 rfl
    refine ⟨_, run, halt_entered h ev p1, ⟨psq, forms⟩, state, replied, ?_⟩
    rw [stc] at rest
    exact rest
  · have given : s.pmx.entries[(1 : Fin 40)].cfg.OfHalt := by
      rw [show s.pmx.entries[(1 : Fin 40)].cfg = _ from p1]
      exact ⟨rfl, rfl, rfl, action⟩
    obtain ⟨z, h, run, replied, rest⟩ := runs given
    have note : s.pmx.entries[(1 : Fin 40)].cfg.acting = .note := by
      rw [show s.pmx.entries[(1 : Fin 40)].cfg = _ from p1]; rfl
    obtain ⟨stc, psq, noted, act, log, first⟩ := halt_disabled (f := f) h ev note
    refine ⟨_, run, h.lowered, h.entry, noted, act, log, first, replied, ?_⟩
    rw [stc, psq] at rest
    exact rest
  · have given : s.pmx.entries[(1 : Fin 40)].cfg = haltConfig .trip := p1
    obtain ⟨z, h, run, replied, rest⟩ := runs (by rw [given]; exact ofHalt_haltConfig (by decide))
    have up1 : s.received.pmx.entries[(1 : Fin 40)].cfg = haltConfig .trip := p1
    have tripped := struck_tripped (s := s.received) (e := 1) (c := .broadcastHalt) (by rw [up1]; rfl) (by rw [up1]; rfl)
    obtain ⟨stc, ends⟩ := halt_aborts (f := f) h ev tripped.toCloses
    obtain ⟨forms, state, record⟩ := halt_trips (f := f) h ev p1 tripped
    exact ⟨_, run, stc, halt_entered h ev p1, forms, state, record, ends, replied, rest⟩

end Sys2Proof.Machine

/-!
PROT_ENTRY's fields (R178, R179).
-/
namespace Sys2Proof.Machine

theorem CondKind.ofCode_code (k : CondKind) : CondKind.ofCode k.code = some k := by cases k <;> rfl
theorem Action.ofCode_code (a : Action) : Action.ofCode a.code = some a := by cases a <;> rfl
theorem Scope.ofCode_code (x : Scope) : Scope.ofCode x.code = some x := by cases x <;> rfl
theorem CondKind.code_lt (k : CondKind) : k.code < 15 := by cases k <;> decide
theorem CondKind.count_le (k : CondKind) : k.count ≤ 64 := by cases k <;> decide

theorem CondKind.code_of_ofCode {n : Nat} {k : CondKind} (h : CondKind.ofCode n = some k) : k.code = n := by
  unfold CondKind.ofCode at h
  split at h <;> first | exact Option.some.inj h ▸ rfl | exact nomatch h

theorem Action.code_of_ofCode {n : Nat} {a : Action} (h : Action.ofCode n = some a) : a.code = n := by
  unfold Action.ofCode at h
  split at h <;> first | exact Option.some.inj h ▸ rfl | exact nomatch h

theorem Scope.code_of_ofCode {n : Nat} {x : Scope} (h : Scope.ofCode n = some x) : x.code = n := by
  unfold Scope.ofCode at h
  split at h <;> first | exact Option.some.inj h ▸ rfl | exact nomatch h

theorem toNat_of_flagOf {n : Nat} {b : Bool} (h : flagOf n = some b) : b.toNat = n := by
  unfold flagOf at h
  split at h <;> first | exact Option.some.inj h ▸ rfl | exact nomatch h

/-- The tests of R178 and R179 that PROT_ENTRY makes of an entry of a kind. -/
def ProtConfig.passes (e : Fin 40) (k : CondKind) (c : ProtConfig) : Prop :=
  c.value ≤ 999 ∧ c.scope.validFor k = true ∧ builtinAllows e c = true

theorem validFor_iff {k : CondKind} {x : Scope} : x.validFor k = true ↔
    (x = .actuator ∨ x = .frame → k.isActuator = true) ∧ (x = .group → k.isActuator = true ∨ k = .stiffness) ∧
      (x = .zone → k.isZone = true) := by
  cases x <;> simp [Scope.validFor]

theorem builtinAllows_iff {e : Fin 40} {k : CondKind} {c : ProtConfig} (h : c.kind = some k) : builtinAllows e c = true ↔
    (e.val = 0 → k = .haltLoop ∧ c.scope = .station ∧ c.enabled = true ∧ (c.action = .unload ∨ c.action = .trip)) ∧
    (e.val = 1 → k = .broadcastHalt ∧ c.scope = .station ∧ (c.action = .hold ∨ c.action = .unload ∨ c.action = .trip)) := by
  unfold builtinAllows
  rw [h]
  by_cases zero : e.val = 0
  · simp only [zero, if_true, Bool.and_eq_true, Bool.or_eq_true, decide_eq_true_eq, Option.some.injEq, true_implies,
      zero_ne_one, false_implies, and_true]
    tauto
  · by_cases one : e.val = 1
    · simp only [one, one_ne_zero, if_false, if_true, Bool.and_eq_true, Bool.or_eq_true, decide_eq_true_eq, Option.some.injEq,
        true_implies, false_implies, true_and]
      tauto
    · simp [zero, one]

/-- The test of the index: within its kind's count, or ANY. -/
theorem valid_iff {e : Fin 40} {k : CondKind} {c : ProtConfig} (h : c.kind = some k) : c.valid e ↔
    (∀ i, c.inst = some i → i < k.count ∧ k.count ≠ 1) ∧ 0 ≤ c.value ∧ (c.action ≠ .derate → c.value = 0) ∧ c.passes e k := by
  unfold ProtConfig.valid ProtConfig.passes
  rw [h, validFor_iff, builtinAllows_iff h]
  tauto

/-- What the bytes of PROT_ENTRY give, where they name a kind. -/
theorem protConfigOf_kind {e : Fin 40} {p : List Byte} (named : u8 p 1 ≠ 255) {k : CondKind} {a : Action} {x : Scope} {b : Bool}
    (hk : CondKind.ofCode (u8 p 1) = some k) (ha : Action.ofCode (u8 p 3) = some a) (hx : Scope.ofCode (u8 p 6) = some x)
    (hb : flagOf (u8 p 7) = some b) {c : ProtConfig}
    (hc : c = { kind := some k, inst := if u8 p 2 = 255 ∨ k.count = 1 then none else some (u8 p 2), action := a
                value := if a = .derate then u16 p 4 else 0, scope := x, enabled := b })
    (r : ProtConfig) : protConfigOf e p = some r ↔ r = c ∧ (u8 p 2 = 255 ∨ u8 p 2 < k.count) ∧ c.passes e k := by
  have tested : protConfigOf e p = if ((decide (u8 p 2 = 255) || decide (u8 p 2 < k.count)) && decide (c.value ≤ 999) &&
      c.scope.validFor k && builtinAllows e c) = true then some c else none := by
    subst hc
    unfold protConfigOf
    rw [if_neg named, hk, ha, hx, hb]
  have tests : ((decide (u8 p 2 = 255) || decide (u8 p 2 < k.count)) && decide (c.value ≤ 999) &&
      c.scope.validFor k && builtinAllows e c) = true ↔ (u8 p 2 = 255 ∨ u8 p 2 < k.count) ∧ c.passes e k := by
    unfold ProtConfig.passes
    simp only [Bool.and_eq_true, Bool.or_eq_true, decide_eq_true_eq, and_assoc]
  rw [tested, ← tests]
  split
  · rename_i h
    exact ⟨fun e => ⟨(Option.some.inj e).symm, h⟩, fun e => congrArg some e.1.symm⟩
  · rename_i h
    exact ⟨nofun, fun e => (h e.2).elim⟩

/-- The bytes of PROT_ENTRY that give an entry, by the statement's terms (R178, R209): what the frame may name beside it is the
index of a kind of one condition, and a value that the action does not use. -/
def givesEntry (e : Fin 40) (p : List Byte) (c d : ProtConfig) : Prop :=
  p = put1 e.val ++ d.bytes ∧ c.valid e ∧ d = { c with inst := d.inst, value := d.value } ∧
    (d.inst = c.inst ∨ (d.inst = some 0 ∧ ∃ k, c.kind = some k ∧ k.count = 1)) ∧ (d.value = c.value ∨ c.action ≠ .derate)

/-- The byte of an optional kind, and of an optional index. -/
def kindByte : Option CondKind → Nat
  | none => 255
  | some k => k.code

def instByte : Option Nat → Nat
  | none => 255
  | some i => i

theorem ProtConfig.bytes_layout (n : Int) (c : ProtConfig) : put1 n ++ c.bytes =
    put1 n ++ (put1 (kindByte c.kind) ++ (put1 (instByte c.inst) ++ (put1 c.action.code ++ (put2 c.value ++ (put1 c.scope.code ++
      putFlag c.enabled))))) := by
  obtain ⟨kind, inst, action, value, scope, enabled⟩ := c
  unfold ProtConfig.bytes
  cases kind <;> cases inst <;> simp only [List.append_assoc] <;> rfl

theorem protConfigOf_gives {e : Fin 40} {p : List Byte} {c d : ProtConfig} (h : givesEntry e p c d) : protConfigOf e p = some c := by
  obtain ⟨layout, valid, fields, inst, value⟩ := h
  obtain ⟨ck, ci, ca, cv, cs, cb⟩ := c
  obtain ⟨dk, di, da, dv, ds, db⟩ := d
  simp only [ProtConfig.mk.injEq] at fields
  obtain ⟨rfl, -, rfl, -, rfl, rfl⟩ := fields
  dsimp only at inst value
  have bytes : p = put1 e.val ++ (put1 (kindByte dk) ++ (put1 (instByte di) ++ (put1 da.code ++ (put2 dv ++ (put1 ds.code ++
      putFlag db))))) := by rw [layout, ProtConfig.bytes_layout]
  cases dk with
  | none =>
    obtain ⟨empty, builtin⟩ := valid
    have f1 : u8 p 1 = 255 := by rw [bytes]; exact u8_nat (n := 255) rfl (by decide)
    unfold protConfigOf
    rw [if_pos f1, if_neg (by omega), empty]
  | some k =>
    have code := k.code_lt
    have count := k.count_le
    obtain ⟨instOk, low, unused, passes⟩ := (valid_iff rfl).1 valid
    dsimp only at instOk low unused
    have f1 : u8 p 1 = k.code := by rw [bytes]; exact u8_nat rfl (by omega)
    have f3 : u8 p 3 = da.code := by rw [bytes]; exact u8_nat rfl (by cases da <;> decide)
    have f6 : u8 p 6 = ds.code := by rw [bytes]; exact u8_nat rfl (by cases ds <;> decide)
    have f7 : u8 p 7 = db.toNat := by rw [bytes]; exact u8_flag rfl
    have instance2 : (u8 p 2 = 255 ∨ u8 p 2 < k.count) ∧ (if u8 p 2 = 255 ∨ k.count = 1 then none else some (u8 p 2)) = ci := by
      cases di with
      | none =>
        have f2 : u8 p 2 = 255 := by rw [bytes]; exact u8_nat (n := 255) rfl (by decide)
        have : ci = none := (inst.resolve_right fun h => nomatch h.1).symm
        exact ⟨.inl f2, by rw [if_pos (.inl f2), this]⟩
      | some i =>
        rcases inst with own | ⟨zero, j, hj, one⟩
        · obtain ⟨lt, many⟩ := instOk i own.symm
          have f2 : u8 p 2 = i := by rw [bytes]; exact u8_nat rfl (by omega)
          refine ⟨.inr (by omega), ?_⟩
          rw [f2, if_neg (by omega), own]
        · cases zero
          cases hj
          have f2 : u8 p 2 = 0 := by rw [bytes]; exact u8_nat (n := 0) rfl (by decide)
          refine ⟨.inr (by omega), ?_⟩
          rw [if_pos (.inr one)]
          cases ci with
          | none => rfl
          | some i => exact ((instOk i rfl).2 one).elim
    have val : (if da = .derate then ((u16 p 4 : Nat) : Int) else 0) = cv := by
      by_cases derate : da = .derate
      · have same : dv = cv := value.resolve_right fun h => h derate
        have high := passes.1
        dsimp only at high
        have f4 : u16 p 4 = (dv % 65536).toNat := by rw [bytes]; exact u16_of ⟨rfl, rfl⟩
        rw [if_pos derate, f4, same]; omega
      · rw [if_neg derate, unused derate]
    refine (protConfigOf_kind (k := k) (by omega) (by rw [f1]; exact CondKind.ofCode_code k) (by rw [f3]; exact Action.ofCode_code da)
      (by rw [f6]; exact Scope.ofCode_code ds) (by rw [f7]; exact flagOf_toNat db) rfl _).2 ?_
    rw [instance2.2, val]
    exact ⟨rfl, instance2.1, passes⟩

theorem byte_of_toNat {b : Byte} {n : Nat} (h : b.toNat = n) : BitVec.ofInt 8 (n : Int) = b := by
  subst h
  refine BitVec.eq_of_toNat_eq ?_
  have := b.isLt
  rw [BitVec.toNat_ofInt]; omega

theorem put2_u16 (a b : Byte) : put2 ((a.toNat * 256 + b.toNat : Nat) : Int) = [a, b] := by
  have ha := a.isLt
  have hb := b.isLt
  have high : BitVec.ofInt 8 (((a.toNat * 256 + b.toNat : Nat) : Int) / 256) = a := by
    refine BitVec.eq_of_toNat_eq ?_
    rw [BitVec.toNat_ofInt]; omega
  have low : BitVec.ofInt 8 ((a.toNat * 256 + b.toNat : Nat) : Int) = b := by
    refine BitVec.eq_of_toNat_eq ?_
    rw [BitVec.toNat_ofInt]; omega
  unfold put2
  rw [high, low]

theorem putFlag_of_flagOf {b : Byte} {x : Bool} (h : flagOf b.toNat = some x) : putFlag x = [b] := by
  have n := toNat_of_flagOf h
  have : putFlag x = put1 (x.toNat : Int) := by cases x <;> rfl
  rw [this]
  exact congrArg (fun b => [b]) (byte_of_toNat n.symm)

theorem eight_bytes {p : List Byte} (h : p.length = 8) : ∃ b0 b1 b2 b3 b4 b5 b6 b7, p = [b0, b1, b2, b3, b4, b5, b6, b7] := by
  match p, h with
  | [b0, b1, b2, b3, b4, b5, b6, b7], _ => exact ⟨b0, b1, b2, b3, b4, b5, b6, b7, rfl⟩

/-- A frame that gives an entry with a kind has the bytes of one. -/
theorem givesEntry_of {e : Fin 40} {p : List Byte} {c : ProtConfig} (size : p.length = 8) (index : u8 p 0 = e.val)
    (named : u8 p 1 ≠ 255) (h : protConfigOf e p = some c) : ∃ d, givesEntry e p c d := by
  obtain ⟨k, a, x, b, hk, ha, hx, hb⟩ : ∃ k a x b, CondKind.ofCode (u8 p 1) = some k ∧ Action.ofCode (u8 p 3) = some a ∧
      Scope.ofCode (u8 p 6) = some x ∧ flagOf (u8 p 7) = some b := by
    unfold protConfigOf at h
    rw [if_neg named] at h
    split at h
    · exact ⟨_, _, _, _, by assumption, by assumption, by assumption, by assumption⟩
    · exact nomatch h
  obtain ⟨hc, range, passes⟩ := (protConfigOf_kind named hk ha hx hb rfl c).1 h
  rw [← hc] at passes
  have kind : c.kind = some k := by rw [hc]
  have action : c.action = a := by rw [hc]
  have scope : c.scope = x := by rw [hc]
  have enabled : c.enabled = b := by rw [hc]
  have inst : c.inst = if u8 p 2 = 255 ∨ k.count = 1 then none else some (u8 p 2) := by rw [hc]
  have value : c.value = if a = .derate then ((u16 p 4 : Nat) : Int) else 0 := by rw [hc]
  refine ⟨{ c with inst := if u8 p 2 = 255 then none else some (u8 p 2), value := u16 p 4 }, ?_, ?_, rfl, ?_, ?_⟩
  · rw [ProtConfig.bytes_layout]
    dsimp only
    rw [kind, action, scope, enabled]
    obtain ⟨b0, b1, b2, b3, b4, b5, b6, b7, rfl⟩ := eight_bytes size
    have f0 : put1 (e.val : Int) = [b0] := congrArg (fun b => [b]) (byte_of_toNat index)
    have f1 : put1 (kindByte (some k) : Int) = [b1] :=
      congrArg (fun b => [b]) (byte_of_toNat (CondKind.code_of_ofCode hk).symm)
    have f2 : put1 (instByte (if u8 [b0, b1, b2, b3, b4, b5, b6, b7] 2 = 255 then none
        else some (u8 [b0, b1, b2, b3, b4, b5, b6, b7] 2)) : Int) = [b2] := by
      refine congrArg (fun b => [b]) (byte_of_toNat ?_)
      split
      · assumption
      · rfl
    have f3 : put1 (a.code : Int) = [b3] := congrArg (fun b => [b]) (byte_of_toNat (Action.code_of_ofCode ha).symm)
    have f4 : put2 ((u16 [b0, b1, b2, b3, b4, b5, b6, b7] 4 : Nat) : Int) = [b4, b5] := put2_u16 b4 b5
    have f6 : put1 (x.code : Int) = [b6] := congrArg (fun b => [b]) (byte_of_toNat (Scope.code_of_ofCode hx).symm)
    have f7 : putFlag b = [b7] := putFlag_of_flagOf hb
    rw [f0, f1, f2, f3, f4, f6, f7]
    rfl
  · refine (valid_iff kind).2 ⟨fun i hi => ?_, ?_, fun unused => ?_, passes⟩
    · rw [inst] at hi
      split at hi
      · exact nomatch hi
      · rename_i none
        cases hi
        obtain ⟨other, many⟩ := not_or.1 none
        exact ⟨range.resolve_left other, many⟩
    · rw [value]; split <;> omega
    · rw [value, if_neg (by rw [← action]; exact unused)]
  · dsimp only
    rw [inst]
    by_cases any : u8 p 2 = 255
    · rw [if_pos any, if_pos (.inl any)]; exact .inl rfl
    · by_cases one : k.count = 1
      · have zero : u8 p 2 = 0 := by have := range.resolve_left any; omega
        rw [if_neg any, zero]
        exact .inr ⟨rfl, k, kind, one⟩
      · rw [if_neg any, if_neg (not_or.2 ⟨any, one⟩)]; exact .inl rfl
  · dsimp only
    rw [value, action]
    by_cases derate : a = .derate
    · rw [if_pos derate]; exact .inl rfl
    · exact .inr derate

end Sys2Proof.Machine

/-!
PROT_ENTRY, PROT_CLEAR and PROT_FIRST_CLEAR (R7, R98, R99, R178 to R180, R182, R184, R186 to R188, R193).
-/
namespace Sys2Proof.Machine

/-! ### The judgement of an entry just written (R180) -/

/-- The mode after an entry has applied its action where every actuator is OFF and no plan goes. -/
def State.stcActed (c : ProtConfig) (s : State) : StationControl :=
  if c.scope = .station ∧ (c.acting = .unload ∨ c.acting = .trip) then { s.stc with mode := .safe } else s.stc

/-- The plan after an entry has applied its action where every actuator is OFF and no plan goes. -/
def State.psqActed (c : ProtConfig) (s : State) : Sequencer :=
  if c.acting = .hold then { s.psq with hold := { s.psq.hold with protection := true } } else s.psq

/-- The notice of an entry that enters ACTIVE where every actuator is OFF. -/
def State.judgeNote (e : Fin 40) (c : ProtConfig) (x : Cond) (s : State) : Notice :=
  { kind := if c.acting = .trip then .trip else .entry, time := s.time, cycles := s.psq.totalCycles, subject := e.val
    v1 := x.kind.code, v2 := x.inst
    v3 := if c.acting = .trip then (match x.kind.isActuator, x.actuator with
      | true, some a => a.val
      | _, _ => 65535) else c.acting.code
    v4 := if c.acting = .derate then c.value else 0 }

/-- What the judgement of P`e`, just written with `c`, has made of a state by the conditions taken so far. -/
structure State.Judged (s : State) (e : Fin 40) (c : ProtConfig) (done : List Cond) (u : State) : Prop where
  rest : ∃ v g p n lost, u = { s with
    stc := if done = [] then s.stc else s.stcActed c
    psq := if done = [] then s.psq else s.psqActed c
    svc := { s.svc with acts := v }, lgu := g, pmx := p, sli := { s.sli with notices := n, noticesLost := lost } }
  act : ∀ a, (u.act a).state = (s.act a).state ∧ (u.act a).force = (s.act a).force ∧ (u.act a).derate = u.mergedDerate a
  pmx : u.pmx = { s.pmx with
    entries := s.pmx.entries.set e u.pmx.entries[e], tripLog := u.pmx.tripLog, firstOut := u.pmx.firstOut }
  cfg : u.pmx.entries[e].cfg = c
  st : u.pmx.entries[e].st = if done = [] then .quiet else .active
  raised : ∀ n, n ∈ u.pmx.entries[e].raised ↔ ∃ x ∈ done, x.inst = n
  fresh : done = [] → u.pmx.entries[e] = { cfg := c }
  noted : Noted s u (match done with
    | [] => []
    | x :: _ => [s.judgeNote e c x])
  log : c.acting ≠ .trip ∨ done = [] → u.pmx.tripLog = s.pmx.tripLog ∧ u.pmx.firstOut = s.pmx.firstOut
  one : ∀ x, done = [x] → c.acting = .trip →
    u.pmx.tripLog = (if s.pmx.tripLog.length < 8 then s.pmx.tripLog else s.pmx.tripLog.drop 1) ++ [tripRecord e x s] ∧
      u.pmx.firstOut = some (s.pmx.firstOut.getD (tripRecord e x s))

section

variable {s u : State} {e : Fin 40} {c : ProtConfig} {done : List Cond}

/-- The entry as PROT_ENTRY writes it, before any condition is taken. -/
theorem judged_stored (s : State) (e : Fin 40) (c : ProtConfig) :
    s.Judged e c [] (merge (s.modEntry e fun _ => { cfg := c })) := by
  obtain ⟨r, hr⟩ : ∃ r, r = s.modEntry e fun _ => { cfg := c } := ⟨_, rfl⟩
  have entry : r.pmx.entries[e] = { cfg := c } := by rw [hr]; exact vector_set_self ..
  have rpmx : r.pmx = { s.pmx with entries := s.pmx.entries.set e { cfg := c } } := by rw [hr]; rfl
  rw [← hr]
  have act (a : Fin 8) : r.act a = s.act a := by rw [hr]; rfl
  obtain ⟨v, g, p, l, lost, h⟩ := (advised_merge r).toMoved.rest
  refine ⟨⟨v, g, p, l, lost, by rw [h, hr]; rfl⟩, fun a => ?_, ?_, ?_, ?_, fun n => ?_, fun _ => ?_, ?_, fun _ => ?_, nofun⟩
  · rw [merge_act, act, mergedDerate_congr (merge_pmx r)]; exact ⟨rfl, rfl, rfl⟩
  · rw [merge_pmx, entry, rpmx]
  · rw [merge_pmx, entry]
  · rw [merge_pmx, entry]; rfl
  · rw [merge_pmx, entry]; simp
  · rw [merge_pmx, entry]
  · exact Noted.of_sli (by rw [merge_sli, hr]; rfl)
  · rw [merge_pmx, rpmx]; exact ⟨rfl, rfl⟩

/-- One more condition that the entry takes. -/
theorem judged_takes (off : ∀ a, (s.act a).state = .off) (still : s.psq.state.going = false) (ev : s.ev = {})
    (h : s.Judged e c done u) {x : Cond} (mine : c.matches x = true) :
    s.Judged e c (done ++ [x]) (flush (merge (takeRaising e x u))) := by
  obtain ⟨v, g, p, n, lost, rest⟩ := h.rest
  obtain ⟨w, hw⟩ : ∃ w, w = u.taking e x := ⟨_, rfl⟩
  obtain ⟨z, hz⟩ : ∃ z, z = ({ w with psq := w.psqActed c, stc := w.stcActed c } : State) := ⟨_, rfl⟩
  obtain ⟨l, lost', taken⟩ := u.sli.queued_rest (u.notesTaking e x)
  have weq : w = { u with pmx := u.matrixTaking e x, sli := { u.sli with notices := l, noticesLost := lost' } } := by
    rw [hw, State.taking, noted_eq]
    show ({ u with pmx := u.matrixTaking e x, sli := u.sli.queued (u.notesTaking e x) } : State) = _
    rw [taken]
  have wact (a : Fin 8) : w.act a = u.act a := by rw [hw, taking_act]
  have upsq : u.psq = if done = [] then s.psq else s.psqActed c := by rw [rest]
  have ustc : u.stc = if done = [] then s.stc else s.stcActed c := by rw [rest]
  have goes : w.psq.state.going = false := by
    rw [weq]
    show u.psq.state.going = false
    rw [upsq]
    unfold State.psqActed
    split
    · exact still
    · split <;> exact still
  have acted : takeRaising e x u = z := by
    rw [takeRaising_of (by rw [h.cfg]; exact mine), ← hw, h.cfg,
      applyAction_of_off (fun a => by rw [wact, (h.act a).1, off]) goes, hz]
    rfl
  have whole : flush (merge (takeRaising e x u)) = merge z := by
    rw [acted]
    refine flush_of_empty ((advised_merge z).ev.trans ?_)
    rw [hz, weq, rest]; exact ev
  have zpmx : z.pmx = u.matrixTaking e x := by rw [hz, weq]
  have zact (a : Fin 8) : z.act a = u.act a := by rw [← wact, hz]; rfl
  have wpsq : State.psqActed c w = s.psqActed c := by
    unfold State.psqActed
    rw [show w.psq = u.psq by rw [weq], upsq]
    unfold State.psqActed
    split <;> split <;> rfl
  have wstc : State.stcActed c w = s.stcActed c := by
    unfold State.stcActed
    rw [show w.stc = u.stc by rw [weq], ustc]
    unfold State.stcActed
    split <;> split <;> rfl
  have zeq : z = { s with
      stc := s.stcActed c, psq := s.psqActed c, svc := { s.svc with acts := v }, lgu := g, pmx := u.matrixTaking e x
      sli := { s.sli with notices := l, noticesLost := lost' } } := by
    rw [hz, wpsq, wstc, weq]
    generalize u.matrixTaking e x = m
    rw [rest]
  obtain ⟨entries, cond, -⟩ := matrixTaking_spec e x u
  have some' : done ++ [x] ≠ [] := by simp
  have entry : (u.matrixTaking e x).entries[e] = u.entryTaking e x := by rw [entries]; exact vector_set_self ..
  rw [whole]
  obtain ⟨v', g', p', l', lost'', merged⟩ := (advised_merge z).toMoved.rest
  refine ⟨⟨v', g', p', l', lost'', ?_⟩, fun a => ?_, ?_, ?_, ?_, fun k => ?_, fun e => (some' e).elim, ?_, fun k => ?_, fun y one trip => ?_⟩
  · rw [if_neg some', if_neg some', merged, zeq]
    rfl
  · rw [merge_act, zact, mergedDerate_congr (merge_pmx z)]
    obtain ⟨state, force, -⟩ := h.act a
    exact ⟨state, force, rfl⟩
  · rw [merge_pmx, zpmx, entry]
    have whole : u.matrixTaking e x = { u.pmx with
        entries := u.pmx.entries.set e (u.entryTaking e x), tripLog := (u.matrixTaking e x).tripLog
        firstOut := (u.matrixTaking e x).firstOut } := by
      unfold State.matrixTaking
      dsimp only
      split <;> rfl
    rw [whole, h.pmx]
    dsimp only
    rw [Vector.set_set]
  · rw [merge_pmx, zpmx, entry]; exact h.cfg
  · rw [merge_pmx, zpmx, entry, if_neg some']; rfl
  · rw [merge_pmx, zpmx, entry]
    show k ∈ insertAsc x.inst u.pmx.entries[e].raised ↔ _
    rw [mem_insertAsc, h.raised]
    constructor
    · rintro (rfl | ⟨y, hy, rfl⟩)
      · exact ⟨x, by simp, rfl⟩
      · exact ⟨y, by simp [hy], rfl⟩
    · rintro ⟨y, hy, rfl⟩
      rcases List.mem_append.1 hy with hy | hy
      · exact .inr ⟨y, hy, rfl⟩
      · exact .inl (by rw [List.mem_singleton.1 hy])
  · have formed : Noted u (merge z) (u.notesTaking e x) :=
      (noted_taking e x u).congr (by rw [merge_sli, hz, hw])
    have both := h.noted.trans formed
    cases done with
    | nil =>
      have quiet : u.pmx.entries[e].st ≠ .active := by rw [h.st]; decide
      have none : trippedBy (instReach u.pmx.entries[e].cfg.scope x u) u = [] := by
        refine List.filter_eq_nil_iff.2 fun a _ => ?_
        rw [(h.act a).1, off a]
        simp [ActState.pressurized]
      rw [notesTaking_of_quiet quiet, none] at both
      have note : u.entryNote e x ([] : List (Fin 8)).length = s.judgeNote e c x := by
        unfold State.entryNote State.judgeNote
        rw [h.cfg, rest]
        by_cases trip : c.acting = .trip
        · simp only [trip, if_true, reduceCtorEq, if_false]; rfl
        · simp only [trip, if_false]; rfl
      rw [note] at both
      exact both
    | cons y done =>
      have none : u.notesTaking e x = [] := if_pos h.st
      rw [none, List.append_nil] at both
      exact both
  · have calm : c.acting ≠ .trip := k.resolve_right some'
    obtain ⟨log, first⟩ := h.log (.inl calm)
    have matrix : u.matrixTaking e x = { u.pmx with entries := u.pmx.entries.set e (u.entryTaking e x) } :=
      if_neg (by rw [h.cfg]; exact calm)
    rw [merge_pmx, zpmx, matrix]
    exact ⟨log, first⟩
  · obtain ⟨rfl, rfl⟩ : done = [] ∧ x = y := by
      cases done with
      | nil => exact ⟨rfl, by simpa using one⟩
      | cons a l => simp at one
    obtain ⟨log, first⟩ := h.log (.inr rfl)
    have matrix : u.matrixTaking e x =
        ({ u.pmx with entries := u.pmx.entries.set e (u.entryTaking e x) } : Protection).addTrip (tripRecord e x u) :=
      if_pos (by rw [h.cfg]; exact trip)
    have record : tripRecord e x u = tripRecord e x s := by
      have forces : u.svc.acts.map Actuator.force = s.svc.acts.map Actuator.force := by
        refine Vector.ext fun i hi => ?_
        rw [Vector.getElem_map, Vector.getElem_map]
        exact (h.act ⟨i, hi⟩).2.1
      unfold tripRecord
      rw [forces, rest]
      rfl
    rw [merge_pmx, zpmx, matrix, record]
    unfold Protection.addTrip
    dsimp only
    rw [log, first]
    refine ⟨rfl, ?_⟩
    cases s.pmx.firstOut <;> rfl

theorem judged_raised (h : s.Judged e c done u) (x : Cond) : u.raised x = s.raised x := by
  unfold State.raised; rw [h.pmx]

end

/-- The conditions that stand raised and match an entry, ascending. -/
def State.hitting (s : State) (c : ProtConfig) : List Cond :=
  match c.kind with
  | none => []
  | some k => k.conds.filter fun x => s.raised x && c.matches x

/-- PROT_ENTRY's judgement, whole (R180). -/
theorem judged_storeEntry {s : State} (e : Fin 40) (c : ProtConfig) (off : ∀ a, (s.act a).state = .off)
    (still : s.psq.state.going = false) (ev : s.ev = {}) : s.Judged e c (s.hitting c) (storeEntry e c s) := by
  have stored := judged_stored s e c
  obtain ⟨m, hm⟩ : ∃ m, m = merge (s.modEntry e fun _ => { cfg := c }) := ⟨_, rfl⟩
  have eq : storeEntry e c s = judgeEntry e m := by rw [hm]; rfl
  rw [← hm] at stored
  rw [eq]
  unfold judgeEntry State.hitting
  rw [stored.cfg]
  cases c.kind with
  | none => exact stored
  | some k =>
    have walk (l done : List Cond) (u : State) (h : s.Judged e c done u) :
        s.Judged e c (done ++ l.filter fun x => s.raised x && c.matches x) (l.foldl (fun s x =>
          if s.raised x && s.pmx.entries[e].cfg.matches x then flush (merge (takeRaising e x s)) else s) u) := by
      induction l generalizing done u with
      | nil => rw [List.filter_nil, List.append_nil]; exact h
      | cons x l ih =>
        rw [List.foldl_cons, List.filter_cons, judged_raised h, h.cfg]
        split
        · rename_i hit
          have := ih (done ++ [x]) _ (judged_takes off still ev h (Bool.and_eq_true_iff.1 hit).2)
          rwa [List.append_assoc, List.singleton_append] at this
        · exact ih done u h
    exact walk k.conds [] m stored

theorem mem_conds {k : CondKind} {x : Cond} : x ∈ k.conds ↔ x.kind = k := by
  constructor
  · cases k <;> simp only [CondKind.conds, List.mem_map, List.mem_finRange, true_and, List.mem_singleton] <;>
      rintro ⟨i, rfl⟩ <;> rfl
  · rintro rfl
    cases x with
    | act j a => cases j <;> exact List.mem_map_of_mem (List.mem_finRange a)
    | unloadTimeout i | strainLimit i | stiffness i | satLost i | zoneAlert i | zoneAlarm i | auxLimit i =>
      exact List.mem_map_of_mem (List.mem_finRange i)
    | haltLoop | broadcastHalt => exact List.mem_singleton_self _

theorem conds_ascend (k : CondKind) : k.conds.Pairwise fun x y => x.inst < y.inst := by
  have map {n : Nat} (f : Fin n → Cond) (h : ∀ i, (f i).inst = i.val) :
      ((List.finRange n).map f).Pairwise fun x y => x.inst < y.inst := by
    rw [List.pairwise_map]
    exact (List.pairwise_lt_finRange n).imp fun {i j} lt => by rw [h, h]; exact lt
  cases k <;> first | exact map _ fun _ => rfl | exact List.pairwise_singleton ..

theorem mem_hitting {s : State} {c : ProtConfig} {x : Cond} : x ∈ s.hitting c ↔
    s.raised x = true ∧ c.kind = some x.kind ∧ (c.inst = none ∨ c.inst = some x.inst) := by
  unfold State.hitting
  cases h : c.kind with
  | none => simp
  | some k =>
    rw [List.mem_filter, mem_conds, Bool.and_eq_true, matches_iff, h]
    constructor
    · rintro ⟨-, raised, kind, inst⟩; exact ⟨raised, kind, inst⟩
    · rintro ⟨raised, kind, inst⟩; exact ⟨(Option.some.inj kind).symm, raised, kind, inst⟩

theorem hitting_ascend (s : State) (c : ProtConfig) : (s.hitting c).Pairwise fun x y => x.inst < y.inst := by
  unfold State.hitting
  cases c.kind with
  | none => exact List.Pairwise.nil
  | some k => exact (conds_ascend k).filter _

theorem hitting_first {s : State} {c : ProtConfig} {x : Cond} (hit : x ∈ s.hitting c) (least : ∀ y ∈ s.hitting c, x.inst ≤ y.inst) :
    ∃ l, s.hitting c = x :: l := by
  have order := hitting_ascend s c
  cases h : s.hitting c with
  | nil => rw [h] at hit; exact nomatch hit
  | cons y l =>
    rw [h] at hit least order
    rcases List.mem_cons.1 hit with rfl | hit
    · exact ⟨l, rfl⟩
    · have := (List.pairwise_cons.1 order).1 x hit
      have := least y List.mem_cons_self
      omega

theorem hitting_one {s : State} {c : ProtConfig} {x : Cond} (hit : x ∈ s.hitting c) (only : ∀ y ∈ s.hitting c, y = x) :
    s.hitting c = [x] := by
  obtain ⟨l, h⟩ := hitting_first hit fun y hy => by rw [only y hy]
  have order := hitting_ascend s c
  rw [h] at order only ⊢
  cases l with
  | nil => rfl
  | cons y l =>
    have same := only y (by simp)
    have := (List.pairwise_cons.1 order).1 y List.mem_cons_self
    rw [same] at this; omega

end Sys2Proof.Machine

/-!
PROT_ENTRY, PROT_CLEAR and PROT_FIRST_CLEAR, whole (R98, R99, R178 to R180, R184, R186, R193).
-/
namespace Sys2Proof.Machine

/-- What PROT_ENTRY leaves, in the statement's terms. -/
theorem protEntry_stores {f : Frame} {s : State} {e : Fin 40} {c : ProtConfig} (takes : s.takes f 8) (setup : s.stc.mode = .setup)
    (index : u8 f.payload 0 = e.val) (given : protConfigOf e f.payload = some c) (ev : s.ev = {}) (still : s.psq.state.going = false)
    (off : ∀ a : Fin 8, (s.act a).state = .off) :
    ∃ u, exec (.protEntry f) s = .next (u.answered 0x60 f (c.bytes ++ put1 u.pmx.entries[e].st.code)) ∧
      s.received.Judged e c (s.hitting c) u ∧
      RepliedDone s (u.answered 0x60 f (c.bytes ++ put1 u.pmx.entries[e].st.code)) 0x60 f
        (c.bytes ++ put1 u.pmx.entries[e].st.code) := by
  obtain ⟨u, hu⟩ : ∃ u, u = storeEntry e c s.received := ⟨_, rfl⟩
  have judged : s.received.Judged e c (s.hitting c) u := by
    rw [hu]
    exact judged_storeEntry (s := s.received) e c off still ev
  obtain ⟨v, g, p, n, lost, rest⟩ := judged.rest
  have hunts : u.received = u := received_of_no_rx (by rw [rest]; rfl)
  have pending : u.stc.restartPending = false := by
    rw [rest]
    show (if s.hitting c = [] then s.received.stc else s.received.stcActed c).restartPending = false
    unfold State.stcActed
    split
    · exact takes.2.2.1
    · split <;> exact takes.2.2.1
  refine ⟨u, command_taken takes rfl ?_ pending, judged, repliedDone_answered (by rw [rest]; rfl) _ _ _⟩
  unfold protEntryBody
  rw [Answer.inSetup_of (s := s.received) setup, Answer.get_some (indexOf_eq e index), Answer.get_some given, hunts, hu]
  rfl

theorem protEntry_refused {f : Frame} {s : State} (takes : s.takes f 8) :
    (s.stc.mode ≠ .setup → exec (.protEntry f) s = .next (s.replied 0x60 f .refusedMode 65535 [])) ∧
    (s.stc.mode = .setup → 40 ≤ u8 f.payload 0 →
      exec (.protEntry f) s = .next (s.replied 0x60 f .refusedRange 65535 [])) := by
  refine ⟨fun mode => ?_, fun setup large => ?_⟩
  · exact command_refused takes rfl (Answer.inSetup_of_not (s := s.received) mode _)
  · refine command_refused takes rfl ((Answer.inSetup_of (s := s.received) setup _).trans ?_)
    rw [indexOf_none large] <;> rfl

theorem protEntry_ungiven {f : Frame} {s : State} {e : Fin 40} (takes : s.takes f 8) (setup : s.stc.mode = .setup)
    (index : u8 f.payload 0 = e.val) (named : u8 f.payload 1 ≠ 255) (none : ∀ c d, ¬givesEntry e f.payload c d) :
    exec (.protEntry f) s = .next (s.replied 0x60 f .refusedRange 65535 []) := by
  have fails : protConfigOf e f.payload = Option.none := by
    cases h : protConfigOf e f.payload with
    | none => rfl
    | some c =>
      obtain ⟨d, given⟩ := givesEntry_of takes.2.1 index named h
      exact (none c d given).elim
  refine command_refused takes rfl ((Answer.inSetup_of (s := s.received) setup _).trans ?_)
  rw [Answer.get_some (indexOf_eq e index), fails] <;> rfl

/-! ### PROT_CLEAR (R184, R187) -/

/-- What a merge leaves after entries have changed, in the statements' terms. -/
theorem merge_cleared {s u : State} (h : u = { s with pmx := u.pmx }) :
    (merge u).pmx = u.pmx ∧
    (∀ a : Fin 8, ((merge u).act a).derate = (merge u).mergedDerate a ∧ ((merge u).act a).state = (s.act a).state) ∧
    (merge u).lgu = s.lguDerated (merge u) ∧
    merge u = { s with pmx := u.pmx, svc := (merge u).svc, lgu := (merge u).lgu } := by
  have act (a : Fin 8) : u.act a = s.act a := by rw [h]; rfl
  have pmx := merge_pmx u
  refine ⟨pmx, fun a => ?_, ?_, ?_⟩
  · rw [mergedDerate_congr pmx, merge_act, act]; exact ⟨rfl, rfl⟩
  · rw [merge_lgu (t := merge u) fun a => by rw [merge_act]]
    exact lguDerated_congr (by rw [h]) fun a => by rw [act]; exact ⟨rfl, rfl⟩
  · obtain ⟨v, g, p, l, lost, e⟩ := (advised_merge u).toMoved.rest
    have sli := merge_sli u
    obtain ⟨m, hm⟩ : ∃ m, m = merge u := ⟨_, rfl⟩
    rw [← hm] at e sli pmx ⊢
    have notices : l = u.sli.notices ∧ lost = u.sli.noticesLost := by rw [← sli, e]; exact ⟨rfl, rfl⟩
    have matrix : p = u.pmx := by rw [← pmx, e]; rfl
    obtain ⟨rfl, rfl⟩ := notices
    subst matrix
    rw [e, h]; rfl

theorem protClear_refused {f : Frame} {s : State} (takes : s.takes f 1) (large : 40 ≤ u8 f.payload 0) (one : u8 f.payload 0 ≠ 255) :
    exec (.protClear f) s = .next (s.replied 0x62 f .refusedRange 65535 []) := by
  have range : protClearBody f.payload s.received = .range := by
    unfold protClearBody
    rw [if_neg one, indexOf_none large] <;> rfl
  exact command_refused takes rfl range

theorem protClear_one {f : Frame} {s : State} {e : Fin 40} (takes : s.takes f 1) (index : u8 f.payload 0 = e.val) :
    (s.pmx.entries[e].st = .active → exec (.protClear f) s = .next (s.replied 0x62 f .refusedState e.val [])) ∧
    (s.pmx.entries[e].st ≠ .active →
      ∃ t, exec (.protClear f) s = .next t ∧
        t.pmx = (if s.pmx.entries[e].st = .latched then
            { s.pmx with entries := s.pmx.entries.set e { cfg := s.pmx.entries[e].cfg } } else s.pmx) ∧
        (∀ a : Fin 8, (t.act a).derate = t.mergedDerate a ∧ (t.act a).state = (s.act a).state) ∧
        t.lgu = s.lguDerated t ∧ RepliedDone s t 0x62 f [] ∧
        t = { s with pmx := t.pmx, svc := t.svc, lgu := t.lgu, sli := t.sli }) := by
  have body : protClearBody f.payload s.received = clearOne e s.received := by
    unfold protClearBody
    rw [if_neg (by omega), Answer.get_some (indexOf_eq e index)]
  refine ⟨fun active => ?_, fun quiet => ?_⟩
  · exact command_refused takes rfl (body.trans (if_pos active))
  · obtain ⟨u, hu⟩ : ∃ u, u = s.received.modEntry e ProtEntry.clear := ⟨_, rfl⟩
    have upmx : u.pmx = if s.pmx.entries[e].st = .latched then
        { s.pmx with entries := s.pmx.entries.set e { cfg := s.pmx.entries[e].cfg } } else s.pmx := by
      have entries : u.pmx = { s.pmx with entries := s.pmx.entries.set e s.pmx.entries[e].clear } := by rw [hu]; rfl
      rw [entries]
      unfold ProtEntry.clear
      split
      · rename_i latched
        have : ({ s.pmx.entries[e] with st := .quiet, raised := [], reach := 0 } : ProtEntry) = { cfg := s.pmx.entries[e].cfg } := rfl
        rw [this]
      · have : s.pmx.entries.set e s.pmx.entries[e] = s.pmx.entries := Vector.set_getElem_self _
        rw [this]
    have ueq : u = { s.received with pmx := u.pmx } := by rw [hu]; rfl
    obtain ⟨pmx, acts, lgu, rest⟩ := merge_cleared ueq
    obtain ⟨m, hm⟩ : ∃ m, m = merge u := ⟨_, rfl⟩
    rw [← hm] at pmx acts lgu rest
    have hunts : m.received = m := received_of_no_rx (by rw [rest]; rfl)
    refine ⟨m.answered 0x62 f [], command_taken takes rfl ?_ (by rw [rest]; exact takes.2.2.1), pmx.trans upmx, acts, ?_,
      repliedDone_answered (by rw [rest]; rfl) _ _ _, ?_⟩
    · rw [hunts, body, hm, hu]
      exact if_neg quiet
    · exact lgu
    · obtain ⟨x, hx⟩ : ∃ x, x = (m.answered 0x62 f []).sli := ⟨_, rfl⟩
      have : m.answered 0x62 f [] = { m with sli := x } := by rw [hx]; rfl
      rw [this, rest]; rfl

theorem ProtEntry.clear_eq (x : ProtEntry) : x.clear = if x.st = .latched then { cfg := x.cfg } else x := by
  unfold clear
  split <;> rfl

theorem protClear_all {f : Frame} {s : State} (takes : s.takes f 1) (all : u8 f.payload 0 = 255) :
    let active := (List.finRange 40).filter fun e => decide (s.pmx.entries[e].st = .active)
    let latched := (List.finRange 40).filter fun e => decide (s.pmx.entries[e].st = .latched)
    let set := (active.map fun e => 2 ^ e.val).sum
    ∃ t, exec (.protClear f) s = .next t ∧
      (∀ e : Fin 40, t.pmx.entries[e] =
        if s.pmx.entries[e].st = .latched then { cfg := s.pmx.entries[e].cfg } else s.pmx.entries[e]) ∧
      t.pmx = { s.pmx with entries := t.pmx.entries } ∧
      (∀ a : Fin 8, (t.act a).derate = t.mergedDerate a ∧ (t.act a).state = (s.act a).state) ∧
      t.lgu = s.lguDerated t ∧
      (let detail := match active with
          | [] => 65535
          | e :: _ => e.val
        let payload := replyHead .done t.stationFlags detail ++ put1 latched.length ++ put1 active.length ++
          put1 (set / 4294967296 : Nat) ++ put4 set
        t.sli.replies = s.sli.replies ++ [{ code := 0x62, tag := f.tag, payload := payload }]) ∧
      t = { s with pmx := t.pmx, svc := t.svc, lgu := t.lgu, sli := t.sli } := by
  intro active latched set
  obtain ⟨u, hu⟩ : ∃ u, u = s.received.modPmx fun p => { p with entries := p.entries.map ProtEntry.clear } := ⟨_, rfl⟩
  have upmx : u.pmx = { s.pmx with entries := s.pmx.entries.map ProtEntry.clear } := by rw [hu]; rfl
  have ueq : u = { s.received with pmx := u.pmx } := by rw [hu]; rfl
  obtain ⟨pmx, acts, lgu, rest⟩ := merge_cleared ueq
  obtain ⟨m, hm⟩ : ∃ m, m = merge u := ⟨_, rfl⟩
  rw [← hm] at pmx acts lgu rest
  have hunts : m.received = m := received_of_no_rx (by rw [rest]; rfl)
  obtain ⟨detail, hdetail⟩ : ∃ detail : Nat, detail = match active with
      | [] => 65535
      | e :: _ => e.val := ⟨_, rfl⟩
  obtain ⟨p, hp⟩ : ∃ p, p = put1 latched.length ++ put1 active.length ++ (put1 (set / 4294967296 : Nat) ++ put4 set) := ⟨_, rfl⟩
  have body : protClearBody f.payload s.received = .take .done detail p m.received := by
    unfold protClearBody
    rw [if_pos all, hunts, hdetail, hp, hm, hu]
    rfl
  have replies : m.sli.replies = s.sli.replies := by rw [rest]; rfl
  refine ⟨m.replied 0x62 f .done detail p, command_taken takes rfl body (by rw [rest]; exact takes.2.2.1), fun e => ?_, ?_, acts, lgu,
    ?_, ?_⟩
  · show m.pmx.entries[e] = _
    rw [pmx, upmx, ← ProtEntry.clear_eq]
    exact Vector.getElem_map ..
  · show m.pmx = { s.pmx with entries := m.pmx.entries }
    rw [pmx, upmx]
  · show m.sli.replies ++ [_] = _
    rw [replies, ← hdetail, hp]
    simp only [List.append_assoc] <;> rfl
  · obtain ⟨x, hx⟩ : ∃ x, x = (m.replied 0x62 f .done detail p).sli := ⟨_, rfl⟩
    have : m.replied 0x62 f .done detail p = { m with sli := x } := by rw [hx]; rfl
    rw [this, rest]; rfl

/-! ### PROT_FIRST_CLEAR (R193) -/

theorem protFirstClear_taken {f : Frame} {s : State} (takes : s.takes f 0) :
    exec (.protFirstClear f) s = .next
      (({ s with pmx := { s.pmx with firstOut := none } } : State).answered 0x63 f (match s.pmx.firstOut with
        | none => putFlag false
        | some x => putFlag true ++ x.bytes)) := by
  refine command_taken takes rfl ?_ takes.2.2.1
  unfold protFirstClearBody
  show Answer.ok (putTrip s.pmx.firstOut) _ = _
  cases s.pmx.firstOut <;> rfl

/-- Settles O54: PROT_ENTRY stores and judges, the two clearings end in a merge. -/
theorem matrixCommandsAct : Obligations.MatrixCommandsAct := by
  refine ⟨fun f s takes => protEntry_refused takes, ?_, fun f s takes large one => protClear_refused takes large one,
    fun f s e takes index => protClear_one takes index, fun f s takes all => protClear_all takes all,
    fun f s takes => protFirstClear_taken takes⟩
  intro f s e takes setup index given
  refine ⟨fun named none => ?_, ?_⟩
  · exact protEntry_ungiven takes setup index named none
  · intro c d gives ev still off hits trips safe
    obtain ⟨u, run, judged, replied⟩ := protEntry_stores takes setup index (protConfigOf_gives gives) ev still off
    have hit (x : Cond) : x ∈ s.hitting c ↔ hits x := mem_hitting
    obtain ⟨v, g, p, n, lost, rest⟩ := judged.rest
    have filled {x : Cond} (h : hits x) : s.hitting c ≠ [] := List.ne_nil_of_mem ((hit x).2 h)
    have stc : u.stc = if s.hitting c = [] then s.stc else s.stcActed c := by rw [rest]; rfl
    have psq : u.psq = if s.hitting c = [] then s.psq else s.psqActed c := by rw [rest]; rfl
    refine ⟨_, run, judged.pmx, judged.cfg, fun none => ?_, fun x h => ?_, fun k hk => ?_, fun calm => judged.log (.inl calm),
      fun x trip h only => ?_, fun x h least => ?_, fun a => ?_, replied, ?_⟩
    · have empty : s.hitting c = [] := List.eq_nil_iff_forall_not_mem.2 fun x hx => none x ((hit x).1 hx)
      have noted := judged.noted
      rw [empty] at noted
      exact ⟨judged.fresh empty, noted.1, stc.trans (if_pos empty), psq.trans (if_pos empty)⟩
    · exact ⟨judged.st.trans (if_neg (filled h)), (judged.raised _).2 ⟨x, (hit x).2 h, rfl⟩, stc.trans (if_neg (filled h)),
        psq.trans (if_neg (filled h))⟩
    · obtain ⟨x, hx, inst⟩ := (judged.raised k).1 hk
      exact ⟨x, (hit x).1 hx, inst⟩
    · exact judged.one x (hitting_one ((hit x).2 h) fun y hy => only y ((hit y).1 hy)) trip
    · obtain ⟨l, first⟩ := hitting_first ((hit x).2 h) fun y hy => least y ((hit y).1 hy)
      have noted := judged.noted
      rw [first] at noted
      exact noted.answered 0x60 f _
    · obtain ⟨state, -, derate⟩ := judged.act a
      exact ⟨derate, state.trans (off a)⟩
    · obtain ⟨x, hx⟩ : ∃ x, x = (u.answered 0x60 f (c.bytes ++ put1 u.pmx.entries[e].st.code)).sli := ⟨_, rfl⟩
      have : u.answered 0x60 f (c.bytes ++ put1 u.pmx.entries[e].st.code) = { u with sli := x } := by rw [hx]; rfl
      have usvc : u.svc = { s.svc with acts := v } := by rw [rest]; rfl
      rw [this]
      show ({ u with sli := x } : State) = { s with stc := u.stc, psq := u.psq, pmx := u.pmx, svc := u.svc, lgu := u.lgu, sli := x }
      rw [usvc, rest]; rfl

end Sys2Proof.Machine

/-!
The start of contact sensing that follows a reset (R19, R20): what it makes of the slots, with no contact found open and
faulty, with entries that only report, and in SAFE with nothing pressurized.
-/
namespace Sys2Proof.Machine

/-! ### One slot -/

/-- A slot that has sensed its contact (R19). -/
def Slot.sensed (y : Slot) : Slot := if y.fn.isContact then { y with value := contactValue y.closed } else y

/-- A DIGITAL_IN contact that is a fault when open is found open (R19). -/
def Slot.faulty (y : Slot) : Bool := decide (y.fn = .digitalIn) && y.openFault && !y.closed

theorem Slot.sensed_of_not_contact {y : Slot} (h : y.fn.isContact = false) : y.sensed = y :=
  if_neg (by rw [h]; exact Bool.false_ne_true)

theorem Slot.sensed_of_contact {y : Slot} (h : y.fn.isContact = true) : y.sensed = { y with value := contactValue y.closed } :=
  if_pos h

theorem Slot.faulty_iff {y : Slot} : y.faulty = true ↔ y.fn = .digitalIn ∧ y.openFault = true ∧ y.closed = false := by
  simp [Slot.faulty, and_assoc]

theorem Slot.sensed_record (y : Slot) : y.sensed.fn = y.fn ∧ y.sensed.faulty = y.faulty := by
  unfold Slot.sensed
  split <;> exact ⟨rfl, rfl⟩

theorem Slot.sensed_sensed (y : Slot) : y.sensed.sensed = y.sensed := by
  by_cases h : y.fn.isContact = true
  · rw [Slot.sensed_of_contact h]; exact if_pos h
  · have h := Bool.eq_false_iff.2 h
    rw [Slot.sensed_of_not_contact h, Slot.sensed_of_not_contact h]

theorem Slot.contact_of_faulty {y : Slot} (h : y.faulty = true) : y.fn.isContact = true := by
  rw [(Slot.faulty_iff.1 h).1]; rfl

theorem auxStands_sensed {y : Slot} (h : y.fn.isContact = true) : auxStands y.sensed = y.faulty := by
  have digital : y.fn.isAnalog = false := by rcases (SlotFn.isContact_iff _).1 h with e | e | e <;> rw [e] <;> rfl
  rw [Slot.sensed_of_contact h]
  unfold auxStands Slot.faulty
  dsimp only
  rw [digital, if_neg Bool.false_ne_true]
  cases y.closed <;> simp [contactValue]

theorem senseContact_eq (x : Fin 16) (s : State) : senseContact x s =
    if s.axs[x].fn.isContact then setTo (.auxLimit x) s.axs[x].faulty (s.modSlot x Slot.sensed) else s := by
  unfold senseContact
  split
  · rename_i h
    have same : (s.modSlot x fun y => { y with value := contactValue y.closed }) = s.modSlot x Slot.sensed :=
      modSlot_congr (Slot.sensed_of_contact h).symm
    rw [same, judgeAux_eq, modSlot_axs_same, auxStands_sensed h]
    rfl
  · rfl

theorem modSlot_sensed_of_not_contact {x : Fin 16} {s : State} (h : s.axs[x].fn.isContact = false) :
    s.modSlot x Slot.sensed = s := by
  have same : s.modSlot x Slot.sensed = s.modSlot x id := modSlot_congr (Slot.sensed_of_not_contact h)
  rw [same]
  show ({ s with axs := s.axs.set x s.axs[x] } : State) = s
  rw [show s.axs.set x s.axs[x] = s.axs from Vector.set_getElem_self _]

/-! ### The slots of a list, sensed one after the other -/

/-- The slots with those of the list sensed. -/
def sensedOn (l : List (Fin 16)) (v : Vector Slot 16) : Vector Slot 16 := Vector.ofFn fun x => if x ∈ l then v[x].sensed else v[x]

theorem sensedOn_get (l : List (Fin 16)) (v : Vector Slot 16) (x : Fin 16) :
    (sensedOn l v)[x] = if x ∈ l then v[x].sensed else v[x] := by
  unfold sensedOn
  rw [Fin.getElem_fin, Vector.getElem_ofFn]

theorem sensedOn_nil (v : Vector Slot 16) : sensedOn [] v = v :=
  Vector.ext fun i hi => sensedOn_get [] v ⟨i, hi⟩

theorem modSlot_sensed_faulty (s : State) (x y : Fin 16) : (s.modSlot x Slot.sensed).axs[y].faulty = s.axs[y].faulty := by
  show (vmod s.axs x Slot.sensed)[y].faulty = _
  rw [vmod_get]
  split
  · exact (Slot.sensed_record _).2
  · rfl

theorem sensedOn_cons (x : Fin 16) (l : List (Fin 16)) (v : Vector Slot 16) :
    sensedOn l (vmod v x Slot.sensed) = sensedOn (x :: l) v := by
  refine Vector.ext fun i hi => ?_
  have step := sensedOn_get l (vmod v x Slot.sensed) ⟨i, hi⟩
  have goal := sensedOn_get (x :: l) v ⟨i, hi⟩
  rw [vmod_get] at step
  refine step.trans (Eq.trans ?_ goal.symm)
  by_cases e : x = ⟨i, hi⟩
  · rw [if_pos e, Slot.sensed_sensed, ite_self, if_pos (List.mem_cons.2 (.inl e.symm))]
  · rw [if_neg e]
    exact if_congr ⟨fun h => List.mem_cons_of_mem x h, fun h => (List.mem_cons.1 h).resolve_left (Ne.symm e)⟩ rfl rfl

theorem sensedOn_all (v : Vector Slot 16) : sensedOn (List.finRange 16) v = v.map Slot.sensed := by
  refine Vector.ext fun i hi => ?_
  rw [Vector.getElem_map]
  exact (sensedOn_get _ v ⟨i, hi⟩).trans (if_pos (List.mem_finRange _))

theorem auxLimit_slot_inj {x : Fin 16} {d : Cond} : (Cond.auxLimit x).slot = d.slot ↔ d = .auxLimit x := by
  refine ⟨fun h => ?_, fun h => by rw [h]⟩
  cases d <;> simp only [Cond.slot, Fin.ext_iff, Cond.auxLimit.injEq] at h ⊢ <;> omega

/-! ### No contact found open and faulty -/

theorem senseSlots_quiet (l : List (Fin 16)) {s : State} (low : ∀ x, s.raised (.auxLimit x) = false)
    (quiet : ∀ x : Fin 16, s.axs[x].faulty = false) :
    l.foldl (fun s x => senseContact x s) s = { s with axs := sensedOn l s.axs } := by
  induction l generalizing s with
  | nil => rw [sensedOn_nil]; rfl
  | cons x l ih =>
    have one : senseContact x s = s.modSlot x Slot.sensed := by
      rw [senseContact_eq]
      split
      · rw [quiet x]
        exact lower_of_lowered (low x)
      · rename_i h; exact (modSlot_sensed_of_not_contact (Bool.eq_false_iff.2 h)).symm
    rw [List.foldl_cons, one, ih (s := s.modSlot x Slot.sensed) low fun y => (modSlot_sensed_faulty s x y).trans (quiet y), ← sensedOn_cons]
    rfl

/-! ### Entries that only report -/

theorem takeRaising_trips {s : State} (h : s.advisory) {c : Cond} (hc : c.advisory) (e : Fin 40) :
    (takeRaising e c s).pmx.tripLog = s.pmx.tripLog ∧ (takeRaising e c s).pmx.firstOut = s.pmx.firstOut := by
  by_cases hm : s.pmx.entries[e].cfg.matches c = true
  · rw [takeRaising_eq c (acting_of_matches h hc hm) hm]
    exact keeps_ite (P := fun t => t.pmx.tripLog = s.pmx.tripLog ∧ t.pmx.firstOut = s.pmx.firstOut) ⟨rfl, rfl⟩ ⟨rfl, rfl⟩
  · rw [show takeRaising e c s = s from if_neg hm]; exact ⟨rfl, rfl⟩

theorem raise_trips {s : State} (h : s.advisory) {c : Cond} (hc : c.advisory) :
    (raise c s).pmx.tripLog = s.pmx.tripLog ∧ (raise c s).pmx.firstOut = s.pmx.firstOut := by
  by_cases raised : s.raised c = true
  · rw [show raise c s = s from if_pos raised]; exact ⟨rfl, rfl⟩
  · have set : s.Advised (setCond c true s) := advised_modPmx fun _ => rfl
    obtain ⟨-, log, first⟩ := forAsc_keeps (n := 40) (f := fun e s => takeRaising e c s)
      (fun t => s.Advised t ∧ t.pmx.tripLog = s.pmx.tripLog ∧ t.pmx.firstOut = s.pmx.firstOut)
      (fun e t k => by
        obtain ⟨log, first⟩ := takeRaising_trips (k.1.advisory h) hc e
        exact ⟨k.1.trans (advised_takeRaising (k.1.advisory h) hc e), log.trans k.2.1, first.trans k.2.2⟩)
      (s := setCond c true s) ⟨set, rfl, rfl⟩
    obtain ⟨-, -, log', first'⟩ := flush_merge_spec (forAsc 40 (fun e s => takeRaising e c s) (setCond c true s))
    rw [show raise c s = flush (merge (forAsc 40 (fun e s => takeRaising e c s) (setCond c true s))) from if_neg raised]
    exact ⟨log'.trans log, first'.trans first⟩

theorem State.Advised.withAxs {s t : State} (h : s.Advised t) (x : Vector Slot 16) :
    ({ s with axs := x } : State).Advised { t with axs := x } := by
  obtain ⟨⟨⟨v, g, p, l, lost, rfl⟩, act, group, entry⟩, m, hm, noted⟩ := h
  have same := noted_iff.1 noted
  exact ⟨⟨⟨v, g, p, l, lost, rfl⟩, act, group, entry⟩, m, hm, noted_iff.2 same⟩

/-- What sensing the slots of a list leaves where entries only report. -/
structure State.Senses (l : List (Fin 16)) (s t : State) : Prop where
  advised : ({ s with axs := sensedOn l s.axs } : State).Advised t
  trips : t.pmx.tripLog = s.pmx.tripLog ∧ t.pmx.firstOut = s.pmx.firstOut
  raised : (∀ x, s.raised (.auxLimit x) = true → s.axs[x].faulty = true) → ∀ c,
    t.raised c = true ↔ s.raised c = true ∨ ∃ x ∈ l, c = .auxLimit x ∧ s.axs[x].faulty = true

theorem senses_one {s : State} (ev : s.ev = {}) (adv : s.advisory) (x : Fin 16) :
    (s.modSlot x Slot.sensed).Advised (senseContact x s) ∧
      (senseContact x s).pmx.tripLog = s.pmx.tripLog ∧ (senseContact x s).pmx.firstOut = s.pmx.firstOut ∧
      ∀ c, (senseContact x s).raised c = if c = .auxLimit x ∧ s.axs[x].fn.isContact = true then s.axs[x].faulty else s.raised c := by
  have cond : (Cond.auxLimit x).advisory := ⟨nofun, nofun⟩
  rw [senseContact_eq]
  split
  · rename_i contact
    have uev : (s.modSlot x Slot.sensed).ev = {} := ev
    have uadv : (s.modSlot x Slot.sensed).advisory := adv
    have trips : (setTo (.auxLimit x) s.axs[x].faulty (s.modSlot x Slot.sensed)).pmx.tripLog = s.pmx.tripLog ∧
        (setTo (.auxLimit x) s.axs[x].faulty (s.modSlot x Slot.sensed)).pmx.firstOut = s.pmx.firstOut :=
      keeps_ite (P := fun t => t.pmx.tripLog = s.pmx.tripLog ∧ t.pmx.firstOut = s.pmx.firstOut) (raise_trips uadv cond)
        (lower_trips _ _)
    refine ⟨advised_setTo uev uadv cond _, trips.1, trips.2, fun c => ?_⟩
    rw [setTo_raised uev uadv cond]
    exact if_congr (auxLimit_slot_inj.trans (and_iff_left contact).symm) rfl rfl
  · rename_i h
    rw [modSlot_sensed_of_not_contact (Bool.eq_false_iff.2 h)]
    exact ⟨.rfl', rfl, rfl, fun c => (if_neg fun k => h k.2).symm⟩

theorem senses (l : List (Fin 16)) {s : State} (ev : s.ev = {}) (adv : s.advisory) :
    s.Senses l (l.foldl (fun s x => senseContact x s) s) := by
  induction l generalizing s with
  | nil => exact ⟨by rw [sensedOn_nil]; exact .rfl', ⟨rfl, rfl⟩, fun _ c => ⟨.inl, fun h => h.elim id fun ⟨_, hx, _⟩ => nomatch hx⟩⟩
  | cons x l ih =>
    obtain ⟨moved, log, first, raised⟩ := senses_one ev adv x
    have rest := ih (moved.ev.trans ev) (moved.advisory adv)
    have axs : (senseContact x s).axs = vmod s.axs x Slot.sensed := moved.axs
    have faulty (y : Fin 16) : (senseContact x s).axs[y].faulty = s.axs[y].faulty := by
      rw [axs]
      exact modSlot_sensed_faulty s x y
    rw [List.foldl_cons]
    refine ⟨?_, ⟨rest.trips.1.trans log, rest.trips.2.trans first⟩, fun high c => ?_⟩
    · have first := moved.withAxs (sensedOn (x :: l) s.axs)
      have after := rest.advised
      rw [axs, sensedOn_cons] at after
      exact first.trans after
    · have one (c : Cond) : (senseContact x s).raised c = true ↔ s.raised c = true ∨ c = .auxLimit x ∧ s.axs[x].faulty = true := by
        rw [raised]
        split
        · rename_i h
          obtain ⟨rfl, -⟩ := h
          exact ⟨fun k => .inr ⟨rfl, k⟩, fun k => k.elim (high x) And.right⟩
        · rename_i h
          exact ⟨.inl, fun k => k.elim id fun k => absurd ⟨k.1, Slot.contact_of_faulty k.2⟩ h⟩
      rw [rest.raised (fun y hy => by
        rw [faulty]
        exact ((one _).1 hy).elim (high y) fun k => by rw [Cond.auxLimit.inj k.1]; exact k.2) c, one]
      constructor
      · rintro ((h | h) | ⟨y, hy, h, k⟩)
        · exact .inl h
        · exact .inr ⟨x, List.mem_cons_self, h⟩
        · exact .inr ⟨y, List.mem_cons_of_mem x hy, h, by rw [← faulty]; exact k⟩
      · rintro (h | ⟨y, hy, h, k⟩)
        · exact .inl (.inl h)
        · rcases List.mem_cons.1 hy with rfl | hy
          · exact .inl (.inr ⟨h, k⟩)
          · exact .inr ⟨y, hy, h, by rw [faulty]; exact k⟩

/-! ### In SAFE with nothing pressurized -/

/-- What a later raising or lowering of AUX_LIMIT leaves of an opened HALT loop. -/
structure State.Calm (s t : State) : Prop where
  outer : t.clock = s.clock ∧ t.pending = s.pending ∧ t.sli.replies = s.sli.replies ∧ t.sli.linkErrors = s.sli.linkErrors
  ev : t.ev = s.ev
  stc : t.stc = s.stc
  state : ∀ a, (t.act a).state = (s.act a).state
  entry : t.pmx.entries[(0 : Fin 40)] = s.pmx.entries[(0 : Fin 40)]
  first : ∀ r, s.pmx.firstOut = some r → t.pmx.firstOut = some r
  raised : t.raised .haltLoop = s.raised .haltLoop

theorem State.Calm.rfl' {s : State} : s.Calm s := ⟨⟨rfl, rfl, rfl, rfl⟩, rfl, rfl, fun _ => rfl, rfl, fun _ => id, rfl⟩

theorem State.Calm.trans {s t u : State} (h : s.Calm t) (k : t.Calm u) : s.Calm u where
  outer := by
    obtain ⟨clock, pending, replies, errors⟩ := h.outer
    obtain ⟨clock', pending', replies', errors'⟩ := k.outer
    exact ⟨clock'.trans clock, pending'.trans pending, replies'.trans replies, errors'.trans errors⟩
  ev := k.ev.trans h.ev
  stc := k.stc.trans h.stc
  state a := (k.state a).trans (h.state a)
  entry := k.entry.trans h.entry
  first r e := k.first r (h.first r e)
  raised := k.raised.trans h.raised

theorem calm_lower {c : Cond} (slot : c.slot ≠ Cond.haltLoop.slot) {s : State} (p0 : s.pmx.entries[(0 : Fin 40)].cfg.matches c = false) :
    s.Calm (lower c s) := by
  have moved := (advised_lower c s).toMoved
  refine ⟨⟨moved.clock, ?_, moved.replies, by rw [lower_sli]⟩, moved.ev, moved.stc, moved.state, lower_entry p0,
    fun r h => (lower_trips c s).2.trans h, by rw [lower_raised, if_neg slot]⟩
  obtain ⟨_, _, _, _, _, e⟩ := moved.rest
  rw [e]; rfl

theorem calm_raise {c : Cond} (slot : c.slot ≠ Cond.haltLoop.slot) {s : State} (ev : s.ev = {})
    (p0 : s.pmx.entries[(0 : Fin 40)].cfg = haltEntry) (other : haltEntry.matches c = false) (rest : s.resting)
    (safe : s.stc.mode = .safe) : s.Calm (raise c s) := by
  by_cases high : s.raised c = true
  · rw [show raise c s = s from if_pos high]; exact .rfl'
  obtain ⟨m, hm⟩ : ∃ m, m = forAsc 40 (fun e s => takeRaising e c s) (setCond c true s) := ⟨_, rfl⟩
  have first : takeRaising 0 c (setCond c true s) = setCond c true s :=
    takeRaising_of_not (by
      rw [show (setCond c true s).pmx.entries[(0 : Fin 40)].cfg = haltEntry from p0]; exact other)
  have spared : (setCond c true s).Spared m := by
    rw [hm, forAsc_first, first]
    exact spared_walk _ c rest safe
  have whole : raise c s = flush (merge m) := by rw [hm]; exact if_neg high
  have own : m.lowersOwn := by
    intro d hd
    rw [spared.lowers, show (setCond c true s).ev = {} from ev] at hd
    exact nomatch hd
  obtain ⟨moved, -, -, out⟩ := flush_merge_spec m
  obtain ⟨_, _, _, _, _, eq⟩ := spared.rest
  rw [whole]
  refine ⟨⟨?_, ?_, ?_, ?_⟩, moved.ev.trans ev.symm, moved.stc.trans spared.stc, fun a => ?_, ?_, fun r h => ?_, ?_⟩
  · rw [moved.clock, eq]; rfl
  · obtain ⟨_, _, _, _, _, e⟩ := moved.rest
    rw [e, eq]; rfl
  · rw [moved.replies, eq]; rfl
  · obtain ⟨_, _, _, _, _, e⟩ := moved.rest
    rw [e, eq]; rfl
  · rw [moved.state]
    show (m.act a).state = _
    rw [spared.act]; rfl
  · rw [flush_merge_entry own (k := .haltLoop) ?_ fun c h => (haltLoop_kind c h).1, spared.entry]
    · rfl
    · rw [spared.entry, show (setCond c true s).pmx.entries[(0 : Fin 40)].cfg = haltEntry from p0]; rfl
  · rw [out]; exact spared.first r h
  · rw [flush_merge_raised own rfl]
    have same : m.raised .haltLoop = (setCond c true s).raised .haltLoop := by
      unfold State.raised
      rw [spared.cond]
    rw [same, setCond_raised, if_neg slot]

theorem calm_senseContact {s : State} (ev : s.ev = {}) (p0 : s.pmx.entries[(0 : Fin 40)].cfg = haltEntry) (rest : s.resting)
    (safe : s.stc.mode = .safe) (x : Fin 16) : s.Calm (senseContact x s) := by
  have slot : (Cond.auxLimit x).slot ≠ Cond.haltLoop.slot := fun h => nomatch auxLimit_slot_inj.1 h
  have other : haltEntry.matches (.auxLimit x) = false := rfl
  rw [senseContact_eq]
  split
  · have sensed : s.Calm (s.modSlot x Slot.sensed) := ⟨⟨rfl, rfl, rfl, rfl⟩, rfl, rfl, fun _ => rfl, rfl, fun _ => id, rfl⟩
    exact sensed.trans (keeps_ite (P := (s.modSlot x Slot.sensed).Calm)
      (calm_raise slot ev p0 other rest safe)
      (calm_lower slot (by rw [show (s.modSlot x Slot.sensed).pmx.entries[(0 : Fin 40)].cfg = haltEntry from p0]; exact other)))
  · exact .rfl'

theorem calm_sensing {s : State} (ev : s.ev = {}) (p0 : s.pmx.entries[(0 : Fin 40)].cfg = haltEntry) (rest : s.resting)
    (safe : s.stc.mode = .safe) : s.Calm (forAsc 16 senseContact s) :=
  forAsc_keeps s.Calm (fun x _ h => h.trans (calm_senseContact (h.ev.trans ev) (by rw [h.entry]; exact p0)
    (fun a => by rw [h.state]; exact rest a) (by rw [h.stc]; exact safe) x)) .rfl'

end Sys2Proof.Machine

/-!
The reset of a RESTART (R9 to R11, R20).
-/
namespace Sys2Proof.Machine


/-! ### What a reset leaves, before the sensing of contacts -/

/-- The state a RESTART leaves, its notice queued. -/
def State.fresh (s : State) : State := offer (resetNotice (restartState s).stc.address (restartState s).stc.resetRecord.code) (restartState s)

theorem fresh_raised (s : State) (c : Cond) : s.fresh.raised c = false := by
  have cond : s.fresh.pmx.cond = ({} : Protection).cond := by
    show (restartState s).pmx.cond = _
    unfold restartState; dsimp only; split <;> rfl
  unfold State.raised
  rw [cond]
  simp

theorem fresh_ev (s : State) : s.fresh.ev = {} := restartState_ev s

theorem fresh_haltOpen (s : State) : s.fresh.stc.haltOpen = s.stc.haltOpen := by
  show (restartState s).stc.haltOpen = _
  unfold restartState; dsimp only; split <;> rfl

/-- The station control, the clock and what the link keeps of a RESTART. -/
theorem fresh_outer (s : State) :
    s.fresh.stc = { mode := .setup, resetRecord := { power := false, restart := true, keep := s.stc.settings.keepSettings }
                    restartPending := false
                    settings := if s.stc.settings.keepSettings then { s.stc.settings with keepSettings := false } else {}
                    address := s.stc.address, haltOpen := s.stc.haltOpen } ∧
      s.fresh.clock = {} ∧ s.fresh.pending = s.pending ∧ s.fresh.sli.linkErrors = s.sli.linkErrors := by
  unfold State.fresh restartState
  dsimp only
  split <;> exact ⟨rfl, rfl, rfl, rfl⟩

theorem fresh_axs (s : State) (x : Fin 16) : s.fresh.axs[x] =
    if s.stc.settings.keepSettings then s.axs[x].restart else s.axs[x].default := by
  show (restartState s).axs[x] = _
  unfold restartState
  dsimp only
  split
  · exact Vector.getElem_map ..
  · exact Vector.getElem_map ..

theorem fresh_faulty (s : State) (x : Fin 16) : s.fresh.axs[x].faulty = true ↔
    s.stc.settings.keepSettings = true ∧ s.axs[x].fn = .digitalIn ∧ s.axs[x].openFault = true ∧ s.axs[x].closed = false := by
  rw [fresh_axs]
  split
  · rename_i keep
    rw [Slot.faulty_iff]
    exact (and_iff_right keep).symm
  · rename_i keep
    exact ⟨fun h => (nomatch (Slot.faulty_iff.1 h).1), fun h => absurd h.1 keep⟩

theorem fresh_off (s : State) (a : Fin 8) : (s.fresh.act a).state = .off := by
  show ((restartState s).act a).state = .off
  unfold restartState
  dsimp only
  split
  · show (s.svc.acts.map Actuator.restart)[a.val].state = _
    rw [Vector.getElem_map]; rfl
  · exact state_defaultActs a

theorem fresh_entry (s : State) (e : Fin 40) : s.fresh.pmx.entries[e].cfg =
    if s.stc.settings.keepSettings then s.pmx.entries[e].cfg else ({} : Protection).entries[e].cfg := by
  show (restartState s).pmx.entries[e].cfg = _
  unfold restartState
  dsimp only
  split
  · show (s.pmx.entries.map ProtEntry.restart)[e.val].cfg = _
    rw [Vector.getElem_map]; rfl
  · rfl

theorem defaultEntries_acting : ∀ e : Fin 40, ({} : Protection).entries[e].cfg.acting = .note ∨
    ({} : Protection).entries[e].cfg.acting = .derate ∨ ({} : Protection).entries[e].cfg.kind = some .haltLoop ∨
    ({} : Protection).entries[e].cfg.kind = some .broadcastHalt := by decide +kernel

theorem fresh_advisory {s : State} (h : s.advisory) : s.fresh.advisory := fun e => by
  rw [fresh_entry]
  split
  · exact h e
  · exact defaultEntries_acting e

/-- A slot after a RESTART, its contact sensed, in the statement's terms. -/
theorem sensed_restart (y : Slot) : y.restart.sensed =
    { y with value :=
        if (y.fn = .digitalIn ∨ y.fn = .pendantHold ∨ y.fn = .pendantResume) ∧ y.closed = true then 1 else 0 } := by
  by_cases h : y.fn.isContact = true
  · rw [Slot.sensed_of_contact (show y.restart.fn.isContact = true from h)]
    have named := (SlotFn.isContact_iff _).1 h
    exact congrArg (fun v => ({ y with value := v } : Slot)) (if_congr (and_iff_right named).symm rfl rfl)
  · have named := mt (SlotFn.isContact_iff _).2 h
    rw [Slot.sensed_of_not_contact (show y.restart.fn.isContact = false from Bool.eq_false_iff.2 h), if_neg fun k => named k.1]
    rfl

/-- What a RESTART leaves with every contact sensed. -/
def State.sensed (s : State) : State := { s with axs := s.axs.map Slot.sensed }

theorem restarted_sensed (s : State) : Restarted s s.fresh.sensed := by
  by_cases keep : s.stc.settings.keepSettings = true
  · unfold Restarted State.sensed State.fresh restartState
    dsimp only
    rw [keep]
    simp only [if_true]
    refine ⟨rfl, rfl, rfl, rfl, rfl, ?_, rfl, rfl, rfl, ?_, rfl, rfl, rfl, rfl⟩
    · exact Vector.map_map.trans (congrArg (Vector.map · s.axs) (funext sensed_restart))
    · exact congrArg (Vector.map · s.glc) (funext fun y => by
        unfold Sat.restart
        dsimp only
        split
        · rfl
        · rename_i absent
          rw [Bool.eq_false_iff.2 absent])
  · unfold Restarted State.sensed State.fresh restartState
    dsimp only
    rw [Bool.eq_false_iff.2 keep]
    simp only [Bool.false_eq_true, if_false]
    refine ⟨rfl, rfl, rfl, rfl, rfl, ?_, rfl, rfl, rfl, ?_, rfl, rfl, rfl, rfl⟩
    · exact Vector.map_map.trans rfl
    · rfl

/-! ### The loop closed -/

theorem restartReset_closed {s : State} (h : s.stc.haltOpen = false) : restartReset s = forAsc 16 senseContact s.fresh := by
  have closed : ¬s.fresh.stc.haltOpen = true := by rw [fresh_haltOpen, h]; exact Bool.false_ne_true
  show forAsc 16 senseContact (if s.fresh.stc.haltOpen then raise .haltLoop s.fresh else s.fresh) = _
  rw [if_neg closed]

/-- With the loop closed and no DIGITAL_IN contact found open and faulty (R11, R19, R20). -/
theorem restarted_quiet {s : State} (h : s.stc.haltOpen = false) (quiet : ∀ x : Fin 16, s.fresh.axs[x].faulty ≠ true) :
    Restarted s (restartReset s) := by
  have sensed : restartReset s = s.fresh.sensed := by
    rw [restartReset_closed h, forAsc, senseSlots_quiet _ (fun x => fresh_raised s _) fun x => Bool.eq_false_iff.2 (quiet x), sensedOn_all]
    rfl
  rw [sensed]
  exact restarted_sensed s

/-- With the loop closed and entries that only report (R11, R17, R19, R20, R177). -/
theorem restarted_faulty {s : State} (h : s.stc.haltOpen = false) (adv : s.advisory) :
    let t := restartReset s
    let v := s.fresh.sensed
    (∀ c : Cond, t.raised c = true ↔ ∃ x, c = .auxLimit x ∧ s.fresh.axs[x].faulty = true) ∧
      (∀ a : Fin 8, t.act a = { v.act a with derate := t.mergedDerate a }) ∧
      t.pmx.tripLog = v.pmx.tripLog ∧ t.pmx.firstOut = v.pmx.firstOut ∧
      Forms v t (fun n => !n.is .entry) [] ∧
      t.sli = { v.sli with notices := t.sli.notices, noticesLost := t.sli.noticesLost } ∧
      t = { v with svc := t.svc, lgu := t.lgu, pmx := t.pmx, sli := t.sli } := by
  intro t v
  have sensing : s.fresh.Senses (List.finRange 16) t := by
    show s.fresh.Senses _ (restartReset s)
    rw [restartReset_closed h]
    exact senses _ (fresh_ev s) (fresh_advisory adv)
  have low (c : Cond) : ¬s.fresh.raised c = true := by rw [fresh_raised]; exact Bool.false_ne_true
  have advised : v.Advised t := by
    have := sensing.advised
    rw [sensedOn_all] at this
    exact this
  have law : t.matrixLaw :=
    Event.Kept.afterReset kept_matrixLaw (matrixLaw_restartState s)
  refine ⟨fun c => ?_, fun a => ?_, sensing.trips.1, sensing.trips.2, advised.forms fun n hn => ?_, ?_, advised.eq⟩
  · rw [sensing.raised (fun x hx => absurd hx (low _)) c]
    exact ⟨fun k => k.elim (fun k => absurd k (low c)) fun ⟨x, _, k⟩ => ⟨x, k⟩, fun ⟨x, k⟩ => .inr ⟨x, List.mem_finRange x, k⟩⟩
  · obtain ⟨d, e⟩ := advised.act a
    have derate := law.2 a
    rw [e] at derate ⊢
    rw [show d = t.mergedDerate a from derate]
  · show (!n.is .entry) = false
    unfold Notice.is
    rw [hn]; rfl
  · obtain ⟨_, _, _, _, _, e⟩ := advised.rest
    rw [e]; rfl

/-! ### The loop open -/

theorem raise_cfg (c : Cond) (s : State) (e : Fin 40) : (raise c s).pmx.entries[e].cfg = s.pmx.entries[e].cfg := by
  by_cases high : s.raised c = true
  · rw [show raise c s = s from if_pos high]
  · obtain ⟨m, hm⟩ : ∃ m, m = forAsc 40 (fun e s => takeRaising e c s) (setCond c true s) := ⟨_, rfl⟩
    have kept : m.pmx.entries[e].cfg = s.pmx.entries[e].cfg := by
      rw [hm]
      exact forAsc_keeps (n := 40) (f := fun e s => takeRaising e c s) (fun t => t.pmx.entries[e].cfg = s.pmx.entries[e].cfg) (s := setCond c true s)
        (fun k t h => (takeRaising_cfg k c t e).trans h) rfl
    rw [show raise c s = flush (merge m) by rw [hm]; exact if_neg high]
    exact ((flush_merge_spec m).1.entry e).trans kept

/-- What the reset of a RESTART leaves with the HALT loop open (R7, R9, R11, R193). -/
theorem restartReset_open {s t : State} (reset : restartReset s = t) (opened : s.stc.haltOpen = true)
    (p0 : s.stc.settings.keepSettings = true → s.pmx.entries[(0 : Fin 40)].cfg = haltEntry) :
    let keep := s.stc.settings.keepSettings
    t.stc = { mode := .safe, resetRecord := { power := false, restart := true, keep := keep }, restartPending := false
              settings := if keep then { s.stc.settings with keepSettings := false } else {}
              address := s.stc.address, haltOpen := true } ∧
      t.raised .haltLoop = true ∧ t.pmx.entries[(0 : Fin 40)].st = .active ∧ (∀ a : Fin 8, (t.act a).state = .off) ∧
      (∀ r, s.pmx.firstOut = some r → t.pmx.firstOut = some r) ∧
      (s.pmx.firstOut = none → ∃ r, t.pmx.firstOut = some r ∧ r.entry = 0 ∧ r.kind = .haltLoop) ∧
      t.sli.replies = s.sli.replies ∧ t.sli.linkErrors = s.sli.linkErrors ∧ t.clock = {} ∧ t.pending = s.pending := by
  intro keep
  have replies : t.sli.replies = s.sli.replies := by rw [← reset]; exact restartReset_replies s
  have first0 : s.fresh.pmx.entries[(0 : Fin 40)].cfg = haltEntry := by
    rw [fresh_entry]
    split
    · rename_i k; exact p0 k
    · exact defaultEntries_first
  have tripped := haltTripped (fresh_ev s) (fresh_raised s _) first0
  obtain ⟨w, hw⟩ : ∃ w, w = raise .haltLoop s.fresh := ⟨_, rfl⟩
  have whole : t = forAsc 16 senseContact w := by
    rw [hw, ← reset]
    show forAsc 16 senseContact (if s.fresh.stc.haltOpen then raise .haltLoop s.fresh else s.fresh) = _
    rw [if_pos (by rw [fresh_haltOpen, opened])]
  have cfg : w.pmx.entries[(0 : Fin 40)].cfg = haltEntry := by rw [hw, raise_cfg]; exact first0
  rw [← hw] at tripped
  have off (a : Fin 8) : (w.act a).state = .off := by rw [tripped.state, fresh_off]; rfl
  have calm : w.Calm t := by
    rw [whole]
    exact calm_sensing tripped.ev cfg (resting_of_off off) (by rw [tripped.stc])
  clear whole hw
  obtain ⟨clock, pending, -, errors⟩ := calm.outer
  have base := fresh_outer s
  obtain ⟨v, hv⟩ : ∃ v, v = s.fresh := ⟨_, rfl⟩
  have firstOut : v.pmx.firstOut = s.pmx.firstOut := by rw [hv]; exact restartState_firstOut s
  rw [← hv] at base tripped
  obtain ⟨vstc, vclock, vpending, verrors⟩ := base
  obtain ⟨_, _, _, _, _, _, _, _, turned⟩ := tripped.turned
  obtain ⟨r, record, entry, kind, -, -⟩ := tripped.first
  rw [firstOut] at record
  refine ⟨?_, calm.raised.trans tripped.raised, by rw [calm.entry]; exact tripped.entry, fun a => (calm.state a).trans (off a),
    fun r h => ?_, fun none => ?_, replies, ?_, ?_, ?_⟩
  · rw [calm.stc, tripped.stc, vstc, opened]
  · rw [h] at record
    exact calm.first _ record
  · rw [none] at record
    exact ⟨r, calm.first _ record, entry, kind⟩
  · rw [errors, turned]
    exact verrors
  · rw [clock, turned]
    exact vclock
  · rw [pending, turned]
    exact vpending

end Sys2Proof.Machine

/-!
The reset of a RESTART as a command: at rest, at the sample that ends the last unload, at the opening of the HALT loop.
-/
namespace Sys2Proof.Machine


/-! ### The rows that reset (R10, R11) -/

/-- DEFERRED_RESTART and RESTART at rest reset the station, the reply of RESTART held before. -/
theorem restart_runs {s u : State} {i : Instr} (rest : s.allAtRest = true)
    (row : (i = .deferredRestart ∧ s.stc.restartPending = true ∧ u = s) ∨
      (∃ f : Frame, i = .restart f ∧ s.takes f 0 ∧ u = s.answered 0x07 f [])) :
    exec i s = .next (restartReset u) ∧ ∃ l, u = { s with sli := l } := by
  rcases row with ⟨rfl, pending, rfl⟩ | ⟨f, rfl, takes, rfl⟩
  · have reset : finish u = restartReset u := if_pos ⟨pending, rest⟩
    refine ⟨?_, u.sli, rfl⟩
    show stepDone (finish u) = _
    rw [reset]
    exact stepDone_of_noResetDue (noResetDue_restartReset u)
  · refine ⟨?_, (s.answered 0x07 f []).sli, rfl⟩
    have command : restartCommand f s = restartReset (s.answered 0x07 f []) :=
      (restartCommand_of_takes (u := s) takes (if_pos rest)).trans (if_pos rest)
    show stepDone (restartCommand f s) = _
    rw [command]
    exact stepDone_of_noResetDue (noResetDue_restartReset _)

/-- The opening of the HALT loop that trips the last actuators still unloading (R9, R11). -/
theorem haltLoop_resets {s : State} (ev : s.ev = {}) (pending : s.stc.restartPending = true)
    (ending : ∀ a : Fin 8, (s.act a).state = .off ∨ (s.act a).state = .tripped ∨ (s.act a).state = .unloading)
    (low : s.raised .haltLoop = false) (p0 : s.pmx.entries[(0 : Fin 40)].cfg = haltEntry) :
    ∃ w, exec (.haltLoopChange true) s = .next (restartReset w) ∧ w.stc = { s.stc with haltOpen := true, mode := .safe } ∧
      w.pmx.entries[(0 : Fin 40)].cfg = haltEntry ∧
      (∃ r : TripRec, w.pmx.firstOut = some (s.pmx.firstOut.getD r) ∧ r.entry = 0 ∧ r.kind = .haltLoop ∧
        r.forces = s.svc.acts.map Actuator.force) ∧
      w.sli.replies = s.sli.replies ∧ w.sli.linkErrors = s.sli.linkErrors ∧ w.pending = s.pending := by
  obtain ⟨u, hu⟩ : ∃ u, u = s.modStc fun c => { c with haltOpen := true } := ⟨_, rfl⟩
  have tripped := haltTripped (s := u) (by rw [hu]; exact ev) (by rw [hu]; exact low) (by rw [hu]; exact p0)
  have cfg : (raise .haltLoop u).pmx.entries[(0 : Fin 40)].cfg = haltEntry := by rw [raise_cfg, hu]; exact p0
  have run : exec (.haltLoopChange true) s = .next (finish (raise .haltLoop u)) := by rw [hu]; rfl
  obtain ⟨w, hw⟩ : ∃ w, w = raise .haltLoop u := ⟨_, rfl⟩
  rw [← hw] at tripped cfg run
  clear hw
  have act (a : Fin 8) : u.act a = s.act a := by rw [hu]; rfl
  have rest : w.allAtRest = true := (allAtRest_iff w).2 fun a => by
    rw [tripped.state, act]
    rcases ending a with h | h | h <;> rw [h]
    · exact .inl rfl
    · exact .inr rfl
    · exact .inr rfl
  have stc : w.stc = { s.stc with haltOpen := true, mode := .safe } := by rw [tripped.stc, hu]; rfl
  have reset : finish w = restartReset w := if_pos ⟨by rw [stc]; exact pending, rest⟩
  rw [reset] at run
  obtain ⟨r, first, entry, kind, -, forces⟩ := tripped.first
  obtain ⟨_, _, _, _, _, _, _, _, turned⟩ := tripped.turned
  refine ⟨w, run, stc, cfg, ⟨r, ?_, entry, kind, ?_⟩, ?_, ?_, ?_⟩
  · rw [first, hu]; rfl
  · rw [forces, hu]; rfl
  · rw [turned, hu]; rfl
  · rw [turned, hu]; rfl
  · rw [turned, hu]; rfl

end Sys2Proof.Machine

/-!
What a control sample leaves of the configuration a RESTART keeps, and of the trip records (R11, R192, R193).
-/
namespace Sys2Proof.Machine

/-! ### The plan -/

theorem restart_stopped (q : Sequencer) : q.stopped.restart = q.restart := by
  by_cases h : q.activity.isWave = true
  · by_cases hm : q.pauseLength = 0
    · rw [Sequencer.stopped_of_no_pause h hm]; rfl
    · rw [Sequencer.stopped_of_pause h hm]; rfl
  · rw [Sequencer.stopped_of_level (by simpa using h)]; rfl

theorem restart_beginTaperUp (q : Sequencer) : (beginTaperUp q).restart = q.restart := by
  unfold beginTaperUp
  dsimp only
  split <;> rfl

theorem restart_enterCycle (m : Int) (q : Sequencer) : (enterCycle m q).restart = q.restart := by
  unfold enterCycle
  dsimp only
  split
  · exact restart_beginTaperUp _
  · rfl

theorem restart_enterFrom (n i : Nat) (q : Sequencer) : (enterFrom n i q).restart = q.restart := by
  induction n generalizing i q with
  | zero => rfl
  | succ n ih =>
    unfold enterFrom
    split
    · split
      · rfl
      · rfl
      · exact restart_enterCycle _ _
      · split <;> exact ih ..
      · rfl
    · rfl

theorem restart_next (q : Sequencer) : q.next.restart = q.restart := by
  have entered := restart_enterFrom loopFuel (q.segment.val + 1) q
  unfold Sequencer.next Sequencer.afterEntry
  generalize enterFrom loopFuel (q.segment.val + 1) q = e at entered ⊢
  split
  · exact entered
  · split
    · exact (restart_stopped e).trans entered
    · exact entered

theorem SeqOut.restart_endPlan (o : SeqOut) (q : Sequencer) : (o.endPlan q).restart = q.restart := by
  have held : (o.heldPlan q).restart = q.restart := by
    unfold heldPlan
    split <;> rfl
  unfold endPlan
  split
  · exact (restart_next _).trans held
  · exact held

theorem restart_seqSample (q : Sequencer) : (seqSample q).1.restart = q.restart := by
  unfold seqSample
  split
  · split
    · rfl
    · split <;> rfl
    · split <;> rfl
    · dsimp only
      split
      · exact restart_beginTaperUp _
      · rfl
    · unfold taperUpSample
      dsimp only
      split <;> rfl
    · unfold steadySample
      dsimp only
      split
      · split <;> rfl
      · split <;> rfl
    · rfl
  · rfl
  · dsimp only
    split <;> rfl
  all_goals rfl

/-! ### The actuators -/

theorem restart_entered (x : ActState) (y : Actuator) : (y.entered x).restart = y.restart := by
  unfold Actuator.entered
  dsimp only
  split <;> split <;> rfl

theorem restart_withDerate (x : Actuator) (d : Int) : ({ x with derate := d } : Actuator).restart = x.restart := rfl

theorem restart_completed (x : Actuator) : x.completed.restart = x.restart := by
  unfold Actuator.completed
  split
  · exact restart_entered ..
  · exact (restart_entered ..).trans rfl

/-! ### Groups, zones, snapshots, entries and trip records -/

/-- What else a RESTART keeps, the actuators apart, is the same, and the event's buffer. -/
structure State.Stored (s t : State) : Prop where
  group : ∀ g, (t.group g).restart = (s.group g).restart
  zone : ∀ z : Fin 16, t.zmn.zones[z].cfg = s.zmn.zones[z].cfg
  stp : t.stp.chans = s.stp.chans ∧ t.stp.snapList = s.stp.snapList
  trips : t.pmx.tripLog = s.pmx.tripLog ∧ t.pmx.firstOut = s.pmx.firstOut
  entry : ∀ e : Fin 40, t.pmx.entries[e].cfg = s.pmx.entries[e].cfg
  ev : t.ev = s.ev

theorem State.Stored.rfl' {s : State} : s.Stored s := ⟨fun _ => rfl, fun _ => rfl, ⟨rfl, rfl⟩, ⟨rfl, rfl⟩, fun _ => rfl, rfl⟩

theorem State.Stored.trans {s t u : State} (h : s.Stored t) (k : t.Stored u) : s.Stored u :=
  ⟨fun g => (k.group g).trans (h.group g), fun z => (k.zone z).trans (h.zone z),
    ⟨k.stp.1.trans h.stp.1, k.stp.2.trans h.stp.2⟩, ⟨k.trips.1.trans h.trips.1, k.trips.2.trans h.trips.2⟩,
    fun e => (k.entry e).trans (h.entry e), k.ev.trans h.ev⟩

theorem State.Stored.advisory {s t : State} (h : s.Stored t) (adv : s.advisory) : t.advisory := by
  intro e; rw [h.entry e]; exact adv e

theorem State.Moved.stored {s t : State} (h : s.Moved t)
    (trips : t.pmx.tripLog = s.pmx.tripLog ∧ t.pmx.firstOut = s.pmx.firstOut) : s.Stored t := by
  refine ⟨fun g => ?_, fun z => by rw [h.zmn], by rw [h.stp]; exact ⟨rfl, rfl⟩, trips, h.entry, h.ev⟩
  obtain ⟨_, _, _, _, e⟩ := h.group g
  rw [e]; rfl

theorem stored_modGroup (g : Fin 4) {f : Group → Group} (hf : ∀ x, (f x).restart = x.restart) (s : State) :
    s.Stored (s.modGroup g f) := by
  refine ⟨fun k => ?_, fun _ => rfl, ⟨rfl, rfl⟩, ⟨rfl, rfl⟩, fun _ => rfl, rfl⟩
  rw [State.modGroup_group]
  split
  · rename_i e; subst e; exact hf _
  · rfl

theorem stored_modZone (z : Fin 16) {f : Zone → Zone} (hf : ∀ x, (f x).cfg = x.cfg) (s : State) : s.Stored (s.modZone z f) := by
  refine ⟨fun _ => rfl, fun k => ?_, ⟨rfl, rfl⟩, ⟨rfl, rfl⟩, fun _ => rfl, rfl⟩
  show (vmod s.zmn.zones z f)[k].cfg = _
  rw [vmod_get]
  split
  · exact hf _
  · rfl

theorem stored_modAct (a : Fin 8) (f : Actuator → Actuator) (s : State) : s.Stored (s.modAct a f) :=
  ⟨fun _ => rfl, fun _ => rfl, ⟨rfl, rfl⟩, ⟨rfl, rfl⟩, fun _ => rfl, rfl⟩

theorem stored_offer (n : Notice) (s : State) : s.Stored (offer n s) := (moved_offer n s).stored ⟨rfl, rfl⟩

theorem stored_lower (c : Cond) (s : State) : s.Stored (lower c s) := (advised_lower c s).toMoved.stored (lower_trips c s)

section

variable {s : State} (ev : s.ev = {}) (adv : s.advisory)
include ev adv

theorem stored_raise {c : Cond} (hc : c.advisory) : s.Stored (raise c s) := (advised_raise ev adv hc).toMoved.stored (raise_trips adv hc)

theorem stored_setTo {c : Cond} (hc : c.advisory) (b : Bool) : s.Stored (setTo c b s) :=
  keeps_ite (P := s.Stored) (stored_raise ev adv hc) (stored_lower c s)

end

/-! ### The values of a sample -/

theorem stored_shareTo (level base : Int) (l : List (Fin 8 × Int)) (s : State) : s.Stored (s.shareTo level base l) := by
  induction l generalizing s with
  | nil => exact .rfl'
  | cons m l ih =>
    exact (stored_modAct m.1 (Actuator.shared level base m.2) s).trans (ih _)

theorem stored_selectRecipient (g : Fin 4) (s : State) : s.Stored (selectRecipient g s) := by
  unfold selectRecipient
  dsimp only
  split
  · split
    · refine State.Stored.trans ?_ (stored_offer _ _)
      refine stored_modGroup g ?_ s
      exact fun _ => rfl
    · refine State.Stored.trans ?_ (stored_offer _ _)
      refine stored_modGroup g ?_ s
      exact fun _ => rfl
  · exact .rfl'

theorem stored_handGroup (g : Fin 4) (s : State) : s.Stored (handGroup g s) := by
  refine State.Stored.trans ?_ (stored_modGroup g (fun x => by dsimp only; split <;> rfl) _)
  refine State.Stored.trans ?_ (stored_selectRecipient g _)
  refine stored_modGroup g ?_ s
  exact fun _ => rfl

theorem stored_groupSample (g : Fin 4) (s : State) : s.Stored (groupSample g s) := by
  have idle : s.Stored (s.modGroup g Group.idle) := stored_modGroup g (f := Group.idle) (fun _ => rfl) s
  by_cases hs : s.sharing g = []
  · rw [groupSample_idle (.inr hs)]
    exact idle
  · cases hl : (s.group g).lead with
    | none =>
      rw [groupSample_idle (.inl hl)]
      exact idle
    | some lead =>
      rw [groupSample_sharing hl hs, formShares_eq]
      refine State.Stored.trans ?_ (stored_handGroup g _)
      exact State.Stored.trans (stored_shareTo ..) (stored_modGroup g (f := Group.totalled _ _ _ _) (fun _ => rfl) _)

theorem stored_runServos (s : State) : s.Stored (runServos s) :=
  ⟨fun _ => rfl, fun _ => rfl, ⟨rfl, rfl⟩, ⟨rfl, rfl⟩, fun _ => rfl, rfl⟩

theorem stored_sampleValues (r : Readings) (s : State) : s.Stored (sampleValues r s).1 := by
  have start : s.Stored (s.sampleStart r) := ⟨fun _ => rfl, fun _ => rfl, ⟨rfl, rfl⟩, ⟨rfl, rfl⟩, fun _ => rfl, rfl⟩
  have groups : (s.sampleStart r).Stored (s.sampleGroups r) :=
    forAsc_keeps (s.sampleStart r).Stored (fun g _ h => h.trans (stored_groupSample g _)) .rfl'
  rw [sampleValues_eq]
  exact (start.trans groups).trans (stored_runServos _)

/-! ### The work of a sample -/

theorem stored_modStp {s : State} {f : Strain → Strain} (hf : (f s.stp).chans = s.stp.chans ∧ (f s.stp).snapList = s.stp.snapList) :
    s.Stored (s.modStp f) := ⟨fun _ => rfl, fun _ => rfl, hf, ⟨rfl, rfl⟩, fun _ => rfl, rfl⟩

theorem stored_modStiff (k : Fin 8) (f : Stiff → Stiff) (s : State) : s.Stored (s.modStiff k f) := stored_modStp ⟨rfl, rfl⟩

theorem stored_offerSnap (r : Snapshot) (s : State) : s.Stored (offerSnap r s) :=
  stored_modStp (by split <;> exact ⟨rfl, rfl⟩)

theorem stored_dwellEndTrigger (s : State) : s.Stored (dwellEndTrigger s) :=
  forAsc_keeps s.Stored (fun _ _ h => keeps_ite (P := s.Stored) (h.trans (stored_offerSnap ..)) h) .rfl'

theorem stored_fillPeak (m : Mark) (s : State) : s.Stored (fillPeak m s) := by
  unfold fillPeak
  split
  · exact stored_modStiff ..
  · exact keeps_ite (P := s.Stored) (stored_modStiff ..) .rfl'

theorem stored_startTick (k : TickKind) (s : State) : s.Stored (startTick k s) := by
  refine ⟨fun _ => rfl, fun z => ?_, ⟨rfl, rfl⟩, ⟨rfl, rfl⟩, fun _ => rfl, rfl⟩
  show (s.zmn.zones.map fun z : Zone => { z with bins := advanceBins z.bins })[z.val].cfg = _
  rw [Vector.getElem_map]; rfl

theorem stored_endSegment {s : State} (ev : s.ev = {}) (o : SeqOut) : s.Stored (endSegment o s) := by
  obtain ⟨p, hp⟩ : ∃ p, p = if o.dwellEnd then (dwellEndTrigger s).stp else s.stp := ⟨_, rfl⟩
  have stp : p.chans = s.stp.chans ∧ p.snapList = s.stp.snapList := by
    rw [hp]
    split
    · exact (stored_dwellEndTrigger s).stp
    · exact ⟨rfl, rfl⟩
  rw [endSegment_eq o ev, noted_eq, ← hp]
  exact ⟨fun _ => rfl, fun _ => rfl, stp, ⟨rfl, rfl⟩, fun _ => rfl, rfl⟩

section

variable {s : State} (ev : s.ev = {}) (adv : s.advisory)
include ev adv

theorem stored_newStiffness (k : Fin 8) (n : Nat) : s.Stored (newStiffness k n s) := by
  unfold newStiffness
  dsimp only
  split
  · exact (stored_modStiff k _ s).trans (stored_lower ..)
  · refine (stored_modStiff k _ s).trans (stored_setTo (c := .stiffness k) ?_ ?_ ⟨nofun, nofun⟩ _)
    · exact ev
    · exact adv

theorem stored_takeMark (m : Mark) : s.Stored (takeMark m s) := by
  unfold takeMark
  refine keeps_ite (P := s.Stored) .rfl' (keeps_ite (P := s.Stored) ?_ (keeps_ite (P := s.Stored) ?_ .rfl'))
  · exact State.Stored.trans (keeps_ite (P := s.Stored) (stored_offerSnap ..) .rfl') (stored_fillPeak ..)
  · dsimp only
    refine State.Stored.trans ?_ (stored_offerSnap ..)
    have emptied : s.Stored (if (valleyStiffness m s).1 then s.modStiff m.track fun x => { x with peak := none } else s) :=
      keeps_ite (P := s.Stored) (stored_modStiff ..) .rfl'
    split
    · exact emptied
    · exact emptied.trans (stored_newStiffness (emptied.ev.trans ev) (emptied.advisory adv) _ _)

theorem stored_zoneConditions (z : Fin 16) (old new : Level) : s.Stored (zoneConditions z old new s) := by
  have either {c : Prop} [Decidable c] {x y : State} (hx : s.Stored x) (hy : s.Stored y) : s.Stored (if c then x else y) :=
    keeps_ite (P := s.Stored) hx hy
  have alarm {t : State} (h : s.Stored t) (c : Cond) (hc : c.advisory) : s.Stored (raise c t) :=
    h.trans (stored_raise (h.ev.trans ev) (h.advisory adv) hc)
  have down {t : State} (h : s.Stored t) (c : Cond) : s.Stored (lower c t) := h.trans (stored_lower c t)
  have alerted : s.Stored (if new.isAlert then raise (.zoneAlert z) s else s) := either (alarm .rfl' _ ⟨nofun, nofun⟩) .rfl'
  have cleared : s.Stored (if new = .alarm then s else lower (.zoneAlarm z) s) := either .rfl' (down .rfl' _)
  exact either (either (alarm alerted _ ⟨nofun, nofun⟩) alerted) (either cleared (down cleared _))

theorem stored_evaluateEnabled (c : ZoneCause) (z : Fin 16) : s.Stored (evaluateEnabled c z s) := by
  refine keeps_ite (P := s.Stored) ?_ .rfl'
  have evaluated := stored_modZone z (f := Zone.evaluate) (fun _ => rfl) s
  refine keeps_ite (P := s.Stored) evaluated ?_
  refine State.Stored.trans (evaluated.trans (stored_offer _ _)) (stored_zoneConditions ?_ ?_ ..)
  · exact ev
  · exact adv

theorem stored_judgeCond (k : ActCond) (a : Fin 8) (v : State) : s.Stored (judgeCond k a v s) := by
  unfold judgeCond
  split
  · exact .rfl'
  · exact stored_lower ..
  · have raised := stored_raise ev adv (c := .act k a) ⟨by cases k <;> exact nofun, by cases k <;> exact nofun⟩
    exact keeps_ite (P := s.Stored) (raised.trans (stored_lower ..)) raised

theorem stored_doWork (v : State) (w : SampleWork) : s.Stored (doWork v s w) := by
  cases w with
  | zone z => exact stored_evaluateEnabled ev adv _ z
  | mark m => exact stored_takeMark ev adv m
  | cond k a => exact stored_judgeCond ev adv k a v
  | completion a =>
    unfold doWork
    dsimp only
    split
    · rename_i due
      have unloading : (s.act a).state = .unloading := of_decide_eq_true (Bool.and_eq_true_iff.1 due).2
      have start := stored_modAct a Actuator.completed s
      obtain ⟨-, -, log, first⟩ := flush_spec (completeUnload a s)
      have pmx : (completeUnload a s).pmx = s.pmx := by rw [completeUnload_eq ev unloading]; rfl
      rw [pmx] at log first
      exact start.trans ((flush_completeUnload ev unloading).1.stored ⟨log, first⟩)
    · exact .rfl'

theorem stored_work (v : State) (l : List SampleWork) : s.Stored (l.foldl (doWork v) s) :=
  foldl_keeps (P := s.Stored) (fun _ w _ h => h.trans (stored_doWork (h.ev.trans ev) (h.advisory adv) v w)) .rfl'

theorem stored_sampleEvents (first : List SampleItem) (o : SeqOut) : s.Stored (sampleEvents first o s) := by
  obtain ⟨u, hu⟩ : ∃ u, u = if o.tick then startTick .cycle s else s := ⟨_, rfl⟩
  have ticked : s.Stored u := by rw [hu]; exact keeps_ite (P := s.Stored) (stored_startTick ..) .rfl'
  unfold sampleEvents
  dsimp only
  rw [← hu]
  obtain ⟨w, hw⟩ : ∃ w, w = sampleWork first (if o.tick then List.finRange 16 else []) o.marks := ⟨_, rfl⟩
  rw [← hw]
  obtain ⟨b, hb⟩ : ∃ b, b = (w.takeWhile SampleWork.ofSequencer).foldl (doWork s) u := ⟨_, rfl⟩
  have before : s.Stored b := by rw [hb]; exact ticked.trans (stored_work (ticked.ev.trans ev) (ticked.advisory adv) s _)
  rw [← hb]
  have ended := before.trans (stored_endSegment (before.ev.trans ev) o)
  exact ended.trans (stored_work (ended.ev.trans ev) (ended.advisory adv) s _)

end

theorem stored_controlSample {s : State} (ev : s.ev = {}) (adv : s.advisory) (r : Readings) : s.Stored (controlSample r s) := by
  have values := stored_sampleValues r s
  exact values.trans (stored_sampleEvents (values.ev.trans ev) (values.advisory adv) r.first _)

/-! ### The reset that follows -/

theorem map_congr_at {α β : Type} {n : Nat} {v w : Vector α n} {f : α → β} (h : ∀ i : Fin n, f v[i] = f w[i]) : v.map f = w.map f := by
  refine Vector.ext fun i hi => ?_
  rw [Vector.getElem_map, Vector.getElem_map]
  exact h ⟨i, hi⟩

/-- The reset of a RESTART reads what it keeps, and nothing else. -/
theorem restartState_congr {s t : State} (outer : t.stc = s.stc ∧ t.axs = s.axs ∧ t.glc = s.glc ∧ t.aeu = s.aeu ∧ t.pending = s.pending)
    (link : t.sli.linkErrors = s.sli.linkErrors ∧ t.sli.replies = s.sli.replies ∧ t.sli.rx = s.sli.rx)
    (send : t.sli.sendDue - t.clock.now = s.sli.sendDue - s.clock.now) (psq : t.psq.restart = s.psq.restart)
    (windows : t.svc.windows = s.svc.windows) (acts : ∀ a, (t.act a).restart = (s.act a).restart) (stored : s.Stored t) :
    restartState t = restartState s := by
  obtain ⟨stc, axs, glc, aeu, pending⟩ := outer
  obtain ⟨errors, replies, rx⟩ := link
  have actuators : t.svc.acts.map Actuator.restart = s.svc.acts.map Actuator.restart := map_congr_at acts
  have groups : t.lgu.map Group.restart = s.lgu.map Group.restart := map_congr_at stored.group
  have zones : t.zmn.zones.map Zone.restart = s.zmn.zones.map Zone.restart :=
    map_congr_at fun z => by unfold Zone.restart; rw [stored.zone z]
  have entries : t.pmx.entries.map ProtEntry.restart = s.pmx.entries.map ProtEntry.restart :=
    map_congr_at fun e => by unfold ProtEntry.restart; rw [stored.entry e]
  unfold restartState
  dsimp only
  rw [stc, axs, glc, aeu, pending, errors, replies, rx, send, psq, windows, actuators, groups, zones, entries, stored.stp.1,
    stored.stp.2, stored.trips.1, stored.trips.2]

/-- A control sample, and then a RESTART's reset, leave what the reset alone leaves at the time of the sample. -/
theorem restartState_controlSample {s : State} (ev : s.ev = {}) (adv : s.advisory) (r : Readings) :
    restartState (controlSample r s) =
      restartState { s with clock := { s.clock with now := max s.clock.now s.clock.nextSample } } := by
  obtain ⟨u, hu⟩ : ∃ u : State, u = { s with clock := { s.clock with now := max s.clock.now s.clock.nextSample } } := ⟨_, rfl⟩
  obtain ⟨x, g, n, lost, rest⟩ := sampleValues_rest r s
  have vev : (sampleValues r s).1.ev = {} := by rw [rest]; exact ev
  have vadv : (sampleValues r s).1.advisory := by rw [rest]; exact adv
  have done := sampled (seqSample s.psq).2 r.first vev vadv
  have stored := stored_controlSample ev adv r
  have values := valued_sampleValues r s
  obtain ⟨t, ht⟩ : ∃ t, t = controlSample r s := ⟨_, rfl⟩
  have eq : sampleEvents r.first (seqSample s.psq).2 (sampleValues r s).1 = t := ht.symm
  rw [eq] at done
  rw [← ht] at stored
  rw [← ht, ← hu]
  clear ht eq
  obtain ⟨z, p, x', g', m, n', lost', rest'⟩ := done.rest
  refine restartState_congr ⟨?_, ?_, ?_, ?_, ?_⟩ ⟨?_, ?_, ?_⟩ ?_ ?_ ?_ (fun a => ?_) ?_
  · rw [rest', rest, hu]
  · rw [rest', rest, hu]
  · rw [rest', rest, hu]
  · rw [rest', rest, hu]
  · rw [rest', rest, hu]
  · rw [rest', rest, hu]
  · rw [rest', rest, hu]
  · rw [rest', rest, hu]
  · rw [rest', rest, hu]; rfl
  · have plan : t.psq = (seqSample s.psq).2.endPlan (seqSample s.psq).1 := by rw [rest', rest]
    rw [plan, SeqOut.restart_endPlan, restart_seqSample, hu]
  · rw [rest', rest, hu]
  · obtain ⟨d, e⟩ := done.act a
    obtain ⟨_, _, _, _, _, y⟩ := (values a).rest
    have kept : ((sampleValues r s).1.act a).restart = (s.act a).restart := by rw [y]; rfl
    rw [e, restart_withDerate, show u.act a = s.act a by rw [hu]; rfl]
    refine Eq.trans ?_ kept
    split
    · exact restart_completed _
    · rfl
  · rw [hu]
    exact ⟨stored.group, stored.zone, stored.stp, stored.trips, stored.entry, stored.ev⟩

end Sys2Proof.Machine

/-!
The reset of a RESTART under its three rows (R9 to R11, R13, R81, R193).
-/
namespace Sys2Proof.Machine

/-! ### The sample that ends the last unload -/

/-- The last unload completes at a sample that counts its settle counter to its value (R81, R82). -/
theorem controlSample_rests {r : Readings} {s : State} {a : Fin 8} (ev : s.ev = {}) (adv : s.advisory)
    (unloading : (s.act a).state = .unloading) (off : (s.act a).destOff = true)
    (others : ∀ b : Fin 8, b ≠ a → (s.act b).state = .off ∨ (s.act b).state = .tripped)
    (near : (clamp r.force[a] (-32768) 32767 - (s.act a).unload.target).natAbs ≤ (s.act a).unload.tol)
    (count : 2 * (s.act a).unload.settleMs ≤ (s.act a).unload.settle + 1) :
    completionReached a r s = true ∧ (controlSample r s).allAtRest = true ∧ (controlSample r s).stc = s.stc := by
  obtain ⟨x, g, n, lost, rest⟩ := sampleValues_rest r s
  have done := sampled (seqSample s.psq).2 r.first (v := (sampleValues r s).1) (by rw [rest]; exact ev) (by rw [rest]; exact adv)
  have values (b : Fin 8) := (valued_sampleValues r s b)
  have due : unloadDue ((sampleValues r s).1.act a) = true := by
    have unload := sampleValues_unload r s a unloading
    unfold unloadDue
    rw [(values a).state, unloading, unload]
    unfold Unload.sampled
    rw [if_pos near]
    exact decide_eq_true count
  obtain ⟨t, ht⟩ : ∃ t, t = controlSample r s := ⟨_, rfl⟩
  have eq : sampleEvents r.first (seqSample s.psq).2 (sampleValues r s).1 = t := ht.symm
  rw [eq] at done
  rw [← ht]
  clear ht eq
  refine ⟨due, (allAtRest_iff t).2 fun b => ?_, ?_⟩
  · obtain ⟨d, e⟩ := done.act b
    by_cases same : b = a
    · subst same
      rw [if_pos due] at e
      rw [e]
      left
      refine (Actuator.completed_state _).trans (if_pos ?_)
      exact (values b).destOff.trans off
    · have out : ¬unloadDue ((sampleValues r s).1.act b) = true := fun h => by
        have state := (values b).state.symm.trans (unloadDue_state h)
        rcases others b same with h | h <;> rw [h] at state <;> exact nomatch state
      rw [if_neg out] at e
      rw [e, show ({ (sampleValues r s).1.act b with derate := d } : Actuator).state = (s.act b).state from (values b).state]
      exact others b same
  · obtain ⟨z, p, x', g', m, n', lost', rest'⟩ := done.rest
    rw [rest', rest]

/-- Settles O11. -/
theorem restartAtRestResets : Obligations.RestartAtRestResets := by
  refine ⟨?_, ?_, ?_⟩
  · intro s u i rest row keep faulty
    obtain ⟨run, l, hl⟩ := restart_runs rest row
    have stc : u.stc = s.stc := by rw [hl]
    have fault (x : Fin 16) : u.fresh.axs[x].faulty = true ↔ faulty x := by
      refine (fresh_faulty u x).trans ?_
      rw [hl]
    refine ⟨fun closed quiet => ?_, fun closed adv => ?_, fun opened p0 => ?_⟩
    · exact ⟨_, run, restarted_quiet (by rw [stc]; exact closed) fun x h => quiet x ((fault x).1 h)⟩
    · obtain ⟨raised, act, log, first, forms, sli, eq⟩ := restarted_faulty (s := u) (by rw [stc]; exact closed) (by
        intro e; rw [hl]; exact adv e)
      refine ⟨_, _, run, restarted_sensed u, fun c => (raised c).trans ?_, act, log, first, forms, sli, eq⟩
      exact exists_congr fun x => and_congr_right fun _ => fault x
    · have after := restartReset_open (s := u) rfl (by rw [stc]; exact opened) (by
        rw [stc]
        intro k
        rw [hl]
        exact p0 k)
      rw [stc, show u.pmx = s.pmx by rw [hl], show u.pending = s.pending by rw [hl]] at after
      exact ⟨_, run, after⟩
  · intro r s a ev adv pending unloading off others near count closed quiet
    obtain ⟨due, rest, stc⟩ := controlSample_rests ev adv unloading off others near count
    have state := restartState_controlSample ev adv r
    obtain ⟨u, hu⟩ : ∃ u : State, u = { s with clock := { s.clock with now := max s.clock.now s.clock.nextSample } } := ⟨_, rfl⟩
    obtain ⟨t, ht⟩ : ∃ t, t = controlSample r s := ⟨_, rfl⟩
    rw [← ht] at rest stc
    rw [← ht, ← hu] at state
    have reset : stepDone t = .next (restartReset u) := by
      show Host.Outcome.next (finish t) = _
      rw [show finish t = restartReset t from if_pos ⟨by rw [stc]; exact pending, rest⟩, restartReset, state]
      rfl
    rw [← hu]
    refine ⟨restartReset u, ?_, ?_, restarted_quiet (by rw [hu]; exact closed) fun x h => ?_⟩
    · rw [← reset, ht]; rfl
    · have row : exec (.unloadCompletion a r) s = stepDone (if completionReached a r s then controlSample r s else s) := rfl
      rw [row, if_pos due, ← ht, reset]
    · obtain ⟨keep, fn, fault, lies⟩ := (fresh_faulty u x).1 h
      rw [hu] at keep fn fault lies
      exact absurd (quiet x keep fn fault) (by rw [show s.axs[x].closed = false from lies]; exact Bool.false_ne_true)
  · intro s ev pending ending low p0 keep
    obtain ⟨w, run, stc, cfg, ⟨r, first, entry, kind, forces⟩, replies, errors, wpending⟩ := haltLoop_resets ev pending ending low p0
    obtain ⟨stc', raised, active, off, stands, -, replies', errors', clock, pending'⟩ :=
      restartReset_open (s := w) rfl (by rw [stc]) fun _ => cfg
    rw [stc] at stc'
    refine ⟨_, run, stc', raised, active, off, fun r h => ?_, fun none => ?_, replies'.trans replies, errors'.trans errors, clock,
      pending'.trans wpending⟩
    · rw [h] at first
      exact stands _ first
    · rw [none] at first
      exact ⟨r, stands _ first, entry, kind, forces⟩

end Sys2Proof.Machine
